-- ==== Sys2Proof/Word.lean ====
section
/-! DEFINITION. The plainest types: a byte of a frame, a slot number, a string of bytes. -/

namespace Sys2Proof

/-- One byte of a frame, of a text field or of the stored image. -/
abbrev Byte := BitVec 8

/-- A slot number, 0..47 (00_scope.md, Units and number conventions). -/
abbrev SlotId := Fin 48

/-- A string of bytes: a payload, or a text field kept byte for byte (R47). -/
abbrev Bytes := List Byte

end Sys2Proof
end

