-- ==== Sys2Proof/Syntax.lean ====
section
/-! DEFINITION. The commands the part takes: one constructor per row of spec/opcode_table.json, with what the
row's event carries. -/

namespace Sys2Proof

/-- Status class of a drive response (R32); the codes of 12.2 count from GOOD. -/
inductive StatusClass where
  | good | recovered | medium | hardware | aborted | illegal
deriving DecidableEq, Repr

/-- The causes of a quarantine, in the order of R14. -/
inductive QuarantineReason where
  | classified | metricFault | overdraw | powerMismatch | identityChanged | noIdentity | linkLost
  | recoveryLimit | requested
deriving DecidableEq, Repr

/-- What a slot's sensor block reads at the moment of a sample (R99): three unsigned 16-bit integers, 65535
meaning "sensor unavailable" (R100). -/
structure SensorReading where
  temp : BitVec 16
  curr : BitVec 16
  vibe : BitVec 16
deriving DecidableEq, Repr

/-- The commands. Operands are named in the docstrings where they need a word. -/
inductive Instr where
  /-- POWER_ON_RESET: the strap pins as read, the level of the supply warning input, and whether the flash
  answers the read. -/
  | powerOnReset (straps : BitVec 8) (warning flashAnswers : Bool)
  /-- PRESENCE_ASSERT: the presence line of the slot is asserted. -/
  | presenceAssert (n : SlotId)
  | presenceDeassert (n : SlotId)
  | settleTimerExpiry (n : SlotId)
  | removalCheckEnd (n : SlotId)
  | rundownTimerExpiry (n : SlotId)
  | parkTimerExpiry (n : SlotId)
  | supplyWarningAssert
  | supplyWarningDeassert
  | restoreDelayExpiry
  /-- TICK: what the 48 sensor blocks read at the tick. -/
  | tick (sensors : Vector SensorReading 48)
  | calibrationComplete (n : SlotId)
  /-- RACK_FRAME_BAD: every byte received. -/
  | rackFrameBad (frame : Bytes)
  /-- SLOT_CMD: destination and source station and payload of a frame of kind 01h that passed the receive
  check of R196. -/
  | slotCmd (dest source : Byte) (payload : Bytes)
  /-- REQUEST_RECEIVED: destination and source station and payload of a frame of kind 03h that passed. -/
  | requestReceived (dest source : Byte) (payload : Bytes)
  | discover
  | readPartStatus
  | readSettings
  | writeSettings
  | setBudget
  | loadTableModel
  | loadTableClassify
  | loadTableDefect
  | loadTableBin
  | loadTableIndicator
  | readTable
  | saveConfig
  | saveEraseDone
  | saveWriteDone
  /-- SAVE_VERIFY_DONE: whether the image read back passes its check. -/
  | saveVerifyDone (passes : Bool)
  | flashError
  | saveTimeout
  | readSlot
  | readFilter
  | startTest
  | endTest
  | rebase
  | quarantine
  | recover
  | rematch
  | readManifest
  | retireManifest
  | cartSwap
  | resetPart
  | softReset
  /-- DRIVE_RESPONSE: the fields of a response frame that passed the slot link receive check, and what the
  slot's sensor block reads at that moment (for the deferred sample of R98). -/
  | driveResponse (n : SlotId) (tag : Byte) (status : StatusClass) (code : BitVec 16) (payload : Bytes)
      (sensor : SensorReading)
  /-- BAD_FRAME: every byte received on the slot link. -/
  | badFrame (n : SlotId) (frame : Bytes)
  | linkReady (n : SlotId)
  | driveReset (n : SlotId)
  /-- BREAK: the receive line has been in break for 10 ms. -/
  | lineBreak (n : SlotId)
  | lineBreakEnd (n : SlotId)
  | linkReadyWaitExpiry (n : SlotId)
  /-- CLASS_TIMEOUT_EXPIRY: the timeout of entry k of the slot's in-flight table. -/
  | classTimeoutExpiry (n : SlotId) (k : Fin 4)
  | quarantineRequest (n : SlotId) (reason : QuarantineReason)
  | handOver (n : SlotId)
  | transmitComplete
  | unknownRequestKind
deriving DecidableEq, Repr

end Sys2Proof
end

