-- ==== Sys2Proof/Config.lean ====
section
/-! DEFINITION. The part's fixed numbers, each with the rule that gives it. The spec leaves no value to the
implementation, so nothing here is opaque. -/

namespace Sys2Proof.Config

/-- The request queue holds 0..8 requests (R156). -/
def requestQueueDepth : Nat := 8

/-- The slot command queue holds 0..8 frames (R26). -/
def slotQueueDepth : Nat := 8

/-- The notice queue holds 0..32 notices (R177). -/
def noticeQueueDepth : Nat := 32

/-- A stream report is dropped when the notice queue holds more notices than this (R183). -/
def streamBacklog : Nat := 16

/-- The manifest holds at most 64 entries (R144). -/
def manifestDepth : Nat := 64

/-- The last sequence number (R144). -/
def lastSequence : Nat := 4294967295

/-- The removal check lasts 100 ms (R4). -/
def removalCheckMs : Nat := 100

/-- The park timer is fixed at 30 s (R18). -/
def parkMs : Nat := 30000

/-- The link-ready wait is 10 s (R44). -/
def linkReadyWaitMs : Nat := 10000

/-- A recovery episode makes up to three attempts (R44). -/
def attemptLimit : Nat := 3

/-- With this many episodes counted, no further one is attempted (R43). -/
def episodeLimit : Nat := 4

/-- An entry skipped this often has its blocking flag set (R76). -/
def skipLimit : Nat := 4

/-- Sensor misses after which a metric is lost (R100). -/
def lostAt : Nat := 16

/-- A save that has not ended after this time fails (R192). -/
def saveLimitMs : Nat := 10000

/-- The tag of the part's own commands (R28). -/
def partTag : Nat := 31

/-- The strap pins as they stand in `State.reset`: station 21, load source FLASH, tick default 1 s.
DESIGN CHOICE (log entry 5): the pins are inputs and the spec gives them no level; these are those of the
example of chapter 11. -/
def resetStraps : BitVec 8 := 0x15

/-- How many admission passes one command may run. The model's own bound (log entry 31). -/
def passFuel : Nat := 2048

end Sys2Proof.Config
end

