-- ==== Sys2Proof/Machine/Bytes.lean ====
section
/-! DEFINITION. Numbers in byte strings (little-endian, 12), the CRC-32 of R189, and the receive checks of R196. -/

namespace Sys2Proof.Machine

/-- A number in k bytes, least significant first. -/
def putNum : Nat → Nat → Bytes
  | 0, _ => []
  | k + 1, x => BitVec.ofNat 8 x :: putNum k (x / 256)

/-- The number that a byte string spells, least significant byte first. -/
def leNat : Bytes → Nat
  | [] => 0
  | b :: bs => b.toNat + 256 * leNat bs

/-- A signed number in k bytes, two's complement (12.4). -/
def putInt (k : Nat) (x : Int) : Bytes := putNum k (x % (256 : Int) ^ k).toNat

/-- One byte, 1 for a set flag and 0 for a clear one. -/
def putFlag (b : Bool) : Bytes := [if b then 1 else 0]

/-- A set of flags in k bytes, from bit 0 in the order listed (12.4). -/
def putFlags (k : Nat) (fs : List Bool) : Bytes :=
  putNum k (fs.foldr (fun f x => (if f then 1 else 0) + 2 * x) 0)

/-- An optional field: a presence flag and its value bytes, `width` zero bytes when absent (12). -/
def putOpt {α : Type} (width : Nat) (enc : α → Bytes) : Option α → Bytes
  | none => 0 :: List.replicate width 0
  | some x => 1 :: enc x

/-- A list outside a table entry: a one-byte count and the present members (12.4). -/
def putList {α : Type} (enc : α → Bytes) (xs : List α) : Bytes := putNum 1 xs.length ++ xs.flatMap enc

/-- Take k bytes off the front; none when fewer are left. -/
def getBytes (k : Nat) (bs : Bytes) : Option (Bytes × Bytes) :=
  if bs.length < k then none else some (bs.take k, bs.drop k)

/-- Take a number of k bytes off the front. -/
def getNum (k : Nat) (bs : Bytes) : Option (Nat × Bytes) :=
  match getBytes k bs with
  | none => none
  | some (x, rest) => some (leNat x, rest)

/-- Take a flag byte off the front. Bit 0 is the flag; the other bits are not read (log entry 24). -/
def getFlag (bs : Bytes) : Option (Bool × Bytes) :=
  match getNum 1 bs with
  | none => none
  | some (x, rest) => some (x % 2 == 1, rest)

/-- Take k members off the front with one reader, in order. -/
def getMany {α : Type} (read : Bytes → Option (α × Bytes)) : Nat → Bytes → Option (List α × Bytes)
  | 0, bs => some ([], bs)
  | k + 1, bs =>
    match read bs with
    | none => none
    | some (x, rest) =>
      match getMany read k rest with
      | none => none
      | some (xs, rest) => some (x :: xs, rest)

/-- Does a byte string carry bits from a position on: bit i of the number x. -/
def bitOf (x i : Nat) : Bool := x / 2 ^ i % 2 == 1

/-- One step of the CRC of R189: a bit of the message has been added at the low end of c. The generator
04C11DB7h stands bit-reversed, since the least significant bit of a byte comes first. -/
def crcShift (c : BitVec 32) : BitVec 32 :=
  if c.getLsbD 0 then (c >>> 1) ^^^ 0xEDB88320#32 else c >>> 1

/-- The CRC register after one more byte. -/
def crcByte (c : BitVec 32) (b : Byte) : BitVec 32 :=
  crcShift (crcShift (crcShift (crcShift (crcShift (crcShift (crcShift (crcShift (c ^^^ b.setWidth 32))))))))

/-- CRC-32 of a byte string (R189): generator 04C11DB7h, each byte's least significant bit first, started
from FFFFFFFFh, the remainder inverted. PRESUMED (log entry 32): the remainder's bit order is the usual one. -/
def crc32 (bs : Bytes) : BitVec 32 := ~~~ (bs.foldl crcByte 0xFFFFFFFF#32)

/-- A byte string with its CRC-32 behind it. -/
def withCrc (bs : Bytes) : Bytes := bs ++ putNum 4 (crc32 bs).toNat

/-- Do the last four bytes carry the CRC-32 of everything before them (R189, R196). -/
def crcPasses (bs : Bytes) : Bool :=
  4 ≤ bs.length && leNat (bs.drop (bs.length - 4)) == (crc32 (bs.take (bs.length - 4))).toNat

/-- A frame of the rack link (12.1) without its length and CRC, which its bytes give. -/
structure RackFrame where
  kind : Byte
  dest : Byte
  source : Byte
  payload : Bytes
deriving DecidableEq, Repr

/-- The bytes of a rack frame on the link (12.1): header, payload and CRC-32. Full name, no namespace. -/
def rackFrameBytes (f : RackFrame) : Bytes :=
  withCrc ([f.kind, f.dest, f.source] ++ putNum 2 f.payload.length ++ f.payload)

/-- The Port's receive check (R196): long enough, the length field agrees, the CRC agrees. -/
def rackFramePasses (bs : Bytes) : Bool :=
  9 ≤ bs.length && leNat ((bs.drop 3).take 2) == bs.length - 9 && crcPasses bs

/-- A SLOT_CMD payload shorter than slot, tag, class and length cannot carry its header; neither can a
REQUEST payload shorter than tag and kind (R155, 12.2, 12.4; log entry 26). -/
def payloadHeaderLen (kind : Byte) : Nat := if kind = 1 then 5 else 2

/-- Is a received rack frame one the Port discards and counts (R155, first row; R196). -/
def rackFrameIsBad (bs : Bytes) : Bool :=
  !rackFramePasses bs
    || !(bs.headD 0 == 1 || bs.headD 0 == 3)
    || leNat ((bs.drop 3).take 2) < payloadHeaderLen (bs.headD 0)

/-- The slot link receive check (R196, last paragraph): kind, tag, status class, code, payload length,
payload, CRC-32; the status class code in 0..5. -/
def driveFramePasses (bs : Bytes) : Bool :=
  11 ≤ bs.length && leNat ((bs.drop 5).take 2) == bs.length - 11
    && leNat ((bs.drop 2).take 1) ≤ 5 && crcPasses bs

/-- The kinds of drive frame (R196). -/
inductive DriveFrameKind where
  | response | linkReady | driveReset
deriving DecidableEq, Repr

/-- The kind byte of a drive frame (R196). -/
def driveKindByte : DriveFrameKind → Byte
  | .response => 0x81
  | .linkReady => 0x82
  | .driveReset => 0x83

/-- The kind of a drive frame by its first byte, none for a byte that R196 does not name (log entry 30). -/
def driveFrameKind (bs : Bytes) : Option DriveFrameKind :=
  [DriveFrameKind.response, .linkReady, .driveReset].find? fun k => driveKindByte k == bs.headD 0

/-- The bytes of a drive frame (R196). -/
def driveFrameBytes (kind : DriveFrameKind) (tag status : Byte) (code : BitVec 16) (payload : Bytes) : Bytes :=
  withCrc ([driveKindByte kind, tag, status] ++ putNum 2 code.toNat ++ putNum 2 payload.length ++ payload)

end Sys2Proof.Machine
end

