-- ==== Sys2Proof/Machine/State.lean ====
section
/-! DEFINITION. Everything the part holds, as plain data, and the state right after a power-on reset. -/

namespace Sys2Proof.Machine

/-! ### Names -/

/-- The thirteen slot states, in the order of 1.2, which codes them 0..12 (12.4). -/
inductive SlotState where
  | empty | settling | powerWait | identifying | unmatched | ready | calibrating | burning | recovering
  | grading | sortWait | parking | sorted
deriving DecidableEq, Repr

inductive Presence where
  | absent | present
deriving DecidableEq, Repr

/-- The latch line (R13). -/
inductive Latch where
  | locked | opened
deriving DecidableEq, Repr

/-- The rundown timer (R1): stopped, running until a time on the clock, or expired. -/
inductive Rundown where
  | stopped
  | running (until_ : Nat)
  | expired
deriving DecidableEq, Repr

/-- Lamp patterns (R20). -/
inductive LampPattern where
  | off | on | slow | fast
deriving DecidableEq, Repr

/-- The fourteen conditions of the indicator map, in the order of R19. -/
inductive Condition where
  | none | empty | starting | unmatched | ready | testingClear | testingWatch | testingFault | recovering
  | sorting | sortedShip | sortedRework | sortedReject | quarantined
deriving DecidableEq, Repr

/-- Spindle states (R1, R31, R33). -/
inductive Spindle where
  | stopped | spinningUp | spinning | spinningDown
deriving DecidableEq, Repr

/-- Command classes (R24), coded 0..4 (12.2). -/
inductive CmdClass where
  | light | heavy | spinUp | spinDown | identify
deriving DecidableEq, Repr

inductive Origin where
  | server | part
deriving DecidableEq, Repr

/-- The causes of a recovery, in the order of R43, which codes them 1..7 (12.4). -/
inductive RecoveryReason where
  | timeout | identifyFailed | unexpectedTag | badFrames | linkBreak | driveReset | serverRequest
deriving DecidableEq, Repr

/-- The four metrics tracked per slot (chapter 6). -/
inductive Metric where
  | temp | curr | vibe | defr
deriving DecidableEq, Repr

/-- Metric states (R103), coded 0..3 (12.4). -/
inductive MetricState where
  | calibrating | clear | watch | fault
deriving DecidableEq, Repr

/-- Outcome of an IDENTIFY (R47). -/
inductive IdentifyOutcome where
  | ack | error | noResponse
deriving DecidableEq, Repr

/-- Admission entry kinds (R71). -/
inductive AdmissionKind where
  | slotPower | spinUp | heavy
deriving DecidableEq, Repr

/-- Supply states (R85), coded 0..2 (12.4). -/
inductive SupplyState where
  | normal | warning | restoring
deriving DecidableEq, Repr

/-- What a classification does (R124), coded 0..3 (12.2). -/
inductive Action where
  | ignore | count | countNote | quarantine
deriving DecidableEq, Repr

/-- Bin kinds (R139). -/
inductive BinKind where
  | unused | ship | rework | reject
deriving DecidableEq, Repr

/-- Why a graded slot waits (R146). -/
inductive WaitReason where
  | binFull | manifestFull
deriving DecidableEq, Repr

/-- Slot event kinds, in the order of R175: bits 0..15 of the pending set (12.4). -/
inductive SlotEvent where
  | inserted | removed | pulledEarly | identified | unmatched | watch | fault | shock | defect | recovery
  | quarantine | overdraw | sensorLost | graded | sortWait | sorted
deriving DecidableEq, Repr

/-- Part event kinds, in the order of R175: bits 0..7 of the part set (12.4). -/
inductive PartEvent where
  | restarted | supplyWarn | supplyRestored | saveDone | saveFailed | noticeLost | strapInvalid | imageBad
deriving DecidableEq, Repr

/-- The cause kept with RESTARTED (R175). -/
inductive RestartCause where
  | powerOn | requested
deriving DecidableEq, Repr

/-- The notice state of a source (R177). -/
inductive NoticeState where
  | quiet | queued | announced | lost
deriving DecidableEq, Repr

/-- The source that a notice names (R177). -/
inductive Source where
  | part
  | slot (n : SlotId)
deriving DecidableEq, Repr

inductive ReportMode where
  | event | stream
deriving DecidableEq, Repr

/-- The four tick periods (R95). -/
inductive TickPeriod where
  | ms100 | ms250 | s1 | s4
deriving DecidableEq, Repr

/-- Image states (R189), coded 0..2 (12.4). -/
inductive ImageState where
  | good | bad | writing
deriving DecidableEq, Repr

/-- Stages of a save (R192). -/
inductive SaveStage where
  | erase | write | verify
deriving DecidableEq, Repr

/-- Where the final identify of an unforced grade stands (R135, R136). -/
inductive FinalIdentify where
  | notDue | due | ended
deriving DecidableEq, Repr

/-- Reply statuses (R157), coded 0..8 (12.4). -/
inductive ReplyStatus where
  | ok | busy | badRequest | badSlot | wrongState | inUse | tableRefused | notFound | strapInvalid
deriving DecidableEq, Repr

/-- Reasons carried with TABLE_REFUSED (R157), coded 1..8; `none` is the reason byte 0. -/
inductive RefusalReason where
  | none | emptyPattern | noProfile | fieldRange | standbyAboveReserve | thresholds | reservedClass
  | rejectPosition | capacityBelowFill
deriving DecidableEq, Repr

/-- Part codes of part-generated responses (R34), coded F001h.. in this order (12.2). -/
inductive PartCode where
  | badSlot | badTag | badCommand | notAccepting | tagInUse | spindleStopped | queueFull | timeout | recovery
  | driveReset | endOfTest | removed
deriving DecidableEq, Repr

/-! ### Tables -/

/-- One lamp condition of the indicator map (R19). -/
structure IndicatorEntry where
  condition : Condition
  lampA : LampPattern
  lampB : LampPattern
  invert : Bool
deriving DecidableEq, Repr

/-- A spin profile (R49): mode code, peak in mA, spin time in s. -/
structure SpinProfile where
  mode : Nat
  peak : Nat
  spinTime : Nat
deriving DecidableEq, Repr

/-- A threshold set (R102). The fault action is kept as its code: 0 NOTE, 1 QUARANTINE; another code stands
only in an entry whose valid flag is clear. -/
structure ThresholdSet where
  kf : Nat
  kl : Nat
  tw : Nat
  tf : Nat
  h : Nat
  nw : Nat
  nx : Nat
  nf : Nat
  haltLimit : Nat
  ts : Nat
  shockHold : Nat
  watchPenalty : Nat
  faultAction : Nat
deriving DecidableEq, Repr

/-- A model entry (R49). Lists are kept as a count and all their places, since an entry written with its
valid flag clear is stored as written and not checked (R61). -/
structure ModelEntry where
  valid : Bool
  pattern : Bytes
  firmwareCount : Nat
  firmwarePlaces : List Bytes
  minCapacity : Option Nat
  standby : Nat
  run : Nat
  heavyIncrement : Nat
  profileCount : Nat
  profilePlaces : List SpinProfile
  rundownCode : Nat
  calibrationCount : Nat
  shockPenalty : Nat
  reseedPenalty : Nat
  binSet : Nat
  temp : ThresholdSet
  curr : ThresholdSet
  vibe : ThresholdSet
  defr : ThresholdSet
  refCount : Nat
deriving DecidableEq, Repr

/-- A classification entry (R120). The three enumerated fields and the class are kept as their codes (status
0..5 and 6 ANY, command class 0..4 and 5 ANY, action 0..3), since an entry written with its valid flag clear is
stored as written and not checked (R131). -/
structure ClassifyEntry where
  valid : Bool
  statusMatch : Nat
  codeValue : Nat
  codeMask : Nat
  commandMatch : Nat
  defectClass : Nat
  action : Nat
  matchCount : Nat
deriving DecidableEq, Repr

/-- A defect class entry (R123). -/
structure DefectEntry where
  weight : Nat
  notice : Bool
deriving DecidableEq, Repr

/-- A bin (R139). -/
structure Bin where
  kind : BinKind
  minScore : Nat
  maxShocks : Nat
  maxShed : Nat
  requiresFw : Bool
  rank : Nat
  capacity : Nat
  fill : Nat
  generation : Nat
deriving DecidableEq, Repr

/-! ### The slot record -/

/-- The five security flags of an identity block (R47). -/
structure SecurityFlags where
  supported : Bool
  enabled : Bool
  locked : Bool
  frozen : Bool
  expired : Bool
deriving DecidableEq, Repr

/-- The identity record of a slot (R48). -/
structure IdentityRecord where
  model : Bytes
  serial : Bytes
  firmware : Bytes
  capacity : Nat
  security : SecurityFlags
  power : Option Nat
  extensions : List Nat
  lastOutcome : IdentifyOutcome
deriving DecidableEq, Repr

/-- The identity flags (R52, R60). -/
structure IdentityFlags where
  fwMismatch : Bool
  capLow : Bool
  declHigh : Bool
  secBlock : Bool
  finalIdMissing : Bool
deriving DecidableEq, Repr

/-- A server command kept in the slot command queue (R26). -/
structure QueuedCmd where
  tag : Nat
  cls : CmdClass
  payload : Bytes
  source : Byte
deriving DecidableEq, Repr

/-- A command in flight (R27). `final` is the Slot Engine's mark of a final IDENTIFY (R60, R135); times are ms. -/
structure InFlight where
  tag : Nat
  cls : CmdClass
  origin : Origin
  granted : Bool
  start : Nat
  timeout : Nat
  source : Option Byte
  final : Bool
deriving DecidableEq, Repr

/-- A command of the part's own that is due and not yet sent (R28), with the causes of a SPIN_DOWN (parking,
orphan, after a recovery, shed: R28, R88, R92) and the mark of a final IDENTIFY. -/
structure Injection where
  cls : CmdClass
  parking : Bool
  orphan : Bool
  recovery : Bool
  shed : Bool
  final : Bool
deriving DecidableEq, Repr

/-- A filter record (R103). -/
structure Filter where
  f : Nat
  l : Nat
  state : MetricState
  enter : Nat
  exit : Nat
  fault : Nat
  halt : Nat
  calReached : Nat
  excursion : Nat
  watchCount : Nat
  shocks : Nat
  sustained : Nat
  reseeds : Nat
  maxD : Int
  lastD : Option Int
  lastRaw : Option Nat
  misses : Nat
deriving DecidableEq, Repr

/-- The grade result (R138). -/
structure Grade where
  score : Nat
  binSet : Fin 4
  position : Fin 8
  forced : Bool
  sequence : Option Nat
deriving DecidableEq, Repr

/-- Presence, lines and the timers of the slot lines (R1, R3, R4, R13, R18, R19). -/
structure SlotLines where
  line : Bool
  presence : Presence
  change : Bool
  powered : Bool
  latch : Latch
  rundown : Rundown
  settle : Option Nat
  removal : Option Nat
  park : Option Nat
  /-- The SPIN_DOWNs that the park timer retired, tag and time of each: a response of that time reached the entry together with
  the timer (R18; log entry 41). -/
  late : List (Nat × Nat)
  lampA : LampPattern
  lampB : LampPattern
deriving DecidableEq, Repr

/-- What the Identity Unit keeps for a slot (R48, R51..R53), and the identify retry mark (R7). -/
structure SlotIdentity where
  retryMark : Bool
  record : Option IdentityRecord
  model : Option (Fin 16)
  flags : IdentityFlags
  peaks : List Nat
  pendingPeaks : Option (List Nat)
deriving DecidableEq, Repr

/-- Allocation and spindle (R64..R68, R80). -/
structure SlotPower where
  allocation : Nat
  reserveGranted : Nat
  spindle : Spindle
  chosen : Option Nat
  held : Option Nat
deriving DecidableEq, Repr

/-- Queue, in-flight table and injection list (R26..R30). -/
structure SlotTraffic where
  queue : List QueuedCmd
  reserved : Option (Fin 4)
  inFlight : Vector (Option InFlight) 4
  injections : List Injection
deriving DecidableEq, Repr

/-- Recovery state (R12, R40, R43, R44). -/
structure SlotRecovery where
  episodes : Nat
  lastReason : Option RecoveryReason
  resume : Option SlotState
  breakLatch : Bool
  attempts : Nat
  wait : Option Nat
deriving DecidableEq, Repr

/-- Tallies (R130) with shed count and shed mark (R87), and whether a held grant of the slot lapsed at the last onset (R80,
R86), until the supply is NORMAL again. -/
structure SlotTallies where
  counters : Vector Nat 16
  accumulator : Nat
  badFrames : Nat
  goodRun : Nat
  unexpected : Nat
  overdrawRun : Nat
  shedCount : Nat
  shedMark : Bool
  lapsed : Bool
deriving DecidableEq, Repr

/-- What the Drift Unit keeps for a slot (R97, R98, R101, R103) with the Slot Engine's two times (R1). -/
structure SlotDrift where
  temp : Filter
  curr : Filter
  vibe : Filter
  defr : Filter
  peak : Nat
  mean : Nat
  lastForward : Nat
  testTicks : Nat
  idleCount : Nat
  deferral : Bool
deriving DecidableEq, Repr

/-- Quarantine reason, final identify, hand-over and grade (R14, R135, R136, R138). -/
structure SlotGrading where
  reason : Option QuarantineReason
  finalIdentify : FinalIdentify
  handedOver : Bool
  grade : Option Grade
deriving DecidableEq, Repr

/-- The slot record of one slot (R1), with its pending event set and notice state (R175, R177). -/
structure Slot where
  state : SlotState
  lines : SlotLines
  identity : SlotIdentity
  power : SlotPower
  traffic : SlotTraffic
  recovery : SlotRecovery
  tallies : SlotTallies
  drift : SlotDrift
  grading : SlotGrading
  events : BitVec 16
  notice : NoticeState
deriving DecidableEq, Repr

/-! ### Queues, lists and frames of the part -/

/-- An admission entry (R71). The arrival order is the place in the queue. -/
structure AdmissionEntry where
  slot : SlotId
  kind : AdmissionKind
  origin : Origin
  skips : Nat
  blocking : Bool
deriving DecidableEq, Repr

/-- What the Sort Unit keeps of a slot at the hand-over (R146), with the reason that a forced grade's manifest
entry carries (R143, R148). -/
structure GradeInputs where
  score : Nat
  forced : Bool
  reason : Option QuarantineReason
  shocks : Nat
  shed : Nat
  fwMismatch : Bool
  capLow : Bool
  secBlock : Bool
  finalIdMissing : Bool
deriving DecidableEq, Repr

/-- An entry of the sort-wait list (R146). -/
structure WaitEntry where
  slot : SlotId
  reason : WaitReason
  inputs : GradeInputs
deriving DecidableEq, Repr

/-- A manifest entry (R143). -/
structure ManifestEntry where
  sequence : Nat
  slot : SlotId
  serial : Option Bytes
  model : Option (Fin 16)
  binSet : Fin 4
  position : Fin 8
  generation : Nat
  score : Nat
  forced : Bool
  regraded : Bool
  fwMismatch : Bool
  shed : Bool
  finalIdMissing : Bool
  reason : Option QuarantineReason
deriving DecidableEq, Repr

/-- The event mask (R176): a set of slot kinds and of part kinds. -/
structure EventMask where
  slot : BitVec 16
  part : BitVec 8
deriving DecidableEq, Repr

/-- The seventeen settings, in the order of 11.2. Times in s, currents in mA. -/
structure Settings where
  settleTime : Nat
  settleReserve : Nat
  resetRundown : Nat
  lightTimeout : Nat
  heavyTimeout : Nat
  identifyTimeout : Nat
  spinDownTimeout : Nat
  repeatSpinUpTimeout : Nat
  overdrawMargin : Nat
  restoreDelay : Nat
  autoResume : Bool
  tickPeriod : TickPeriod
  idleTime : Nat
  eventMask : EventMask
  reportMode : ReportMode
  streamInterval : Nat
  reportStation : Nat
deriving DecidableEq, Repr

/-- A request in the request queue (R156): source station, tag, kind byte, operand bytes. -/
structure QueuedRequest where
  source : Byte
  tag : Byte
  kind : Byte
  operands : Bytes
deriving DecidableEq, Repr

/-- One metric of a filter report (R165): its record, the halts in force, lost, its threshold set. -/
structure FilterView where
  record : Filter
  supplyHalt : Bool
  recoveryHalt : Bool
  lost : Bool
  thresholds : Option ThresholdSet
deriving DecidableEq, Repr

/-- What READ-PART-STATUS returns (R160). -/
structure PartStatus where
  events : BitVec 8
  cause : RestartCause
  supply : SupplyState
  warning : Bool
  delayLeft : Nat
  target : Nat
  sum : Nat
  admissionCount : Nat
  manifestCount : Nat
  lowest : Option Nat
  next : Nat
  waiting : Nat
  noticeCount : Nat
  mode : ReportMode
  saving : Bool
  image : ImageState
  straps : BitVec 8
  rxErrors : Nat
  portBusy : Nat
  broadcastDiscards : Nat
  streamDropped : Nat
  slots : List (SlotState × Bool)
deriving DecidableEq, Repr

/-- The result fields of a reply, as its request's entry in chapter 9 names them. `zeroed` is a reply whose
status is not OK (R156): zero bytes, with the slot's state among them where the status is WRONG_STATE
(R157; log entry 23). -/
inductive Results where
  | zeroed (before : Nat) (state : Option SlotState) (after : Nat)
  /-- An OK reply without result fields (SAVE-CONFIG, RESET-PART). -/
  | empty
  | discover (station : Nat) (straps : BitVec 8) (image : ImageState) (saving : Bool) (reportStation : Nat)
      (mode : ReportMode)
  | discoverInvalid (station : Nat) (straps : BitVec 8) (image : ImageState)
  | partStatus (view : PartStatus)
  | settings (values : Settings) (target : Nat)
  | budget (target sum : Nat)
  | model (entry : ModelEntry)
  | classify (entry : ClassifyEntry)
  | defect (entry : DefectEntry)
  | bin (entry : Bin)
  | indicator (entry : IndicatorEntry)
  | slot (record : Slot) (admission : Option (AdmissionEntry × Nat)) (wait : Option (WaitReason × Nat))
      (now : Nat)
  | filter (temp curr vibe defr : FilterView) (idleCount : Nat) (deferral : Bool)
  | startTest (state : SlotState) (calibration : Nat)
  | endTest (state : SlotState) (answered draining : Nat)
  | rebase (metrics : List (Bool × Nat × MetricState))
  | quarantine (taken : Bool) (reason : Option QuarantineReason) (state : SlotState)
  | recoverStarted (state : SlotState) (resume : Option SlotState) (episodes : Nat)
  | recoverLimit (reason : Option QuarantineReason) (state : SlotState)
  | rematch (model : Option (Fin 16)) (state : SlotState)
  | manifest (entries : List ManifestEntry) (more : Bool) (next : Nat)
  | retire (removed held : Nat) (lowest : Option Nat)
  | cartSwap (generation fill : Nat)
deriving DecidableEq, Repr

/-- A reply (R156): the request's source station, tag and kind, a status, a reason and the results. -/
structure Reply where
  dest : Byte
  tag : Byte
  kind : Byte
  status : ReplyStatus
  reason : RefusalReason
  results : Results
deriving DecidableEq, Repr

/-- What a classification returns to the Slot Engine (R119): entry index, defect class, action. -/
structure Classification where
  entry : Option (Fin 64)
  cls : Option (Fin 16)
  action : Action
deriving DecidableEq, Repr

/-- A SLOT_RESP waiting in the response list (R34, R197): a drive's response with its classification, or an
answer of the part's own. Slot and tag are bytes, echoed as received for BAD_SLOT and BAD_TAG. -/
inductive SlotResponse where
  | drive (dest : Byte) (slot tag : Byte) (status : StatusClass) (code : BitVec 16) (cls : Classification)
      (payload : Bytes)
  | partMade (dest : Byte) (slot tag : Byte) (code : PartCode)
deriving DecidableEq, Repr

/-- One metric of a stream record (R183). -/
structure StreamMetric where
  raw : Option Nat
  lastD : Option Int
  state : MetricState
  evaluated : Bool
deriving DecidableEq, Repr

/-- One slot of a stream report (R183). -/
structure StreamRecord where
  slot : SlotId
  state : SlotState
  temp : StreamMetric
  curr : StreamMetric
  vibe : StreamMetric
  defr : StreamMetric
deriving DecidableEq, Repr

/-- A stream report (R183). -/
structure StreamReport where
  dest : Nat
  number : Nat
  records : List StreamRecord
deriving DecidableEq, Repr

/-- What the part has put on a slot link: a command frame (tag, class, payload) or a link reset (R28, R29, R44). DESIGN
CHOICE (log entry 48): the fields alone, since 12.1 gives the part's own slot link frames no kind byte and no layout. -/
inductive LinkFrame where
  | command (tag : Nat) (cls : CmdClass) (payload : Bytes)
  | linkReset
deriving DecidableEq, Repr

/-- A save in flight (R192): its stage, the image handed over, and the time by which it must end. -/
structure Save where
  stage : SaveStage
  image : Bytes
  limit : Nat
deriving DecidableEq, Repr

/-! ### The part -/

/-- The Rack Link Port and the request queue (R155, R156, R184). -/
structure Port where
  requests : List QueuedRequest
  replies : List Reply
  responses : List SlotResponse
  stream : Option StreamReport
  transmitting : Option RackFrame
  rxErrors : Nat
  portBusy : Nat
  broadcastDiscards : Nat
  streamDropped : Nat
  /-- Set from the taking of RESET-PART to the soft reset: how many replies, up to RESET-PART's own, have not
  yet been sent (R174). -/
  resetAwaits : Option Nat
deriving DecidableEq, Repr

/-- The Power Admission Unit (R71, R85). `passDue` is the model's own: a pass that the change in progress has
started (R74; log entry 6). -/
structure PowerUnit where
  queue : List AdmissionEntry
  supply : SupplyState
  warning : Bool
  restore : Option Nat
  passDue : Bool
deriving DecidableEq, Repr

/-- The Sort Unit (R139, R144, R146). `next` past `Config.lastSequence` means that no next number is left. -/
structure SortUnit where
  bins : Vector Bin 32
  manifest : List ManifestEntry
  next : Nat
  waiting : List WaitEntry
deriving DecidableEq, Repr

/-- The Notice Unit, but for the slots' own sets (R175, R177, R182). -/
structure NoticeUnit where
  part : BitVec 8
  cause : RestartCause
  partState : NoticeState
  queue : List Source
  streamCount : Nat
  streamNumber : Nat
deriving DecidableEq, Repr

/-- The Configuration Store (R186..R192). `flash` is the image in the serial flash, none where no image in it
passes its check (blank, erased or written in part). -/
structure Store where
  straps : BitVec 8
  settings : Settings
  target : Nat
  image : ImageState
  flash : Option Bytes
  save : Option Save
deriving DecidableEq, Repr

/-- Messages sent by one block and not yet taken by another, which takes them as events of its own. -/
structure Transit where
  quarantines : List (SlotId × QuarantineReason)
  calibrations : List SlotId
  handOvers : List SlotId
deriving DecidableEq, Repr

/-- The tables (R19, R49, R120, R123); the bins stand in the Sort Unit. -/
structure Tables where
  models : Vector ModelEntry 16
  classify : Vector ClassifyEntry 64
  defects : Vector DefectEntry 16
  indicators : Vector IndicatorEntry 16
deriving DecidableEq, Repr

/-- The whole part, and the commands that wait. -/
structure State where
  /-- Commands waiting, first in, first out. -/
  pending : List Instr
  /-- The model's clock, in ms since power-on (log entry 2). -/
  now : Nat
  /-- When the lamp clock started (R20). -/
  lampStart : Nat
  /-- When the tick timer next expires (R95). -/
  tickAt : Nat
  slots : Vector Slot 48
  port : Port
  tables : Tables
  power : PowerUnit
  sort : SortUnit
  notices : NoticeUnit
  store : Store
  transit : Transit
  /-- Frames put on the slot links, oldest first: the record of an output (log entry 22). -/
  sent : List (SlotId × LinkFrame)
deriving DecidableEq, Repr

/-! ### Reset -/

/-- No identity flag set. -/
def clearFlags : IdentityFlags := ⟨false, false, false, false, false⟩

/-- A cleared filter record (R103). -/
def clearFilter : Filter :=
  { f := 0, l := 0, state := .calibrating, enter := 0, exit := 0, fault := 0, halt := 0, calReached := 0
    excursion := 0, watchCount := 0, shocks := 0, sustained := 0, reseeds := 0, maxD := 0, lastD := none
    lastRaw := none, misses := 0 }

/-- The cleared slot record (R2) with the lines after a reset (R22): latch LOCKED, rundown running until the
given time, lamps as given; `now` is the time of clearing. -/
def clearedSlot (now : Nat) (rundown : Rundown) (latch : Latch) (lamps : LampPattern × LampPattern) : Slot :=
  { state := .empty
    lines := { line := false, presence := .absent, change := false, powered := false, latch := latch
               rundown := rundown, settle := none, removal := none, park := none, late := []
               lampA := lamps.1, lampB := lamps.2 }
    identity := { retryMark := false, record := none, model := none, flags := clearFlags, peaks := []
                  pendingPeaks := none }
    power := { allocation := 0, reserveGranted := 0, spindle := .stopped, chosen := none, held := none }
    traffic := { queue := [], reserved := none, inFlight := Vector.replicate 4 none, injections := [] }
    recovery := { episodes := 0, lastReason := none, resume := none, breakLatch := false, attempts := 0
                  wait := none }
    tallies := { counters := Vector.replicate 16 0, accumulator := 0, badFrames := 0, goodRun := 0
                 unexpected := 0, overdrawRun := 0, shedCount := 0, shedMark := false, lapsed := false }
    drift := { temp := clearFilter, curr := clearFilter, vibe := clearFilter, defr := clearFilter, peak := 0
               mean := 0, lastForward := now, testTicks := 0, idleCount := 0, deferral := false }
    grading := { reason := none, finalIdentify := .notDue, handedOver := false, grade := none }
    events := 0
    notice := .quiet }

/-- A threshold set of zeros, as an invalid entry holds it. -/
def blankThresholds : ThresholdSet := ⟨0, 0, 0, 0, 0, 0, 0, 0, 0, 0, 0, 0, 0⟩

/-- A model entry of a start without an image: invalid (R190), its other fields zero (log entry 33). -/
def blankModel : ModelEntry :=
  { valid := false, pattern := List.replicate 40 0, firmwareCount := 0
    firmwarePlaces := List.replicate 2 (List.replicate 8 0), minCapacity := none, standby := 0, run := 0
    heavyIncrement := 0, profileCount := 0, profilePlaces := List.replicate 4 ⟨0, 0, 0⟩, rundownCode := 0
    calibrationCount := 0, shockPenalty := 0, reseedPenalty := 0, binSet := 0, temp := blankThresholds
    curr := blankThresholds, vibe := blankThresholds, defr := blankThresholds, refCount := 0 }

/-- A classification entry of a start without an image (R132). -/
def blankClassify : ClassifyEntry := ⟨false, 0, 0, 0, 0, 0, 0, 0⟩

/-- A defect class entry of a start without an image (R132). -/
def blankDefect : DefectEntry := ⟨0, false⟩

/-- An indicator map entry of a start without an image (R190). DESIGN CHOICE (log entry 33): its lamp patterns, which R190
does not give, are OFF. -/
def blankIndicator : IndicatorEntry := ⟨.none, .off, .off, false⟩

/-- The bin of position i % 8 of a start without an image (R153). -/
def blankBin (i : Nat) : Bin :=
  { kind := if i % 8 = 7 then .reject else .unused, minScore := 0, maxShocks := 255, maxShed := 15
    requiresFw := false, rank := 7, capacity := 255, fill := 0, generation := 0 }

/-- The default settings of 11.2, with the strap's tick default (R188). -/
def defaultSettings (tick : TickPeriod) : Settings :=
  { settleTime := 2, settleReserve := 500, resetRundown := 20, lightTimeout := 30, heavyTimeout := 1800
    identifyTimeout := 10, spinDownTimeout := 30, repeatSpinUpTimeout := 60, overdrawMargin := 300
    restoreDelay := 5, autoResume := true, tickPeriod := tick, idleTime := 60, eventMask := ⟨0, 0⟩
    reportMode := .event, streamInterval := 10, reportStation := 1 }

/-- The default budget target (R63). -/
def defaultTarget : Nat := 20000

/-- The part right after a power-on reset over a blank flash, with the strap pins of `Config.resetStraps`, the
supply warning clear and no drive present (log entry 5). RESTARTED and IMAGE_BAD are pending, and the part notice
that announces them is in the transmitter (R185, R184; log entry 7). -/
def State.reset : State :=
  { pending := []
    now := 0
    lampStart := 0
    tickAt := 1000
    slots := Vector.replicate 48 (clearedSlot 0 (.running 20000) .locked (.off, .off))
    port := { requests := [], replies := [], responses := [], stream := none
              transmitting := some ⟨5, 1, 21, [0xFF, 0x81, 0, 2, 0]⟩
              rxErrors := 0, portBusy := 0, broadcastDiscards := 0, streamDropped := 0, resetAwaits := none }
    tables := { models := Vector.replicate 16 blankModel, classify := Vector.replicate 64 blankClassify
                defects := Vector.replicate 16 blankDefect, indicators := Vector.replicate 16 blankIndicator }
    power := { queue := [], supply := .restoring, warning := false, restore := some 5000, passDue := false }
    sort := { bins := Vector.ofFn fun i : Fin 32 => blankBin i, manifest := [], next := 1, waiting := [] }
    notices := { part := 0x81, cause := .powerOn, partState := .announced, queue := [], streamCount := 0
                 streamNumber := 0 }
    store := { straps := Config.resetStraps, settings := defaultSettings .s1, target := defaultTarget
               image := .bad, flash := none, save := none }
    transit := { quarantines := [], calibrations := [], handOvers := [] }
    sent := [] }

/-! ### How a step may stop -/

/-- Faults: none. The spec names no condition that stops the part, so no meaning raises one (INVENTORY.md,
Faults). -/
inductive Fault where
deriving DecidableEq, Repr

/-- Refusals. -/
inductive Refusal where
  /-- A command without a meaning yet, by its mnemonic; raised only by an arm of `exec`. Safe: the machine
  stops where the hardware goes on. No arm raises it. -/
  | notModelled (mnemonic : String)
deriving DecidableEq, Repr

end Sys2Proof.Machine
end

