-- ==== Sys2Proof/Machine/Ops.lean ====
section
/-! DEFINITION. The operations every block uses: a slot's record, the clock, the rack link lists, the lamps, and
raising events with their notices. -/

namespace Sys2Proof.Machine

/-! ### Slots and the clock -/

/-- The 48 slots in slot-number order. -/
def allSlots : List SlotId := List.finRange 48

/-- The slot record of slot n. -/
def State.slot (s : State) (n : SlotId) : Slot := s.slots[n.val]

/-- Replace the slot record of slot n. -/
def State.setSlot (s : State) (n : SlotId) (x : Slot) : State := { s with slots := s.slots.set n.val x n.isLt }

/-- Change the slot record of slot n. -/
def modSlot (n : SlotId) (f : Slot → Slot) (s : State) : State := s.setSlot n (f (s.slot n))

/-- Do something for every slot, in slot-number order. -/
def forSlots (f : SlotId → State → State) (s : State) : State := allSlots.foldl (fun s n => f n s) s

/-- The clock has reached a time at least (a timer with this deadline has expired; log entry 2). -/
def reach (t : Nat) (s : State) : State := { s with now := max s.now t }

/-- Time left of a deadline, in ms. -/
def timeLeft (s : State) (deadline : Nat) : Nat := deadline - s.now

/-- A count that stops at its maximum (00_scope.md, "saturates"). -/
def saturate (limit x : Nat) : Nat := min limit x

/-! ### Straps and the rack link lists -/

/-- The station address, pins 0..5 (R186, 12.5). -/
def stationOf (straps : BitVec 8) : Nat := straps.toNat % 64

/-- A station address of 0..3 is invalid (R187). -/
def strapsInvalid (straps : BitVec 8) : Bool := decide (stationOf straps < 4)

/-- Load source FLASH: pin 6 clear (R186, 12.5). -/
def loadsFlash (straps : BitVec 8) : Bool := !straps.getLsbD 6

/-- The tick default, pin 7 (R186, 12.5). -/
def tickDefault (straps : BitVec 8) : TickPeriod := if straps.getLsbD 7 then .ms250 else .s1

/-- The tick period in ms (R95). -/
def tickMs : TickPeriod → Nat
  | .ms100 => 100
  | .ms250 => 250
  | .s1 => 1000
  | .s4 => 4000

/-- Hand a reply to the Port (R156): it joins the reply list. -/
def pushReply (r : Reply) (s : State) : State := { s with port.replies := s.port.replies ++ [r] }

/-- Hand a SLOT_RESP to the Port (R34): it joins the response list. -/
def pushResponse (r : SlotResponse) (s : State) : State := { s with port.responses := s.port.responses ++ [r] }

/-- A slot number as the byte a frame carries. -/
def slotByte (n : SlotId) : Byte := BitVec.ofNat 8 n.val

/-- Answer a server command with a part-generated SLOT_RESP (R34, R197). -/
def answerPart (dest : Byte) (n : SlotId) (tag : Nat) (code : PartCode) : State → State :=
  pushResponse (.partMade dest (slotByte n) (BitVec.ofNat 8 tag) code)

/-- Put a frame on the slot link of slot n. -/
def sendLink (n : SlotId) (f : LinkFrame) (s : State) : State := { s with sent := s.sent ++ [(n, f)] }

/-! ### The slot's state and the lamps -/

/-- The state of a metric of a slot. -/
def Slot.filter (x : Slot) : Metric → Filter
  | .temp => x.drift.temp
  | .curr => x.drift.curr
  | .vibe => x.drift.vibe
  | .defr => x.drift.defr

/-- Replace a filter record of a slot. -/
def Slot.setFilter (x : Slot) (m : Metric) (f : Filter) : Slot :=
  match m with
  | .temp => { x with drift.temp := f }
  | .curr => { x with drift.curr := f }
  | .vibe => { x with drift.vibe := f }
  | .defr => { x with drift.defr := f }

/-- The four metrics, in the order of their codes. -/
def allMetrics : List Metric := [.temp, .curr, .vibe, .defr]

/-- Is some metric of the slot in the state. -/
def Slot.anyMetric (x : Slot) (st : MetricState) : Bool :=
  x.drift.temp.state == st || x.drift.curr.state == st || x.drift.vibe.state == st || x.drift.defr.state == st

/-- Is the slot in CALIBRATING or BURNING. -/
def SlotState.inTest : SlotState → Bool
  | .calibrating | .burning => true
  | _ => false

/-- Is the slot's test running (R10, R87): CALIBRATING, BURNING, or RECOVERING to resume into one of them. -/
def Slot.testRunning (x : Slot) : Bool :=
  x.state.inTest || (x.state == .recovering && (x.recovery.resume.map SlotState.inTest).getD false)

/-- The place of a bin in the table (R139). -/
def binIndex (set : Fin 4) (position : Fin 8) : Fin 32 := ⟨set.val * 8 + position.val, by omega⟩

/-- The bin at a set and position. -/
def State.bin (s : State) (set : Fin 4) (position : Fin 8) : Bin := s.sort.bins[(binIndex set position).val]

/-- The kind the bin table now gives for the grade of a SORTED slot (R19). -/
def sortedKind (s : State) (x : Slot) : Option BinKind :=
  if x.state = .sorted then x.grading.grade.map fun g => (s.bin g.binSet g.position).kind else none

/-- Does an indicator condition hold for a slot (R19). -/
def conditionHolds (s : State) (x : Slot) : Condition → Bool
  | .none => false
  | .empty => x.state == .empty
  | .starting => x.state == .settling || x.state == .powerWait || x.state == .identifying
  | .unmatched => x.state == .unmatched
  | .ready => x.state == .ready
  | .testingClear => x.state.inTest && !x.anyMetric .watch && !x.anyMetric .fault
  | .testingWatch => x.state.inTest && x.anyMetric .watch && !x.anyMetric .fault
  | .testingFault => x.state.inTest && x.anyMetric .fault
  | .recovering => x.state == .recovering
  | .sorting => x.state == .grading || x.state == .sortWait || x.state == .parking
  | .sortedShip => sortedKind s x == some .ship
  | .sortedRework => sortedKind s x == some .rework
  | .sortedReject => sortedKind s x == some .reject
  | .quarantined => x.grading.reason.isSome && x.state != .empty

/-- The patterns of the first indicator entry that matches, both OFF where none does (R19). -/
def lampsFor (s : State) (x : Slot) : LampPattern × LampPattern :=
  match s.tables.indicators.toList.find? (fun e => conditionHolds s x e.condition != e.invert) with
  | some e => (e.lampA, e.lampB)
  | none => (.off, .off)

/-- Re-evaluate the lamps of a slot (R20). -/
def relamp (n : SlotId) (s : State) : State :=
  modSlot n (fun x =>
    { x with lines := { x.lines with lampA := (lampsFor s x).1, lampB := (lampsFor s x).2 } }) s

/-- Is a lamp of the pattern lit at a time (R20): SLOW in the first half of each second of the lamp clock, FAST
in the first half of each quarter of a second. -/
def lampLit (p : LampPattern) (lampStart now : Nat) : Bool :=
  match p with
  | .off => false
  | .on => true
  | .slow => decide ((now - lampStart) % 1000 < 500)
  | .fast => decide ((now - lampStart) % 250 < 125)

/-- Move a slot to a state; its lamps are re-evaluated (R20). -/
def setState (n : SlotId) (st : SlotState) (s : State) : State :=
  relamp n (modSlot n (fun x => { x with state := st }) s)

/-! ### Events and notices (chapter 10) -/

/-- The bit of a slot event kind (R175, 12.4). -/
def SlotEvent.bit : SlotEvent → Nat
  | .inserted => 0
  | .removed => 1
  | .pulledEarly => 2
  | .identified => 3
  | .unmatched => 4
  | .watch => 5
  | .fault => 6
  | .shock => 7
  | .defect => 8
  | .recovery => 9
  | .quarantine => 10
  | .overdraw => 11
  | .sensorLost => 12
  | .graded => 13
  | .sortWait => 14
  | .sorted => 15

/-- The bit of a part event kind (R175, 12.4). -/
def PartEvent.bit : PartEvent → Nat
  | .restarted => 0
  | .supplyWarn => 1
  | .supplyRestored => 2
  | .saveDone => 3
  | .saveFailed => 4
  | .noticeLost => 5
  | .strapInvalid => 6
  | .imageBad => 7

/-- The set that holds one slot kind. -/
def SlotEvent.set (e : SlotEvent) : BitVec 16 := 1#16 <<< e.bit

/-- The set that holds one part kind. -/
def PartEvent.set (e : PartEvent) : BitVec 8 := 1#8 <<< e.bit

/-- The unmasked pending set of a slot (R176). -/
def unmaskedSlot (s : State) (n : SlotId) : BitVec 16 := (s.slot n).events &&& ~~~ s.store.settings.eventMask.slot

/-- The unmasked pending set of the part (R176). -/
def unmaskedPart (s : State) : BitVec 8 := s.notices.part &&& ~~~ s.store.settings.eventMask.part

/-- The notice state of a source. -/
def noticeStateOf (s : State) : Source → NoticeState
  | .part => s.notices.partState
  | .slot n => (s.slot n).notice

/-- Set the notice state of a source. -/
def setNoticeState (src : Source) (st : NoticeState) (s : State) : State :=
  match src with
  | .part => { s with notices.partState := st }
  | .slot n => modSlot n (fun x => { x with notice := st }) s

/-- Is the unmasked pending set of a source empty. -/
def sourceEmpty (s : State) : Source → Bool
  | .part => unmaskedPart s == 0
  | .slot n => unmaskedSlot s n == 0

/-- A notice of the part asks to join the tail: queued, or LOST when the queue is full (R177, R178). -/
def joinPart (s : State) : State :=
  if s.notices.queue.length < Config.noticeQueueDepth then
    setNoticeState .part .queued { s with notices.queue := s.notices.queue ++ [.part] }
  else
    { setNoticeState .part .lost s with notices.part := s.notices.part ||| PartEvent.noticeLost.set }

/-- Raise a part event (R175): its kind joins the part set, and a set that was empty but for masked kinds asks
for a notice (R176, R177). SUPPLY_WARN is raised by `raiseSupplyWarn`. -/
def raisePart (e : PartEvent) (s : State) : State :=
  let was := unmaskedPart s
  let s := { s with notices.part := s.notices.part ||| e.set }
  if was = 0 ∧ unmaskedPart s ≠ 0 then joinPart s else s

/-- A notice of a slot asks to join the tail: queued, or LOST with NOTICE_LOST raised (R177, R178). -/
def joinSlot (n : SlotId) (s : State) : State :=
  if s.notices.queue.length < Config.noticeQueueDepth then
    setNoticeState (.slot n) .queued { s with notices.queue := s.notices.queue ++ [.slot n] }
  else
    raisePart .noticeLost (setNoticeState (.slot n) .lost s)

/-- A source's notice asks to join the tail. -/
def joinNotice (src : Source) (s : State) : State :=
  match src with
  | .part => joinPart s
  | .slot n => joinSlot n s

/-- Raise a slot event (R175, R176, R177). -/
def raiseSlot (n : SlotId) (e : SlotEvent) (s : State) : State :=
  let was := unmaskedSlot s n
  let s := modSlot n (fun x => { x with events := x.events ||| e.set }) s
  if was = 0 ∧ unmaskedSlot s n ≠ 0 then joinSlot n s else s

/-- A notice has left the queue: a part source that is LOST takes the place freed (R178). -/
def noticeLeft (s : State) : State := if s.notices.partState = .lost then joinPart s else s

/-- Withdraw the notice of a source whose unmasked set is empty: it becomes QUIET (R177). -/
def withdrawNotice (src : Source) (s : State) : State :=
  let queued := s.notices.queue.contains src
  let s := setNoticeState src .quiet { s with notices.queue := s.notices.queue.filter (· != src) }
  if queued then noticeLeft s else s

/-- Set a source's notice state from its unmasked set after a clearing (R181). -/
def settleNotice (src : Source) (s : State) : State :=
  if sourceEmpty s src then withdrawNotice src s
  else if s.notices.queue.contains src then s else joinNotice src s

/-- The oldest slot notice of a queue, and the queue without it (R179). -/
def dropOldestSlot : List Source → Option (SlotId × List Source)
  | [] => none
  | .slot n :: rest => some (n, rest)
  | .part :: rest =>
    match dropOldestSlot rest with
    | none => none
    | some (n, left) => some (n, .part :: left)

/-- Raise SUPPLY_WARN (R179): unmasked, it puts the part notice at the head of the queue; masked, it enters the
part set and moves nothing. -/
def raiseSupplyWarn (s : State) : State :=
  if s.store.settings.eventMask.part.getLsbD PartEvent.supplyWarn.bit then raisePart .supplyWarn s
  else
    let s := { s with notices.part := s.notices.part ||| PartEvent.supplyWarn.set }
    let queue := s.notices.queue.filter (· != .part)
    let s :=
      if queue.length < Config.noticeQueueDepth then { s with notices.queue := .part :: queue }
      else
        match dropOldestSlot queue with
        | none => { s with notices.queue := .part :: queue }
        | some (n, left) =>
          setNoticeState (.slot n) .lost
            { s with notices.queue := .part :: left
                     notices.part := s.notices.part ||| PartEvent.noticeLost.set }
    setNoticeState .part .queued s

/-- Take a new event mask over all 49 sources as one change (R176): sets newly empty are withdrawn, then sets
newly non-empty ask for notices in the order part, slots 0..47 (log entry 19). -/
def changeMask (mask : EventMask) (s : State) : State :=
  let sources : List Source := .part :: allSlots.map .slot
  let wasEmpty := sources.map (sourceEmpty s)
  let s := { s with store.settings := { s.store.settings with eventMask := mask } }
  let nowEmpty := sources.map (sourceEmpty s)
  let turned := sources.zip (wasEmpty.zip nowEmpty)
  let s := (turned.filter fun t => !t.2.1 && t.2.2).foldl (fun s t => withdrawNotice t.1 s) s
  (turned.filter fun t => t.2.1 && !t.2.2).foldl (fun s t => joinNotice t.1 s) s

/-! ### Messages between blocks -/

/-- A block sends the Slot Engine a quarantine request, which it takes as an event of its own (R14). -/
def sendQuarantine (n : SlotId) (r : QuarantineReason) (s : State) : State :=
  { s with transit.quarantines := s.transit.quarantines ++ [(n, r)] }

end Sys2Proof.Machine
end

