-- ==== Sys2Proof/Machine/Power.lean ====
section
/-! DEFINITION. The Power Admission Unit's figures and queue: allocations, needs, and what an admission pass would
grant (chapter 4). The pass itself stands in Admission.lean, since a grant is taken by the Slot Engine. -/

namespace Sys2Proof.Machine

/-! ### The bound model -/

/-- The model entry bound to a slot record (R49, R51). -/
def modelOf (s : State) (x : Slot) : Option ModelEntry := x.identity.model.map fun i => s.tables.models[i.val]

/-- The spin profiles of an entry: as many of its places as the count says (R49). -/
def ModelEntry.profiles (m : ModelEntry) : List SpinProfile := m.profilePlaces.take m.profileCount

/-- The accepted firmware list of an entry (R49). -/
def ModelEntry.firmwareList (m : ModelEntry) : List Bytes := m.firmwarePlaces.take m.firmwareCount

/-- The threshold set of a metric (R102). -/
def ModelEntry.thresholds (m : ModelEntry) : Metric → ThresholdSet
  | .temp => m.temp
  | .curr => m.curr
  | .vibe => m.vibe
  | .defr => m.defr

/-- The effective peak of a profile, as the Identity Unit holds it for the slot (R53). -/
def peakOf (x : Slot) (p : Nat) : Nat := x.identity.peaks.getD p 0

/-- The smallest of the effective peaks, none where the slot has none (R54, R73). -/
def smallestPeak : List Nat → Option Nat
  | [] => none
  | p :: ps => some (ps.foldl min p)

/-! ### In-flight table readings -/

/-- Does some command in flight satisfy a test. -/
def Slot.anyInFlight (x : Slot) (p : InFlight → Bool) : Bool := x.traffic.inFlight.toList.any (·.any p)

/-- Is a HEAVY in flight (R27, R69). -/
def Slot.heavyInFlight (x : Slot) : Bool := x.anyInFlight (·.cls == .heavy)

/-- Is a SPIN_UP in flight that was granted. -/
def Slot.grantedSpinUpInFlight (x : Slot) : Bool := x.anyInFlight fun e => e.cls == .spinUp && e.granted

/-- Is a SPIN_UP in flight. -/
def Slot.spinUpInFlight (x : Slot) : Bool := x.anyInFlight (·.cls == .spinUp)

/-- Is a command of the part's own in flight (R28). -/
def Slot.partInFlight (x : Slot) : Bool := x.anyInFlight (·.origin == .part)

/-- Is a server command in flight (R135). -/
def Slot.serverInFlight (x : Slot) : Bool := x.anyInFlight (·.origin == .server)

/-- Is the in-flight table empty (R136). -/
def Slot.tableEmpty (x : Slot) : Bool := !x.anyInFlight fun _ => true

/-! ### Allocations -/

/-- The row of R66 that applies first: the current it names, and the heavy increment held on top of it (R69). -/
def figureParts (s : State) (x : Slot) : Nat × Nat :=
  if x.lines.powered = false then (0, 0)
  else if x.power.spindle = .spinningUp then (peakOf x (x.power.chosen.getD 0), 0)
  else
    match x.power.held, modelOf s x with
    | some p, _ => (peakOf x p, 0)
    | none, none => (x.power.reserveGranted, 0)
    | none, some m =>
      if x.power.spindle = .stopped then (m.standby, 0)
      else (m.run, if x.heavyInFlight then m.heavyIncrement else 0)

/-- The state figure of a slot (R66): what its row gives; 0 counts as 1 for a powered slot. -/
def stateFigure (s : State) (x : Slot) : Nat :=
  if x.lines.powered = false then 0 else max 1 ((figureParts s x).1 + (figureParts s x).2)

/-- The sum of all slots' allocations (R65). -/
def allocationSum (s : State) : Nat := (s.slots.toList.map fun x => x.power.allocation).sum

/-- Set an allocation. A fall starts an admission pass (R67, R74). -/
def setAllocation (n : SlotId) (a : Nat) (s : State) : State :=
  let fell := decide (a < (s.slot n).power.allocation)
  let s := modSlot n (fun x => { x with power.allocation := a }) s
  { s with power.passDue := s.power.passDue || fell }

/-- An allocation change that no grant and no fitted rebinding makes: the lesser of the state figure and the
allocation held (R67). -/
def lowerAllocation (n : SlotId) (s : State) : State :=
  setAllocation n (min (stateFigure s (s.slot n)) (s.slot n).power.allocation) s

/-- Change a slot record and let its allocation follow (R67): where the change moves the state figure, the allocation
becomes the lesser of the new figure and what it was; where it does not, it stays. The increment coming or going moves
it, also where counting 0 as 1 hides that (R69; DEDUCED, log entry 53). -/
def followFigure (n : SlotId) (f : Slot → Slot) (s : State) : State :=
  let t := modSlot n f s
  if figureParts t (t.slot n) = figureParts s (s.slot n) then t else lowerAllocation n t

/-- The fit test (R70): would the sum, with this slot's allocation replaced, be at or below the target. A change
that lowers the allocation or leaves it equal always passes. -/
def fits (s : State) (n : SlotId) (a : Nat) : Bool :=
  decide (a ≤ (s.slot n).power.allocation)
    || decide (allocationSum s + a ≤ s.store.target + (s.slot n).power.allocation)

/-! ### The admission queue -/

/-- The admission entry of a slot. -/
def entryOf (s : State) (n : SlotId) : Option AdmissionEntry := s.power.queue.find? (·.slot == n)

/-- Join an entry at the tail, with skip count 0 and blocking clear, and start a pass; not made for a slot that
holds an entry (R71, R74). -/
def joinAdmission (n : SlotId) (kind : AdmissionKind) (origin : Origin) (s : State) : State :=
  if (entryOf s n).isSome then s
  else
    { s with power := { s.power with queue := s.power.queue ++ [⟨n, kind, origin, 0, false⟩], passDue := true } }

/-- A slot's entry leaves the queue other than by its grant (R72): a pass is due if it was blocking. -/
def leaveAdmission (n : SlotId) (s : State) : State :=
  match entryOf s n with
  | none => s
  | some e =>
    { s with power := { s.power with queue := s.power.queue.filter (·.slot != n)
                                     passDue := s.power.passDue || e.blocking } }

/-- Release the in-flight entry reserved for the queue head (R30). -/
def releaseReserved (n : SlotId) : State → State := modSlot n fun x => { x with traffic.reserved := none }

/-- The Slot Engine withdraws the request for its queue head and releases the reserved entry (R30). An auto-resume
entry is no such request and stays (R93). -/
def withdrawHead (n : SlotId) (s : State) : State :=
  releaseReserved n <|
    if ((entryOf s n).map (·.origin == .server)).getD false then leaveAdmission n s else s

/-- The slot's entry leaves the queue, whatever its origin, and the reserved entry is released (R72, R133). -/
def dropAdmission (n : SlotId) (s : State) : State := releaseReserved n (leaveAdmission n s)

/-! ### Needs and choices of a pass -/

/-- The grant figure of an entry (R73): the allocation its slot would hold after the grant. None where the slot
has no effective peak to be granted. -/
def grantFigure (s : State) (e : AdmissionEntry) : Option Nat :=
  let x := s.slot e.slot
  match e.kind with
  | .slotPower => some s.store.settings.settleReserve
  | .heavy => some (x.power.allocation + ((modelOf s x).map (·.heavyIncrement)).getD 0)
  | .spinUp => smallestPeak x.identity.peaks

/-- Is an entry oversize at a pass (R77). -/
def oversize (s : State) (e : AdmissionEntry) : Bool := ((grantFigure s e).map (decide <| s.store.target < ·)).getD false

/-- Would the sum stay at or below the target if the slot's allocation became a (R75). -/
def roomFor (s : State) (n : SlotId) (a : Nat) : Bool :=
  decide (allocationSum s + a ≤ s.store.target + (s.slot n).power.allocation)

/-- Is profile p better than profile q (R78): shorter spin time, then lower effective peak, then lower index. -/
def profileBefore (times peaks : List Nat) (p q : Nat) : Bool :=
  let key := fun i => (times.getD i 0, peaks.getD i 0)
  decide ((key p).1 < (key q).1)
    || (key p).1 == (key q).1 && (decide ((key p).2 < (key q).2) || (key p).2 == (key q).2 && decide (p < q))

/-- The allocation that a figure gives a powered slot: 0 counts as 1 (R66). -/
def figureOf (a : Nat) : Nat := max 1 a

/-- The profile a SPIN_UP entry is granted: the best of those that fit at this pass (R78). -/
def chooseProfile (s : State) (n : SlotId) : Option Nat :=
  let x := s.slot n
  let peaks := x.identity.peaks
  let times := ((modelOf s x).map fun m => m.profiles.map (·.spinTime)).getD []
  ((List.range peaks.length).filter fun p => roomFor s n (figureOf (peaks.getD p 0))).foldl
    (fun best p =>
      match best with
      | none => some p
      | some q => if profileBefore times peaks p q then some p else some q)
    none

/-- What a pass can give an entry that is not oversize: the allocation and, for a SPIN_UP, the profile; none
where it does not fit (R75, R79). -/
def offer (s : State) (e : AdmissionEntry) : Option (Nat × Option Nat) :=
  match e.kind with
  | .spinUp => (chooseProfile s e.slot).map fun p => (figureOf ((s.slot e.slot).identity.peaks.getD p 0), some p)
  | .slotPower | .heavy =>
    match grantFigure s e with
    | none => none
    | some a => if roomFor s e.slot (figureOf a) then some (figureOf a, none) else none

end Sys2Proof.Machine
end

