-- ==== Sys2Proof/Machine/Engine.lean ====
section
/-! DEFINITION. The Slot Engine's own operations: the injection list, the queue head, what forwarding and power do
to the spindle, and parking (chapters 1 and 2). -/

namespace Sys2Proof.Machine

/-! ### Which states do what -/

/-- A recovery is allowed in these states (R42). -/
def SlotState.allowsRecovery : SlotState → Bool
  | .identifying | .unmatched | .ready | .calibrating | .burning => true
  | _ => false

/-- The queue head is considered in these states (R29). -/
def SlotState.servesQueue : SlotState → Bool
  | .ready | .calibrating | .burning | .unmatched => true
  | _ => false

/-- The slot state accepts a command class (R25, check 3). -/
def SlotState.accepts : SlotState → CmdClass → Bool
  | .ready, _ | .calibrating, _ | .burning, _ => true
  | .unmatched, .light | .unmatched, .identify => true
  | _, _ => false

/-! ### The in-flight table -/

/-- The first free entry that is not reserved for the queue head (R28, R29). Which free entry is taken is the
model's choice: the lowest (log entry 10). -/
def Slot.freeEntry (x : Slot) : Option (Fin 4) :=
  (List.finRange 4).find? fun k => x.traffic.inFlight[k.val].isNone && x.traffic.reserved != some k

/-- Fill an entry of the in-flight table (R27). -/
def fillEntry (n : SlotId) (k : Fin 4) (e : InFlight) : State → State :=
  modSlot n fun x => { x with traffic.inFlight := x.traffic.inFlight.set k.val (some e) k.isLt }

/-- Retire an entry: it becomes free; the allocation follows when the last HEAVY goes (R27, R69). -/
def retireEntry (n : SlotId) (k : Fin 4) : State → State :=
  followFigure n fun x => { x with traffic.inFlight := x.traffic.inFlight.set k.val none k.isLt }

/-- The held entries of the table, in table order. -/
def Slot.inFlightList (x : Slot) : List InFlight := x.traffic.inFlight.toList.filterMap id

/-- The entry that holds a tag. -/
def Slot.entryWithTag (x : Slot) (tag : Nat) : Option (Fin 4) :=
  (List.finRange 4).find? fun k => (x.traffic.inFlight[k.val].map (·.tag == tag)).getD false

/-- Free the whole table. -/
def clearTable (n : SlotId) : State → State :=
  followFigure n fun x => { x with traffic.inFlight := Vector.replicate 4 none }

/-- The class timeout in force, in ms (R36). A granted SPIN_UP has twice the chosen profile's spin time. -/
def classTimeout (s : State) (x : Slot) (cls : CmdClass) (granted : Bool) : Nat :=
  match cls with
  | .light => s.store.settings.lightTimeout * 1000
  | .heavy => s.store.settings.heavyTimeout * 1000
  | .identify => s.store.settings.identifyTimeout * 1000
  | .spinDown => s.store.settings.spinDownTimeout * 1000
  | .spinUp =>
    if granted then
      2 * (((modelOf s x).bind fun m => m.profiles[x.power.chosen.getD 0]?).map (·.spinTime)).getD 0 * 1000
    else s.store.settings.repeatSpinUpTimeout * 1000

/-- The mode code of the chosen profile (R31). -/
def chosenMode (s : State) (x : Slot) : Nat :=
  (((modelOf s x).bind fun m => m.profiles[x.power.chosen.getD 0]?).map (·.mode)).getD 0

/-! ### The spindle -/

/-- Effective peaks computed while they were held become the ones held (R53). -/
def applyPending (x : Slot) : Slot :=
  match x.identity.pendingPeaks with
  | none => x
  | some ps => { x with identity := { x.identity with peaks := ps, pendingPeaks := none } }

/-- Set the spindle state. Leaving SPINNING_UP, the pending effective peaks take effect (R53); at STOPPED the
chosen profile is absent (R33); the allocation follows (R67). -/
def setSpindle (n : SlotId) (sp : Spindle) : State → State :=
  followFigure n fun x =>
    let left := x.power.spindle == .spinningUp && sp != .spinningUp
    let x := { x with power := { x.power with spindle := sp
                                              chosen := if sp = .stopped then none else x.power.chosen } }
    if left then applyPending x else x

/-! ### The injection list (R28) -/

/-- An injection with no cause and no mark. -/
def bareInjection (cls : CmdClass) : Injection := ⟨cls, false, false, false, false, false⟩

/-- Two listed commands of one class are one command with both's causes (R28, R88). -/
def Injection.merge (a b : Injection) : Injection :=
  ⟨a.cls, a.parking || b.parking, a.orphan || b.orphan, a.recovery || b.recovery, a.shed || b.shed,
    a.final || b.final⟩

/-- Put a command of the part's own in the injection list: behind the others, or merged with a listed one of its
class (R28). -/
def inject (n : SlotId) (i : Injection) : State → State :=
  modSlot n fun x =>
    { x with traffic.injections :=
        if x.traffic.injections.any (·.cls == i.cls) then
          x.traffic.injections.map fun j => if j.cls = i.cls then j.merge i else j
        else x.traffic.injections ++ [i] }

/-- Is a command of the class listed. -/
def Slot.listed (x : Slot) (cls : CmdClass) : Bool := x.traffic.injections.any (·.cls == cls)

/-- A listed command whose purpose lapses leaves the list (R28). -/
def unlist (n : SlotId) (cls : CmdClass) : State → State :=
  modSlot n fun x => { x with traffic.injections := x.traffic.injections.filter (·.cls != cls) }

/-- An orphaned spin-up is ended by a SPIN_DOWN (R38). -/
def injectOrphan (n : SlotId) : State → State := inject n { bareInjection .spinDown with orphan := true }

/-- A held part-origin grant lapses: it is cleared, its SPIN_UP leaves the list, and the allocation falls (R80). -/
def lapseHeld (n : SlotId) (s : State) : State :=
  if (s.slot n).power.held.isNone then s
  else followFigure n (fun x => applyPending { x with power.held := none }) (unlist n .spinUp s)

/-- The payload of an injected command (12.2): its code, and the mode code of a SPIN_UP. -/
def injectedPayload (mode : Nat) : CmdClass → Bytes
  | .identify => [0x10]
  | .spinDown => [0x20]
  | .spinUp => [0x21, BitVec.ofNat 8 mode]
  | .light | .heavy => []

/-- A part-origin SPIN_UP is about to be sent: the held grant becomes the chosen profile (R80). -/
def takeHeld (x : Slot) : Slot := { x with power := { x.power with chosen := x.power.held, held := none } }

/-- Send a listed command into entry k, with tag 31 and origin PART (R28). A SPIN_DOWN turns SPINNING into
SPINNING_DOWN, a granted SPIN_UP sets SPINNING_UP (R31, R80). -/
def sendInjection (n : SlotId) (k : Fin 4) (i : Injection) (s : State) : State :=
  let s := unlist n i.cls s
  let s := if i.cls = .spinUp then modSlot n takeHeld s else s
  let x := s.slot n
  let granted := i.cls == .spinUp
  let s := fillEntry n k ⟨Config.partTag, i.cls, .part, granted, s.now, classTimeout s x i.cls granted, none, i.final⟩ s
  let s := sendLink n (.command Config.partTag i.cls (injectedPayload (chosenMode s x) i.cls)) s
  match i.cls with
  | .spinUp => setSpindle n .spinningUp s
  | .spinDown => if x.power.spindle = .spinning then setSpindle n .spinningDown s else s
  | .identify | .light | .heavy => s

/-- Serve the injection list (R28): its head is sent when the slot is powered, no part command is in flight and
an unreserved entry is free. -/
def serveInjections (n : SlotId) (s : State) : State :=
  let x := s.slot n
  match x.traffic.injections with
  | [] => s
  | i :: _ =>
    if x.lines.powered && !x.partInFlight then
      match x.freeEntry with
      | none => s
      | some k => sendInjection n k i s
    else s

/-! ### The queue head (R29..R31) -/

/-- What becomes of the queue head (R29). -/
inductive HeadDecision where
  | forward | waits | needsGrant | refuse
deriving DecidableEq, Repr

/-- The table of R29. -/
def headDecision (cls : CmdClass) (sp : Spindle) (heavyInFlight : Bool) : HeadDecision :=
  match cls, sp with
  | .light, _ | .identify, _ => .forward
  | .spinDown, .spinningUp => .waits
  | .spinDown, _ => .forward
  | .spinUp, .stopped | .spinUp, .spinningDown => .needsGrant
  | .spinUp, .spinningUp => .waits
  | .spinUp, .spinning => .forward
  | .heavy, .stopped | .heavy, .spinningDown => .refuse
  | .heavy, .spinningUp => .waits
  | .heavy, .spinning => if heavyInFlight then .forward else .needsGrant

/-- Forward the queue head into entry k (R29). Granted, a SPIN_UP carries the chosen profile's mode code in
payload byte 1 (R31). -/
def forwardHead (n : SlotId) (k : Fin 4) (granted : Bool) (s : State) : State :=
  let x := s.slot n
  match x.traffic.queue with
  | [] => s
  | q :: rest =>
    let payload :=
      if granted && q.cls == .spinUp then q.payload.set 1 (BitVec.ofNat 8 (chosenMode s x)) else q.payload
    let s := modSlot n (fun x => { x with traffic.queue := rest, drift.lastForward := s.now }) s
    let s := fillEntry n k ⟨q.tag, q.cls, .server, granted, s.now, classTimeout s x q.cls granted, some q.source, false⟩ s
    let s := sendLink n (.command q.tag q.cls payload) s
    match q.cls with
    | .spinUp => if granted then setSpindle n .spinningUp s else s
    | .spinDown => if x.power.spindle = .spinning then setSpindle n .spinningDown s else s
    | .light | .heavy | .identify => s

/-- Refuse the queue head with SPINDLE_STOPPED (R29); its request is withdrawn (R30). -/
def refuseHead (n : SlotId) (s : State) : State :=
  match (s.slot n).traffic.queue with
  | [] => s
  | q :: rest =>
    withdrawHead n <|
      answerPart q.source n q.tag .spindleStopped (modSlot n (fun x => { x with traffic.queue := rest }) s)

/-- Ask for the head's grant and reserve entry k for it (R30). No request is sent while the slot holds an
admission entry or a held grant (R30, R71). -/
def requestHead (n : SlotId) (k : Fin 4) (cls : CmdClass) (s : State) : State :=
  if (entryOf s n).isSome || (s.slot n).power.held.isSome then s
  else
    joinAdmission n (if cls = .heavy then .heavy else .spinUp) .server
      (modSlot n (fun x => { x with traffic.reserved := some k }) s)

/-- Consider the queue head, and the frame that becomes the head in its place, for at most `fuel` frames (R29;
log entry 11). -/
def considerHead : Nat → SlotId → State → State
  | 0, _, s => s
  | fuel + 1, n, s =>
    let x := s.slot n
    if !x.state.servesQueue then s
    else
      match x.traffic.queue with
      | [] => s
      | q :: _ =>
        match headDecision q.cls x.power.spindle x.heavyInFlight, x.freeEntry with
        | .waits, _ => s
        | .refuse, _ => considerHead fuel n (refuseHead n s)
        | .forward, some k => considerHead fuel n (forwardHead n k false s)
        | .needsGrant, some k => requestHead n k q.cls s
        | .forward, none | .needsGrant, none => s

/-- Serve the injection list, then consider the queue head (R28, R32 step 6). -/
def serveSlot (n : SlotId) (s : State) : State :=
  considerHead (Config.slotQueueDepth + 1) n (serveInjections n s)

/-- Answer every queued frame, in queue order, and empty the queue (R21, R26, R133). -/
def answerQueue (n : SlotId) (code : PartCode) (s : State) : State :=
  let s' := (s.slot n).traffic.queue.foldl (fun s q => answerPart q.source n q.tag code s) s
  modSlot n (fun x => { x with traffic.queue := [] }) s'

/-- Answer every server command in flight, in table order (R21, R41, R43). -/
def answerInFlight (n : SlotId) (code : PartCode) (s : State) : State :=
  (s.slot n).inFlightList.foldl
    (fun s e =>
      match e.source with
      | none => s
      | some dest => answerPart dest n e.tag code s) s

/-! ### Power, rundown and parking -/

/-- Slot power goes off (R6): allocation 0, spindle STOPPED, no chosen profile; the injection list, the held grant,
the deferral mark, the idle count and the overdraw run go with it (R28, R80, R83, R98, R117). -/
def powerOff (n : SlotId) (s : State) : State :=
  setAllocation n 0 <|
    modSlot n (fun x =>
      applyPending
        { x with lines.powered := false
                 power := { x.power with spindle := .stopped, chosen := none, held := none }
                 traffic.injections := []
                 tallies.overdrawRun := 0
                 drift := { x.drift with deferral := false, idleCount := 0 } }) s

/-- The slot's rundown time in ms (R13). -/
def rundownMs (s : State) (x : Slot) : Nat :=
  match modelOf s x with
  | none => s.store.settings.resetRundown * 1000
  | some m =>
    if m.rundownCode = 0 then s.store.settings.resetRundown * 1000
    else if m.rundownCode = 255 then 600000
    else m.rundownCode * 2000

/-- Start the rundown timer with the slot's rundown time (R13). -/
def startRundown (n : SlotId) (s : State) : State :=
  modSlot n (fun x => { x with lines.rundown := .running (s.now + rundownMs s x) }) s

/-- The parking spin-down ends (R18): the park timer is discarded, power goes off, the rundown starts. -/
def spinDownEnd (n : SlotId) (s : State) : State :=
  startRundown n (powerOff n (modSlot n (fun x => { x with lines.park := none }) s))

/-- Is a SPIN_DOWN in flight. -/
def Slot.spinDownInFlight (x : Slot) : Bool := x.anyInFlight (·.cls == .spinDown)

/-- The parking SPIN_DOWN falls due (R18): one in flight is waited on, one listed takes the parking cause. -/
def injectParking (n : SlotId) (s : State) : State :=
  if (s.slot n).spinDownInFlight && (s.slot n).power.spindle != .spinning then s
  else inject n { bareInjection .spinDown with parking := true } s

/-- Enter PARKING (R18). -/
def enterParking (n : SlotId) (s : State) : State :=
  let s := setState n .parking s
  if (s.slot n).lines.powered = false then startRundown n s
  else
    let s := modSlot n (fun x => { x with lines.park := some (s.now + Config.parkMs) }) s
    match (s.slot n).power.spindle with
    | .stopped => spinDownEnd n s
    | .spinning | .spinningDown => serveInjections n (injectParking n s)
    | .spinningUp =>
      if (s.slot n).grantedSpinUpInFlight then s else serveInjections n (injectParking n s)

/-- The shed condition (R88): during a supply episode, a powered slot that is not RECOVERING and SPINNING has
SPIN_DOWN listed with the cause "shed". -/
def shedCheck (n : SlotId) (s : State) : State :=
  let x := s.slot n
  if s.power.supply ≠ .normal ∧ x.lines.powered ∧ x.state ≠ .recovering ∧ x.power.spindle = .spinning then
    inject n { bareInjection .spinDown with shed := true } s
  else s

end Sys2Proof.Machine
end

