-- ==== Sys2Proof/Machine/Admission.lean ====
section
/-! DEFINITION. The admission pass and the grant (R74..R80). -/

namespace Sys2Proof.Machine

/-- The Slot Engine takes a SLOT_POWER grant (R5): power on, rundown discarded, IDENTIFY injected, IDENTIFYING. -/
def takeSlotPower (n : SlotId) (reserve : Nat) (s : State) : State :=
  serveInjections n <|
    setState n .identifying <|
      inject n (bareInjection .identify) <|
        modSlot n (fun x =>
          { x with lines := { x.lines with powered := true, rundown := .stopped }
                   power.reserveGranted := reserve }) s

/-- The Slot Engine takes the grant of its queue head (R30, R79): the head is forwarded into its reserved entry,
a SPIN_UP with the chosen profile set. -/
def takeHeadGrant (n : SlotId) (profile : Option Nat) (s : State) : State :=
  match (s.slot n).traffic.reserved with
  | none => s
  | some k =>
    let s := releaseReserved n s
    let s :=
      match profile with
      | none => s
      | some p => modSlot n (fun x => { x with power.chosen := some p }) s
    serveSlot n (forwardHead n k true s)

/-- A part-origin SPIN_UP grant (R80): the profile is kept as the held grant and SPIN_UP is listed. -/
def takeHeldGrant (n : SlotId) (profile : Option Nat) (s : State) : State :=
  serveSlot n <|
    inject n (bareInjection .spinUp) (modSlot n (fun x => { x with power.held := profile }) s)

/-- Grant an entry the allocation a and, for a SPIN_UP, a profile (R79): it leaves the queue, the allocation is
set, the Slot Engine takes the grant. -/
def grant (e : AdmissionEntry) (a : Nat) (profile : Option Nat) (s : State) : State :=
  let s := { s with power.queue := s.power.queue.filter (·.slot != e.slot) }
  let s := setAllocation e.slot a s
  match e.kind, e.origin with
  | .slotPower, _ => takeSlotPower e.slot a s
  | .heavy, _ => takeHeadGrant e.slot none s
  | .spinUp, .server => takeHeadGrant e.slot profile s
  | .spinUp, .part => takeHeldGrant e.slot profile s

/-- Each grant of a pass raises the skip count of the older entries that did not fit in it; at 4 an entry is
blocking (R76). -/
def bumpSkips (missed : List SlotId) (s : State) : State :=
  { s with power.queue :=
      s.power.queue.map fun e =>
        if missed.contains e.slot then
          { e with skips := saturate Config.skipLimit (e.skips + 1)
                   blocking := e.blocking || decide (Config.skipLimit ≤ e.skips + 1) }
        else e }

/-- An oversize entry has its skip count and blocking flag cleared (R77). -/
def resetSkips (n : SlotId) (s : State) : State :=
  { s with power.queue := s.power.queue.map fun e => if e.slot = n then { e with skips := 0, blocking := false } else e }

/-- Is an entry older than the slot's blocking (R75, step 1). -/
def olderBlocking (s : State) (n : SlotId) : Bool := (s.power.queue.takeWhile (·.slot != n)).any (·.blocking)

/-- Examine the entries of the given slots, oldest first (R75). `missed` holds the older ones that did not fit. -/
def passLoop : List SlotId → List SlotId → State → State
  | [], _, s => s
  | n :: rest, missed, s =>
    match entryOf s n with
    | none => passLoop rest missed s
    | some e =>
      if olderBlocking s n then s
      else if oversize s e then passLoop rest missed (resetSkips n s)
      else
        match offer s e with
        | some (a, profile) => passLoop rest missed (grant e a profile (bumpSkips missed s))
        | none => passLoop rest (n :: missed) s

/-- An admission pass (R74, R75): nothing in a supply episode, nothing over budget. -/
def runPass (s : State) : State :=
  if s.power.supply ≠ .normal ∨ s.store.target < allocationSum s then s
  else passLoop (s.power.queue.map (·.slot)) [] s

/-- Run the passes that the change in progress has started (R74; log entries 6 and 31). -/
def runPasses : Nat → State → State
  | 0, s => s
  | fuel + 1, s =>
    if s.power.passDue then runPasses fuel (runPass { s with power.passDue := false }) else s

/-- Run every pass that is due. -/
def settlePasses (s : State) : State := runPasses Config.passFuel s

end Sys2Proof.Machine
end

