-- ==== Sys2Proof/Machine/Codes.lean ====
section
/-! DEFINITION. The codes of the enumerated fields of frames and records (12.2, 12.4, 12.5). A name is coded by its
place in its list; the two kinds of reason and the part codes count from 1. -/

namespace Sys2Proof.Machine

/-- The place of a name in its list. -/
def codeIn {α : Type} [BEq α] (names : List α) (x : α) : Nat := names.idxOf x

def SlotState.names : List SlotState :=
  [.empty, .settling, .powerWait, .identifying, .unmatched, .ready, .calibrating, .burning, .recovering,
    .grading, .sortWait, .parking, .sorted]

def Presence.names : List Presence := [.absent, .present]

def Latch.names : List Latch := [.locked, .opened]

def LampPattern.names : List LampPattern := [.off, .on, .slow, .fast]

def Condition.names : List Condition :=
  [.none, .empty, .starting, .unmatched, .ready, .testingClear, .testingWatch, .testingFault, .recovering,
    .sorting, .sortedShip, .sortedRework, .sortedReject, .quarantined]

def Spindle.names : List Spindle := [.stopped, .spinningUp, .spinning, .spinningDown]

def CmdClass.names : List CmdClass := [.light, .heavy, .spinUp, .spinDown, .identify]

def Origin.names : List Origin := [.server, .part]

def RecoveryReason.names : List RecoveryReason :=
  [.timeout, .identifyFailed, .unexpectedTag, .badFrames, .linkBreak, .driveReset, .serverRequest]

def QuarantineReason.names : List QuarantineReason :=
  [.classified, .metricFault, .overdraw, .powerMismatch, .identityChanged, .noIdentity, .linkLost,
    .recoveryLimit, .requested]

def MetricState.names : List MetricState := [.calibrating, .clear, .watch, .fault]

def IdentifyOutcome.names : List IdentifyOutcome := [.ack, .error, .noResponse]

def AdmissionKind.names : List AdmissionKind := [.slotPower, .spinUp, .heavy]

def SupplyState.names : List SupplyState := [.normal, .warning, .restoring]

def Action.names : List Action := [.ignore, .count, .countNote, .quarantine]

def BinKind.names : List BinKind := [.unused, .ship, .rework, .reject]

def WaitReason.names : List WaitReason := [.binFull, .manifestFull]

def RestartCause.names : List RestartCause := [.powerOn, .requested]

def ReportMode.names : List ReportMode := [.event, .stream]

def TickPeriod.names : List TickPeriod := [.ms100, .ms250, .s1, .s4]

def ImageState.names : List ImageState := [.good, .bad, .writing]

def StatusClass.names : List StatusClass := [.good, .recovered, .medium, .hardware, .aborted, .illegal]

def ReplyStatus.names : List ReplyStatus :=
  [.ok, .busy, .badRequest, .badSlot, .wrongState, .inUse, .tableRefused, .notFound, .strapInvalid]

def RefusalReason.names : List RefusalReason :=
  [.none, .emptyPattern, .noProfile, .fieldRange, .standbyAboveReserve, .thresholds, .reservedClass,
    .rejectPosition, .capacityBelowFill]

def PartCode.names : List PartCode :=
  [.badSlot, .badTag, .badCommand, .notAccepting, .tagInUse, .spindleStopped, .queueFull, .timeout, .recovery,
    .driveReset, .endOfTest, .removed]

/-- Quarantine reasons take 1..9 (12.4). -/
def QuarantineReason.code (r : QuarantineReason) : Nat := codeIn QuarantineReason.names r + 1

/-- Recovery reasons take 1..7 (12.4). -/
def RecoveryReason.code (r : RecoveryReason) : Nat := codeIn RecoveryReason.names r + 1

/-- Part codes are F001h..F00Ch (12.2). -/
def PartCode.code (c : PartCode) : Nat := 0xF001 + codeIn PartCode.names c

/-- A name in one byte, by its place in its list. -/
def putName {α : Type} [BEq α] (names : List α) (x : α) : Bytes := putNum 1 (codeIn names x)

end Sys2Proof.Machine
end

