-- ==== Sys2Proof/Machine/Layout.lean ====
section
/-! DEFINITION. How the table entries and the settings lie in bytes, for the requests, the replies and the stored
image (12.4, 12.5), and how they are read back. -/

namespace Sys2Proof.Machine

/-! ### Writing -/

/-- A threshold set in the order of R102. -/
def ThresholdSet.bytes (t : ThresholdSet) : Bytes :=
  putNum 1 t.kf ++ putNum 1 t.kl ++ putNum 2 t.tw ++ putNum 2 t.tf ++ putNum 2 t.h ++ putNum 1 t.nw
    ++ putNum 1 t.nx ++ putNum 1 t.nf ++ putNum 2 t.haltLimit ++ putNum 2 t.ts ++ putNum 1 t.shockHold
    ++ putNum 2 t.watchPenalty ++ putNum 1 t.faultAction

/-- A spin profile: mode code, peak, spin time (R49). -/
def SpinProfile.bytes (p : SpinProfile) : Bytes := putNum 1 p.mode ++ putNum 2 p.peak ++ putNum 1 p.spinTime

/-- A model entry in the order of R49, the reference count last. The places of both lists as they stand (DESIGN CHOICE, log
entry 50). -/
def ModelEntry.bytes (m : ModelEntry) : Bytes :=
  putFlag m.valid ++ m.pattern ++ putNum 1 m.firmwareCount ++ m.firmwarePlaces.flatMap id
    ++ putOpt 6 (putNum 6) m.minCapacity ++ putNum 2 m.standby ++ putNum 2 m.run ++ putNum 2 m.heavyIncrement
    ++ putNum 1 m.profileCount ++ m.profilePlaces.flatMap SpinProfile.bytes ++ putNum 1 m.rundownCode
    ++ putNum 1 m.calibrationCount ++ putNum 2 m.shockPenalty ++ putNum 2 m.reseedPenalty ++ putNum 1 m.binSet
    ++ m.temp.bytes ++ m.curr.bytes ++ m.vibe.bytes ++ m.defr.bytes ++ putNum 1 m.refCount

/-- A classification entry in the order of R120, the match count last. -/
def ClassifyEntry.bytes (e : ClassifyEntry) : Bytes :=
  putFlag e.valid ++ putNum 1 e.statusMatch ++ putNum 2 e.codeValue ++ putNum 2 e.codeMask
    ++ putNum 1 e.commandMatch ++ putNum 1 e.defectClass ++ putNum 1 e.action ++ putNum 2 e.matchCount

/-- A defect class entry in the order of R123. -/
def DefectEntry.bytes (e : DefectEntry) : Bytes := putNum 2 e.weight ++ putFlag e.notice

/-- A bin in the order of R139, fill count and generation last. -/
def Bin.bytes (b : Bin) : Bytes :=
  putName BinKind.names b.kind ++ putNum 2 b.minScore ++ putNum 1 b.maxShocks ++ putNum 1 b.maxShed
    ++ putFlag b.requiresFw ++ putNum 1 b.rank ++ putNum 1 b.capacity ++ putNum 1 b.fill ++ putNum 2 b.generation

/-- An indicator map entry in the order of R19. -/
def IndicatorEntry.bytes (e : IndicatorEntry) : Bytes :=
  putName Condition.names e.condition ++ putName LampPattern.names e.lampA ++ putName LampPattern.names e.lampB
    ++ putFlag e.invert

/-- The event mask: the slot set followed by the part set (12.4). -/
def EventMask.bytes (m : EventMask) : Bytes := putNum 2 m.slot.toNat ++ putNum 1 m.part.toNat

/-- The seventeen settings in the order of 11.2. -/
def Settings.bytes (v : Settings) : Bytes :=
  putNum 1 v.settleTime ++ putNum 2 v.settleReserve ++ putNum 1 v.resetRundown ++ putNum 2 v.lightTimeout
    ++ putNum 2 v.heavyTimeout ++ putNum 1 v.identifyTimeout ++ putNum 1 v.spinDownTimeout
    ++ putNum 2 v.repeatSpinUpTimeout ++ putNum 2 v.overdrawMargin ++ putNum 1 v.restoreDelay
    ++ putFlag v.autoResume ++ putName TickPeriod.names v.tickPeriod ++ putNum 2 v.idleTime ++ v.eventMask.bytes
    ++ putName ReportMode.names v.reportMode ++ putNum 1 v.streamInterval ++ putNum 1 v.reportStation

/-- The settings followed by the budget target (12.4). -/
def settingsBytes (v : Settings) (target : Nat) : Bytes := v.bytes ++ putNum 2 target

/-- The bytes of a model entry. -/
def modelWidth : Nat := 172

/-- The bytes of a classification entry. -/
def classifyWidth : Nat := 11

/-- The bytes of a defect class entry. -/
def defectWidth : Nat := 3

/-- The bytes of a bin. -/
def binWidth : Nat := 11

/-- The bytes of an indicator map entry. -/
def indicatorWidth : Nat := 4

/-- The bytes of the settings and the target. -/
def settingsWidth : Nat := 27

/-! ### Reading -/

/-- Take an optional field off the front: a presence flag and its value, ignored when absent. -/
def getOpt (k : Nat) (bs : Bytes) : Option (Option Nat × Bytes) := do
  let (present, bs) ← getFlag bs
  let (x, bs) ← getNum k bs
  some (if present then some x else none, bs)

/-- Take a threshold set off the front. -/
def getThresholds (bs : Bytes) : Option (ThresholdSet × Bytes) := do
  let (kf, bs) ← getNum 1 bs
  let (kl, bs) ← getNum 1 bs
  let (tw, bs) ← getNum 2 bs
  let (tf, bs) ← getNum 2 bs
  let (h, bs) ← getNum 2 bs
  let (nw, bs) ← getNum 1 bs
  let (nx, bs) ← getNum 1 bs
  let (nf, bs) ← getNum 1 bs
  let (haltLimit, bs) ← getNum 2 bs
  let (ts, bs) ← getNum 2 bs
  let (shockHold, bs) ← getNum 1 bs
  let (watchPenalty, bs) ← getNum 2 bs
  let (faultAction, bs) ← getNum 1 bs
  some (⟨kf, kl, tw, tf, h, nw, nx, nf, haltLimit, ts, shockHold, watchPenalty, faultAction⟩, bs)

/-- Take a spin profile off the front. -/
def getProfile (bs : Bytes) : Option (SpinProfile × Bytes) := do
  let (mode, bs) ← getNum 1 bs
  let (peak, bs) ← getNum 2 bs
  let (spinTime, bs) ← getNum 1 bs
  some (⟨mode, peak, spinTime⟩, bs)

/-- Take a model entry off the front. The reference count is carried and not read: a write keeps it 0 (R61). DESIGN CHOICE (log
entry 50): the unused places of the firmware and profile lists are taken as written, of a valid entry too. -/
def getModel (bs : Bytes) : Option (ModelEntry × Bytes) := do
  let (valid, bs) ← getFlag bs
  let (pattern, bs) ← getBytes 40 bs
  let (firmwareCount, bs) ← getNum 1 bs
  let (firmwarePlaces, bs) ← getMany (getBytes 8) 2 bs
  let (minCapacity, bs) ← getOpt 6 bs
  let (standby, bs) ← getNum 2 bs
  let (run, bs) ← getNum 2 bs
  let (heavyIncrement, bs) ← getNum 2 bs
  let (profileCount, bs) ← getNum 1 bs
  let (profilePlaces, bs) ← getMany getProfile 4 bs
  let (rundownCode, bs) ← getNum 1 bs
  let (calibrationCount, bs) ← getNum 1 bs
  let (shockPenalty, bs) ← getNum 2 bs
  let (reseedPenalty, bs) ← getNum 2 bs
  let (binSet, bs) ← getNum 1 bs
  let (temp, bs) ← getThresholds bs
  let (curr, bs) ← getThresholds bs
  let (vibe, bs) ← getThresholds bs
  let (defr, bs) ← getThresholds bs
  let (_, bs) ← getNum 1 bs
  some (⟨valid, pattern, firmwareCount, firmwarePlaces, minCapacity, standby, run, heavyIncrement, profileCount,
    profilePlaces, rundownCode, calibrationCount, shockPenalty, reseedPenalty, binSet, temp, curr, vibe, defr, 0⟩,
    bs)

/-- Take a classification entry off the front. The match count is carried and not read: it becomes 0 (R120). -/
def getClassify (bs : Bytes) : Option (ClassifyEntry × Bytes) := do
  let (valid, bs) ← getFlag bs
  let (statusMatch, bs) ← getNum 1 bs
  let (codeValue, bs) ← getNum 2 bs
  let (codeMask, bs) ← getNum 2 bs
  let (commandMatch, bs) ← getNum 1 bs
  let (defectClass, bs) ← getNum 1 bs
  let (action, bs) ← getNum 1 bs
  let (_, bs) ← getNum 2 bs
  some (⟨valid, statusMatch, codeValue, codeMask, commandMatch, defectClass, action, 0⟩, bs)

/-- Take a defect class entry off the front. -/
def getDefect (bs : Bytes) : Option (DefectEntry × Bytes) := do
  let (weight, bs) ← getNum 2 bs
  let (notice, bs) ← getFlag bs
  some (⟨weight, notice⟩, bs)

/-- The written fields of a bin as a frame carries them, the kind still a code (R139). -/
structure BinFields where
  kind : Nat
  minScore : Nat
  maxShocks : Nat
  maxShed : Nat
  requiresFw : Bool
  rank : Nat
  capacity : Nat
deriving DecidableEq, Repr

/-- Take a bin off the front. Fill count and generation are carried and not read. -/
def getBin (bs : Bytes) : Option (BinFields × Bytes) := do
  let (kind, bs) ← getNum 1 bs
  let (minScore, bs) ← getNum 2 bs
  let (maxShocks, bs) ← getNum 1 bs
  let (maxShed, bs) ← getNum 1 bs
  let (requiresFw, bs) ← getFlag bs
  let (rank, bs) ← getNum 1 bs
  let (capacity, bs) ← getNum 1 bs
  let (_, bs) ← getNum 1 bs
  let (_, bs) ← getNum 2 bs
  some (⟨kind, minScore, maxShocks, maxShed, requiresFw, rank, capacity⟩, bs)

/-- The fields of an indicator map entry as a frame carries them, still codes (R19). -/
structure IndicatorFields where
  condition : Nat
  lampA : Nat
  lampB : Nat
  invert : Bool
deriving DecidableEq, Repr

/-- Take an indicator map entry off the front. -/
def getIndicator (bs : Bytes) : Option (IndicatorFields × Bytes) := do
  let (condition, bs) ← getNum 1 bs
  let (lampA, bs) ← getNum 1 bs
  let (lampB, bs) ← getNum 1 bs
  let (invert, bs) ← getFlag bs
  some (⟨condition, lampA, lampB, invert⟩, bs)

/-! ### The checks of a write -/

/-- Is a number within a range. -/
def within (lo hi x : Nat) : Bool := decide (lo ≤ x) && decide (x ≤ hi)

/-- A text without its trailing spaces (R50). -/
def trimRight (bs : Bytes) : Bytes := (bs.reverse.dropWhile (· == 0x20)).reverse

/-- Ranges of a threshold set that R61 checks at its third check (R102). Tw, Tf, H and kl are those of the fifth,
as far as it speaks of them; 0 is outside the range of Tw. -/
def ThresholdSet.inRange (t : ThresholdSet) : Bool :=
  within 0 7 t.kf && within 1 65535 t.tw && within 1 15 t.nw && within 1 15 t.nx && within 1 15 t.nf
    && within 1 255 t.shockHold && within 0 1000 t.watchPenalty && within 0 1 t.faultAction

/-- The relations of a threshold set (R61, fifth check). -/
def ThresholdSet.related (t : ThresholdSet) : Bool :=
  within 2 15 t.kl && decide (t.tw < t.tf) && decide (t.h < t.tw)

/-- Is a spin profile within the ranges of R49. -/
def SpinProfile.inRange (p : SpinProfile) : Bool := within 100 4000 p.peak && within 1 120 p.spinTime

/-- Are the fields of a model entry within the ranges of R49 (R61, third check). -/
def ModelEntry.inRange (m : ModelEntry) : Bool :=
  within 0 2 m.firmwareCount && within 0 2000 m.standby && within 0 4000 m.run
    && within 0 4000 m.heavyIncrement && (m.profilePlaces.take m.profileCount).all SpinProfile.inRange
    && within 8 255 m.calibrationCount && within 0 1000 m.shockPenalty && within 0 1000 m.reseedPenalty
    && within 0 3 m.binSet && m.temp.inRange && m.curr.inRange && m.vibe.inRange && m.defr.inRange

/-- The checks of a model entry written valid, in the order of R61 (step 4); `none` when all pass. -/
def modelCheck (settleReserve : Nat) (m : ModelEntry) : RefusalReason :=
  if trimRight m.pattern = [] then .emptyPattern
  else if !within 1 4 m.profileCount then .noProfile
  else if !m.inRange then .fieldRange
  else if settleReserve < m.standby then .standbyAboveReserve
  else if !(m.temp.related && m.curr.related && m.vibe.related && m.defr.related) then .thresholds
  else .none

/-- The checks of a classification entry written valid (R131, step 4). -/
def classifyCheck (e : ClassifyEntry) : RefusalReason :=
  if e.defectClass = 15 then .reservedClass
  else if within 0 6 e.statusMatch && within 0 5 e.commandMatch && within 0 14 e.defectClass && within 0 3 e.action
  then .none
  else .fieldRange

/-- Is the weight of a defect class entry in range (R131, step 5). -/
def DefectEntry.inRange (e : DefectEntry) : Bool := within 0 1000 e.weight

/-- The bin kind and the ranges of R139; none where a field is out of range (R151, third check). Fill count and
generation are those given. -/
def BinFields.toBin (f : BinFields) (fill generation : Nat) : Option Bin :=
  match BinKind.names[f.kind]? with
  | none => none
  | some kind =>
    if within 0 10000 f.minScore && within 0 255 f.maxShocks && within 0 15 f.maxShed && within 0 7 f.rank
        && within 1 255 f.capacity then
      some ⟨kind, f.minScore, f.maxShocks, f.maxShed, f.requiresFw, f.rank, f.capacity, fill, generation⟩
    else none

/-- The indicator map entry; none where the condition or a pattern is unknown (R163). -/
def IndicatorFields.toEntry (f : IndicatorFields) : Option IndicatorEntry := do
  let condition ← Condition.names[f.condition]?
  let lampA ← LampPattern.names[f.lampA]?
  let lampB ← LampPattern.names[f.lampB]?
  some ⟨condition, lampA, lampB, f.invert⟩

end Sys2Proof.Machine
end

