-- ==== Sys2Proof/Machine/Formats.lean ====
section
/-! DEFINITION. The frames the part sends, byte by byte (chapter 12), the transmit arbiter that builds them (R184), and
the stored image (R189). -/

namespace Sys2Proof.Machine

/-! ### Records -/

/-- The identity flags in the order of R52 and R60. -/
def IdentityFlags.bytes (f : IdentityFlags) : Bytes :=
  putFlags 1 [f.fwMismatch, f.capLow, f.declHigh, f.secBlock, f.finalIdMissing]

/-- The security word of 12.3. -/
def SecurityFlags.bytes (f : SecurityFlags) : Bytes :=
  putFlags 2 [f.supported, f.enabled, f.locked, f.frozen, f.expired]

/-- The power requirement word of 12.3: bit 15 valid, bits 0..11 the current. -/
def powerWord : Option Nat → Nat
  | none => 0
  | some x => 0x8000 + x

/-- The identity record: the identity block's bytes 1 to 103 and the last outcome (12.4). -/
def IdentityRecord.bytes (r : IdentityRecord) : Bytes :=
  r.model ++ r.serial ++ r.firmware ++ putNum 6 r.capacity ++ r.security.bytes ++ putNum 2 (powerWord r.power)
    ++ putNum 1 r.extensions.length ++ r.extensions.flatMap (putNum 4)
    ++ List.replicate (4 * (6 - r.extensions.length)) 0 ++ putName IdentifyOutcome.names r.lastOutcome

/-- Rundown time left in ms, or stopped (R164). R164 gives "stopped" no form. DESIGN CHOICE (log entry 23): the time left is
carried as an optional field, absent where the timer is stopped; an expired timer, and one that still runs past its deadline,
has 0 left. -/
def rundownLeft (now : Nat) : Rundown → Option Nat
  | .stopped => none
  | .running t => some (t - now)
  | .expired => some 0

/-- The grade result (R138). -/
def Grade.bytes (g : Grade) : Bytes :=
  putNum 2 g.score ++ putNum 1 g.binSet.val ++ putNum 1 g.position.val ++ putFlag g.forced
    ++ putOpt 4 (putNum 4) g.sequence

/-- The READ-SLOT summary in the order of R164. DESIGN CHOICE (log entry 23): the last forward time is in ms since power-on,
and its 4 bytes carry it modulo 2^32. DESIGN CHOICE (log entry 55): R164 lists the injection list and gives its members no
form; each member carries its command class byte alone, without the causes of a SPIN_DOWN and without the mark of a final
IDENTIFY. -/
def slotSummary (x : Slot) (admission : Option (AdmissionEntry × Nat)) (wait : Option (WaitReason × Nat))
    (now : Nat) : Bytes :=
  putName SlotState.names x.state ++ putOpt 1 (putName SlotState.names) x.recovery.resume
    ++ putOpt 1 (fun r => putNum 1 (QuarantineReason.code r)) x.grading.reason
    -- lines
    ++ putName Presence.names x.lines.presence ++ putFlag x.lines.change ++ putFlag x.lines.powered
    ++ putName Latch.names x.lines.latch ++ putOpt 4 (putNum 4) (rundownLeft now x.lines.rundown)
    ++ putName LampPattern.names x.lines.lampA ++ putName LampPattern.names x.lines.lampB
    -- identity
    ++ putOpt 104 IdentityRecord.bytes x.identity.record ++ putOpt 1 (fun i : Fin 16 => putNum 1 i.val) x.identity.model
    ++ x.identity.flags.bytes
    -- power
    ++ putNum 2 x.power.allocation ++ putName Spindle.names x.power.spindle ++ putOpt 1 (putNum 1) x.power.chosen
    ++ putOpt 1 (putNum 1) x.power.held
    ++ putOpt 5 (fun e : AdmissionEntry × Nat =>
        putName AdmissionKind.names e.1.kind ++ putName Origin.names e.1.origin ++ putNum 1 e.1.skips
          ++ putFlag e.1.blocking ++ putNum 1 e.2) admission
    -- traffic
    ++ putList (fun q : QueuedCmd => putNum 1 q.tag) x.traffic.queue
    ++ putList (fun e : InFlight => putNum 1 e.tag ++ putName CmdClass.names e.cls ++ putName Origin.names e.origin)
        x.inFlightList
    ++ putList (fun i : Injection => putName CmdClass.names i.cls) x.traffic.injections
    ++ putNum 4 x.drift.lastForward
    -- recovery
    ++ putNum 1 x.recovery.episodes ++ putOpt 1 (fun r => putNum 1 (RecoveryReason.code r)) x.recovery.lastReason
    ++ putFlag x.recovery.breakLatch
    -- supply
    ++ putNum 1 x.tallies.shedCount ++ putFlag x.tallies.shedMark
    -- tallies
    ++ x.tallies.counters.toList.flatMap (putNum 2) ++ putNum 2 x.tallies.accumulator ++ putNum 1 x.tallies.badFrames
    ++ putNum 1 x.tallies.goodRun ++ putNum 1 x.tallies.unexpected ++ putNum 1 x.tallies.overdrawRun
    -- samples
    ++ allMetrics.flatMap (fun m => putOpt 2 (putNum 2) (x.filter m).lastRaw) ++ putNum 2 x.drift.peak
    ++ putNum 2 x.drift.mean ++ putNum 4 x.drift.testTicks
    -- grade
    ++ putOpt 10 Grade.bytes x.grading.grade
    ++ putOpt 2 (fun w : WaitReason × Nat => putName WaitReason.names w.1 ++ putNum 1 w.2) wait
    -- events
    ++ putNum 2 x.events.toNat

/-- A filter record in the order of R103. -/
def Filter.bytes (f : Filter) : Bytes :=
  putNum 4 f.f ++ putNum 4 f.l ++ putName MetricState.names f.state ++ putNum 1 f.enter ++ putNum 1 f.exit
    ++ putNum 1 f.fault ++ putNum 2 f.halt ++ putNum 1 f.calReached ++ putNum 1 f.excursion ++ putNum 2 f.watchCount
    ++ putNum 1 f.shocks ++ putNum 1 f.sustained ++ putNum 1 f.reseeds ++ putInt 2 f.maxD
    ++ putOpt 4 (putInt 4) f.lastD ++ putOpt 2 (putNum 2) f.lastRaw ++ putNum 1 f.misses

/-- A filter record with the conditions in force for its metric (R165). -/
def FilterView.bytes (v : FilterView) : Bytes :=
  v.record.bytes ++ putFlags 1 [v.supplyHalt, v.recoveryHalt, v.lost]

/-- The four records, the idle count and the deferral mark, then the four threshold sets (R165). -/
def filterReport (views : List FilterView) (idleCount : Nat) (deferral : Bool) : Bytes :=
  views.flatMap FilterView.bytes ++ putNum 1 idleCount ++ putFlag deferral
    ++ views.flatMap fun v => putOpt 19 ThresholdSet.bytes v.thresholds

/-- The groups of R160 in their order. DESIGN CHOICE (log entry 46): once no sequence number is left (R144) the 4 bytes of
the next one carry 0. -/
def PartStatus.bytes (v : PartStatus) : Bytes :=
  putNum 1 v.events.toNat ++ putName RestartCause.names v.cause ++ putName SupplyState.names v.supply
    ++ putFlag v.warning ++ putNum 2 v.delayLeft ++ putNum 2 v.target ++ putNum 2 v.sum ++ putNum 1 v.admissionCount
    ++ putNum 1 v.manifestCount ++ putOpt 4 (putNum 4) v.lowest ++ putNum 4 v.next ++ putNum 1 v.waiting
    ++ putNum 1 v.noticeCount ++ putName ReportMode.names v.mode ++ putFlag v.saving
    ++ putName ImageState.names v.image ++ putNum 1 v.straps.toNat ++ putNum 2 v.rxErrors ++ putNum 2 v.portBusy
    ++ putNum 2 v.broadcastDiscards ++ putNum 2 v.streamDropped
    ++ v.slots.flatMap fun p => putName SlotState.names p.1 ++ putFlag p.2

/-- A manifest entry, 34 bytes (12.4). -/
def ManifestEntry.bytes (e : ManifestEntry) : Bytes :=
  putNum 4 e.sequence ++ putNum 1 e.slot.val ++ e.serial.getD (List.replicate 20 0)
    ++ putNum 1 ((e.model.map Fin.val).getD 0) ++ putNum 1 e.binSet.val ++ putNum 1 e.position.val
    ++ putNum 2 e.generation ++ putNum 2 e.score
    ++ putFlags 1 [e.forced, e.regraded, e.fwMismatch, e.shed, e.finalIdMissing, e.serial.isSome, e.model.isSome,
        e.reason.isSome]
    ++ putNum 1 ((e.reason.map QuarantineReason.code).getD 0)

/-- The part name, 16 characters (R159). -/
def partName : Bytes := [0x4E, 0x4F, 0x54, 0x41, 0x56, 0x45, 0x4C, 0x20, 0x34, 0x38, 0x30, 0x20, 0x20, 0x20, 0x20, 0x20]

/-- The result fields of a reply as bytes. DESIGN CHOICE (log entry 46): once no sequence number is left (R144) the 4 bytes
of the next one in a READ-MANIFEST reply carry 0. DESIGN CHOICE (log entry 23): the quarantine reason of a QUARANTINE and a
RECOVER reply and the resume state of a RECOVER reply, which always hold a value there (R168, R169), carry no presence
flag. -/
def Results.bytes : Results → Bytes
  | .zeroed before state after =>
    List.replicate before 0
      ++ (match state with
          | none => []
          | some st => putName SlotState.names st)
      ++ List.replicate after 0
  | .empty => []
  | .discover station straps image saving reportStation mode =>
    partName ++ putNum 1 station ++ putNum 1 straps.toNat ++ putNum 1 48 ++ putName ImageState.names image
      ++ putFlag saving ++ putNum 1 reportStation ++ putName ReportMode.names mode
  | .discoverInvalid station straps image =>
    partName ++ putNum 1 station ++ putNum 1 straps.toNat ++ putNum 1 0 ++ putName ImageState.names image
      ++ putNum 3 0
  | .partStatus view => view.bytes
  | .settings values target => settingsBytes values target
  | .budget target sum => putNum 2 target ++ putNum 2 sum
  | .model e => e.bytes
  | .classify e => e.bytes
  | .defect e => e.bytes
  | .bin b => b.bytes
  | .indicator e => e.bytes
  | .slot record admission wait now => slotSummary record admission wait now
  | .filter temp curr vibe defr idleCount deferral => filterReport [temp, curr, vibe, defr] idleCount deferral
  | .startTest state calibration => putName SlotState.names state ++ putNum 1 calibration
  | .endTest state answered draining => putName SlotState.names state ++ putNum 1 answered ++ putNum 1 draining
  | .rebase metrics =>
    metrics.flatMap fun m => putFlag m.1 ++ putNum 1 m.2.1 ++ putName MetricState.names m.2.2
  | .quarantine taken reason state =>
    putFlag taken ++ putNum 1 ((reason.map QuarantineReason.code).getD 0) ++ putName SlotState.names state
  | .recoverStarted state resume episodes =>
    putNum 1 0 ++ putName SlotState.names state ++ putNum 1 ((resume.map (codeIn SlotState.names)).getD 0)
      ++ putNum 1 episodes
  | .recoverLimit reason state =>
    putNum 1 1 ++ putNum 1 ((reason.map QuarantineReason.code).getD 0) ++ putName SlotState.names state
  | .rematch index state =>
    putOpt 1 (fun i : Fin 16 => putNum 1 i.val) index ++ putName SlotState.names state
  | .manifest entries more next => putList ManifestEntry.bytes entries ++ putFlag more ++ putNum 4 next
  | .retire removed held lowest => putNum 1 removed ++ putNum 1 held ++ putOpt 4 (putNum 4) lowest
  | .cartSwap generation fill => putNum 2 generation ++ putNum 1 fill

/-! ### Frames -/

/-- A frame from the part: its source is the strapped station (12.1). -/
def partFrame (s : State) (kind dest : Byte) (payload : Bytes) : RackFrame :=
  ⟨kind, dest, BitVec.ofNat 8 (stationOf s.store.straps), payload⟩

/-- A REPLY (12.4). -/
def replyFrame (s : State) (r : Reply) : RackFrame :=
  partFrame s 4 r.dest
    ([r.tag, r.kind] ++ putName ReplyStatus.names r.status ++ putName RefusalReason.names r.reason ++ r.results.bytes)

/-- The fields a classification appends: presence flags, entry index, defect class, action (12.2, R197). -/
def Classification.bytes (c : Classification) : Bytes :=
  putFlags 1 [c.entry.isSome, c.cls.isSome, true] ++ putNum 1 ((c.entry.map Fin.val).getD 0)
    ++ putNum 1 ((c.cls.map Fin.val).getD 0) ++ putName Action.names c.action

/-- A SLOT_RESP (R197). -/
def responseFrame (s : State) : SlotResponse → RackFrame
  | .drive dest slot tag status code cls payload =>
    partFrame s 2 dest
      ([slot, tag] ++ putName StatusClass.names status ++ putNum 2 code.toNat ++ cls.bytes
        ++ putNum 2 payload.length ++ payload)
  | .partMade dest slot tag code =>
    partFrame s 2 dest
      ([slot, tag] ++ putName StatusClass.names .aborted ++ putNum 2 code.code ++ [0, 0, 0, 0] ++ putNum 2 0)

/-- A NOTICE, built from its source as it stands (R180, 12.5). -/
def noticeFrame (s : State) (src : Source) : RackFrame :=
  partFrame s 5 (BitVec.ofNat 8 s.store.settings.reportStation) <|
    match src with
    | .slot n => putNum 1 n.val ++ putName SlotState.names (s.slot n).state ++ putNum 2 (s.slot n).events.toNat
    | .part =>
      [0xFF, s.notices.part]
        ++ (if s.notices.part.getLsbD PartEvent.restarted.bit then putName RestartCause.names s.notices.cause else [0])
        ++ putName SupplyState.names s.power.supply ++ putNum 1 s.notices.queue.length

/-- One metric of a stream record (12.5). -/
def StreamMetric.bytes (m : StreamMetric) : Bytes :=
  putNum 2 (m.raw.getD 0) ++ putInt 4 (m.lastD.getD 0)
    ++ putNum 1 (codeIn MetricState.names m.state + (if m.raw.isSome then 4 else 0)
        + (if m.lastD.isSome then 8 else 0) + if m.evaluated then 16 else 0)

/-- A stream record, 30 bytes (12.5). -/
def StreamRecord.bytes (r : StreamRecord) : Bytes :=
  putNum 1 r.slot.val ++ putName SlotState.names r.state ++ r.temp.bytes ++ r.curr.bytes ++ r.vibe.bytes
    ++ r.defr.bytes

/-- A STREAM frame (12.5). -/
def streamFrame (s : State) (r : StreamReport) : RackFrame :=
  partFrame s 6 (BitVec.ofNat 8 r.dest)
    (putNum 2 r.number ++ putNum 1 r.records.length ++ r.records.flatMap StreamRecord.bytes)

/-! ### The transmit arbiter -/

/-- Give the transmitter a frame. -/
def transmit (f : RackFrame) (s : State) : State := { s with port := { s.port with transmitting := some f } }

/-- Take the head of the notice queue: it leaves, its frame is built, its source becomes ANNOUNCED (R180), and a LOST
part source takes the place freed (R178). -/
def sendNotice (src : Source) (rest : List Source) (s : State) : State :=
  let s := { s with notices := { s.notices with queue := rest } }
  noticeLeft (setNoticeState src .announced (transmit (noticeFrame s src) s))

/-- The arbiter's choice for an idle transmitter (R184): the head of the first list in class order that is not
empty; with invalid straps, replies only. -/
def arbitrate (s : State) : State :=
  if s.port.transmitting.isSome then s
  else
    match s.port.replies with
    | r :: rest => transmit (replyFrame s r) { s with port := { s.port with replies := rest } }
    | [] =>
      if strapsInvalid s.store.straps then s
      else
        match s.notices.queue with
        | src :: rest => sendNotice src rest s
        | [] =>
          match s.port.responses with
          | r :: rest => transmit (responseFrame s r) { s with port := { s.port with responses := rest } }
          | [] =>
            match s.port.stream with
            | some r => transmit (streamFrame s r) { s with port := { s.port with stream := none } }
            | none => s

/-- The end of a step: the passes that are due, then the arbiter (log entries 6 and 7). -/
def finish (s : State) : State := arbitrate (settlePasses s)

/-! ### The stored image -/

/-- The image without its CRC-32: settings and target, then the tables, kept fields zero (12.5, R189). -/
def imageBody (s : State) : Bytes :=
  settingsBytes s.store.settings s.store.target
    ++ s.tables.models.toList.flatMap (fun m => { m with refCount := 0 }.bytes)
    ++ s.tables.classify.toList.flatMap (fun e => { e with matchCount := 0 }.bytes)
    ++ s.tables.defects.toList.flatMap DefectEntry.bytes
    ++ s.sort.bins.toList.flatMap (fun b => { b with fill := 0, generation := 0 }.bytes)
    ++ s.tables.indicators.toList.flatMap IndicatorEntry.bytes

/-- The image that SAVE-CONFIG hands over (R158, R189). -/
def imageBytes (s : State) : Bytes := withCrc (imageBody s)

end Sys2Proof.Machine
end

