-- ==== Sys2Proof/Machine/Flags.lean ====
section
/-! DEFINITION. Reading an identity block, matching it against the model table, the identity flags and the effective
peaks (12.3, R47..R54). -/

namespace Sys2Proof.Machine

/-- Part of a block. -/
def slice (start len : Nat) (bs : Bytes) : Bytes := (bs.drop start).take len

/-- The identity record of a valid block, its last outcome ACK; none for an invalid block or a payload shorter than
128 bytes (R47, 12.3). -/
def parseIdentity (payload : Bytes) : Option IdentityRecord :=
  if payload.length < 128 ∨ payload.headD 0 ≠ 1 then none
  else
    let security := leNat (slice 75 2 payload)
    let power := leNat (slice 77 2 payload)
    let count := min 6 (leNat (slice 79 1 payload))
    some
      { model := slice 1 40 payload
        serial := slice 41 20 payload
        firmware := slice 61 8 payload
        capacity := leNat (slice 69 6 payload)
        security := ⟨bitOf security 0, bitOf security 1, bitOf security 2, bitOf security 3, bitOf security 4⟩
        power := if bitOf power 15 then some (power % 4096) else none
        extensions := (List.range count).map fun i => leNat (slice (80 + 4 * i) 4 payload)
        lastOutcome := .ack }

/-- Does a pattern match a captured model text (R50). -/
def patternMatches (pattern model : Bytes) : Bool :=
  let text := trimRight pattern
  if text.getLast? = some 0x2A then text.dropLast.isPrefixOf model else trimRight model == text

/-- The match search (R50): the first valid entry that matches. -/
def matchSearch (models : Vector ModelEntry 16) (model : Bytes) : Option (Fin 16) :=
  (List.finRange 16).find? fun i => models[i.val].valid && patternMatches models[i.val].pattern model

/-- The flags that R52 computes, FINAL_ID_MISSING as it stands. -/
def identityFlags (r : IdentityRecord) (entry : Option ModelEntry) (old : IdentityFlags) : IdentityFlags :=
  let secBlock := r.security.enabled || r.security.locked || r.security.expired
  match entry with
  | none => ⟨false, false, false, secBlock, old.finalIdMissing⟩
  | some m =>
    { fwMismatch := !m.firmwareList.isEmpty && !m.firmwareList.contains r.firmware
      capLow := (m.minCapacity.map fun c => decide (r.capacity < c)).getD false
      declHigh :=
        match r.power, smallestPeak (m.profiles.map (·.peak)) with
        | some declared, some peak => decide (peak < declared)
        | _, _ => false
      secBlock := secBlock
      finalIdMissing := old.finalIdMissing }

/-- The effective peaks of a slot bound to an entry (R53); none without an entry. -/
def effectivePeaks (r : IdentityRecord) : Option ModelEntry → List Nat
  | none => []
  | some m => m.profiles.map fun p => max p.peak (r.power.getD 0)

/-- Is the spin-up of the slot granted and not yet ended: the peaks are held (R53; log entry 12). -/
def Slot.peaksHeld (x : Slot) : Bool := x.power.spindle == .spinningUp || x.power.held.isSome

/-- Compute the identity flags and the effective peaks of a slot from its record and its bound entry (R52, R53). -/
def computeIdentity (n : SlotId) (s : State) : State :=
  modSlot n (fun x =>
    match x.identity.record with
    | none => x
    | some r =>
      let flags := identityFlags r (modelOf s x) x.identity.flags
      let peaks := effectivePeaks r (modelOf s x)
      if x.peaksHeld then { x with identity := { x.identity with flags := flags, pendingPeaks := some peaks } }
      else { x with identity := { x.identity with flags := flags, peaks := peaks, pendingPeaks := none } }) s

/-- The power mismatch check fails (R54): the smallest effective peak that the record and the bound entry give is
above the budget target. -/
def powerMismatch (s : State) (x : Slot) : Bool :=
  match x.identity.record, modelOf s x with
  | some r, some m =>
    match smallestPeak (effectivePeaks r (some m)) with
    | some p => decide (s.store.target < p)
    | none => false
  | _, _ => false

/-- Change the reference count of an entry (R51). -/
def countReference (i : Fin 16) (f : Nat → Nat) (s : State) : State :=
  { s with tables.models :=
      s.tables.models.set i.val { s.tables.models[i.val] with refCount := f s.tables.models[i.val].refCount } i.isLt }

/-- Release the binding of a slot (R51). -/
def unbindSlot (n : SlotId) (s : State) : State :=
  match (s.slot n).identity.model with
  | none => s
  | some i => modSlot n (fun x => { x with identity.model := none }) (countReference i (· - 1) s)

/-- Bind an unbound slot to an entry (R51). -/
def bindSlot (n : SlotId) (i : Fin 16) (s : State) : State :=
  modSlot n (fun x => { x with identity.model := some i }) (countReference i (· + 1) s)

end Sys2Proof.Machine
end

