-- ==== Sys2Proof/Machine/Classifier.lean ====
section
/-! DEFINITION. The Classifier: the search of the classification table, the tallies and the defect accumulator
(chapter 7). -/

namespace Sys2Proof.Machine

/-- The largest value of the DEFR accumulator (R128). -/
def accumulatorMax : Nat := 65534

/-- Does a valid entry match a response (R121). `cls` is the command class handed over, absent for a response that
matched no entry in flight. -/
def ClassifyEntry.accepts (e : ClassifyEntry) (status : StatusClass) (code : BitVec 16) (cls : Option CmdClass) : Bool :=
  e.valid
    && (e.statusMatch == 6 || e.statusMatch == codeIn StatusClass.names status)
    && ((code ^^^ BitVec.ofNat 16 e.codeValue) &&& BitVec.ofNat 16 e.codeMask == 0)
    && (e.commandMatch == 5
        || match cls with
           | none => false
           | some c => e.commandMatch == codeIn CmdClass.names c)

/-- The first entry that matches (R121). -/
def classifySearch (table : Vector ClassifyEntry 64) (status : StatusClass) (code : BitVec 16)
    (cls : Option CmdClass) : Option (Fin 64) :=
  (List.finRange 64).find? fun i => table[i.val].accepts status code cls

/-- The defect class of a code 0..14. -/
def classOf (c : Nat) : Fin 16 := ⟨c % 16, Nat.mod_lt _ (by decide)⟩

/-- The action of a code 0..3. -/
def actionOf (c : Nat) : Action := (Action.names[c]?).getD .ignore

/-- The classification of a response (R121, R122). -/
def classification (table : Vector ClassifyEntry 64) (status : StatusClass) (code : BitVec 16)
    (cls : Option CmdClass) : Classification :=
  match classifySearch table status code cls with
  | some i => ⟨some i, some (classOf table[i.val].defectClass), actionOf table[i.val].action⟩
  | none => if status = .good then ⟨none, none, .ignore⟩ else ⟨none, some 14, .countNote⟩

/-- The match count of the first match increments, saturating (R120, R121). -/
def countMatch (entry : Option (Fin 64)) (s : State) : State :=
  match entry with
  | none => s
  | some i =>
    let e := s.tables.classify[i.val]
    let e := { e with matchCount := saturate 65535 (e.matchCount + 1) }
    { s with tables.classify := s.tables.classify.set i.val e i.isLt }

/-- One count of a class (R124, R127, R128): its counter increments and its weight joins the accumulator. -/
def tally (n : SlotId) (c : Fin 16) (s : State) : State :=
  let weight := s.tables.defects[c.val].weight
  modSlot n (fun x =>
    { x with tallies :=
        { x.tallies with
          counters := x.tallies.counters.set c.val (saturate 65535 (x.tallies.counters[c.val] + 1)) c.isLt
          accumulator := saturate accumulatorMax (x.tallies.accumulator + weight) } }) s

/-- Raise DEFECT where a count calls for it (R125). -/
def noteDefect (n : SlotId) (always : Bool) (c : Fin 16) (s : State) : State :=
  if always || s.tables.defects[c.val].notice then raiseSlot n .defect s else s

/-- A part-counted report of a class (R127). -/
def partCount (n : SlotId) (c : Fin 16) (s : State) : State := noteDefect n false c (tally n c s)

/-- Apply an action to the tallies of the slot (R124, R125, R126). -/
def applyAction (n : SlotId) (c : Classification) (s : State) : State :=
  match c.cls, c.action with
  | none, _ | _, .ignore => s
  | some d, .count => noteDefect n false d (tally n d s)
  | some d, .countNote => noteDefect n true d (tally n d s)
  | some d, .quarantine => sendQuarantine n .classified (noteDefect n false d (tally n d s))

/-- Classify a response (R119): the match count, the tallies, DEFECT and the quarantine request. -/
def classify (n : SlotId) (status : StatusClass) (code : BitVec 16) (cls : Option CmdClass) (s : State) :
    State × Classification :=
  let c := classification s.tables.classify status code cls
  (applyAction n c (countMatch c.entry s), c)

end Sys2Proof.Machine
end

