-- ==== Sys2Proof/Machine/Sort.lean ====
section
/-! DEFINITION. The Sort Unit: score, bin selection, room tests, the append and its regrade, the sort-wait list and
its retry passes (chapter 8). -/

namespace Sys2Proof.Machine

/-! ### The score (R137) -/

/-- P_def. -/
def defectPenalty (s : State) (x : Slot) : Nat :=
  ((List.finRange 16).map fun c => s.tables.defects[c.val].weight * x.tallies.counters[c.val]).sum

/-- P_watch: per metric, pw times the whole 64s of WATCH samples. -/
def watchPenalty (m : ModelEntry) (x : Slot) : Nat :=
  (allMetrics.map fun k => (m.thresholds k).watchPenalty * ((x.filter k).watchCount / 64)).sum

/-- The sum of the four metrics' shock counts. -/
def totalShocks (x : Slot) : Nat := (allMetrics.map fun k => (x.filter k).shocks).sum

/-- The sum of the four metrics' reseed counts. -/
def totalReseeds (x : Slot) : Nat := (allMetrics.map fun k => (x.filter k).reseeds).sum

/-- The four penalty sums together. -/
def penaltySum (s : State) (x : Slot) : Nat :=
  defectPenalty s x
    + match modelOf s x with
      | none => 0
      | some m => watchPenalty m x + m.shockPenalty * totalShocks x + m.reseedPenalty * totalReseeds x

/-- The score of an unforced grade. -/
def score (s : State) (x : Slot) : Nat := 10000 - min 10000 (penaltySum s x)

/-- The grade inputs at the hand-over (R136, R146). A recorded reason forces the grade, whose score is 0 (R138). -/
def gradeInputs (s : State) (x : Slot) : GradeInputs :=
  { score := if x.grading.reason.isSome then 0 else score s x
    forced := x.grading.reason.isSome
    reason := x.grading.reason
    shocks := totalShocks x
    shed := x.tallies.shedCount
    fwMismatch := x.identity.flags.fwMismatch
    capLow := x.identity.flags.capLow
    secBlock := x.identity.flags.secBlock
    finalIdMissing := x.identity.flags.finalIdMissing }

/-- The bin set of a slot: its model's, or 0 with no model bound (R138). -/
def binSetOf (s : State) (x : Slot) : Fin 4 :=
  ⟨((modelOf s x).map (·.binSet)).getD 0 % 4, Nat.mod_lt _ (by decide)⟩

/-! ### The selection (R140, R141) -/

/-- Is a bin of position 0..6 eligible for an unforced grade. -/
def eligible (b : Bin) (g : GradeInputs) : Bool :=
  b.kind != .unused && decide (b.minScore ≤ g.score) && (b.maxShocks == 255 || decide (g.shocks ≤ b.maxShocks))
    && (b.maxShed == 15 || decide (g.shed ≤ b.maxShed)) && (!b.requiresFw || !g.fwMismatch)
    && (b.kind != .ship || !(g.fwMismatch || g.capLow || g.secBlock || g.finalIdMissing))

/-- Is bin b preferred to bin c of a lower position: the lower rank, then the higher minimum score. -/
def preferred (b c : Bin) : Bool :=
  decide (b.rank < c.rank) || b.rank == c.rank && decide (c.minScore < b.minScore)

/-- The position selected in a bin set; position 7 for a forced grade or when nothing is eligible. -/
def selectBin (s : State) (set : Fin 4) (g : GradeInputs) : Fin 8 :=
  if g.forced then 7
  else
    (((List.finRange 8).filter fun p => p != 7 && eligible (s.bin set p) g).foldl
      (fun best p =>
        match best with
        | none => some p
        | some q => if preferred (s.bin set p) (s.bin set q) then some p else some q)
      none).getD 7

/-! ### Room (R142) and the append (R142..R145) -/

/-- The serial of a slot, none without an identity record. -/
def serialOf (x : Slot) : Option Bytes := x.identity.record.map (·.serial)

/-- The manifest entry that holds a serial (R144: at most one). -/
def entryWithSerial (s : State) (serial : Option Bytes) : Option ManifestEntry :=
  match serial with
  | none => none
  | some t => s.sort.manifest.find? (·.serial == some t)

/-- Does removing an old entry give a place back in its bin (R145). -/
def givesBack (s : State) (old : ManifestEntry) : Bool :=
  let b := s.bin old.binSet old.position
  b.generation == old.generation && decide (0 < b.fill)

/-- Bin room, after the decrement that a regrade makes on the same bin (R142). -/
def binRoom (s : State) (set : Fin 4) (p : Fin 8) (old : Option ManifestEntry) : Bool :=
  let b := s.bin set p
  let back :=
    match old with
    | some o => if o.binSet = set ∧ o.position = p ∧ givesBack s o then 1 else 0
    | none => 0
  decide (b.fill - back < b.capacity)

/-- Manifest room (R142, R144). -/
def manifestRoom (s : State) (old : Option ManifestEntry) : Bool :=
  (decide (s.sort.manifest.length < Config.manifestDepth) || old.isSome) && decide (s.sort.next ≤ Config.lastSequence)

/-- Replace a bin. -/
def setBin (set : Fin 4) (p : Fin 8) (b : Bin) (s : State) : State :=
  { s with sort.bins := s.sort.bins.set (binIndex set p).val b (binIndex set p).isLt }

/-- Change a bin's fill count. -/
def setFill (set : Fin 4) (p : Fin 8) (f : Nat → Nat) (s : State) : State :=
  setBin set p { s.bin set p with fill := f (s.bin set p).fill } s

/-- Remove the old entry of a regrade, giving its place back where R145 says so. -/
def removeOld (old : ManifestEntry) (s : State) : State :=
  let s' := { s with sort.manifest := s.sort.manifest.filter (·.sequence != old.sequence) }
  if givesBack s old then setFill old.binSet old.position (· - 1) s' else s'

/-- The entry that an append writes (R143). -/
def newEntry (s : State) (n : SlotId) (g : GradeInputs) (set : Fin 4) (p : Fin 8) (regraded : Bool) :
    ManifestEntry :=
  { sequence := s.sort.next
    slot := n
    serial := serialOf (s.slot n)
    model := (s.slot n).identity.model
    binSet := set
    position := p
    generation := (s.bin set p).generation
    score := g.score
    forced := g.forced
    regraded := regraded
    fwMismatch := g.fwMismatch
    shed := decide (1 ≤ g.shed)
    finalIdMissing := g.finalIdMissing
    reason := if g.forced then g.reason else none }

/-- Set the grade result of a slot (R138). -/
def setGrade (n : SlotId) (g : GradeInputs) (set : Fin 4) (p : Fin 8) (sequence : Option Nat) : State → State :=
  modSlot n fun x => { x with grading.grade := some ⟨g.score, set, p, g.forced, sequence⟩ }

/-- Append the manifest entry of a slot (R142): both room tests have passed. -/
def appendEntry (n : SlotId) (g : GradeInputs) (set : Fin 4) (p : Fin 8) (old : Option ManifestEntry) (s : State) :
    State :=
  let s :=
    match old with
    | none => s
    | some o => removeOld o s
  let e := newEntry s n g set p old.isSome
  let s := setFill set p (· + 1) s
  let s := { s with sort := { s.sort with manifest := s.sort.manifest ++ [e], next := s.sort.next + 1
                                          waiting := s.sort.waiting.filter (·.slot != n) } }
  enterParking n (raiseSlot n .graded (setGrade n g set p (some e.sequence) s))

/-- What a selection's room tests come to: the append, with whether it was a regrade, or the wait reason. -/
inductive SortOutcome where
  | made (regrade : Bool)
  | waits (reason : WaitReason)
deriving DecidableEq, Repr

/-- The room tests for a slot and a position (R142, R146). -/
def sortOutcome (s : State) (n : SlotId) (set : Fin 4) (p : Fin 8) : SortOutcome :=
  let old := entryWithSerial s (serialOf (s.slot n))
  if !binRoom s set p old then .waits .binFull
  else if !manifestRoom s old then .waits .manifestFull
  else .made old.isSome

/-- Set the wait reason of a waiting slot, its grade taking the position selected (R146, R147). -/
def keepWaiting (n : SlotId) (w : WaitEntry) (p : Fin 8) (reason : WaitReason) (s : State) : State :=
  let set := ((s.slot n).grading.grade.map (·.binSet)).getD 0
  setGrade n w.inputs set p none
    { s with sort.waiting := s.sort.waiting.map fun v => if v.slot = n then { w with reason := reason } else v }

/-- Examine one waiting slot with its kept inputs (R147): whether it was appended as a regrade, and the state. -/
def serveWaiting (n : SlotId) (w : WaitEntry) (s : State) : Bool × State :=
  let set := ((s.slot n).grading.grade.map (·.binSet)).getD 0
  let p := selectBin s set w.inputs
  match sortOutcome s n set p with
  | .made regrade => (regrade, appendEntry n w.inputs set p (entryWithSerial s (serialOf (s.slot n))) s)
  | .waits reason => (false, keepWaiting n w p reason s)

/-- One walk over the slots that wait, in list order (R147): whether a regrade was appended, and the state. -/
def retryWalk : List SlotId → Bool → State → Bool × State
  | [], again, s => (again, s)
  | n :: rest, again, s =>
    match s.sort.waiting.find? (·.slot == n) with
    | none => retryWalk rest again s
    | some w => retryWalk rest (again || (serveWaiting n w s).1) (serveWaiting n w s).2

/-- Retry passes until one appends no regrade (R147), at most `fuel`. Each regrade serves one of the 48 slots that
can wait, so 49 passes always reach the end (log entry 31). -/
def retryPasses : Nat → State → State
  | 0, s => s
  | fuel + 1, s =>
    let r := retryWalk (s.sort.waiting.map (·.slot)) false s
    if r.1 then retryPasses fuel r.2 else r.2

/-- A retry pass with its repetitions (R147). -/
def retryPass (s : State) : State := retryPasses 49 s

/-- The Sort Unit takes the hand-over of a slot in GRADING (R136): "entry made" or "wait" (R17, R146). -/
def sortSlot (n : SlotId) (s : State) : State :=
  let g := gradeInputs s (s.slot n)
  let set := binSetOf s (s.slot n)
  let p := selectBin s set g
  match sortOutcome s n set p with
  | .made regrade =>
    let s := appendEntry n g set p (entryWithSerial s (serialOf (s.slot n))) s
    if regrade then retryPass s else s
  | .waits reason =>
    let s := setGrade n g set p none s
    let s := { s with sort.waiting := s.sort.waiting ++ [⟨n, reason, g⟩] }
    setState n .sortWait (raiseSlot n .sortWait s)

/-- The forced replacement of a quarantine taken in SORT_WAIT (R148). -/
def replaceForced (n : SlotId) (s : State) : State :=
  match s.sort.waiting.find? (·.slot == n) with
  | none => s
  | some w =>
    let w := { w with inputs := { w.inputs with score := 0, forced := true, reason := (s.slot n).grading.reason } }
    let r := serveWaiting n w s
    if r.1 then retryPass r.2 else r.2

end Sys2Proof.Machine
end

