-- ==== Sys2Proof/Machine/Grading.lean ====
section
/-! DEFINITION. Entering GRADING, the drain, the final identify, the grade point (R133..R136), and taking a quarantine
request (R14..R16). -/

namespace Sys2Proof.Machine

/-- The final IDENTIFY falls due (R135): nothing recorded, not yet due, no server command in flight. -/
def finalIdentifyDue (x : Slot) : Bool :=
  x.grading.reason.isNone && x.grading.finalIdentify == .notDue && !x.serverInFlight

/-- Put the final IDENTIFY in the injection list (R135). -/
def injectFinal (n : SlotId) (s : State) : State :=
  inject n { bareInjection .identify with final := true }
    (modSlot n (fun x => { x with grading.finalIdentify := .due }) s)

/-- The grade point (R136). -/
def gradePoint (x : Slot) : Bool :=
  x.tableEmpty && (x.grading.reason.isSome || x.grading.finalIdentify == .ended)

/-- Send the Sort Unit the hand-over of a slot (R136). -/
def sendHandOver (n : SlotId) (s : State) : State :=
  let s := modSlot n (fun x => { x with grading.handedOver := true }) s
  { s with transit.handOvers := s.transit.handOvers ++ [n] }

/-- What the Slot Engine does in GRADING at entry, at each retirement and at each quarantine (R135, R136): the final
IDENTIFY falls due, the injection list is served, then the grade point is tested (log entry 25). Nothing more is done
after the hand-over. A SPIN_DOWN that the same retirement made due is listed by then and stands first (DESIGN CHOICE, log
entry 51). -/
def gradingProgress (n : SlotId) (s : State) : State :=
  if (s.slot n).state ≠ .grading ∨ (s.slot n).grading.handedOver then s
  else
    let s := if finalIdentifyDue (s.slot n) then injectFinal n s else s
    let s := serveInjections n s
    if gradePoint (s.slot n) then sendHandOver n s else s

/-- The spin-up is orphaned (R38): the spindle is SPINNING_UP and no granted SPIN_UP is in flight, so no response can
end it (log entry 40). -/
def Slot.orphaned (x : Slot) : Bool := x.power.spindle == .spinningUp && !x.grantedSpinUpInFlight

/-- Leave RECOVERING: the break latch clears, the wait and the attempts are over, the resume state is absent
(R12, R15, R40). -/
def endEpisode (n : SlotId) : State → State :=
  modSlot n fun x =>
    { x with recovery := { x.recovery with resume := none, breakLatch := false, attempts := 0, wait := none } }

/-- Enter GRADING (R133; from RECOVERING also R15). -/
def enterGrading (n : SlotId) (s : State) : State :=
  let recovering := (s.slot n).state == .recovering
  let s := answerQueue n .endOfTest s
  let s := unlist n .identify (lapseHeld n (dropAdmission n s))
  let s := if recovering then endEpisode n s else s
  let s := if recovering && (s.slot n).orphaned then injectOrphan n s else s
  let s := modSlot n (fun x => { x with grading := ⟨x.grading.reason, .notDue, false, none⟩ }) s
  gradingProgress n (setState n .grading s)

/-- Is a quarantine request discarded (R14): no drive record, or a reason already recorded. -/
def quarantineDiscarded (x : Slot) : Bool := x.state == .empty || x.state == .settling || x.grading.reason.isSome

/-- A quarantine in GRADING prevents or removes a final IDENTIFY not yet sent, and the grade point is tested (R16,
R135). -/
def quarantineGrading (n : SlotId) (s : State) : State :=
  gradingProgress n (if (s.slot n).grading.handedOver then s else unlist n .identify s)

/-- Take a quarantine request (R14): the first reason is recorded and takes the effect that R15 or R16 gives. -/
def takeQuarantine (n : SlotId) (r : QuarantineReason) (s : State) : State :=
  if quarantineDiscarded (s.slot n) then s
  else
    let s := modSlot n (fun x => { x with grading.reason := some r }) s
    let s := relamp n (raiseSlot n .quarantine s)
    match (s.slot n).state with
    | .powerWait | .identifying | .unmatched | .ready | .calibrating | .burning | .recovering => enterGrading n s
    | .grading => quarantineGrading n s
    | .sortWait => replaceForced n s
    | .parking | .sorted | .empty | .settling => s

end Sys2Proof.Machine
end

