-- ==== Sys2Proof/Machine/Lines.lean ====
section
/-! DEFINITION. The meanings of the commands of the slot lines and the slot timers (R3, R4, R13, R18, R21). -/

namespace Sys2Proof.Machine

/-! ### Presence -/

/-- Change the lines of a slot. -/
def modLines (n : SlotId) (f : SlotLines → SlotLines) : State → State := modSlot n fun x => { x with lines := f x.lines }

/-- SETTLING starts (R3). A running rundown timer keeps running. -/
def startSettling (n : SlotId) (s : State) : State :=
  setState n .settling <|
    modLines n (fun l => { l with latch := .locked, settle := some (s.now + s.store.settings.settleTime * 1000) }) s

/-- The presence line is asserted (R3, R4). -/
def assertPresence (n : SlotId) (s : State) : State :=
  let s := modLines n (fun l => { l with line := true }) s
  match (s.slot n).state with
  | .empty => startSettling n s
  | .settling => s
  | _ => modLines n (fun l => { l with removal := none }) s

/-- SETTLING ends without a drive (R3): the latch opens when the rundown timer has expired. -/
def abandonSettling (n : SlotId) (s : State) : State :=
  setState n .empty <|
    modLines n (fun l =>
      { l with settle := none, latch := if l.rundown = .expired then .opened else l.latch }) s

/-- The presence line is deasserted (R3, R4). A removal check that already runs goes on. -/
def deassertPresence (n : SlotId) (s : State) : State :=
  let s := modLines n (fun l => { l with line := false }) s
  match (s.slot n).state with
  | .empty => s
  | .settling => abandonSettling n s
  | _ => modLines n (fun l => { l with removal := some (l.removal.getD (s.now + Config.removalCheckMs)) }) s

/-- The settle timer has expired with the line asserted (R3). -/
def endSettling (n : SlotId) (s : State) : State :=
  let s := modLines n (fun l => { l with presence := .present, change := true, settle := none }) s
  joinAdmission n .slotPower .part (setState n .powerWait (raiseSlot n .inserted s))

/-- PRESENCE_ASSERT. -/
def execPresenceAssert (n : SlotId) (s : State) : Host.Outcome State Fault Refusal := .next (assertPresence n s)

/-- PRESENCE_DEASSERT. -/
def execPresenceDeassert (n : SlotId) (s : State) : Host.Outcome State Fault Refusal := .next (deassertPresence n s)

/-- SETTLE_TIMER_EXPIRY (R3). -/
def execSettleTimerExpiry (n : SlotId) (s : State) : Host.Outcome State Fault Refusal :=
  let l := (s.slot n).lines
  match l.settle with
  | some t => .next (if (s.slot n).state = .settling ∧ l.line = true then finish (endSettling n (reach t s)) else s)
  | none => .next s

/-! ### Removal -/

/-- Messages in transit for a slot find it EMPTY and are discarded (R21). -/
def dropTransit (n : SlotId) (s : State) : State :=
  { s with transit :=
      { quarantines := s.transit.quarantines.filter (·.1 != n)
        calibrations := s.transit.calibrations.filter (· != n)
        handOvers := s.transit.handOvers.filter (· != n) } }

/-- The cleared record after a removal (R2, R21): the pending event set, its notice state and the presence line stay,
the presence-change flag is set, the rundown is complete and the latch OPEN. -/
def removedSlot (now : Nat) (x : Slot) : Slot :=
  let y := clearedSlot now .expired .opened (x.lines.lampA, x.lines.lampB)
  { y with lines := { y.lines with line := x.lines.line, change := true }
           events := x.events
           notice := x.notice }

/-- The removal (R21), in the order of its steps. -/
def takeRemoval (n : SlotId) (s : State) : State :=
  let sorted := (s.slot n).state == .sorted
  let s := clearTable n (answerInFlight n .removed (answerQueue n .removed s))
  let s := dropAdmission n s
  let s := { s with sort := { s.sort with waiting := s.sort.waiting.filter (·.slot != n) } }
  let s := unbindSlot n (powerOff n s)
  let s := raiseSlot n (if sorted then .removed else .pulledEarly) s
  relamp n (modSlot n (removedSlot s.now) (dropTransit n s))

/-- REMOVAL_CHECK_END (R4, R21). -/
def execRemovalCheckEnd (n : SlotId) (s : State) : Host.Outcome State Fault Refusal :=
  let l := (s.slot n).lines
  match l.removal with
  | some t =>
    .next
      (if (s.slot n).state ≠ .empty ∧ (s.slot n).state ≠ .settling ∧ l.line = false then
        finish (takeRemoval n (reach t s))
      else s)
  | none => .next s

/-! ### Rundown and parking -/

/-- The rundown timer expires (R13). In a state other than PARKING and EMPTY it is marked expired and the latch stays
as it is. -/
def endRundown (n : SlotId) (s : State) : State :=
  let s := modLines n (fun l => { l with rundown := .expired }) s
  match (s.slot n).state with
  | .parking => raiseSlot n .sorted (setState n .sorted (modLines n (fun l => { l with latch := .opened }) s))
  | .empty => modLines n (fun l => { l with latch := .opened }) s
  | _ => s

/-- RUNDOWN_TIMER_EXPIRY (R13). -/
def execRundownTimerExpiry (n : SlotId) (s : State) : Host.Outcome State Fault Refusal :=
  match (s.slot n).lines.rundown with
  | .running t => .next (arbitrate (endRundown n (reach t s)))
  | .stopped | .expired => .next s

/-- Retire every SPIN_DOWN in flight (R18). -/
def retireSpinDowns (n : SlotId) (s : State) : State :=
  (List.finRange 4).foldl
    (fun s k => if ((s.slot n).traffic.inFlight[k.val].map (·.cls == .spinDown)).getD false then retireEntry n k s else s)
    s

/-- Keep the tags of the SPIN_DOWNs in flight, and the time: their responses may have reached them too (R18). -/
def noteLate (n : SlotId) (s : State) : State :=
  modSlot n (fun x =>
    { x with lines.late := (x.inFlightList.filter (·.cls == .spinDown)).map fun e => (e.tag, s.now) }) s

/-- PARK_TIMER_EXPIRY (R18). -/
def execParkTimerExpiry (n : SlotId) (s : State) : Host.Outcome State Fault Refusal :=
  match (s.slot n).lines.park with
  | some t =>
    .next (if (s.slot n).state = .parking then finish (spinDownEnd n (retireSpinDowns n (noteLate n (reach t s)))) else s)
  | none => .next s

end Sys2Proof.Machine
end

