-- ==== Sys2Proof/Machine/Operands.lean ====
section
/-! DEFINITION. The operands of the requests (12.4, chapter 9): what each kind carries, and the readers of step 1 of
R157. A reader answers none where the length does not fit the kind or a name is not one of its list. -/

namespace Sys2Proof.Machine

/-- Read a whole operand string: the reader takes all of it. -/
def readAll {α : Type} (read : Bytes → Option (α × Bytes)) (bs : Bytes) : Option α :=
  match read bs with
  | some (x, []) => some x
  | _ => none

/-! ### Settings -/

/-- The bytes of a setting's value, by identifier 1..17 (11.2, 12.4); none for another identifier. -/
def settingWidth (id : Nat) : Option Nat :=
  match id with
  | 1 | 3 | 6 | 7 | 10 | 11 | 12 | 15 | 16 | 17 => some 1
  | 2 | 4 | 5 | 8 | 9 | 13 => some 2
  | 14 => some 3
  | _ => none

/-- The range of a setting (11.2); names by their codes. -/
def settingRange (id : Nat) : Nat × Nat :=
  match id with
  | 1 => (1, 10)
  | 2 => (200, 2000)
  | 3 => (1, 120)
  | 4 => (1, 600)
  | 5 => (60, 7200)
  | 6 => (1, 60)
  | 7 => (5, 120)
  | 8 => (10, 300)
  | 9 => (0, 2000)
  | 10 => (1, 60)
  | 11 => (0, 1)
  | 12 => (0, 3)
  | 13 => (5, 600)
  | 14 => (0, 0xFFFFFF)
  | 15 => (0, 1)
  | 16 => (1, 255)
  | 17 => (1, 63)
  | _ => (1, 0)

/-- Is a value in its setting's range. -/
def settingOk (p : Nat × Nat) : Bool := within (settingRange p.1).1 (settingRange p.1).2 p.2

/-- The event mask of three bytes (12.4). -/
def maskOf (x : Nat) : EventMask := ⟨BitVec.ofNat 16 x, BitVec.ofNat 8 (x / 65536)⟩

/-- Write one setting. -/
def writeSetting (v : Settings) (p : Nat × Nat) : Settings :=
  match p.1 with
  | 1 => { v with settleTime := p.2 }
  | 2 => { v with settleReserve := p.2 }
  | 3 => { v with resetRundown := p.2 }
  | 4 => { v with lightTimeout := p.2 }
  | 5 => { v with heavyTimeout := p.2 }
  | 6 => { v with identifyTimeout := p.2 }
  | 7 => { v with spinDownTimeout := p.2 }
  | 8 => { v with repeatSpinUpTimeout := p.2 }
  | 9 => { v with overdrawMargin := p.2 }
  | 10 => { v with restoreDelay := p.2 }
  | 11 => { v with autoResume := p.2 == 1 }
  | 12 => { v with tickPeriod := (TickPeriod.names[p.2]?).getD v.tickPeriod }
  | 13 => { v with idleTime := p.2 }
  | 14 => { v with eventMask := maskOf p.2 }
  | 15 => { v with reportMode := (ReportMode.names[p.2]?).getD v.reportMode }
  | 16 => { v with streamInterval := p.2 }
  | 17 => { v with reportStation := p.2 }
  | _ => v

/-- The range of the budget target (R63). -/
def targetOk (x : Nat) : Bool := within 1000 60000 x

/-- Take a setting identifier and its value off the front. -/
def getPair (bs : Bytes) : Option ((Nat × Nat) × Bytes) := do
  let (id, bs) ← getNum 1 bs
  let width ← settingWidth id
  let (value, bs) ← getNum width bs
  some ((id, value), bs)

/-- The list of WRITE-SETTINGS (R161): 1..17 pairs, known identifiers, none named twice. -/
def readPairs (bs : Bytes) : Option (List (Nat × Nat)) := do
  let (count, bs) ← getNum 1 bs
  let pairs ← readAll (getMany getPair count) bs
  if within 1 17 count && (pairs.map Prod.fst).Nodup then some pairs else none

/-! ### Names -/

/-- Table names (12.4). -/
inductive TableName where
  | model | classify | defect | bin | indicator
deriving DecidableEq, Repr

/-- The table of a code: MODEL 1 to INDICATOR 5. -/
def TableName.ofCode : Nat → Option TableName
  | 1 => some .model
  | 2 => some .classify
  | 3 => some .defect
  | 4 => some .bin
  | 5 => some .indicator
  | _ => none

/-- The bytes of a table's entry. -/
def TableName.width : TableName → Nat
  | .model => modelWidth
  | .classify => classifyWidth
  | .defect => defectWidth
  | .bin => binWidth
  | .indicator => indicatorWidth

/-- The metrics that a metric name names (12.4): TEMP 0 to DEFR 3, ALL 4. -/
def metricsOf : Nat → Option (List Metric)
  | 0 => some [.temp]
  | 1 => some [.curr]
  | 2 => some [.vibe]
  | 3 => some [.defr]
  | 4 => some allMetricNames
  | _ => none
where
  allMetricNames : List Metric := [.temp, .curr, .vibe, .defr]

/-! ### Readers, one per request -/

/-- No operands. -/
def readNothing (bs : Bytes) : Option Unit := if bs = [] then some () else none

/-- SET-BUDGET: the target, 2 bytes. -/
def readTarget : Bytes → Option Nat := readAll (getNum 2)

/-- A slot alone. -/
def readSlotOnly : Bytes → Option Nat := readAll (getNum 1)

/-- READ-SLOT: the slot and the acknowledge flag. -/
def readSlotAck : Bytes → Option (Nat × Bool) :=
  readAll fun bs => do
    let (slot, bs) ← getNum 1 bs
    let (ack, bs) ← getFlag bs
    some ((slot, ack), bs)

/-- REBASE: the slot and the metric name. -/
def readRebase : Bytes → Option (Nat × List Metric) :=
  readAll fun bs => do
    let (slot, bs) ← getNum 1 bs
    let (name, bs) ← getNum 1 bs
    let metrics ← metricsOf name
    some ((slot, metrics), bs)

/-- READ-MANIFEST: sequence number and count. -/
def readRange : Bytes → Option (Nat × Nat) :=
  readAll fun bs => do
    let (s, bs) ← getNum 4 bs
    let (c, bs) ← getNum 1 bs
    some ((s, c), bs)

/-- RETIRE-MANIFEST: a sequence number. -/
def readSequence : Bytes → Option Nat := readAll (getNum 4)

/-- CART-SWAP: bin set and position. -/
def readPlace : Bytes → Option (Nat × Nat) :=
  readAll fun bs => do
    let (set, bs) ← getNum 1 bs
    let (position, bs) ← getNum 1 bs
    some ((set, position), bs)

/-- A table entry with its index in front. -/
def getIndexed {α : Type} (read : Bytes → Option (α × Bytes)) (bs : Bytes) : Option ((Nat × α) × Bytes) := do
  let (index, bs) ← getNum 1 bs
  let (e, bs) ← read bs
  some ((index, e), bs)

/-- LOAD-TABLE MODEL, behind the table name. -/
def readLoadModel : Bytes → Option (Nat × ModelEntry) := readAll (getIndexed getModel)

/-- LOAD-TABLE CLASSIFY, behind the table name. -/
def readLoadClassify : Bytes → Option (Nat × ClassifyEntry) := readAll (getIndexed getClassify)

/-- LOAD-TABLE DEFECT, behind the table name. -/
def readLoadDefect : Bytes → Option (Nat × DefectEntry) := readAll (getIndexed getDefect)

/-- LOAD-TABLE BIN, behind the table name: bin set, position and the bin. -/
def readLoadBin : Bytes → Option (Nat × Nat × BinFields) := readAll (getIndexed (getIndexed getBin))

/-- LOAD-TABLE INDICATOR, behind the table name. -/
def readLoadIndicator : Bytes → Option (Nat × IndicatorFields) := readAll (getIndexed getIndicator)

/-- READ-TABLE: the table name and its entry operand, a bin set and position for BIN. -/
def readTableOperand (bs : Bytes) : Option (TableName × Nat × Nat) := do
  let (code, bs) ← getNum 1 bs
  let table ← TableName.ofCode code
  match table with
  | .bin =>
    let (set, position) ← readPlace bs
    some (table, set, position)
  | .model | .classify | .defect | .indicator =>
    let index ← readSlotOnly bs
    some (table, index, 0)

/-- The table name of a LOAD-TABLE. -/
def loadedTable (operands : Bytes) : Option TableName := (operands.head?.bind fun b => TableName.ofCode b.toNat)

/-- Do the operands of a LOAD-TABLE fit (R157, step 1). -/
def loadFits (operands : Bytes) : Bool :=
  match loadedTable operands with
  | none => false
  | some .model => (readLoadModel operands.tail).isSome
  | some .classify => (readLoadClassify operands.tail).isSome
  | some .defect => (readLoadDefect operands.tail).isSome
  | some .bin => (readLoadBin operands.tail).isSome
  | some .indicator => (readLoadIndicator operands.tail).isSome

/-- Step 1 of R157: a known kind, a length that fits it, and known names. -/
def requestFits (kind : Byte) (operands : Bytes) : Bool :=
  match kind.toNat with
  | 0x01 | 0x02 | 0x03 | 0x08 | 0x14 => (readNothing operands).isSome
  | 0x04 => (readPairs operands).isSome
  | 0x05 => (readTarget operands).isSome
  | 0x06 => loadFits operands
  | 0x07 => (readTableOperand operands).isSome
  | 0x09 => (readSlotAck operands).isSome
  | 0x0A | 0x0B | 0x0C | 0x0E | 0x0F | 0x10 => (readSlotOnly operands).isSome
  | 0x0D => (readRebase operands).isSome
  | 0x11 => (readRange operands).isSome
  | 0x12 => (readSequence operands).isSome
  | 0x13 => (readPlace operands).isSome
  | _ => false

/-- The bytes of the result fields of a reply that is not OK, by kind (R156; log entry 23). DESIGN CHOICE (log entry 23): of the two
forms of RECOVER's OK reply (R169) a refused RECOVER takes that of STARTED, 4 bytes. -/
def zeroWidth (kind : Byte) (operands : Bytes) : Nat :=
  match kind.toNat with
  | 0x01 => 23
  | 0x02 => 131
  | 0x03 | 0x04 => settingsWidth
  | 0x05 => 4
  | 0x06 | 0x07 => ((loadedTable operands).map TableName.width).getD 0
  | 0x09 => 224
  | 0x0A => 214
  | 0x0B => 2
  | 0x0C => 3
  | 0x0D => 12
  | 0x0E => 3
  | 0x0F => 4
  | 0x10 => 3
  | 0x11 => 6
  | 0x12 => 7
  | 0x13 => 3
  | _ => 0

end Sys2Proof.Machine
end

