-- ==== Sys2Proof/Machine/RackLink.lean ====
section
/-! DEFINITION. The meanings of the commands of the rack link: frames that arrive, and the end of a frame sent
(R24, R25, R155, R184, R187). -/

namespace Sys2Proof.Machine

/-- RACK_FRAME_BAD (R155, R196); with invalid straps the frame is discarded uncounted (R155, R187). -/
def execRackFrameBad (_frame : Bytes) (s : State) : Host.Outcome State Fault Refusal :=
  .next
    (if strapsInvalid s.store.straps then s
    else { s with port := { s.port with rxErrors := saturate 65535 (s.port.rxErrors + 1) } })

/-! ### SLOT_CMD -/

/-- The command class of a frame, none for a code outside 0..4 (12.2). -/
def frameClass (payload : Bytes) : Option CmdClass := CmdClass.names[(payload.getD 2 0).toNat]?

/-- The drive command of a frame: what follows the header. -/
def frameData (payload : Bytes) : Bytes := payload.drop 5

/-- The class of a frame that passes check 2 of R25: a known class, a length field that agrees, 1..512 bytes, and
2 at least for SPIN_UP. -/
def frameCommand (payload : Bytes) : Option CmdClass :=
  match frameClass payload with
  | none => none
  | some c =>
    if leNat (slice 3 2 payload) = (frameData payload).length ∧ within 1 512 (frameData payload).length = true
        ∧ (c = .spinUp → 2 ≤ (frameData payload).length) then some c
    else none

/-- Is a tag queued or in flight. -/
def Slot.holdsTag (x : Slot) (tag : Nat) : Bool :=
  x.traffic.queue.any (·.tag == tag) || (x.entryWithTag tag).isSome

/-- The checks of R25 in their order: the part code of the first that fails, or the class accepted. -/
def checkCommand (x : Slot) (tag : Nat) (cls : Option CmdClass) : Except PartCode CmdClass :=
  if 27 < tag then .error .badTag
  else
    match cls with
    | none => .error .badCommand
    | some c =>
      if !x.state.accepts c then .error .notAccepting
      else if x.holdsTag tag then .error .tagInUse
      else if c = .heavy ∧ x.power.spindle = .stopped then .error .spindleStopped
      else if Config.slotQueueDepth ≤ x.traffic.queue.length then .error .queueFull
      else .ok c

/-- A frame joins the tail of the slot command queue (R25, R26). -/
def queueCommand (n : SlotId) (q : QueuedCmd) : State → State :=
  modSlot n fun x => { x with traffic := { x.traffic with queue := x.traffic.queue ++ [q] } }

/-- The Slot Engine takes a SLOT_CMD frame (R25); one that joins an empty queue is considered at once (R29). -/
def takeSlotCmd (n : SlotId) (source : Byte) (payload : Bytes) (s : State) : State :=
  let tag := (payload.getD 1 0).toNat
  match checkCommand (s.slot n) tag (frameCommand payload) with
  | .error code => answerPart source n tag code s
  | .ok c =>
    let s' := queueCommand n ⟨tag, c, frameData payload, source⟩ s
    if (s.slot n).traffic.queue = [] then serveSlot n s' else s'

/-- The Port hands a SLOT_CMD on, or answers BAD_SLOT, with slot and tag as received (R24, R197). -/
def portSlotCmd (source : Byte) (payload : Bytes) (s : State) : State :=
  if h : (payload.getD 0 0).toNat < 48 then takeSlotCmd ⟨(payload.getD 0 0).toNat, h⟩ source payload s
  else pushResponse (.partMade source (payload.getD 0 0) (payload.getD 1 0) .badSlot) s

/-- SLOT_CMD (R24, R25). A frame to another station, or under invalid straps, is discarded uncounted. -/
def execSlotCmd (dest source : Byte) (payload : Bytes) (s : State) : Host.Outcome State Fault Refusal :=
  .next
    (if strapsInvalid s.store.straps = false ∧ dest.toNat = stationOf s.store.straps then
      finish (portSlotCmd source payload s)
    else s)

/-! ### REQUEST_RECEIVED -/

/-- Answer BUSY at once to a request that finds the queue full (R155). -/
def portBusy (source tag kind : Byte) (operands : Bytes) (s : State) : State :=
  pushReply ⟨source, tag, kind, .busy, .none, .zeroed 0 none (zeroWidth kind operands)⟩
    { s with port := { s.port with portBusy := saturate 65535 (s.port.portBusy + 1) } }

/-- Place a request in the queue, or answer BUSY (R155). -/
def placeRequest (source tag kind : Byte) (operands : Bytes) (s : State) : State :=
  if s.port.requests.length < Config.requestQueueDepth then
    { s with port := { s.port with requests := s.port.requests ++ [⟨source, tag, kind, operands⟩] } }
  else portBusy source tag kind operands s

/-- The kind code of DISCOVER (12.4). -/
def discoverKind : Byte := 0x01

/-- Is a request to be placed: to the part's station, or a broadcast DISCOVER; with invalid straps a DISCOVER only
(R155, R187). -/
def takesRequest (straps : BitVec 8) (dest kind : Byte) : Bool :=
  let toPart := decide (dest.toNat = stationOf straps)
  if strapsInvalid straps then (dest == 0 || toPart) && kind == discoverKind
  else toPart || (dest == 0 && kind == discoverKind)

/-- REQUEST_RECEIVED (R155). -/
def execRequestReceived (dest source : Byte) (payload : Bytes) (s : State) : Host.Outcome State Fault Refusal :=
  let tag := payload.getD 0 0
  let kind := payload.getD 1 0
  .next
    (if takesRequest s.store.straps dest kind then
      arbitrate (placeRequest source tag kind (payload.drop 2) s)
    else if strapsInvalid s.store.straps = false ∧ dest = 0 then
      { s with port := { s.port with broadcastDiscards := saturate 65535 (s.port.broadcastDiscards + 1) } }
    else s)

/-! ### TRANSMIT_COMPLETE -/

/-- A reply has been sent: one reply fewer before the soft reset (R174). -/
def countReply (f : RackFrame) (s : State) : State :=
  if f.kind = 4 then { s with port := { s.port with resetAwaits := s.port.resetAwaits.map (· - 1) } } else s

/-- TRANSMIT_COMPLETE (R184). -/
def execTransmitComplete (s : State) : Host.Outcome State Fault Refusal :=
  match s.port.transmitting with
  | none => .next s
  | some f => .next (arbitrate (countReply f { s with port := { s.port with transmitting := none } }))

end Sys2Proof.Machine
end

