-- ==== Sys2Proof/Machine/Drift.lean ====
section
/-! DEFINITION. The Drift Unit: the filter stages, a sample of a metric, a slot's sample, the overdraw comparison
(chapter 6, R82, R83). -/

namespace Sys2Proof.Machine

/-! ### The stages (R104..R113), on one filter record -/

/-- Stage 1 (R105): F moves toward the sample by a 2^kf-th of the distance, truncated toward zero. -/
def stage1 (kf x : Nat) (f : Filter) : Filter :=
  { f with f := ((f.f : Int) + ((x * 256 : Nat) - (f.f : Int)).tdiv (2 ^ kf)).toNat }

/-- Stage 2 (R105): in CLEAR, L moves toward F by a 2^kl-th of the distance, truncated toward zero. -/
def stage2 (kl : Nat) (f : Filter) : Filter :=
  if f.state = .clear then { f with l := ((f.l : Int) + ((f.f : Int) - (f.l : Int)).tdiv (2 ^ kl)).toNat } else f

/-- The deviation D (R106), truncated toward zero. -/
def deviation (f : Filter) : Int := ((f.f : Int) - (f.l : Int)).tdiv 256

/-- Stage 3 (R106): D is kept as the last D. -/
def stage3 (f : Filter) : Filter := { f with lastD := some (deviation f) }

/-- Set the enter, exit, fault and halt counters to 0. -/
def clearCounters (f : Filter) : Filter := { f with enter := 0, exit := 0, fault := 0, halt := 0 }

/-- A reseed (R113): L becomes F, the state CLEAR, the counters 0; a counted one raises the reseed count. -/
def reseed (counted : Bool) (f : Filter) : Filter :=
  let f := clearCounters { f with l := f.f, state := .clear }
  if counted then { f with reseeds := saturate 255 (f.reseeds + 1) } else f

/-- What a sample of a metric brings: the record, the events raised, and whether the fault action asks for a
quarantine. -/
structure StageResult where
  record : Filter
  raised : List SlotEvent
  quarantine : Bool
deriving DecidableEq, Repr

/-- Stage 4 in CLEAR (R107). -/
def stageClear (t : ThresholdSet) (d : Int) (f : Filter) : StageResult :=
  if (t.tw : Int) ≤ d then
    if t.nw ≤ f.enter + 1 then ⟨clearCounters { f with state := .watch }, [.watch], false⟩
    else ⟨{ f with enter := f.enter + 1 }, [], false⟩
  else ⟨{ f with enter := 0 }, [], false⟩

/-- Stage 4 in WATCH (R108), from step 4: the halt counter and its limit. -/
def watchHalt (t : ThresholdSet) (f : Filter) : StageResult :=
  let f := { f with halt := saturate 65535 (f.halt + 1) }
  if t.haltLimit ≠ 0 ∧ t.haltLimit ≤ f.halt then ⟨reseed true f, [], false⟩ else ⟨f, [], false⟩

/-- Stage 4 in WATCH (R108), from step 3: the exit counter. -/
def watchExit (t : ThresholdSet) (d : Int) (f : Filter) : StageResult :=
  if d < (t.tw : Int) - t.h then
    if t.nx ≤ f.exit + 1 then ⟨clearCounters { f with state := .clear }, [], false⟩
    else watchHalt t { f with exit := f.exit + 1 }
  else watchHalt t { f with exit := 0 }

/-- Stage 4 in WATCH (R108, R109). Fault action 1 is QUARANTINE. -/
def stageWatch (t : ThresholdSet) (d : Int) (f : Filter) : StageResult :=
  let f := { f with watchCount := saturate 65535 (f.watchCount + 1) }
  if (t.tf : Int) ≤ d then
    if t.nf ≤ f.fault + 1 then ⟨clearCounters { f with state := .fault }, [.fault], t.faultAction == 1⟩
    else watchExit t d { f with fault := f.fault + 1 }
  else watchExit t d { f with fault := 0 }

/-- Stage 4 (R107..R109): nothing in FAULT. -/
def stage4 (t : ThresholdSet) (d : Int) (f : Filter) : StageResult :=
  match f.state with
  | .clear => stageClear t d f
  | .watch => stageWatch t d f
  | .fault | .calibrating => ⟨f, [], false⟩

/-- Stage 5 (R110): the excursion of the raw sample above L. DESIGN CHOICE (log entry 45): with shock hold 255 a run
saturated at 255 is of exactly the shock hold, and is counted a shock. -/
def stage5 (t : ThresholdSet) (x : Nat) (f : Filter) : Filter × List SlotEvent :=
  if 0 < t.ts ∧ (t.ts : Int) ≤ (x : Int) - (f.l / 256 : Nat) then
    ({ f with excursion := saturate 255 (f.excursion + 1) }, [])
  else if f.excursion = 0 then (f, [])
  else if f.excursion ≤ t.shockHold then
    ({ f with excursion := 0, shocks := saturate 255 (f.shocks + 1) }, [.shock])
  else ({ f with excursion := 0, sustained := saturate 255 (f.sustained + 1) }, [])

/-- Stage 6 (R106): maximum D. -/
def stage6 (d : Int) (f : Filter) : Filter := if f.maxD < d then { f with maxD := d } else f

/-- The calibration step (R112), ending at the model's calibration count with an uncounted reseed. -/
def calibrationStep (kf count x : Nat) (f : Filter) : Filter :=
  let f := stage1 kf x f
  let f := { f with l := f.f, calReached := saturate 255 (f.calReached + 1) }
  if count ≤ f.calReached then reseed false f else f

/-- All stages of an evaluated, unhalted metric in CLEAR, WATCH or FAULT (R104, last row). -/
def runStages (t : ThresholdSet) (x : Nat) (f : Filter) : StageResult :=
  let f := stage3 (stage2 t.kl (stage1 t.kf x f))
  let d := deviation f
  let r := stage4 t d f
  let (g, shock) := stage5 t x r.record
  ⟨stage6 d g, r.raised ++ shock, r.quarantine⟩

/-- A sample of an evaluated metric that has a value and is not lost (R104). -/
def evaluate (t : ThresholdSet) (count : Nat) (halted : Bool) (x : Nat) (f : Filter) : StageResult :=
  if halted then ⟨stage3 (stage1 t.kf x f), [], false⟩
  else if f.state = .calibrating then ⟨calibrationStep t.kf count x f, [], false⟩
  else runStages t x f

/-- Start of calibration (R111). -/
def startCalibration (f : Filter) : Filter :=
  let level := (f.lastRaw.map (· * 256)).getD 0
  { clearFilter with f := level, l := level, lastRaw := f.lastRaw, misses := f.misses }

/-! ### A sample of one metric of a slot -/

/-- Is a metric lost (R100). -/
def Filter.lost (f : Filter) : Bool := decide (Config.lostAt ≤ f.misses)

/-- The reading "sensor unavailable" (R100). -/
def unavailable : Nat := 65535

/-- Take a reading into the record (R99, R100): the last raw value and the miss count. -/
def takeReading (reading : Nat) (f : Filter) : Filter :=
  if reading = unavailable then { f with misses := saturate 255 (f.misses + 1) }
  else { f with misses := 0, lastRaw := some reading }

/-- Does a reading make the metric lost now (R100). -/
def losesNow (reading : Nat) (f : Filter) : Bool := reading == unavailable && f.misses + 1 == Config.lostAt

/-- The supply halt (R90, R115): from reset or onset to the return to NORMAL. -/
def supplyHalt (s : State) : Bool := s.power.supply != .normal

/-- The recovery halt (R116). -/
def recoveryHalt (x : Slot) (m : Metric) : Bool :=
  (m == .curr || m == .vibe) && x.state == .recovering && x.testRunning

/-- Will the metric's sample run stage 1 or a calibration step (R96, R104, R183): evaluated, not lost, with a value.
The record is the one after the reading. -/
def runsStages (x : Slot) (f : Filter) : Bool := x.testRunning && !f.lost && f.lastRaw.isSome

/-- Raise a list of slot events in order. -/
def raiseAll (n : SlotId) (es : List SlotEvent) (s : State) : State := es.foldl (fun s e => raiseSlot n e s) s

/-- Evaluate a metric with its last raw value (R104). -/
def evaluateMetric (n : SlotId) (m : Metric) (s : State) : State :=
  let x := s.slot n
  match modelOf s x, (x.filter m).lastRaw with
  | some entry, some v =>
    let r := evaluate (entry.thresholds m) entry.calibrationCount (supplyHalt s || recoveryHalt x m) v (x.filter m)
    let s := raiseAll n r.raised (modSlot n (fun x => x.setFilter m r.record) s)
    if r.quarantine then sendQuarantine n .metricFault s else s
  | _, _ => s

/-- Peak and mean current (R101). -/
def takeCurrent (v : Nat) (x : Slot) : Slot :=
  { x with drift := { x.drift with peak := max x.drift.peak v
                                   mean := ((x.drift.mean : Int) + ((v : Int) - x.drift.mean).tdiv 16).toNat } }

/-- The overdraw comparison of a valid CURR sample (R82, R83). -/
def compareOverdraw (n : SlotId) (v : Nat) (s : State) : State :=
  let x := s.slot n
  let limit := x.power.allocation + s.store.settings.overdrawMargin
  let was := x.tallies.overdrawRun
  let run := if limit < v then saturate 255 (was + 1) else 0
  let s := modSlot n (fun x => { x with tallies.overdrawRun := run }) s
  if was = 1 ∧ run = 2 then partCount n 13 (raiseSlot n .overdraw s)
  else if was = 7 ∧ run = 8 then sendQuarantine n .overdraw s
  else s

/-- One metric of a sample, given its reading (R99..R104); CURR also gives the current figures and the overdraw
comparison when its reading is valid. -/
def sampleMetric (n : SlotId) (m : Metric) (reading : Nat) (s : State) : State :=
  let lost := losesNow reading ((s.slot n).filter m)
  let s := modSlot n (fun x => x.setFilter m (takeReading reading (x.filter m))) s
  let s := if lost then raiseSlot n .sensorLost s else s
  let s := if runsStages (s.slot n) ((s.slot n).filter m) then evaluateMetric n m s else s
  if m = .curr ∧ reading ≠ unavailable then compareOverdraw n reading (modSlot n (takeCurrent reading) s) else s

/-! ### A sample of a slot -/

/-- What the sensor block reads for a metric; the DEFR value is given (R99). -/
def readingOf (v : SensorReading) (defr : Nat) : Metric → Nat
  | .temp => v.temp.toNat
  | .curr => v.curr.toNat
  | .vibe => v.vibe.toNat
  | .defr => defr

/-- Is some metric of the slot still calibrating. -/
def Slot.calibrating (x : Slot) : Bool := x.anyMetric .calibrating

/-- The states of the four metrics. -/
def Slot.metricStates (x : Slot) : List MetricState := allMetrics.map fun m => (x.filter m).state

/-- After a sample: lamps follow a changed metric state (R20), and the calibration-complete report is sent when the
last metric has left CALIBRATING (R112). -/
def afterSample (n : SlotId) (before : Slot) (s : State) : State :=
  let s := if (s.slot n).metricStates = before.metricStates then s else relamp n s
  if before.calibrating && !(s.slot n).calibrating then
    { s with transit := { s.transit with calibrations := s.transit.calibrations ++ [n] } }
  else s

/-- A sample of some metrics of a slot, in the order given (R99). A sample that reads DEFR takes the accumulator
first (log entry 18). -/
def sampleMetrics (n : SlotId) (metrics : List Metric) (v : SensorReading) (s : State) : State :=
  let before := s.slot n
  let defr := before.tallies.accumulator
  let s := if .defr ∈ metrics then modSlot n (fun x => { x with tallies.accumulator := 0 }) s else s
  afterSample n before (metrics.foldl (fun s m => sampleMetric n m (readingOf v defr m) s) s)

/-- The deferred sample (R98): when the spindle leaves SPINNING_UP with the mark set and slot power ON. -/
def deferredSample (n : SlotId) (v : SensorReading) (s : State) : State :=
  let x := s.slot n
  if x.lines.powered && x.drift.deferral && x.power.spindle != .spinningUp then
    sampleMetrics n [.curr, .vibe] v (modSlot n (fun x => { x with drift.deferral := false }) s)
  else s

/-- The metrics a due slot reads at a tick (R98). -/
def dueMetrics (x : Slot) : List Metric := if x.power.spindle = .spinningUp then [.temp, .defr] else allMetrics

/-- A due slot's sample at a tick (R96, R98). -/
def sampleSlot (n : SlotId) (v : SensorReading) (s : State) : State :=
  let s := if (s.slot n).power.spindle = .spinningUp then modSlot n (fun x => { x with drift.deferral := true }) s else s
  sampleMetrics n (dueMetrics (s.slot n)) v s

/-- Is the slot idle at a time (R97). -/
def isIdle (s : State) (x : Slot) : Bool :=
  x.state.inTest && decide (x.drift.lastForward + s.store.settings.idleTime * 1000 ≤ s.now)

/-- Is the slot due at this tick (R96, R97). -/
def isDue (s : State) (x : Slot) : Bool := x.lines.powered && (!isIdle s x || x.drift.idleCount == 7)

/-- The idle count after this tick (R97): it counts skipped ticks, and is 0 in every other case. -/
def idleAfter (s : State) (x : Slot) : Nat := if x.lines.powered && isIdle s x && x.drift.idleCount != 7 then x.drift.idleCount + 1 else 0

/-- One metric of a stream record: what this tick's sample of the metric left (R183). -/
def streamMetric (before after : Slot) (m : Metric) : StreamMetric :=
  let f := after.filter m
  { raw := f.lastRaw
    lastD := f.lastD
    state := f.state
    evaluated := (dueMetrics before).contains m && runsStages after f }

/-- The stream record of a slot (R183). -/
def streamRecord (n : SlotId) (before after : Slot) : StreamRecord :=
  ⟨n, after.state, streamMetric before after .temp, streamMetric before after .curr, streamMetric before after .vibe,
    streamMetric before after .defr⟩

/-- The tick at one slot (R10, R96, R97): test elapsed ticks, the idle count, the sample if due. Answers with the
record a stream report would list. -/
def tickSlot (n : SlotId) (v : SensorReading) (s : State) : Option StreamRecord × State :=
  let x := s.slot n
  let ticks := if x.testRunning then saturate 4294967295 (x.drift.testTicks + 1) else x.drift.testTicks
  let s' := modSlot n (fun y => { y with drift := { y.drift with testTicks := ticks, idleCount := idleAfter s x } }) s
  if isDue s x then
    let s' := sampleSlot n v s'
    (some (streamRecord n x (s'.slot n)), s')
  else (none, s')

end Sys2Proof.Machine
end

