-- ==== Sys2Proof/Machine/Store.lean ====
section
/-! DEFINITION. The Configuration Store: loading the image, starting the blocks at the two resets, and the save
(chapter 11, R22, R23, R84, R118, R132, R153, R154, R185). -/

namespace Sys2Proof.Machine

/-! ### The image -/

/-- What an image gives (R191): every value checked and replaced where it fails. -/
structure Image where
  settings : Settings
  target : Nat
  tables : Tables
  bins : Vector Bin 32
deriving DecidableEq, Repr

/-- Take the values of the given settings off the front, in order. -/
def getSettings : List Nat → Bytes → Option (List (Nat × Nat) × Bytes)
  | [], bs => some ([], bs)
  | id :: ids, bs => do
    let width ← settingWidth id
    let (value, bs) ← getNum width bs
    let (rest, bs) ← getSettings ids bs
    some ((id, value) :: rest, bs)

/-- The settings of an image: a value out of its range is the default (R191). -/
def loadSettings (tick : TickPeriod) (pairs : List (Nat × Nat)) : Settings :=
  (pairs.filter settingOk).foldl writeSetting (defaultSettings tick)

/-- A model entry of an image (R191): valid only when it passes the checks of a write. -/
def loadModel (settleReserve : Nat) (m : ModelEntry) : ModelEntry :=
  { m with valid := m.valid && modelCheck settleReserve m == .none }

/-- A classification entry of an image (R191). -/
def loadClassify (e : ClassifyEntry) : ClassifyEntry := { e with valid := e.valid && classifyCheck e == .none }

/-- A defect class entry of an image (R191). -/
def loadDefect (e : DefectEntry) : DefectEntry := if e.inRange then e else blankDefect

/-- A bin of an image (R153, R191): the default bin where a range fails; kind REJECT at position 7. DESIGN CHOICE (log entry
47): a kind code that is none of the four fails the range at position 7 too. -/
def loadBin (i : Nat) (f : BinFields) : Bin :=
  match f.toBin 0 0 with
  | none => blankBin i
  | some b => if i % 8 = 7 then { b with kind := .reject } else b

/-- An indicator map entry of an image (R191). -/
def loadIndicator (f : IndicatorFields) : IndicatorEntry := f.toEntry.getD blankIndicator

/-- Read an image without its CRC-32, in the order of 12.5. -/
def decodeImage (tick : TickPeriod) (bs : Bytes) : Option Image := do
  let (pairs, bs) ← getSettings ((List.range 17).map (· + 1)) bs
  let (target, bs) ← getNum 2 bs
  let (models, bs) ← getMany getModel 16 bs
  let (classify, bs) ← getMany getClassify 64 bs
  let (defects, bs) ← getMany getDefect 16 bs
  let (bins, bs) ← getMany getBin 32 bs
  let (indicators, bs) ← getMany getIndicator 16 bs
  let settings := loadSettings tick pairs
  if bs = [] then
    some
      { settings := settings
        target := if targetOk target then target else defaultTarget
        tables :=
          { models := Vector.ofFn fun i : Fin 16 => (models[i.val]?.map (loadModel settings.settleReserve)).getD blankModel
            classify := Vector.ofFn fun i : Fin 64 => (classify[i.val]?.map loadClassify).getD blankClassify
            defects := Vector.ofFn fun i : Fin 16 => (defects[i.val]?.map loadDefect).getD blankDefect
            indicators := Vector.ofFn fun i : Fin 16 => (indicators[i.val]?.map loadIndicator).getD blankIndicator }
        bins := Vector.ofFn fun i : Fin 32 => (bins[i.val]?.map (loadBin i.val)).getD (blankBin i.val) }
  else none

/-- What a start without an image gives (R188, R190). -/
def blankImage (tick : TickPeriod) : Image :=
  { settings := defaultSettings tick
    target := defaultTarget
    tables := { models := Vector.replicate 16 blankModel, classify := Vector.replicate 64 blankClassify
                defects := Vector.replicate 16 blankDefect, indicators := Vector.replicate 16 blankIndicator }
    bins := Vector.ofFn fun i : Fin 32 => blankBin i }

/-- Read the flash (R189, R190): none where it does not answer or its image fails the check. -/
def readFlash (answers : Bool) (flash : Option Bytes) (tick : TickPeriod) : Option Image :=
  match flash with
  | none => none
  | some bs => if answers && crcPasses bs then decodeImage tick (bs.take (bs.length - 4)) else none

/-! ### Starting the blocks -/

/-- The slot record after a reset (R22, R23): cleared, latch LOCKED, rundown running with the reset rundown setting.
The presence line is an input and stands as it is; asserted, it is taken as in EMPTY, and the slot is in SETTLING with
its settle timer running (R3, R195; log entry 21). -/
def resetSlot (now rundown settle : Nat) (x : Slot) : Slot :=
  let y := clearedSlot now (.running (now + rundown * 1000)) .locked (.off, .off)
  { y with state := if x.lines.line then .settling else .empty
           lines := { y.lines with line := x.lines.line
                                   settle := if x.lines.line then some (now + settle * 1000) else none } }

/-- The Power Admission Unit after a reset (R84, R85). -/
def resetPower (warning : Bool) (now delay : Nat) : PowerUnit :=
  { queue := []
    supply := if warning then .warning else .restoring
    warning := warning
    restore := if warning then none else some (now + delay * 1000)
    passDue := false }

/-- The Notice Unit after a reset, before RESTARTED is raised (R185). -/
def resetNotices (cause : RestartCause) : NoticeUnit :=
  { part := 0, cause := cause, partState := .quiet, queue := [], streamCount := 0, streamNumber := 0 }

/-- Start every block at a time with what the Store, the tables, the Sort Unit and the Port hold after the reset, and
raise RESTARTED and, where the warning is asserted, SUPPLY_WARN (R85, R185). -/
def startBlocks (cause : RestartCause) (warning : Bool) (now : Nat) (store : Store) (tables : Tables)
    (sort : SortUnit) (port : Port) (s : State) : State :=
  let s :=
    { s with now := now
             lampStart := now
             tickAt := now + tickMs store.settings.tickPeriod
             slots := s.slots.map (resetSlot now store.settings.resetRundown store.settings.settleTime)
             port := port
             tables := tables
             power := resetPower warning now store.settings.restoreDelay
             sort := sort
             notices := resetNotices cause
             store := store
             transit := { quarantines := [], calibrations := [], handOvers := [] } }
  let s := raisePart .restarted (forSlots relamp s)
  if warning then raiseSupplyWarn s else s

/-- The Port after a power-on reset (R155, R194). -/
def emptyPort : Port :=
  { requests := [], replies := [], responses := [], stream := none, transmitting := none, rxErrors := 0
    portBusy := 0, broadcastDiscards := 0, streamDropped := 0, resetAwaits := none }

/-- Power-on reset (R186, R190, R194). -/
def powerOn (straps : BitVec 8) (warning answers : Bool) (s : State) : State :=
  let image := readFlash answers s.store.flash (tickDefault straps)
  let chosen := if loadsFlash straps then image.getD (blankImage (tickDefault straps)) else blankImage (tickDefault straps)
  let store : Store :=
    { straps := straps, settings := chosen.settings, target := chosen.target
      image := if image.isSome then .good else .bad
      flash := s.store.flash, save := none }
  let sort : SortUnit := { bins := chosen.bins, manifest := [], next := 1, waiting := [] }
  let s := startBlocks .powerOn warning 0 store chosen.tables sort emptyPort { s with sent := [] }
  let s := if strapsInvalid straps then raisePart .strapInvalid s else s
  let s := if loadsFlash straps && image.isNone then raisePart .imageBad s else s
  arbitrate s

/-- The tables at the soft reset: contents kept, reference counts and match counts 0 (R51, R132, R195). -/
def resetCounts (t : Tables) : Tables :=
  { t with models := t.models.map fun m => { m with refCount := 0 }
           classify := t.classify.map fun e => { e with matchCount := 0 } }

/-- The soft reset (R174, R195, and each chapter's part): replies, responses and the frame being sent stay. -/
def softReset (s : State) : State :=
  let port := { s.port with requests := [], stream := none, rxErrors := 0, portBusy := 0, broadcastDiscards := 0
                            streamDropped := 0, resetAwaits := none }
  arbitrate
    (startBlocks .requested s.power.warning s.now s.store (resetCounts s.tables) { s.sort with waiting := [] } port s)

/-! ### The save (R158, R192) -/

/-- A save begins: the image state is WRITING, and from now on the old image is gone (log entry 27). -/
def beginSave (s : State) : State :=
  { s with store := { s.store with image := .writing, flash := none
                                   save := some ⟨.erase, imageBytes s, s.now + Config.saveLimitMs⟩ } }

/-- Move a save on to its next stage. -/
def saveStage (from_ to_ : SaveStage) (s : State) : State :=
  match s.store.save with
  | some v => if v.stage = from_ then { s with store := { s.store with save := some { v with stage := to_ } } } else s
  | none => s

/-- A save ends well (R192). -/
def saveGood (v : Save) (s : State) : State :=
  raisePart .saveDone { s with store := { s.store with image := .good, flash := some v.image, save := none } }

/-- A save fails (R192). -/
def saveBad (s : State) : State :=
  raisePart .saveFailed { s with store := { s.store with image := .bad, flash := none, save := none } }

end Sys2Proof.Machine
end

