-- ==== Sys2Proof/Machine/Requests.lean ====
section
/-! DEFINITION. How the Request Unit takes a request and answers it, and the meanings of the part requests (R156..R162,
R174). -/

namespace Sys2Proof.Machine

/-! ### Taking and answering -/

/-- Answer a request (R156). -/
def answer (q : QueuedRequest) (status : ReplyStatus) (reason : RefusalReason) (results : Results) : State → State :=
  pushReply ⟨q.source, q.tag, q.kind, status, reason, results⟩

/-- Answer OK. -/
def answerOk (q : QueuedRequest) (results : Results) : State → State := answer q .ok .none results

/-- Answer a failed check: no effect, results zero (R156, R157). -/
def refuse (q : QueuedRequest) (status : ReplyStatus) : State → State :=
  answer q status .none (.zeroed 0 none (zeroWidth q.kind q.operands))

/-- Answer TABLE_REFUSED with the reason of the check (R157). -/
def refuseTable (q : QueuedRequest) (reason : RefusalReason) : State → State :=
  answer q .tableRefused reason (.zeroed 0 none (zeroWidth q.kind q.operands))

/-- Answer WRONG_STATE with the slot's state as it stood, at its place among the results (R157; log entry 23). -/
def refuseState (q : QueuedRequest) (before after : Nat) (x : Slot) : State → State :=
  answer q .wrongState .none (.zeroed before (some x.state) after)

/-- The Request Unit takes the head of the request queue and executes it, if it is one this command executes
(R156; log entry 4). It takes none from RESET-PART to the soft reset (R174). -/
def serveHead (mine : QueuedRequest → Bool) (execute : QueuedRequest → State → State) (s : State) : State :=
  match s.port.resetAwaits, s.port.requests with
  | none, q :: rest =>
    if mine q then finish (execute q { s with port := { s.port with requests := rest } }) else s
  | _, _ => s

/-- Serve a request of one kind. -/
def serveKind (kind : Byte) (execute : QueuedRequest → State → State) (s : State) : State :=
  serveHead (·.kind == kind) execute s

/-- Serve a LOAD-TABLE of one table. -/
def serveLoad (table : TableName) (execute : QueuedRequest → State → State) (s : State) : State :=
  serveHead (fun q => q.kind == 0x06 && loadedTable q.operands == some table) execute s

/-- Step 1 of R157: the operands, or BAD_REQUEST. -/
def withOperands {α : Type} (read : Bytes → Option α) (q : QueuedRequest) (f : α → State → State) (s : State) : State :=
  match read q.operands with
  | none => refuse q .badRequest s
  | some v => f v s

/-- Step 2 of R157 for the kinds that conflict with a save: BUSY while one is in flight (R158). -/
def unlessSaving (q : QueuedRequest) (f : State → State) (s : State) : State :=
  if s.store.save.isSome then refuse q .busy s else f s

/-- Step 3 of R157: the slot, or BAD_SLOT. -/
def withSlot (n : Nat) (q : QueuedRequest) (f : SlotId → State → State) (s : State) : State :=
  if h : n < 48 then f ⟨n, h⟩ s else refuse q .badSlot s

/-- Step 4 of R157: an index below a bound, or BAD_REQUEST. -/
def withIndex (bound i : Nat) (q : QueuedRequest) (f : Fin bound → State → State) (s : State) : State :=
  if h : i < bound then f ⟨i, h⟩ s else refuse q .badRequest s

/-! ### DISCOVER, READ-PART-STATUS -/

/-- The effect of DISCOVER (R159). -/
def discover (q : QueuedRequest) (s : State) : State :=
  let st := s.store
  if strapsInvalid st.straps then
    answer q .strapInvalid .none (.discoverInvalid (stationOf st.straps) st.straps st.image) s
  else
    answerOk q
      (.discover (stationOf st.straps) st.straps st.image st.save.isSome st.settings.reportStation
        st.settings.reportMode) s

/-- DISCOVER. -/
def execDiscover (s : State) : Host.Outcome State Fault Refusal :=
  .next (serveKind 0x01 (fun q => withOperands readNothing q fun _ => discover q) s)

/-- The state of the part as R160 reports it. The cause is reported with RESTARTED. The next sequence number is the counter
as it stands, 2^32 once none is left (DESIGN CHOICE, log entry 46). -/
def partStatus (s : State) : PartStatus :=
  { events := s.notices.part
    cause := if s.notices.part.getLsbD PartEvent.restarted.bit then s.notices.cause else .powerOn
    supply := s.power.supply
    warning := s.power.warning
    delayLeft := (s.power.restore.map (timeLeft s)).getD 0
    target := s.store.target
    sum := allocationSum s
    admissionCount := s.power.queue.length
    manifestCount := s.sort.manifest.length
    lowest := s.sort.manifest.head?.map (·.sequence)
    next := s.sort.next
    waiting := s.sort.waiting.length
    noticeCount := s.notices.queue.length
    mode := s.store.settings.reportMode
    saving := s.store.save.isSome
    image := s.store.image
    straps := s.store.straps
    rxErrors := s.port.rxErrors
    portBusy := s.port.portBusy
    broadcastDiscards := s.port.broadcastDiscards
    streamDropped := s.port.streamDropped
    slots := allSlots.map fun n => ((s.slot n).state, unmaskedSlot s n != 0) }

/-- The effect of READ-PART-STATUS (R160, R181): an acknowledged read of the part event set. DESIGN CHOICE (log entry 52): the
reply's notice count is the one before this read withdraws the part notice. -/
def readPart (q : QueuedRequest) (s : State) : State :=
  let s' := answerOk q (.partStatus (partStatus s)) s
  settleNotice .part { s' with notices := { s'.notices with part := 0 } }

/-- READ_PART_STATUS. -/
def execReadPartStatus (s : State) : Host.Outcome State Fault Refusal :=
  .next (serveKind 0x02 (fun q => withOperands readNothing q fun _ => readPart q) s)

/-! ### Settings and budget -/

/-- READ_SETTINGS (R161). -/
def execReadSettings (s : State) : Host.Outcome State Fault Refusal :=
  .next
    (serveKind 0x03
      (fun q => withOperands readNothing q fun _ s => answerOk q (.settings s.store.settings s.store.target) s) s)

/-- Would a settle reserve stand below the standby current of a valid model entry (R62). -/
def belowStandby (s : State) (reserve : Nat) : Bool :=
  s.tables.models.toList.any fun m => m.valid && decide (reserve < m.standby)

/-- The checks of a list of settings (R161): every range, then the settle reserve. -/
def settingsCheck (s : State) (pairs : List (Nat × Nat)) : RefusalReason :=
  if !pairs.all settingOk then .fieldRange
  else if pairs.any (fun p => p.1 == 2 && belowStandby s p.2) then .standbyAboveReserve
  else .none

/-- Write a list of settings in one change (R161). The mask moves notices (R176); a report mode written sets the
stream count to 0 (R182). -/
def putSettings (pairs : List (Nat × Nat)) (s : State) : State :=
  let new := pairs.foldl writeSetting s.store.settings
  let s' := { s with store := { s.store with settings := { new with eventMask := s.store.settings.eventMask } } }
  let s' := changeMask new.eventMask s'
  if pairs.any (·.1 == 15) then { s' with notices := { s'.notices with streamCount := 0 } } else s'

/-- The effect of WRITE-SETTINGS (R161). -/
def writeList (q : QueuedRequest) (pairs : List (Nat × Nat)) (s : State) : State :=
  match settingsCheck s pairs with
  | .none =>
    let s := putSettings pairs s
    answerOk q (.settings s.store.settings s.store.target) s
  | reason => refuseTable q reason s

/-- WRITE_SETTINGS. -/
def execWriteSettings (s : State) : Host.Outcome State Fault Refusal :=
  .next (serveKind 0x04 (fun q => withOperands readPairs q fun pairs => unlessSaving q (writeList q pairs)) s)

/-- The effect of SET-BUDGET (R63, R162): a rise runs a pass, after the reply is built. -/
def putTarget (q : QueuedRequest) (target : Nat) (s : State) : State :=
  if targetOk target then
    let rise := decide (s.store.target < target)
    let s := { s with store := { s.store with target := target }
                      power := { s.power with passDue := s.power.passDue || rise } }
    answerOk q (.budget target (allocationSum s)) s
  else refuseTable q .fieldRange s

/-- SET_BUDGET. -/
def execSetBudget (s : State) : Host.Outcome State Fault Refusal :=
  .next (serveKind 0x05 (fun q => withOperands readTarget q (putTarget q)) s)

/-! ### RESET-PART and the requests the part does not know -/

/-- How many replies are handed over and not yet wholly sent. -/
def unsentReplies (s : State) : Nat :=
  s.port.replies.length + if (s.port.transmitting.map (·.kind == 4)).getD false then 1 else 0

/-- The effect of RESET-PART (R174): the reply; the soft reset waits for it and every reply before it. -/
def resetPart (q : QueuedRequest) (s : State) : State :=
  let s := answerOk q .empty s
  { s with port := { s.port with resetAwaits := some (unsentReplies s) } }

/-- RESET_PART. -/
def execResetPart (s : State) : Host.Outcome State Fault Refusal :=
  .next (serveKind 0x14 (fun q => withOperands readNothing q fun _ => resetPart q) s)

/-- UNKNOWN_REQUEST_KIND (R157, step 1). -/
def execUnknownRequestKind (s : State) : Host.Outcome State Fault Refusal :=
  .next (serveHead (fun q => !requestFits q.kind q.operands) (fun q => refuse q .badRequest) s)

end Sys2Proof.Machine
end

