-- ==== Sys2Proof/Machine/Resets.lean ====
section
/-! DEFINITION. The meanings of POWER_ON_RESET and SOFT_RESET. -/

namespace Sys2Proof.Machine

/-- POWER_ON_RESET (R194). -/
def execPowerOnReset (straps : BitVec 8) (warning flashAnswers : Bool) (s : State) :
    Host.Outcome State Fault Refusal :=
  .next (powerOn straps warning flashAnswers s)

/-- SOFT_RESET (R174): taken once RESET-PART's reply and every reply before it have been sent. -/
def execSoftReset (s : State) : Host.Outcome State Fault Refusal :=
  .next (if s.port.resetAwaits = some 0 then softReset s else s)

end Sys2Proof.Machine
end

