-- ==== Sys2Proof/Machine/Recovery.lean ====
section
/-! DEFINITION. The recovery episode: its start, its attempts, its success (R43..R45). -/

namespace Sys2Proof.Machine

/-- An attempt begins (R44): a link reset goes out and the link-ready wait of 10 s starts. -/
def beginAttempt (n : SlotId) (s : State) : State :=
  sendLink n .linkReset
    (modSlot n (fun x =>
      { x with recovery := { x.recovery with attempts := x.recovery.attempts + 1
                                             wait := some (s.now + Config.linkReadyWaitMs) } }) s)

/-- Empty the injection list; a held grant lapses with its SPIN_UP (R43, R80). -/
def emptyInjections (n : SlotId) (s : State) : State :=
  modSlot n (fun x => { x with traffic.injections := [] }) (lapseHeld n s)

/-- An episode begins (R43): one change. -/
def beginEpisode (n : SlotId) (r : RecoveryReason) (s : State) : State :=
  let from_ := (s.slot n).state
  let s := modSlot n (fun x =>
    { x with recovery := { x.recovery with lastReason := some r, resume := some from_, attempts := 0 } }) s
  let s := clearTable n (answerInFlight n .recovery s)
  let s := dropAdmission n (emptyInjections n s)
  beginAttempt n (setState n .recovering (raiseSlot n .recovery s))

/-- A recovery falls due (R43): nothing in a state that allows none (R42); at the limit the slot is quarantined. -/
def startRecovery (n : SlotId) (r : RecoveryReason) (s : State) : State :=
  if !(s.slot n).state.allowsRecovery then s
  else if Config.episodeLimit ≤ (s.slot n).recovery.episodes then takeQuarantine n .recoveryLimit s
  else beginEpisode n r s

/-- Clear the link counters and count the episode (R45). -/
def countEpisode (x : Slot) : Slot :=
  { x with tallies := { x.tallies with badFrames := 0, goodRun := 0, unexpected := 0 }
           recovery.episodes := x.recovery.episodes + 1 }

/-- The injection list after a recovery (R45): IDENTIFY for a slot resumed into IDENTIFYING, SPIN_DOWN for a spindle
SPINNING_DOWN or an orphaned spin-up. -/
def refillInjections (n : SlotId) (s : State) : State :=
  let s := if (s.slot n).state = .identifying then inject n (bareInjection .identify) s else s
  match (s.slot n).power.spindle with
  | .spinningDown => inject n { bareInjection .spinDown with recovery := true } s
  | .spinningUp => injectOrphan n s
  | .stopped | .spinning => s

/-- The episode succeeds (R45). The shed condition is checked on leaving RECOVERING (R88). -/
def recoverySuccess (n : SlotId) (s : State) : State :=
  let back := ((s.slot n).recovery.resume).getD .ready
  let s := partCount n 15 (modSlot n countEpisode s)
  let s := setState n back (endEpisode n s)
  serveSlot n (shedCheck n (refillInjections n s))

/-- The part's IDENTIFY failed in IDENTIFYING (R7): the first failure starts a recovery, the second quarantines. -/
def identifyFailed (n : SlotId) (r : RecoveryReason) (s : State) : State :=
  if (s.slot n).identity.retryMark then takeQuarantine n .noIdentity s
  else startRecovery n r (modSlot n (fun x => { x with identity.retryMark := true }) s)

end Sys2Proof.Machine
end

