-- ==== Sys2Proof/Machine/Identity.lean ====
section
/-! DEFINITION. The Identity Unit's captures: the first capture, the re-capture, the rebinding and the final identify
(R55..R60). -/

namespace Sys2Proof.Machine

/-- Keep a record for a slot. -/
def keepRecord (n : SlotId) (r : IdentityRecord) : State → State :=
  modSlot n fun x => { x with identity.record := some r }

/-- Set the last outcome of a record that is present (R48). -/
def noteOutcome (n : SlotId) (o : IdentifyOutcome) : State → State :=
  modSlot n fun x => { x with identity.record := x.identity.record.map fun r => { r with lastOutcome := o } }

/-- A quarantine request that a capture leads to: taken with the outcome in GRADING (R135), else an event of its own
(log entry 9). -/
def captureQuarantine (n : SlotId) (r : QuarantineReason) (s : State) : State :=
  if (s.slot n).state = .grading then takeQuarantine n r s else sendQuarantine n r s

/-- The power mismatch check of a computation, with the request it sends (R54). -/
def checkMismatch (n : SlotId) (s : State) : State :=
  if powerMismatch s (s.slot n) then captureQuarantine n .powerMismatch s else s

/-- A computation of the flags and the effective peaks against the bound entry, with the check it leads to
(R52, R53, R54). -/
def computeAndCheck (n : SlotId) (s : State) : State := checkMismatch n (computeIdentity n s)

/-- Bind a slot that a search has matched, from IDENTIFYING or UNMATCHED (R7, R8, R55, R58): the allocation falls to
the standby current, IDENTIFIED is raised, and the slot enters READY unless the power mismatch check fails. -/
def bindFirst (n : SlotId) (i : Fin 16) (s : State) : State :=
  let s := lowerAllocation n (computeIdentity n (bindSlot n i s))
  let s := raiseSlot n .identified s
  if powerMismatch s (s.slot n) then takeQuarantine n .powerMismatch s else setState n .ready s

/-- The first capture (R55) of a valid block. -/
def firstCapture (n : SlotId) (r : IdentityRecord) (s : State) : State :=
  let s := keepRecord n r s
  match matchSearch s.tables.models r.model with
  | some i => bindFirst n i s
  | none => setState n .unmatched (raiseSlot n .unmatched (computeIdentity n s))

/-- Answer NOT_ACCEPTING to each queued frame whose class UNMATCHED does not accept, and keep the others (R59). -/
def shedQueue (n : SlotId) (s : State) : State :=
  let refused := (s.slot n).traffic.queue.filter fun q => !SlotState.accepts .unmatched q.cls
  let s := refused.foldl (fun s q => answerPart q.source n q.tag .notAccepting s) s
  modSlot n (fun x =>
    { x with traffic.queue := x.traffic.queue.filter fun q => SlotState.accepts .unmatched q.cls }) s

/-- A rebinding that fits, to another entry (R59). -/
def rebindTo (n : SlotId) (i : Fin 16) (a : Nat) (s : State) : State :=
  let s := setAllocation n a (bindSlot n i (unbindSlot n s))
  raiseSlot n .identified (computeAndCheck n s)

/-- A rebinding that fits, to no entry (R59): the slot enters UNMATCHED at the settle reserve. -/
def rebindNone (n : SlotId) (a : Nat) (s : State) : State :=
  let s := modSlot n (fun x => { x with power.reserveGranted := a }) (setAllocation n a (unbindSlot n s))
  let s := shedQueue n (withdrawHead n (computeIdentity n s))
  setState n .unmatched (raiseSlot n .unmatched s)

/-- A rebinding in READY, as one change (R59). One that does not fit leaves the binding, its count, the allocation, the flags
and the peaks as they were. -/
def rebind (n : SlotId) (s : State) : State :=
  match (s.slot n).identity.record with
  | none => s
  | some r =>
    match matchSearch s.tables.models r.model with
    | none =>
      if fits s n s.store.settings.settleReserve then rebindNone n s.store.settings.settleReserve s
      else takeQuarantine n .powerMismatch s
    | some i =>
      if (s.slot n).identity.model = some i then raiseSlot n .identified (computeAndCheck n s)
      else
        let a := max 1 s.tables.models[i.val].standby
        if fits s n a then rebindTo n i a s else takeQuarantine n .powerMismatch s

/-- May a slot in READY be rebound (R57, R58): spindle STOPPED, no HEAVY or SPIN_UP in flight. -/
def Slot.rebindable (x : Slot) : Bool :=
  x.state == .ready && x.power.spindle == .stopped && !x.heavyInFlight && !x.spinUpInFlight

/-- An ACK outcome for a slot whose record is present (R56, R57). With the same serial the flags and peaks are computed against
the entry already bound and checked, and only then does a rebinding follow (DEDUCED, log entry 17). -/
def reCapture (n : SlotId) (old new : IdentityRecord) (s : State) : State :=
  if new.serial ≠ old.serial then captureQuarantine n .identityChanged (noteOutcome n .ack s)
  else
    let s := computeAndCheck n (keepRecord n new s)
    if new.firmware ≠ old.firmware ∧ (s.slot n).rebindable then rebind n s else s

/-- The final identify has ended (R60, R135). -/
def endFinal (n : SlotId) (missing : Bool) : State → State :=
  modSlot n fun x =>
    { x with grading.finalIdentify := .ended
             identity.flags.finalIdMissing := x.identity.flags.finalIdMissing || missing }

/-- An ACK outcome outside IDENTIFYING. In GRADING a slot may still be without a record: it is created, and no match
search runs (R55). -/
def laterCapture (n : SlotId) (r : IdentityRecord) (s : State) : State :=
  match (s.slot n).identity.record with
  | some old => reCapture n old r s
  | none => computeIdentity n (keepRecord n r s)

/-- The outcome of a retired IDENTIFY (R47, R55, R56, R60): the block read, if the outcome is ACK; else the outcome,
and the reason a recovery would carry. `final` is the mark of the entry. -/
def takeIdentify (n : SlotId) (final : Bool) (block : Option IdentityRecord) (failure : IdentifyOutcome)
    (r : RecoveryReason) (s : State) : State :=
  if (s.slot n).state = .identifying then
    match block with
    | some rec => firstCapture n rec s
    | none => identifyFailed n r s
  else
    let s := if final then endFinal n block.isNone s else s
    match block with
    | some rec => laterCapture n rec s
    | none => noteOutcome n failure s

end Sys2Proof.Machine
end

