-- ==== Sys2Proof/Machine/SlotLink.lean ====
section
/-! DEFINITION. The meanings of the commands of the slot links and of the quarantine requests between blocks (chapter 2,
R14). While slot power is OFF the slot link is disregarded (R32, R42). -/

namespace Sys2Proof.Machine

/-! ### Reading a frame -/

/-- The command that a drive frame's bytes are to the slot (R196): BAD_FRAME where the receive check fails, else what
the kind byte names; a response with its tag, status class, code and payload. None for another kind (log entry 30). -/
def driveFrameCommand (n : SlotId) (bs : Bytes) (sensor : SensorReading) : Option Instr :=
  if driveFramePasses bs = false then some (.badFrame n bs)
  else
    (driveFrameKind bs).map fun
      | .response =>
        .driveResponse n (bs.getD 1 0) (StatusClass.names.getD (bs.getD 2 0).toNat .good)
          (BitVec.ofNat 16 (leNat ((bs.drop 3).take 2))) ((bs.drop 7).take (bs.length - 11)) sensor
      | .linkReady => .linkReady n
      | .driveReset => .driveReset n

/-! ### Frames that pass -/

/-- A frame that passes the check counts toward the good run; at 64 both counters become 0 (R39). -/
def countGood (x : Slot) : Slot :=
  if 64 ≤ x.tallies.goodRun + 1 then { x with tallies := { x.tallies with goodRun := 0, badFrames := 0 } }
  else { x with tallies := { x.tallies with goodRun := x.tallies.goodRun + 1 } }

/-- Go on at a slot after an entry has retired (R28, R29, R32 step 6, R135, R136). -/
def goOn (n : SlotId) (s : State) : State :=
  if (s.slot n).state = .grading then gradingProgress n s else serveSlot n s

/-- The spindle state after a response (R33); the entry has been freed. -/
def spindleAfter (cls : CmdClass) (granted good : Bool) (x : Slot) : Spindle :=
  match cls, x.power.spindle with
  | .spinUp, .spinningUp => if granted then (if good then .spinning else .stopped) else .spinningUp
  | .spinDown, .spinningDown => .stopped
  | .spinDown, .spinningUp => if x.spinUpInFlight then .spinningUp else .stopped
  | _, sp => sp

/-- Set the spindle from a response, take the deferred sample, and shed a drive that now spins in a supply episode
(R33, R88, R98). -/
def takeSpindle (n : SlotId) (cls : CmdClass) (granted good : Bool) (v : SensorReading) (s : State) : State :=
  let was := (s.slot n).power.spindle
  let sp := spindleAfter cls granted good (s.slot n)
  if sp = was then s
  else
    let s := setSpindle n sp s
    let s := if was = .spinningUp then deferredSample n v s else s
    if sp = .spinning then shedCheck n s else s

/-- The parking goes on with a command that has been retired (R18): a SPIN_DOWN ends the spin-down; the response to a
granted SPIN_UP, whatever its status, is followed by SPIN_DOWN. A SPIN_DOWN retired by its class timeout switches slot power
OFF and keeps no tag, so that its response, also one that reached it together with the timeout (R37), is discarded uncounted
(R42, R119; DESIGN CHOICE, log entry 41). -/
def parkingResponse (n : SlotId) (cls : CmdClass) (granted : Bool) (s : State) : State :=
  if (s.slot n).state ≠ .parking ∨ (s.slot n).lines.powered = false then s
  else
    match cls with
    | .spinDown => spinDownEnd n s
    | .spinUp => if granted then injectParking n s else s
    | .light | .heavy | .identify => s

/-- Forward a response to a server command (R32, step 5), and let the parking go on with it, whoever sent the command
(R18; log entry 41). -/
def deliver (n : SlotId) (e : InFlight) (status : StatusClass) (code : BitVec 16) (payload : Bytes)
    (c : Classification) (s : State) : State :=
  parkingResponse n e.cls e.granted
    (match e.source with
    | some dest => pushResponse (.drive dest (slotByte n) (BitVec.ofNat 8 e.tag) status code c payload) s
    | none => s)

/-- The block of an IDENTIFY's response, where the outcome is ACK (R47). -/
def identifyBlock (status : StatusClass) (payload : Bytes) : Option IdentityRecord :=
  if status = .good then parseIdentity payload else none

/-- A response that retires entry k (R32), step by step. In GRADING the SPIN_DOWN of a shed drive is listed before the final
IDENTIFY (DESIGN CHOICE, log entry 51). -/
def takeResponse (n : SlotId) (k : Fin 4) (e : InFlight) (status : StatusClass) (code : BitVec 16) (payload : Bytes)
    (v : SensorReading) (s : State) : State :=
  let s := retireEntry n k s
  let s := if e.cls = .spinUp ∨ e.cls = .spinDown then takeSpindle n e.cls e.granted (status == .good) v s else s
  let (s, c) := classify n status code (some e.cls) s
  let s :=
    if e.cls = .identify then takeIdentify n e.final (identifyBlock status payload) .error .identifyFailed s else s
  goOn n (deliver n e status code payload c s)

/-- Count an unexpected response (R35). -/
def countUnexpected (x : Slot) : Slot :=
  { x with tallies := { x.tallies with unexpected := saturate 255 (x.tallies.unexpected + 1) } }

/-- Count a response that matches no entry, classify it with no command class, and consume it (R35). -/
def consumeUnexpected (n : SlotId) (status : StatusClass) (code : BitVec 16) (s : State) : State :=
  (classify n status code none (modSlot n countUnexpected s)).1

/-- A response that matches no entry (R35); in RECOVERING it starts nothing (R46). -/
def takeUnexpected (n : SlotId) (status : StatusClass) (code : BitVec 16) (s : State) : State :=
  let s := consumeUnexpected n status code s
  if 3 ≤ (s.slot n).tallies.unexpected then startRecovery n .unexpectedTag s else s

/-- A response outside RECOVERING: it counts toward the good run and is matched by its tag. -/
def matchResponse (n : SlotId) (tag : Byte) (status : StatusClass) (code : BitVec 16) (payload : Bytes)
    (v : SensorReading) (s : State) : State :=
  let s := modSlot n countGood s
  match (s.slot n).entryWithTag tag.toNat with
  | none => takeUnexpected n status code s
  | some k =>
    match (s.slot n).traffic.inFlight[k.val] with
    | none => s
    | some e => takeResponse n k e status code payload v s

/-- A response that reached its SPIN_DOWN together with the park timer, while slot power was still ON, and is taken after it:
counted as unexpected (R18, R35). It starts nothing (R42). -/
def takeLate (n : SlotId) (tag : Nat) (status : StatusClass) (code : BitVec 16) (s : State) : State :=
  consumeUnexpected n status code (modSlot n (fun x => { x with lines.late := x.lines.late.erase (tag, s.now) }) s)

/-- DRIVE_RESPONSE (R32, R35, R46). A response that arrives with slot power OFF is discarded uncounted (R32, R42, R119). One to a
SPIN_DOWN that the park timer has retired at this very time arrived before power went OFF with that timer, and is the one
that R18 counts. The like response to a SPIN_DOWN of the parking that its class timeout has retired (R37) is discarded with
the others, since power is OFF (both DESIGN CHOICE, log entry 41). -/
def execDriveResponse (n : SlotId) (tag : Byte) (status : StatusClass) (code : BitVec 16) (payload : Bytes)
    (sensor : SensorReading) (s : State) : Host.Outcome State Fault Refusal :=
  .next
    (if (s.slot n).lines.powered then
      finish
        (if (s.slot n).state = .recovering then takeUnexpected n status code s
        else matchResponse n tag status code payload sensor s)
    else if (tag.toNat, s.now) ∈ (s.slot n).lines.late then finish (takeLate n tag.toNat status code s)
    else s)

/-- Does a link-ready end the wait of the attempt that runs (R44). In an attempt after the first, one taken at the very
time the attempt began came in the wait that expired then, and is ignored (DESIGN CHOICE, log entry 42). -/
def endsWait (now : Nat) (r : SlotRecovery) : Bool :=
  match r.wait with
  | none => false
  | some t => decide (r.attempts ≤ 1) || decide (t < now + Config.linkReadyWaitMs)

/-- LINK_READY (R44, R39). -/
def execLinkReady (n : SlotId) (s : State) : Host.Outcome State Fault Refusal :=
  .next
    (if (s.slot n).lines.powered = false then s
    else if (s.slot n).state = .recovering then
      if endsWait s.now (s.slot n).recovery then finish (recoverySuccess n s) else s
    else modSlot n countGood s)

/-! ### Errors of the link -/

/-- Count a bad frame (R39). -/
def countBad (x : Slot) : Slot :=
  { x with tallies := { x.tallies with badFrames := saturate 255 (x.tallies.badFrames + 1), goodRun := 0 } }

/-- BAD_FRAME (R39, R42, R46). -/
def execBadFrame (n : SlotId) (_frame : Bytes) (s : State) : Host.Outcome State Fault Refusal :=
  .next
    (if (s.slot n).lines.powered = false ∨ (s.slot n).state = .recovering then s
    else
      let s := modSlot n countBad s
      finish (if 8 ≤ (s.slot n).tallies.badFrames then startRecovery n .badFrames s else s))

/-- Set or clear the break latch. -/
def setBreak (n : SlotId) (b : Bool) : State → State :=
  modSlot n fun x => { x with recovery := { x.recovery with breakLatch := b } }

/-- BREAK (R40, R46; log entry 14). -/
def execLineBreak (n : SlotId) (s : State) : Host.Outcome State Fault Refusal :=
  .next
    (if (s.slot n).lines.powered = false ∨ (s.slot n).recovery.breakLatch then s
    else finish (startRecovery n .linkBreak (setBreak n true s)))

/-- BREAK_END (R40; log entry 14). -/
def execLineBreakEnd (n : SlotId) (s : State) : Host.Outcome State Fault Refusal :=
  .next
    (if (s.slot n).lines.powered = false ∨ (s.slot n).state.allowsRecovery then s else setBreak n false s)

/-! ### Commands retired without a response -/

/-- The outcome of a part or server command retired without a response, for its owner (R37, R38, R41): an orphaned
spin-up is ended, an IDENTIFY ends NO_RESPONSE, a SPIN_DOWN ends the parking's spin-down. -/
def endUnanswered (n : SlotId) (e : InFlight) (s : State) : State :=
  match e.cls with
  | .spinUp => if e.granted && (s.slot n).orphaned then injectOrphan n s else s
  | .identify => takeIdentify n e.final none .noResponse .timeout s
  | .spinDown => parkingResponse n .spinDown false s
  | .light | .heavy => s

/-- A drive reset in a state that starts no recovery (R41): every entry is retired, the server's are answered. In GRADING the
SPIN_DOWN of an orphan is listed before the final IDENTIFY (DESIGN CHOICE, log entry 51). -/
def resetTable (n : SlotId) (s : State) : State :=
  let held := (s.slot n).inFlightList
  let s := clearTable n (answerInFlight n .driveReset s)
  goOn n (held.foldl (fun s e => endUnanswered n e s) s)

/-- A drive reset with the episodes used up (R41, R43; log entry 15): the table is retired, an orphan listed, and
the slot quarantined. -/
def resetAtLimit (n : SlotId) (s : State) : State :=
  let s := clearTable n (answerInFlight n .driveReset s)
  let s := if (s.slot n).orphaned then injectOrphan n s else s
  takeQuarantine n .recoveryLimit s

/-- A drive reset outside RECOVERING (R41). -/
def takeDriveReset (n : SlotId) (s : State) : State :=
  if (s.slot n).state.allowsRecovery then
    if Config.episodeLimit ≤ (s.slot n).recovery.episodes then resetAtLimit n s else startRecovery n .driveReset s
  else resetTable n s

/-- DRIVE_RESET (R41, R46; log entry 13: the frame counts toward the good run). -/
def execDriveReset (n : SlotId) (s : State) : Host.Outcome State Fault Refusal :=
  .next
    (if (s.slot n).lines.powered = false ∨ (s.slot n).state = .recovering then s
    else finish (takeDriveReset n (modSlot n countGood s)))

/-- Answer a server command retired by its timeout (R37). -/
def answerTimeout (n : SlotId) (e : InFlight) (s : State) : State :=
  match e.source with
  | some dest => answerPart dest n e.tag .timeout s
  | none => s

/-- The expiry of entry k's timeout (R37). In a state that allows a recovery one starts, but for an IDENTIFY in
IDENTIFYING, whose failure R7 takes. In GRADING the SPIN_DOWN of an orphan is listed before the final IDENTIFY (DESIGN CHOICE,
log entry 51). A response that reached the entry together with the timeout and is taken after it arrives as unexpected (R37),
but for one to a SPIN_DOWN of the parking: slot power is OFF by then, and it is discarded uncounted (R42, R119; DESIGN CHOICE,
log entry 41). -/
def takeTimeout (n : SlotId) (k : Fin 4) (e : InFlight) (s : State) : State :=
  let identifying := (s.slot n).state == .identifying && e.cls == .identify
  let s := endUnanswered n e (answerTimeout n e (retireEntry n k s))
  goOn n (if identifying then s else startRecovery n .timeout s)

/-- CLASS_TIMEOUT_EXPIRY (R37). -/
def execClassTimeoutExpiry (n : SlotId) (k : Fin 4) (s : State) : Host.Outcome State Fault Refusal :=
  match (s.slot n).traffic.inFlight[k.val] with
  | none => .next s
  | some e => .next (finish (takeTimeout n k e (reach (e.start + e.timeout) s)))

/-! ### The wait of an episode -/

/-- An attempt's wait expires (R44): the next attempt, or the episode fails. -/
def endAttempt (n : SlotId) (s : State) : State :=
  if (s.slot n).recovery.attempts < Config.attemptLimit then beginAttempt n s
  else
    takeQuarantine n .linkLost
      (modSlot n (fun x => { x with recovery := { x.recovery with breakLatch := false, wait := none } }) s)

/-- LINK_READY_WAIT_EXPIRY (R44). -/
def execLinkReadyWaitExpiry (n : SlotId) (s : State) : Host.Outcome State Fault Refusal :=
  match (s.slot n).recovery.wait with
  | some t => .next (if (s.slot n).state = .recovering then finish (endAttempt n (reach t s)) else s)
  | none => .next s

/-! ### Quarantine requests between blocks -/

/-- QUARANTINE_REQUEST: the first such request that waits for the slot is taken (R14; log entry 9). -/
def execQuarantineRequest (n : SlotId) (reason : QuarantineReason) (s : State) : Host.Outcome State Fault Refusal :=
  .next
    (if s.transit.quarantines.contains (n, reason) then
      finish
        (takeQuarantine n reason
          { s with transit := { s.transit with quarantines := s.transit.quarantines.erase (n, reason) } })
    else s)

end Sys2Proof.Machine
end

