-- ==== Sys2Proof/Machine/SlotRequests.lean ====
section
/-! DEFINITION. The meanings of the requests that name a slot (9.5). -/

namespace Sys2Proof.Machine

/-! ### READ-SLOT and READ-FILTER -/

/-- A slot's admission entry with its place in the queue, counted from 0 (R164; log entry 23). -/
def admissionView (s : State) (n : SlotId) : Option (AdmissionEntry × Nat) :=
  (entryOf s n).map fun e => (e, s.power.queue.findIdx (·.slot == n))

/-- A slot's wait reason with its place in the sort-wait list, counted from 0 (R146, R164; log entry 23). -/
def waitView (s : State) (n : SlotId) : Option (WaitReason × Nat) :=
  (s.sort.waiting.find? (·.slot == n)).map fun w => (w.reason, s.sort.waiting.findIdx (·.slot == n))

/-- The acknowledgement of a READ-SLOT (R164, R181): the pending kinds and the presence-change flag just reported are
cleared. -/
def acknowledge (n : SlotId) (s : State) : State :=
  settleNotice (.slot n) (modSlot n (fun x => { x with events := 0, lines := { x.lines with change := false } }) s)

/-- The effect of READ-SLOT (R164). -/
def readSlot (q : QueuedRequest) (ack : Bool) (n : SlotId) (s : State) : State :=
  let s' := answerOk q (.slot (s.slot n) (admissionView s n) (waitView s n) s.now) s
  if ack then acknowledge n s' else s'

/-- READ_SLOT. -/
def execReadSlot (s : State) : Host.Outcome State Fault Refusal :=
  .next (serveKind 0x09 (fun q => withOperands readSlotAck q fun v => withSlot v.1 q (readSlot q v.2)) s)

/-- One metric as READ-FILTER reports it (R165). -/
def filterView (s : State) (x : Slot) (m : Metric) : FilterView :=
  { record := x.filter m
    supplyHalt := supplyHalt s
    recoveryHalt := recoveryHalt x m
    lost := (x.filter m).lost
    thresholds := (modelOf s x).map (·.thresholds m) }

/-- The effect of READ-FILTER (R165). -/
def readFilter (q : QueuedRequest) (n : SlotId) (s : State) : State :=
  let x := s.slot n
  answerOk q
    (.filter (filterView s x .temp) (filterView s x .curr) (filterView s x .vibe) (filterView s x .defr)
      x.drift.idleCount x.drift.deferral) s

/-- READ_FILTER. -/
def execReadFilter (s : State) : Host.Outcome State Fault Refusal :=
  .next (serveKind 0x0A (fun q => withOperands readSlotOnly q fun v => withSlot v q (readFilter q)) s)

/-! ### START-TEST, END-TEST, REBASE -/

/-- The record at the start of a test (R9, R111): tallies, episode count, shed count and test ticks 0, the last
forward time now, calibration begun. -/
def testStart (now : Nat) (x : Slot) : Slot :=
  { x with
    tallies := { counters := Vector.replicate 16 0, accumulator := 0, badFrames := 0, goodRun := 0, unexpected := 0
                 overdrawRun := 0, shedCount := 0, shedMark := false, lapsed := false }
    recovery := { x.recovery with episodes := 0 }
    drift := { x.drift with temp := startCalibration x.drift.temp
                            curr := startCalibration x.drift.curr
                            vibe := startCalibration x.drift.vibe
                            defr := startCalibration x.drift.defr
                            lastForward := now
                            testTicks := 0 } }

/-- The effect of START-TEST (R9, R166). -/
def startTest (q : QueuedRequest) (n : SlotId) (s : State) : State :=
  if (s.slot n).state = .ready then
    let s := setState n .calibrating (modSlot n (testStart s.now) s)
    answerOk q (.startTest (s.slot n).state (((modelOf s (s.slot n)).map (·.calibrationCount)).getD 0)) s
  else refuseState q 0 1 (s.slot n) s

/-- START_TEST. -/
def execStartTest (s : State) : Host.Outcome State Fault Refusal :=
  .next (serveKind 0x0B (fun q => withOperands readSlotOnly q fun v => withSlot v q (startTest q)) s)

/-- The effect of END-TEST (R11, R133, R166). The commands reported draining are those in flight at the request. -/
def endTest (q : QueuedRequest) (n : SlotId) (s : State) : State :=
  if (s.slot n).state.inTest then
    let answered := (s.slot n).traffic.queue.length
    let draining := (s.slot n).inFlightList.length
    answerOk q (.endTest .grading answered draining) (enterGrading n s)
  else refuseState q 0 2 (s.slot n) s

/-- END_TEST. -/
def execEndTest (s : State) : Host.Outcome State Fault Refusal :=
  .next (serveKind 0x0C (fun q => withOperands readSlotOnly q fun v => withSlot v q (endTest q)) s)

/-- Does REBASE reseed a metric in this state (R114). -/
def rebases (st : MetricState) : Bool := st == .clear || st == .watch

/-- Reseed one named metric (R114). -/
def rebaseMetric (x : Slot) (m : Metric) : Slot :=
  if rebases (x.filter m).state then x.setFilter m (reseed true (x.filter m)) else x

/-- What REBASE reports of a metric (R167). -/
def rebaseReport (named : List Metric) (before after : Slot) (m : Metric) : Bool × Nat × MetricState :=
  (named.contains m && rebases (before.filter m).state, (after.filter m).reseeds, (after.filter m).state)

/-- The effect of REBASE (R114, R167). -/
def rebase (q : QueuedRequest) (named : List Metric) (n : SlotId) (s : State) : State :=
  if (s.slot n).state.inTest then
    let before := s.slot n
    let s := relamp n (modSlot n (fun x => named.foldl rebaseMetric x) s)
    answerOk q (.rebase (allMetrics.map (rebaseReport named before (s.slot n)))) s
  else refuseState q 12 0 (s.slot n) s

/-- REBASE. -/
def execRebase (s : State) : Host.Outcome State Fault Refusal :=
  .next (serveKind 0x0D (fun q => withOperands readRebase q fun v => withSlot v.1 q (rebase q v.2)) s)

/-! ### QUARANTINE, RECOVER, REMATCH -/

/-- The effect of QUARANTINE (R168). -/
def quarantine (q : QueuedRequest) (n : SlotId) (s : State) : State :=
  if (s.slot n).state = .empty ∨ (s.slot n).state = .settling then refuseState q 2 0 (s.slot n) s
  else
    let taken := (s.slot n).grading.reason.isNone
    let s := takeQuarantine n .requested s
    answerOk q (.quarantine taken (s.slot n).grading.reason (s.slot n).state) s

/-- QUARANTINE. -/
def execQuarantine (s : State) : Host.Outcome State Fault Refusal :=
  .next (serveKind 0x0E (fun q => withOperands readSlotOnly q fun v => withSlot v q (quarantine q)) s)

/-- The states in which RECOVER is taken (R169). -/
def takesRecover (st : SlotState) : Bool := st == .ready || st.inTest

/-- The effect of RECOVER (R43, R169). DESIGN CHOICE (log entry 23): refused, it answers in the form of STARTED, with the state in the
second of its 4 bytes. -/
def recover (q : QueuedRequest) (n : SlotId) (s : State) : State :=
  if takesRecover (s.slot n).state then
    let episodes := (s.slot n).recovery.episodes
    let s := startRecovery n .serverRequest s
    if Config.episodeLimit ≤ episodes then
      answerOk q (.recoverLimit (s.slot n).grading.reason (s.slot n).state) s
    else answerOk q (.recoverStarted (s.slot n).state (s.slot n).recovery.resume episodes) s
  else refuseState q 1 2 (s.slot n) s

/-- RECOVER. -/
def execRecover (s : State) : Host.Outcome State Fault Refusal :=
  .next (serveKind 0x0F (fun q => withOperands readSlotOnly q fun v => withSlot v q (recover q)) s)

/-- REMATCH in UNMATCHED (R8, R58): a result binds the slot, no result leaves it as it was. -/
def rematchUnmatched (n : SlotId) (s : State) : State :=
  match (s.slot n).identity.record with
  | none => s
  | some r =>
    match matchSearch s.tables.models r.model with
    | none => s
    | some i => bindFirst n i s

/-- REMATCH in READY (R58, R59). Released to UNMATCHED, the slot considers the frame that is now at its queue head
(log entry 11). -/
def rematchReady (n : SlotId) (s : State) : State :=
  let s := rebind n s
  if (s.slot n).state = .unmatched then serveSlot n s else s

/-- The effect of REMATCH (R58, R170). -/
def rematch (q : QueuedRequest) (n : SlotId) (s : State) : State :=
  let x := s.slot n
  if x.state = .unmatched ∨ x.rebindable then
    let s := if x.state = .unmatched then rematchUnmatched n s else rematchReady n s
    answerOk q (.rematch (s.slot n).identity.model (s.slot n).state) s
  else refuseState q 2 0 x s

/-- REMATCH. -/
def execRematch (s : State) : Host.Outcome State Fault Refusal :=
  .next (serveKind 0x10 (fun q => withOperands readSlotOnly q fun v => withSlot v q (rematch q)) s)

end Sys2Proof.Machine
end

