-- ==== Sys2Proof/Machine/SortRequests.lean ====
section
/-! DEFINITION. The meanings of the manifest and bin requests and of HAND_OVER (9.6, R136, R149, R150). -/

namespace Sys2Proof.Machine

/-- The effect of READ-MANIFEST (R171). The next sequence number is the counter as it stands, 2^32 once none is left (DESIGN
CHOICE, log entry 46). -/
def readManifest (q : QueuedRequest) (from_ count : Nat) (s : State) : State :=
  let found := s.sort.manifest.filter fun e => decide (from_ ≤ e.sequence)
  if within 1 8 count then
    if found = [] then answer q .notFound .none (.manifest [] false s.sort.next) s
    else answerOk q (.manifest (found.take count) (decide (count < found.length)) s.sort.next) s
  else refuse q .badRequest s

/-- READ_MANIFEST. -/
def execReadManifest (s : State) : Host.Outcome State Fault Refusal :=
  .next (serveKind 0x11 (fun q => withOperands readRange q fun v => readManifest q v.1 v.2) s)

/-- The effect of RETIRE-MANIFEST (R149, R172): a retry pass follows a removal, before the reply is built. -/
def retireManifest (q : QueuedRequest) (upTo : Nat) (s : State) : State :=
  let kept := s.sort.manifest.filter fun e => decide (upTo < e.sequence)
  let removed := s.sort.manifest.length - kept.length
  let s := { s with sort := { s.sort with manifest := kept } }
  let s := if removed = 0 then s else retryPass s
  answerOk q (.retire removed s.sort.manifest.length (s.sort.manifest.head?.map (·.sequence))) s

/-- RETIRE_MANIFEST. -/
def execRetireManifest (s : State) : Host.Outcome State Fault Refusal :=
  .next (serveKind 0x12 (fun q => withOperands readSequence q (retireManifest q)) s)

/-- A bin after a cart swap (R150). -/
def swapped (b : Bin) : Bin := { b with fill := 0, generation := (b.generation + 1) % 65536 }

/-- The effect of CART-SWAP (R150, R173): the retry pass runs before the reply is built. -/
def cartSwap (q : QueuedRequest) (set : Fin 4) (p : Fin 8) (s : State) : State :=
  let s := retryPass (setBin set p (swapped (s.bin set p)) s)
  answerOk q (.cartSwap (s.bin set p).generation (s.bin set p).fill) s

/-- CART_SWAP. -/
def execCartSwap (s : State) : Host.Outcome State Fault Refusal :=
  .next
    (serveKind 0x13
      (fun q => withOperands readPlace q fun v => withIndex 4 v.1 q fun set => withIndex 8 v.2 q fun p => cartSwap q set p)
      s)

/-- The Sort Unit takes a hand-over; one whose slot is no longer in GRADING is discarded (R136). -/
def takeHandOver (n : SlotId) (s : State) : State :=
  if (s.slot n).state = .grading ∧ (s.slot n).grading.handedOver then sortSlot n s else s

/-- HAND_OVER: the hand-over waiting for the slot is taken (R136). -/
def execHandOver (n : SlotId) (s : State) : Host.Outcome State Fault Refusal :=
  .next
    (if s.transit.handOvers.contains n then
      finish (takeHandOver n { s with transit := { s.transit with handOvers := s.transit.handOvers.erase n } })
    else s)

end Sys2Proof.Machine
end

