-- ==== Sys2Proof/Machine/Supply.lean ====
section
/-! DEFINITION. The supply episode: onset, shedding, restoration, auto-resume (chapter 5). -/

namespace Sys2Proof.Machine

/-- A held grant lapses at the onset (R80, R86), and the slot keeps that it did. -/
def lapseAtOnset (n : SlotId) (s : State) : State :=
  lapseHeld n (modSlot n (fun x => { x with tallies.lapsed := x.power.held.isSome }) s)

/-- Mark and count a slot whose test is running with its spindle not STOPPED (R87), one whose held grant lapsed at this
onset included. -/
def markShed (x : Slot) : Slot :=
  if x.testRunning ∧ x.power.spindle ≠ .stopped then
    { x with tallies := { x.tallies with shedCount := saturate 15 (x.tallies.shedCount + 1), shedMark := true } }
  else x

/-- An onset (R86), and the injection lists served (R88). DESIGN CHOICE (log entry 44): the rules do not order the slots, and
each part of the change takes them in increasing slot number. -/
def onset (s : State) : State :=
  let s := raiseSupplyWarn { s with power := { s.power with supply := .warning, restore := none } }
  let s := forSlots lapseAtOnset s
  let s := forSlots (fun n s => modSlot n markShed s) s
  forSlots serveSlot (forSlots shedCheck s)

/-- The supply warning input asserts (R85, R91). -/
def assertWarning (s : State) : State :=
  let s := { s with power := { s.power with warning := true } }
  match s.power.supply with
  | .normal => onset s
  | .restoring => raiseSupplyWarn { s with power := { s.power with supply := .warning, restore := none } }
  | .warning => s

/-- The supply warning input deasserts (R91). -/
def deassertWarning (s : State) : State :=
  let s := { s with power := { s.power with warning := false } }
  match s.power.supply with
  | .warning =>
    { s with power := { s.power with supply := .restoring
                                     restore := some (s.now + s.store.settings.restoreDelay * 1000) } }
  | .normal | .restoring => s

/-- An unsent SPIN_DOWN with the shed cause alone leaves the list; another loses the shed cause (R92). R92 names parking and orphan
as the other causes; that the cause of R45, after a recovery, keeps it listed too is DEDUCED (log entry 56). -/
def dropShed (x : Slot) : Slot :=
  let alone : Injection → Bool := fun i => i.shed && !i.parking && !i.orphan && !i.recovery
  { x with traffic.injections := (x.traffic.injections.filter (!alone ·)).map fun i => { i with shed := false } }

/-- Does a slot take part in auto-resume (R93), but for the admission entry, which the join itself tests. A spin-up whose
held grant lapsed at the onset is not asked for again (R80, R86), though the slot is marked (DESIGN CHOICE, log entry 43). -/
def resumes (x : Slot) : Bool :=
  x.tallies.shedMark && !x.tallies.lapsed && x.state.inTest && (x.power.spindle == .stopped || x.power.spindle == .spinningDown)

/-- Join the part-origin entry of a slot that is to be resumed (R93). -/
def autoResume (n : SlotId) (s : State) : State :=
  if s.store.settings.autoResume && resumes (s.slot n) then joinAdmission n .spinUp .part s else s

/-- The return to NORMAL (R92, R93). The pass for the return is due. -/
def returnToNormal (s : State) : State :=
  let s := { s with power := { s.power with supply := .normal, restore := none, passDue := true } }
  let s := raisePart .supplyRestored s
  let s := forSlots autoResume (forSlots (fun n s => modSlot n dropShed s) s)
  let s := forSlots (fun n s => modSlot n (fun x => { x with tallies := { x.tallies with shedMark := false, lapsed := false } }) s) s
  forSlots serveSlot s

end Sys2Proof.Machine
end

