-- ==== Sys2Proof/Machine/SupplyLine.lean ====
section
/-! DEFINITION. The meanings of the commands of the supply monitor and the restore delay (chapter 5). -/

namespace Sys2Proof.Machine

/-- SUPPLY_WARNING_ASSERT (R85, R86, R91). -/
def execSupplyWarningAssert (s : State) : Host.Outcome State Fault Refusal := .next (finish (assertWarning s))

/-- SUPPLY_WARNING_DEASSERT (R91). -/
def execSupplyWarningDeassert (s : State) : Host.Outcome State Fault Refusal := .next (deassertWarning s)

/-- RESTORE_DELAY_EXPIRY (R92). -/
def execRestoreDelayExpiry (s : State) : Host.Outcome State Fault Refusal :=
  match s.power.restore with
  | some t => .next (if s.power.supply = .restoring then finish (returnToNormal (reach t s)) else s)
  | none => .next s

end Sys2Proof.Machine
end

