-- ==== Sys2Proof/Machine/TableRequests.lean ====
section
/-! DEFINITION. The meanings of the table requests and of the save (R61, R131, R151, R158, R163, R192). -/

namespace Sys2Proof.Machine

/-! ### LOAD-TABLE -/

/-- Replace a model entry. -/
def putModel (i : Fin 16) (m : ModelEntry) (s : State) : State :=
  { s with tables := { s.tables with models := s.tables.models.set i.val m i.isLt } }

/-- The write of a model entry (R61). -/
def writeModel (q : QueuedRequest) (i : Fin 16) (m : ModelEntry) (s : State) : State :=
  if s.tables.models[i.val].refCount ≠ 0 then refuse q .inUse s
  else
    match if m.valid then modelCheck s.store.settings.settleReserve m else .none with
    | .none => answerOk q (.model m) (putModel i m s)
    | reason => refuseTable q reason s

/-- LOAD_TABLE_MODEL (R61, R163). -/
def execLoadTableModel (s : State) : Host.Outcome State Fault Refusal :=
  .next
    (serveLoad .model
      (fun q => withOperands (readLoadModel ·.tail) q fun v => unlessSaving q (withIndex 16 v.1 q fun i => writeModel q i v.2))
      s)

/-- The write of a classification entry (R131). -/
def writeClassify (q : QueuedRequest) (i : Fin 64) (e : ClassifyEntry) (s : State) : State :=
  match if e.valid then classifyCheck e else .none with
  | .none =>
    answerOk q (.classify e)
      { s with tables := { s.tables with classify := s.tables.classify.set i.val e i.isLt } }
  | reason => refuseTable q reason s

/-- LOAD_TABLE_CLASSIFY (R131, R163). -/
def execLoadTableClassify (s : State) : Host.Outcome State Fault Refusal :=
  .next
    (serveLoad .classify
      (fun q =>
        withOperands (readLoadClassify ·.tail) q fun v => unlessSaving q (withIndex 64 v.1 q fun i => writeClassify q i v.2))
      s)

/-- The write of a defect class entry (R131). -/
def writeDefect (q : QueuedRequest) (i : Fin 16) (e : DefectEntry) (s : State) : State :=
  if e.inRange then
    answerOk q (.defect e) { s with tables := { s.tables with defects := s.tables.defects.set i.val e i.isLt } }
  else refuseTable q .fieldRange s

/-- LOAD_TABLE_DEFECT (R131, R163). -/
def execLoadTableDefect (s : State) : Host.Outcome State Fault Refusal :=
  .next
    (serveLoad .defect
      (fun q => withOperands (readLoadDefect ·.tail) q fun v => unlessSaving q (withIndex 16 v.1 q fun i => writeDefect q i v.2))
      s)

/-- The checks of a bin write, after its place (R151): the bin to store, or the reason. -/
def binCheck (old : Bin) (p : Fin 8) (f : BinFields) : Except RefusalReason Bin :=
  match f.toBin old.fill old.generation with
  | none => .error .fieldRange
  | some b =>
    if p = 7 ∧ b.kind ≠ .reject then .error .rejectPosition
    else if b.capacity < old.fill then .error .capacityBelowFill
    else .ok b

/-- The write of a bin (R151). The reply is built in the write's change, the retry pass follows (log entry 36). -/
def writeBin (q : QueuedRequest) (set : Fin 4) (p : Fin 8) (f : BinFields) (s : State) : State :=
  match binCheck (s.bin set p) p f with
  | .error reason => refuseTable q reason s
  | .ok b => retryPass (answerOk q (.bin b) (setBin set p b s))

/-- LOAD_TABLE_BIN (R151, R163). -/
def execLoadTableBin (s : State) : Host.Outcome State Fault Refusal :=
  .next
    (serveLoad .bin
      (fun q =>
        withOperands (readLoadBin ·.tail) q fun v =>
          unlessSaving q (withIndex 4 v.1 q fun set => withIndex 8 v.2.1 q fun p => writeBin q set p v.2.2))
      s)

/-- The write of an indicator map entry (R163, R20). -/
def writeIndicator (q : QueuedRequest) (i : Fin 16) (f : IndicatorFields) (s : State) : State :=
  match f.toEntry with
  | none => refuseTable q .fieldRange s
  | some e =>
    answerOk q (.indicator e)
      (forSlots relamp { s with tables := { s.tables with indicators := s.tables.indicators.set i.val e i.isLt } })

/-- LOAD_TABLE_INDICATOR (R163). -/
def execLoadTableIndicator (s : State) : Host.Outcome State Fault Refusal :=
  .next
    (serveLoad .indicator
      (fun q =>
        withOperands (readLoadIndicator ·.tail) q fun v =>
          unlessSaving q (withIndex 16 v.1 q fun i => writeIndicator q i v.2))
      s)

/-! ### READ-TABLE -/

/-- The effect of READ-TABLE (R163). -/
def readEntry (q : QueuedRequest) (v : TableName × Nat × Nat) : State → State :=
  match v.1 with
  | .model => withIndex 16 v.2.1 q fun i s => answerOk q (.model s.tables.models[i.val]) s
  | .classify => withIndex 64 v.2.1 q fun i s => answerOk q (.classify s.tables.classify[i.val]) s
  | .defect => withIndex 16 v.2.1 q fun i s => answerOk q (.defect s.tables.defects[i.val]) s
  | .bin => withIndex 4 v.2.1 q fun set => withIndex 8 v.2.2 q fun p s => answerOk q (.bin (s.bin set p)) s
  | .indicator => withIndex 16 v.2.1 q fun i s => answerOk q (.indicator s.tables.indicators[i.val]) s

/-- READ_TABLE (R163). -/
def execReadTable (s : State) : Host.Outcome State Fault Refusal :=
  .next (serveKind 0x07 (fun q => withOperands readTableOperand q (readEntry q)) s)

/-! ### The save -/

/-- SAVE_CONFIG (R158). -/
def execSaveConfig (s : State) : Host.Outcome State Fault Refusal :=
  .next
    (serveKind 0x08
      (fun q => withOperands readNothing q fun _ => unlessSaving q fun s => answerOk q .empty (beginSave s)) s)

/-- SAVE_ERASE_DONE (R192): on to the write stage. -/
def execSaveEraseDone (s : State) : Host.Outcome State Fault Refusal := .next (saveStage .erase .write s)

/-- SAVE_WRITE_DONE (R192): on to the verify stage. -/
def execSaveWriteDone (s : State) : Host.Outcome State Fault Refusal := .next (saveStage .write .verify s)

/-- SAVE_VERIFY_DONE (R192): the end of a save in its verify stage. -/
def execSaveVerifyDone (passes : Bool) (s : State) : Host.Outcome State Fault Refusal :=
  match s.store.save with
  | some v =>
    .next
      (if v.stage = .verify then arbitrate (if passes then saveGood v s else saveBad s) else s)
  | none => .next s

/-- FLASH_ERROR (R192): an erase or write error ends a save in flight. -/
def execFlashError (s : State) : Host.Outcome State Fault Refusal :=
  .next (if s.store.save.isSome then arbitrate (saveBad s) else s)

/-- SAVE_TIMEOUT (R192): 10 s from the start of a save that has not ended. -/
def execSaveTimeout (s : State) : Host.Outcome State Fault Refusal :=
  match s.store.save with
  | some v => .next (arbitrate (saveBad (reach v.limit s)))
  | none => .next s

end Sys2Proof.Machine
end

