-- ==== Sys2Proof/Machine/Tick.lean ====
section
/-! DEFINITION. The meanings of TICK and CALIBRATION_COMPLETE (R95, R10). -/

namespace Sys2Proof.Machine

/-- The tick at every slot, in slot-number order (log entry 35), with the records of the slots sampled. -/
def tickSlots (sensors : Vector SensorReading 48) : List SlotId → State → List StreamRecord × State
  | [], s => ([], s)
  | n :: rest, s =>
    let (r, s) := tickSlot n sensors[n.val] s
    let (rs, s) := tickSlots sensors rest s
    (r.toList ++ rs, s)

/-- A completed stream report (R183): it takes the next number, and is dropped and counted, or becomes the waiting
frame in the place of one not yet sent. -/
def completeReport (records : List StreamRecord) (s : State) : State :=
  let number := (s.notices.streamNumber + 1) % 65536
  let s := { s with notices := { s.notices with streamNumber := number } }
  let drop : State → State := fun s =>
    { s with port := { s.port with streamDropped := saturate 65535 (s.port.streamDropped + 1) } }
  if Config.streamBacklog < s.notices.queue.length then drop s
  else
    let s := if s.port.stream.isSome then drop s else s
    { s with port := { s.port with stream := some ⟨s.store.settings.reportStation, number, records⟩ } }

/-- The stream timer (R182): the count holds at 0 in EVENT mode. -/
def streamTick (records : List StreamRecord) (s : State) : State :=
  match s.store.settings.reportMode with
  | .event => { s with notices := { s.notices with streamCount := 0 } }
  | .stream =>
    let count := s.notices.streamCount + 1
    if s.store.settings.streamInterval ≤ count then
      completeReport records { s with notices := { s.notices with streamCount := 0 } }
    else { s with notices := { s.notices with streamCount := count } }

/-- The tick timer restarts with the period in force (R95). -/
def restartTick (s : State) : State := { s with tickAt := s.now + tickMs s.store.settings.tickPeriod }

/-- TICK (R95). -/
def execTick (sensors : Vector SensorReading 48) (s : State) : Host.Outcome State Fault Refusal :=
  let r := tickSlots sensors allSlots (restartTick (reach s.tickAt s))
  .next (arbitrate (streamTick r.1 r.2))

/-- Take the calibration-complete report (R10). -/
def takeCalibration (n : SlotId) (s : State) : State :=
  let x := s.slot n
  if x.state = .calibrating then setState n .burning s
  else if x.state = .recovering ∧ x.recovery.resume = some .calibrating then
    modSlot n (fun x => { x with recovery.resume := some .burning }) s
  else s

/-- CALIBRATION_COMPLETE: the report waiting for the slot is taken (R10). -/
def execCalibrationComplete (n : SlotId) (s : State) : Host.Outcome State Fault Refusal :=
  .next
    (if s.transit.calibrations.contains n then
      takeCalibration n { s with transit := { s.transit with calibrations := s.transit.calibrations.erase n } }
    else s)

end Sys2Proof.Machine
end

