-- ==== Sys2Proof/Machine/Dispatch.lean ====
section
/-! DEFINITION. The meaning of every command, one arm per constructor of Instr. -/

namespace Sys2Proof.Machine

def exec (i : Instr) (s : State) : Host.Outcome State Fault Refusal :=
  match i with
  | .powerOnReset straps warning flashAnswers => Sys2Proof.Machine.execPowerOnReset straps warning flashAnswers s
  | .presenceAssert n => Sys2Proof.Machine.execPresenceAssert n s
  | .presenceDeassert n => Sys2Proof.Machine.execPresenceDeassert n s
  | .settleTimerExpiry n => Sys2Proof.Machine.execSettleTimerExpiry n s
  | .removalCheckEnd n => Sys2Proof.Machine.execRemovalCheckEnd n s
  | .rundownTimerExpiry n => Sys2Proof.Machine.execRundownTimerExpiry n s
  | .parkTimerExpiry n => Sys2Proof.Machine.execParkTimerExpiry n s
  | .supplyWarningAssert => Sys2Proof.Machine.execSupplyWarningAssert s
  | .supplyWarningDeassert => Sys2Proof.Machine.execSupplyWarningDeassert s
  | .restoreDelayExpiry => Sys2Proof.Machine.execRestoreDelayExpiry s
  | .tick sensors => Sys2Proof.Machine.execTick sensors s
  | .calibrationComplete n => Sys2Proof.Machine.execCalibrationComplete n s
  | .rackFrameBad frame => Sys2Proof.Machine.execRackFrameBad frame s
  | .slotCmd dest source payload => Sys2Proof.Machine.execSlotCmd dest source payload s
  | .requestReceived dest source payload => Sys2Proof.Machine.execRequestReceived dest source payload s
  | .discover => Sys2Proof.Machine.execDiscover s
  | .readPartStatus => Sys2Proof.Machine.execReadPartStatus s
  | .readSettings => Sys2Proof.Machine.execReadSettings s
  | .writeSettings => Sys2Proof.Machine.execWriteSettings s
  | .setBudget => Sys2Proof.Machine.execSetBudget s
  | .loadTableModel => Sys2Proof.Machine.execLoadTableModel s
  | .loadTableClassify => Sys2Proof.Machine.execLoadTableClassify s
  | .loadTableDefect => Sys2Proof.Machine.execLoadTableDefect s
  | .loadTableBin => Sys2Proof.Machine.execLoadTableBin s
  | .loadTableIndicator => Sys2Proof.Machine.execLoadTableIndicator s
  | .readTable => Sys2Proof.Machine.execReadTable s
  | .saveConfig => Sys2Proof.Machine.execSaveConfig s
  | .saveEraseDone => Sys2Proof.Machine.execSaveEraseDone s
  | .saveWriteDone => Sys2Proof.Machine.execSaveWriteDone s
  | .saveVerifyDone passes => Sys2Proof.Machine.execSaveVerifyDone passes s
  | .flashError => Sys2Proof.Machine.execFlashError s
  | .saveTimeout => Sys2Proof.Machine.execSaveTimeout s
  | .readSlot => Sys2Proof.Machine.execReadSlot s
  | .readFilter => Sys2Proof.Machine.execReadFilter s
  | .startTest => Sys2Proof.Machine.execStartTest s
  | .endTest => Sys2Proof.Machine.execEndTest s
  | .rebase => Sys2Proof.Machine.execRebase s
  | .quarantine => Sys2Proof.Machine.execQuarantine s
  | .recover => Sys2Proof.Machine.execRecover s
  | .rematch => Sys2Proof.Machine.execRematch s
  | .readManifest => Sys2Proof.Machine.execReadManifest s
  | .retireManifest => Sys2Proof.Machine.execRetireManifest s
  | .cartSwap => Sys2Proof.Machine.execCartSwap s
  | .resetPart => Sys2Proof.Machine.execResetPart s
  | .softReset => Sys2Proof.Machine.execSoftReset s
  | .driveResponse n tag status code payload sensor => Sys2Proof.Machine.execDriveResponse n tag status code payload sensor s
  | .badFrame n frame => Sys2Proof.Machine.execBadFrame n frame s
  | .linkReady n => Sys2Proof.Machine.execLinkReady n s
  | .driveReset n => Sys2Proof.Machine.execDriveReset n s
  | .lineBreak n => Sys2Proof.Machine.execLineBreak n s
  | .lineBreakEnd n => Sys2Proof.Machine.execLineBreakEnd n s
  | .linkReadyWaitExpiry n => Sys2Proof.Machine.execLinkReadyWaitExpiry n s
  | .classTimeoutExpiry n k => Sys2Proof.Machine.execClassTimeoutExpiry n k s
  | .quarantineRequest n reason => Sys2Proof.Machine.execQuarantineRequest n reason s
  | .handOver n => Sys2Proof.Machine.execHandOver n s
  | .transmitComplete => Sys2Proof.Machine.execTransmitComplete s
  | .unknownRequestKind => Sys2Proof.Machine.execUnknownRequestKind s

end Sys2Proof.Machine
end

