-- ==== Sys2Proof/Safety.lean ====
section
/-! DEFINITION. What a safe run is on this hardware: every step answers a next state, and the limits and relations
that the spec states of the part's lists, sums and tables are kept. And the words in which the statements say what a
command leaves unchanged. -/

namespace Sys2Proof.Machine

/-- A command from this state answers a next state. -/
def Runs (s : State) : Prop := ∃ t, step s = .next t

/-! ### What a command leaves unchanged -/

/-- The groups of the part's state, one for each thing that some command leaves alone. -/
inductive Group where
  | pending | now | lampStart | tickAt
  | requests | replies | responses | stream | transmitter | counters | resetAwaits
  | models | classify | defects | indicators
  | admission | supply | passDue
  | bins | manifest | waiting
  | partSet | noticeQueue | streamTimer
  | settings | target | straps | image
  | transit | sent
  | slot (n : SlotId)
deriving DecidableEq, Repr

/-- Do two states agree in a group. -/
def sameIn (s t : State) : Group → Prop
  | .pending => t.pending = s.pending
  | .now => t.now = s.now
  | .lampStart => t.lampStart = s.lampStart
  | .tickAt => t.tickAt = s.tickAt
  | .requests => t.port.requests = s.port.requests
  | .replies => t.port.replies = s.port.replies
  | .responses => t.port.responses = s.port.responses
  | .stream => t.port.stream = s.port.stream
  | .transmitter => t.port.transmitting = s.port.transmitting
  | .counters =>
    t.port.rxErrors = s.port.rxErrors ∧ t.port.portBusy = s.port.portBusy
      ∧ t.port.broadcastDiscards = s.port.broadcastDiscards ∧ t.port.streamDropped = s.port.streamDropped
  | .resetAwaits => t.port.resetAwaits = s.port.resetAwaits
  | .models => t.tables.models = s.tables.models
  | .classify => t.tables.classify = s.tables.classify
  | .defects => t.tables.defects = s.tables.defects
  | .indicators => t.tables.indicators = s.tables.indicators
  | .admission => t.power.queue = s.power.queue
  | .supply =>
    t.power.supply = s.power.supply ∧ t.power.warning = s.power.warning ∧ t.power.restore = s.power.restore
  | .passDue => t.power.passDue = s.power.passDue
  | .bins => t.sort.bins = s.sort.bins
  | .manifest => t.sort.manifest = s.sort.manifest ∧ t.sort.next = s.sort.next
  | .waiting => t.sort.waiting = s.sort.waiting
  | .partSet => t.notices.part = s.notices.part ∧ t.notices.cause = s.notices.cause
  | .noticeQueue => t.notices.queue = s.notices.queue ∧ t.notices.partState = s.notices.partState
  | .streamTimer => t.notices.streamCount = s.notices.streamCount ∧ t.notices.streamNumber = s.notices.streamNumber
  | .settings => t.store.settings = s.store.settings
  | .target => t.store.target = s.store.target
  | .straps => t.store.straps = s.store.straps
  | .image => t.store.image = s.store.image ∧ t.store.flash = s.store.flash ∧ t.store.save = s.store.save
  | .transit => t.transit = s.transit
  | .sent => t.sent = s.sent
  | .slot n => t.slot n = s.slot n

/-- Every group but the listed ones is as it was. -/
structure KeepsBut (changed : List Group) (s t : State) : Prop where
  same : ∀ g, g ∉ changed → sameIn s t g

/-- Every group is as it was but the listed ones and the slots. -/
structure KeepsButSlots (changed : List Group) (s t : State) : Prop where
  same : ∀ g, g ∉ changed → (∀ n, g ≠ .slot n) → sameIn s t g

/-- The groups of a slot record. -/
inductive SlotGroup where
  | state | presence | power | latch | rundown | settle | removal | park | lamps
  | retryMark | identity | allocation | spindle
  | queue | reserved | inFlight | injections
  | recovery | tallies | samples | lastForward | testTicks | idle
  | reason | grading | events | notice
deriving DecidableEq, Repr

/-- Do two slot records agree in a group. -/
def slotSameIn (x y : Slot) : SlotGroup → Prop
  | .state => y.state = x.state
  | .presence =>
    y.lines.line = x.lines.line ∧ y.lines.presence = x.lines.presence ∧ y.lines.change = x.lines.change
  | .power => y.lines.powered = x.lines.powered
  | .latch => y.lines.latch = x.lines.latch
  | .rundown => y.lines.rundown = x.lines.rundown
  | .settle => y.lines.settle = x.lines.settle
  | .removal => y.lines.removal = x.lines.removal
  | .park => y.lines.park = x.lines.park ∧ y.lines.late = x.lines.late
  | .lamps => y.lines.lampA = x.lines.lampA ∧ y.lines.lampB = x.lines.lampB
  | .retryMark => y.identity.retryMark = x.identity.retryMark
  | .identity =>
    y.identity.record = x.identity.record ∧ y.identity.model = x.identity.model
      ∧ y.identity.flags = x.identity.flags ∧ y.identity.peaks = x.identity.peaks
      ∧ y.identity.pendingPeaks = x.identity.pendingPeaks
  | .allocation =>
    y.power.allocation = x.power.allocation ∧ y.power.reserveGranted = x.power.reserveGranted
  | .spindle =>
    y.power.spindle = x.power.spindle ∧ y.power.chosen = x.power.chosen ∧ y.power.held = x.power.held
  | .queue => y.traffic.queue = x.traffic.queue
  | .reserved => y.traffic.reserved = x.traffic.reserved
  | .inFlight => y.traffic.inFlight = x.traffic.inFlight
  | .injections => y.traffic.injections = x.traffic.injections
  | .recovery => y.recovery = x.recovery
  | .tallies => y.tallies = x.tallies
  | .samples =>
    y.drift.temp = x.drift.temp ∧ y.drift.curr = x.drift.curr ∧ y.drift.vibe = x.drift.vibe
      ∧ y.drift.defr = x.drift.defr ∧ y.drift.peak = x.drift.peak ∧ y.drift.mean = x.drift.mean
  | .lastForward => y.drift.lastForward = x.drift.lastForward
  | .testTicks => y.drift.testTicks = x.drift.testTicks
  | .idle => y.drift.idleCount = x.drift.idleCount ∧ y.drift.deferral = x.drift.deferral
  | .reason => y.grading.reason = x.grading.reason
  | .grading =>
    y.grading.finalIdentify = x.grading.finalIdentify ∧ y.grading.handedOver = x.grading.handedOver
      ∧ y.grading.grade = x.grading.grade
  | .events => y.events = x.events
  | .notice => y.notice = x.notice

/-- Every group of the slot record but the listed ones is as it was. -/
structure SlotKeepsBut (changed : List SlotGroup) (x y : Slot) : Prop where
  same : ∀ g, g ∉ changed → slotSameIn x y g

/-- Slot n's lamps are those that the indicator map gives its record now (R19, R20). -/
def LampsCurrent (s : State) (n : SlotId) : Prop :=
  ((s.slot n).lines.lampA, (s.slot n).lines.lampB) = lampsFor s (s.slot n)

/-- A slot record with the lamps of another. -/
def Slot.lampsOf (x y : Slot) : Slot := { x with lines := { x.lines with lampA := y.lines.lampA, lampB := y.lines.lampB } }

/-! ### The words of the requests and of the answers -/

/-- The SLOT_RESP that the part makes for each frame of a slot command queue, in queue order (R34). -/
def queueAnswers (n : SlotId) (x : Slot) (code : PartCode) : List SlotResponse :=
  x.traffic.queue.map fun q => .partMade q.source (slotByte n) (BitVec.ofNat 8 q.tag) code

/-- The SLOT_RESP that the part makes for each server command in flight, in table order (R34). -/
def inFlightAnswers (n : SlotId) (x : Slot) (code : PartCode) : List SlotResponse :=
  x.inFlightList.filterMap fun e => e.source.map fun dest => .partMade dest (slotByte n) (BitVec.ofNat 8 e.tag) code

/-- The Request Unit executes request q next: no soft reset is awaited, q stands at the head of the queue and is of the
kind (R156, R174). -/
def Serves (s : State) (q : QueuedRequest) (rest : List QueuedRequest) (kind : Byte) : Prop :=
  s.port.resetAwaits = none ∧ s.port.requests = q :: rest ∧ q.kind = kind

/-- The state with the head request taken from the queue. -/
def State.taken (s : State) (rest : List QueuedRequest) : State := { s with port := { s.port with requests := rest } }

/-- The state with a reply to q handed to the Port: its source station, tag and kind, a status, a reason and results
(R156). -/
def State.replied (s : State) (q : QueuedRequest) (status : ReplyStatus) (reason : RefusalReason)
    (results : Results) : State :=
  { s with port := { s.port with replies := s.port.replies ++ [⟨q.source, q.tag, q.kind, status, reason, results⟩] } }

/-! ### Limits and relations -/

/-- The limits of the part's queues: requests (R156), the slot command queues (R26). -/
def State.queuesWithin (s : State) : Prop :=
  s.port.requests.length ≤ Config.requestQueueDepth
    ∧ ∀ n, (s.slot n).traffic.queue.length ≤ Config.slotQueueDepth

/-- The relations of R177 and R178: at most 32 notices, none twice, a source is queued exactly when its notice state
is QUEUED, and its notice state is QUIET exactly when its unmasked pending set is empty. -/
def State.noticesAgree (s : State) : Prop :=
  s.notices.queue.length ≤ Config.noticeQueueDepth ∧ s.notices.queue.Nodup
    ∧ ∀ src, (src ∈ s.notices.queue ↔ noticeStateOf s src = .queued)
        ∧ (sourceEmpty s src = true ↔ noticeStateOf s src = .quiet)

/-- R71: the admission queue holds at most one entry for each slot. -/
def State.admissionAgrees (s : State) : Prop := (s.power.queue.map (·.slot)).Nodup

/-- The relations of a slot's commands (R26, R27, R28, R30): one in flight has a server's tag of 0..27 and the station that sent
it, or is the part's own, with tag 31 and no station; at most one is the part's own, and no two have the same tag. Those in the
queue have tags of 0..27, no two the same and none that of a command in flight. The entry reserved for the queue head is free. -/
def Slot.commandsAgree (x : Slot) : Prop :=
  (∀ (j : Fin 4) (e : InFlight), x.traffic.inFlight[j] = some e →
      (e.origin = .server ∧ e.tag ≤ 27 ∧ e.source ≠ none) ∨ (e.origin = .part ∧ e.tag = 31 ∧ e.source = none))
    ∧ (∀ (j k : Fin 4) (e f : InFlight), x.traffic.inFlight[j] = some e → x.traffic.inFlight[k] = some f →
        (e.origin = .part ∧ f.origin = .part) ∨ e.tag = f.tag → j = k)
    ∧ (x.traffic.queue.map (·.tag)).Nodup
    ∧ (∀ q ∈ x.traffic.queue, q.tag ≤ 27 ∧ ∀ (j : Fin 4) (e : InFlight), x.traffic.inFlight[j] = some e → e.tag ≠ q.tag)
    ∧ ∀ k : Fin 4, x.traffic.reserved = some k → x.traffic.inFlight[k] = none

/-- The relations of a slot's life (R3, R5, R12, R13, R14): the latch is OPEN only with slot power OFF and the rundown expired,
in EMPTY and SORTED; the rundown timer runs only with slot power OFF; slot power is OFF before its grant and in SORTED; a slot
in RECOVERING resumes into a state that allows a recovery; a quarantine reason is recorded only from GRADING on. -/
def Slot.lifeAgrees (x : Slot) : Prop :=
  (x.lines.latch = .opened →
      x.lines.powered = false ∧ x.lines.rundown = .expired ∧ (x.state = .empty ∨ x.state = .sorted))
    ∧ (∀ t, x.lines.rundown = .running t → x.lines.powered = false)
    ∧ (x.state ∈ [SlotState.empty, .settling, .powerWait, .sorted] → x.lines.powered = false)
    ∧ (x.state = .recovering →
        ∃ st ∈ [SlotState.identifying, .unmatched, .ready, .calibrating, .burning], x.recovery.resume = some st)
    ∧ (x.grading.reason ≠ none → x.state ∈ [SlotState.grading, .sortWait, .parking, .sorted])

/-- Every slot's life agrees, a SLOT_POWER entry is held by a slot in POWER_WAIT alone (R5, R71), and the sort-wait list by
slots in SORT_WAIT alone (R146). -/
def State.livesAgree (s : State) : Prop :=
  (∀ n, (s.slot n).lifeAgrees)
    ∧ (∀ e ∈ s.power.queue, e.kind = .slotPower → (s.slot e.slot).state = .powerWait)
    ∧ ∀ w ∈ s.sort.waiting, (s.slot w.slot).state = .sortWait

/-- R51: the reference count of a model entry is the number of slots bound to it; a slot not yet identified, UNMATCHED, or in a
recovery from there, is bound to none (R7, R8, R12). -/
def State.bindingsAgree (s : State) : Prop :=
  (∀ i : Fin 16, s.tables.models[i].refCount = (allSlots.filter fun n => (s.slot n).identity.model = some i).length)
    ∧ ∀ n,
        let x := s.slot n
        (x.state ∈ [SlotState.empty, .settling, .powerWait, .identifying, .unmatched] → x.identity.model = none)
          ∧ (x.state = .recovering → x.recovery.resume = some .identifying ∨ x.recovery.resume = some .unmatched →
              x.identity.model = none)

/-- The relations of the Sort Unit (R139, R142, R144, R151): at most 64 entries, sequence numbers rising and below the
next one, no serial twice, no bin above its capacity, kind REJECT at position 7. -/
def State.sortAgrees (s : State) : Prop :=
  s.sort.manifest.length ≤ Config.manifestDepth
    ∧ (s.sort.manifest.map (·.sequence)).Pairwise (· < ·)
    ∧ (∀ e ∈ s.sort.manifest, e.sequence < s.sort.next)
    ∧ (s.sort.manifest.filterMap (·.serial)).Nodup
    ∧ (∀ set p, (s.bin set p).fill ≤ (s.bin set p).capacity)
    ∧ ∀ set, (s.bin set 7).kind = .reject

/-- R62: the standby current of every valid model entry is at most the settle reserve. -/
def State.standbyWithinReserve (s : State) : Prop :=
  ∀ i : Fin 16, s.tables.models[i].valid = true → s.tables.models[i].standby ≤ s.store.settings.settleReserve

/-- Does every number of a threshold set fit its bytes (R102, 12.4). -/
def ThresholdSet.storable (t : ThresholdSet) : Prop :=
  t.kf < 256 ∧ t.kl < 256 ∧ t.tw < 65536 ∧ t.tf < 65536 ∧ t.h < 65536 ∧ t.nw < 256 ∧ t.nx < 256 ∧ t.nf < 256
    ∧ t.haltLimit < 65536 ∧ t.ts < 65536 ∧ t.shockHold < 256 ∧ t.watchPenalty < 65536 ∧ t.faultAction < 256

/-- Does a model entry fit its bytes (R49, 12.4), but for the reference count, which is not kept. -/
def ModelEntry.storable (m : ModelEntry) : Prop :=
  m.pattern.length = 40 ∧ m.firmwareCount < 256 ∧ m.firmwarePlaces.length = 2
    ∧ (∀ f ∈ m.firmwarePlaces, f.length = 8) ∧ (∀ c, m.minCapacity = some c → c < 256 ^ 6)
    ∧ m.standby < 65536 ∧ m.run < 65536 ∧ m.heavyIncrement < 65536
    ∧ m.profileCount < 256 ∧ m.profilePlaces.length = 4
    ∧ (∀ p ∈ m.profilePlaces, p.mode < 256 ∧ p.peak < 65536 ∧ p.spinTime < 256)
    ∧ m.rundownCode < 256 ∧ m.calibrationCount < 256 ∧ m.shockPenalty < 65536 ∧ m.reseedPenalty < 65536
    ∧ m.binSet < 256 ∧ m.temp.storable ∧ m.curr.storable ∧ m.vibe.storable ∧ m.defr.storable

/-- Does a classification entry fit its bytes (R120, 12.4), but for the match count, which is not kept. -/
def ClassifyEntry.storable (e : ClassifyEntry) : Prop :=
  e.statusMatch < 256 ∧ e.codeValue < 65536 ∧ e.codeMask < 65536 ∧ e.commandMatch < 256 ∧ e.defectClass < 256
    ∧ e.action < 256

/-- Is a bin within the ranges of R139. -/
def Bin.inRange (b : Bin) : Prop :=
  b.minScore ≤ 10000 ∧ b.maxShocks ≤ 255 ∧ b.maxShed ≤ 15 ∧ b.rank ≤ 7 ∧ 1 ≤ b.capacity ∧ b.capacity ≤ 255

/-- Is every setting in its range (11.2). -/
def Settings.inRange (v : Settings) : Prop :=
  (1 ≤ v.settleTime ∧ v.settleTime ≤ 10) ∧ (200 ≤ v.settleReserve ∧ v.settleReserve ≤ 2000)
    ∧ (1 ≤ v.resetRundown ∧ v.resetRundown ≤ 120) ∧ (1 ≤ v.lightTimeout ∧ v.lightTimeout ≤ 600)
    ∧ (60 ≤ v.heavyTimeout ∧ v.heavyTimeout ≤ 7200) ∧ (1 ≤ v.identifyTimeout ∧ v.identifyTimeout ≤ 60)
    ∧ (5 ≤ v.spinDownTimeout ∧ v.spinDownTimeout ≤ 120)
    ∧ (10 ≤ v.repeatSpinUpTimeout ∧ v.repeatSpinUpTimeout ≤ 300) ∧ v.overdrawMargin ≤ 2000
    ∧ (1 ≤ v.restoreDelay ∧ v.restoreDelay ≤ 60) ∧ (5 ≤ v.idleTime ∧ v.idleTime ≤ 600)
    ∧ (1 ≤ v.streamInterval ∧ v.streamInterval ≤ 255) ∧ (1 ≤ v.reportStation ∧ v.reportStation ≤ 63)

/-- What the Configuration Store keeps of its values (R61, R62, R131, R151, R161, R163): every setting and the target in
range, every entry of a form that its bytes can carry, every valid entry past the checks of its write. -/
def State.storable (s : State) : Prop :=
  s.store.settings.inRange ∧ (1000 ≤ s.store.target ∧ s.store.target ≤ 60000)
    ∧ (∀ i : Fin 16, s.tables.models[i].storable
        ∧ (s.tables.models[i].valid = true → modelCheck s.store.settings.settleReserve s.tables.models[i] = .none))
    ∧ (∀ i : Fin 64, s.tables.classify[i].storable
        ∧ (s.tables.classify[i].valid = true → classifyCheck s.tables.classify[i] = .none))
    ∧ (∀ i : Fin 16, s.tables.defects[i].weight ≤ 1000)
    ∧ (∀ set p, (s.bin set p).inRange) ∧ ∀ set, (s.bin set 7).kind = .reject

/-- R63: the sum of the allocations is at or below the budget target. -/
def State.withinBudget (s : State) : Prop := allocationSum s ≤ s.store.target

end Sys2Proof.Machine
end

