-- ==== Sys2Proof/Certificates/Slice0/Obligations.lean ====
section
/-! DEFINITION. The statements for the provers. Each is a proposition over every state, unless its title says
otherwise. Where a statement names a state u with exec c s = next (finish u), u is the state that the command's own change
leaves, before the admission passes that the change started and before the transmit arbiter: FinishKeeps, PassRules
and ArbiterOrder say what these two do with it. -/

section

open Sys2Proof Sys2Proof.Machine

/-! ### The queue of commands and the end of a step -/

/-- Step runs the command at the front of the queue on the state with the queue's rest. -/
def Obligations.StepRunsFront : Prop :=
  ∀ (c : Instr) (rest : List Instr) (s : State), s.pending = c :: rest → step s = exec c { s with pending := rest }

/-- Nothing stops the part: every command, in every state, answers a next state, and none changes the queue of
commands. -/
def Obligations.EveryCommandCompletes : Prop :=
  ∀ (c : Instr) (s : State), ∃ t, exec c s = .next t ∧ t.pending = s.pending

/-- What the end of a step, its admission passes and then the arbiter (an order of the model's choice, log entries 6
and 7), leaves: everything outside the slots but the Port's four lists and transmitter, the admission queue, the slot
links and the notices; of a slot, everything but its state, lines of power, queues, spindle, allocation and last
forward time, and its notice state. While the notice queue holds no more than its 32 places, the part event set is
kept too. -/
def Obligations.FinishKeeps : Prop :=
  ∀ u : State,
    KeepsButSlots [.replies, .responses, .stream, .transmitter, .admission, .passDue, .sent, .partSet, .noticeQueue] u (finish u)
      ∧ (∀ n, SlotKeepsBut
          [.state, .power, .rundown, .lamps, .allocation, .spindle, .queue, .reserved, .inFlight, .injections,
            .lastForward, .notice] (u.slot n) ((finish u).slot n))
      ∧ (u.notices.queue.length ≤ 32 → sameIn u (finish u) .partSet)

/-- The transmit arbiter (R184): a busy transmitter is left alone; an idle one takes the head of the first list that
is not empty, in the order replies, notices, responses, stream report; with invalid straps replies only (R187). The
bytes of the frames that it sends, the strapped station as their source (12.1). A REPLY (R156, 12.4): the request's
tag and kind, the codes of status and reason, the results, whose bytes are shown for the refusals and for every reply
of chapter 9 but those of the settings, the part status, the tables, READ-SLOT and READ-FILTER (where the bytes of a
refusal stand, and that the codes of a reason and of a resume state carry no presence flag, are the model's choices,
log entry 23; that the next sequence number past the last is carried as 0, log entry 46). A manifest entry is laid out
as 12.4 says. A SLOT_RESP (R197, 12.2): slot, tag, status class, code, the classification's presence flags, entry
index, defect class and action, and the payload with its length; of the part's own, status class 4, a part code and
zeros. A NOTICE carries its source as it stands (R180, 12.5); a STREAM frame its number, its count and 30 bytes for
each slot (12.5). -/
def Obligations.ArbiterOrder : Prop :=
  (∀ u : State,
     (∀ f, u.port.transmitting = some f → arbitrate u = u)
       ∧ (u.port.transmitting = none →
           (∀ r rest, u.port.replies = r :: rest →
               arbitrate u = { u with port := { u.port with replies := rest, transmitting := some (replyFrame u r) } })
             ∧ (u.port.replies = [] → stationOf u.store.straps < 4 → arbitrate u = u)
             ∧ (u.port.replies = [] → 4 ≤ stationOf u.store.straps →
                 (∀ src rest, u.notices.queue = src :: rest →
                     (arbitrate u).port = { u.port with transmitting := some (noticeFrame { u with notices.queue := rest } src) }
                       ∧ noticeStateOf (arbitrate u) src = .announced
                       ∧ KeepsButSlots [.transmitter, .partSet, .noticeQueue] u (arbitrate u)
                       ∧ (src = .part ∨ u.notices.partState ≠ .lost → (arbitrate u).notices.queue = rest)
                       ∧ (src ≠ .part → u.notices.partState = .lost → rest.length < 32 →
                           (arbitrate u).notices.queue = rest ++ [.part] ∧ (arbitrate u).notices.partState = .queued))
                   ∧ (u.notices.queue = [] →
                       (∀ r rest, u.port.responses = r :: rest →
                           arbitrate u
                             = { u with port := { u.port with responses := rest, transmitting := some (responseFrame u r) } })
                         ∧ (u.port.responses = [] →
                             (∀ r, u.port.stream = some r →
                                 arbitrate u
                                   = { u with port := { u.port with stream := none, transmitting := some (streamFrame u r) } })
                               ∧ (u.port.stream = none → arbitrate u = u))))))
    ∧ (∀ (s : State) (f : RackFrame),
         let station : Byte := BitVec.ofNat 8 (stationOf s.store.straps)
         let report : Byte := BitVec.ofNat 8 s.store.settings.reportStation
         let byte (x : Nat) : Byte := BitVec.ofNat 8 x
         let word (x : Nat) : Bytes := [byte x, byte (x / 256)]
         let long (x : Nat) : Bytes := [byte x, byte (x / 256), byte (x / 256 / 256), byte (x / 256 / 256 / 256)]
         let bit (i : Nat) (b : Bool) : Nat := if b then 2 ^ i else 0
         let stateCode (st : SlotState) : Byte :=
           match st with
           | .empty => 0
           | .settling => 1
           | .powerWait => 2
           | .identifying => 3
           | .unmatched => 4
           | .ready => 5
           | .calibrating => 6
           | .burning => 7
           | .recovering => 8
           | .grading => 9
           | .sortWait => 10
           | .parking => 11
           | .sorted => 12
         let metricCode (st : MetricState) : Nat :=
           match st with
           | .calibrating => 0
           | .clear => 1
           | .watch => 2
           | .fault => 3
         let imageCode (st : ImageState) : Byte :=
           match st with
           | .good => 0
           | .bad => 1
           | .writing => 2
         let reasonCode (r : Option QuarantineReason) : Byte :=
           match r with
           | none => 0
           | some .classified => 1
           | some .metricFault => 2
           | some .overdraw => 3
           | some .powerMismatch => 4
           | some .identityChanged => 5
           | some .noIdentity => 6
           | some .linkLost => 7
           | some .recoveryLimit => 8
           | some .requested => 9
         let name : Bytes :=
           [0x4E, 0x4F, 0x54, 0x41, 0x56, 0x45, 0x4C, 0x20, 0x34, 0x38, 0x30, 0x20, 0x20, 0x20, 0x20, 0x20]
         let metric (m : StreamMetric) : Bytes :=
           word (m.raw.getD 0) ++ long ((m.lastD.getD 0) % 256 ^ 4).toNat
             ++ [byte (metricCode m.state + bit 2 m.raw.isSome + bit 3 m.lastD.isSome + bit 4 m.evaluated)]
         (rackFrameBytes f
             = (let header := [f.kind, f.dest, f.source] ++ word f.payload.length
                header ++ f.payload ++ long (crc32 (header ++ f.payload)).toNat))
           ∧ (∀ r : Reply,
               let status : Byte :=
                 match r.status with
                 | .ok => 0
                 | .busy => 1
                 | .badRequest => 2
                 | .badSlot => 3
                 | .wrongState => 4
                 | .inUse => 5
                 | .tableRefused => 6
                 | .notFound => 7
                 | .strapInvalid => 8
               let reason : Byte :=
                 match r.reason with
                 | .none => 0
                 | .emptyPattern => 1
                 | .noProfile => 2
                 | .fieldRange => 3
                 | .standbyAboveReserve => 4
                 | .thresholds => 5
                 | .reservedClass => 6
                 | .rejectPosition => 7
                 | .capacityBelowFill => 8
               replyFrame s r = ⟨0x04, r.dest, station, [r.tag, r.kind, status, reason] ++ r.results.bytes⟩)
           ∧ (∀ before after, (Results.zeroed before none after).bytes = List.replicate (before + after) 0)
           ∧ (∀ before st after,
               (Results.zeroed before (some st) after).bytes
                 = List.replicate before 0 ++ [stateCode st] ++ List.replicate after 0)
           ∧ Results.empty.bytes = []
           ∧ (∀ at_ straps image saving report mode,
               (Results.discover at_ straps image saving report mode).bytes
                 = name
                   ++ [byte at_, straps, 48, imageCode image, if saving then 1 else 0, byte report,
                     if mode = .stream then 1 else 0])
           ∧ (∀ at_ straps image,
               (Results.discoverInvalid at_ straps image).bytes = name ++ [byte at_, straps, 0, imageCode image, 0, 0, 0])
           ∧ (∀ target sum, (Results.budget target sum).bytes = word target ++ word sum)
           ∧ (∀ st count, (Results.startTest st count).bytes = [stateCode st, byte count])
           ∧ (∀ st answered draining, (Results.endTest st answered draining).bytes = [stateCode st, byte answered, byte draining])
           ∧ (∀ metrics,
               (Results.rebase metrics).bytes
                 = metrics.flatMap fun m => [if m.1 then 1 else 0, byte m.2.1, byte (metricCode m.2.2)])
           ∧ (∀ taken r st, (Results.quarantine taken r st).bytes = [if taken then 1 else 0, reasonCode r, stateCode st])
           ∧ (∀ st back episodes, (Results.recoverStarted st (some back) episodes).bytes = [0, stateCode st, stateCode back, byte episodes])
           ∧ (∀ r st, (Results.recoverLimit r st).bytes = [1, reasonCode r, stateCode st])
           ∧ (∀ (i : Fin 16) st, (Results.rematch (some i) st).bytes = [1, byte i.val, stateCode st])
           ∧ (∀ st, (Results.rematch none st).bytes = [0, 0, stateCode st])
           ∧ (∀ generation fill, (Results.cartSwap generation fill).bytes = word generation ++ [byte fill])
           ∧ (∀ removed held lowest,
               (Results.retire removed held lowest).bytes
                 = [byte removed, byte held, if lowest.isSome then 1 else 0] ++ long (lowest.getD 0))
           ∧ (∀ entries more next,
               (Results.manifest entries more next).bytes
                 = [byte entries.length] ++ entries.flatMap ManifestEntry.bytes ++ [if more then 1 else 0] ++ long next)
           ∧ (∀ e : ManifestEntry,
               e.bytes
                 = long e.sequence ++ [byte e.slot.val] ++ e.serial.getD (List.replicate 20 0)
                   ++ [byte ((e.model.map Fin.val).getD 0), byte e.binSet.val, byte e.position.val] ++ word e.generation
                   ++ word e.score
                   ++ [byte
                       (bit 0 e.forced + bit 1 e.regraded + bit 2 e.fwMismatch + bit 3 e.shed + bit 4 e.finalIdMissing
                         + bit 5 e.serial.isSome + bit 6 e.model.isSome + bit 7 e.reason.isSome),
                     reasonCode e.reason])
           ∧ (∀ dest slot tag status code (c : Classification) (payload : Bytes),
               let statusCode : Byte :=
                 match status with
                 | .good => 0
                 | .recovered => 1
                 | .medium => 2
                 | .hardware => 3
                 | .aborted => 4
                 | .illegal => 5
               let actionCode : Byte :=
                 match c.action with
                 | .ignore => 0
                 | .count => 1
                 | .countNote => 2
                 | .quarantine => 3
               responseFrame s (.drive dest slot tag status code c payload)
                 = ⟨0x02, dest, station,
                     [slot, tag, statusCode] ++ word code.toNat
                       ++ [byte (bit 0 c.entry.isSome + bit 1 c.cls.isSome + 4), byte ((c.entry.map Fin.val).getD 0),
                         byte ((c.cls.map Fin.val).getD 0), actionCode]
                       ++ word payload.length ++ payload⟩)
           ∧ (∀ dest slot tag code,
               let value : Nat :=
                 match code with
                 | .badSlot => 0xF001
                 | .badTag => 0xF002
                 | .badCommand => 0xF003
                 | .notAccepting => 0xF004
                 | .tagInUse => 0xF005
                 | .spindleStopped => 0xF006
                 | .queueFull => 0xF007
                 | .timeout => 0xF008
                 | .recovery => 0xF009
                 | .driveReset => 0xF00A
                 | .endOfTest => 0xF00B
                 | .removed => 0xF00C
               responseFrame s (.partMade dest slot tag code)
                 = ⟨0x02, dest, station, [slot, tag, 4] ++ word value ++ [0, 0, 0, 0, 0, 0]⟩)
           ∧ (∀ n,
               noticeFrame s (.slot n)
                 = ⟨0x05, report, station, [slotByte n, stateCode (s.slot n).state] ++ word (s.slot n).events.toNat⟩)
           ∧ noticeFrame s .part
               = ⟨0x05, report, station,
                   [0xFF, s.notices.part, if s.notices.part.getLsbD 0 ∧ s.notices.cause = .requested then 1 else 0,
                     match s.power.supply with
                     | .normal => 0
                     | .warning => 1
                     | .restoring => 2,
                     byte s.notices.queue.length]⟩
           ∧ ∀ r : StreamReport,
               streamFrame s r
                 = ⟨0x06, byte r.dest, station,
                     word r.number ++ [byte r.records.length]
                       ++ r.records.flatMap fun v =>
                         [slotByte v.slot, stateCode v.state] ++ metric v.temp ++ metric v.curr ++ metric v.vibe
                           ++ metric v.defr⟩)

/-- An admission pass and its oldest entry (R75, R76, R79). An entry that is not oversize and fits is granted: its
need fits under the target, the pass goes on with the younger entries, and nothing but its slot, the lists it
forwards into and the admission queue changes; a SLOT_POWER grant powers the slot and sends it to IDENTIFYING (R5).
An entry that does not fit and is blocking ends the pass. No pass grants anything in a supply episode or while the
sum is above the target (R75, R81). The fit test of a rebinding (R70): the sum with the slot's allocation replaced is
at or below the target; a fall or an equal allocation always passes. An admission pass examines the entries oldest
first (R75, R76, R77). An older blocking entry ends it; an oversize entry is stepped over, its skip count 0 and its
blocking flag clear; an entry that fits is granted, after the skip count of every older entry that did not fit in
this pass has risen by one, to 4 at most, 4 setting the blocking flag; another entry is passed over. The profile of a
SPIN_UP entry (R78): of those that fit at this pass the one of shortest spin time, then of lower effective peak, then
of lower index; none where none fits. The offer is its effective peak, 0 counting as 1 (R66). What a HEAVY or SPIN_UP
grant does (R30, R31, R36, R79, R80), shown for a slot with nothing else queued or listed. A HEAVY: the allocation
granted, the head in its reserved entry, granted. A server's SPIN_UP: the allocation is the chosen profile's
effective peak, payload byte 1 its mode code, the timeout twice its spin time, the spindle SPINNING_UP. A part's
SPIN_UP: the same with tag 31 where it can be sent at once, else the profile is the held grant and SPIN_UP is listed.
The state figure (R66, R69): 0 with power OFF, else at least 1: the chosen profile's peak in SPINNING_UP, the granted
one's under a held grant, the reserve granted with no model, else the model's standby or run current, the latter with
the increment under a HEAVY. -/
def Obligations.PassRules : Prop :=
  (∀ (s : State) (e : AdmissionEntry) (rest : List AdmissionEntry),
     s.power.supply = .normal → allocationSum s ≤ s.store.target → s.power.queue = e :: rest → oversize s e = false →
       (∀ a p, offer s e = some (a, p) →
           runPass s = passLoop (rest.map (·.slot)) [] (grant e a p s)
             ∧ allocationSum s + a ≤ s.store.target + (s.slot e.slot).power.allocation
             ∧ KeepsBut [.slot e.slot, .responses, .admission, .passDue, .sent] s (grant e a p s)
             ∧ (e.kind = .slotPower →
                 ((grant e a p s).slot e.slot).state = .identifying
                   ∧ ((grant e a p s).slot e.slot).lines.powered = true
                   ∧ ((grant e a p s).slot e.slot).lines.rundown = .stopped
                   ∧ ((s.slot e.slot).traffic.injections = [] → ((grant e a p s).slot e.slot).power.allocation = a)
                   ∧ a = max 1 s.store.settings.settleReserve))
         ∧ (offer s e = none → e.blocking = true → (∀ e' ∈ rest, e'.slot ≠ e.slot) → runPass s = s))
    ∧ (∀ s : State, s.power.supply ≠ .normal ∨ s.store.target < allocationSum s → runPass s = s)
    ∧ (∀ (s : State) (n : SlotId) (a : Nat),
         (a ≤ (s.slot n).power.allocation → fits s n a = true)
           ∧ ((s.slot n).power.allocation < a →
               (fits s n a = true ↔ allocationSum s - (s.slot n).power.allocation + a ≤ s.store.target))
           ∧ allocationSum (setAllocation n a s) = allocationSum s - (s.slot n).power.allocation + a
           ∧ (setAllocation n a s).power.passDue = (s.power.passDue || decide (a < (s.slot n).power.allocation)))
    ∧ (∀ (s : State) (n : SlotId) (rest missed : List SlotId) (e : AdmissionEntry), entryOf s n = some e →
         let older := s.power.queue.takeWhile fun o => o.slot ≠ n
         let each (f : AdmissionEntry → AdmissionEntry) : State :=
           { s with power := { s.power with queue := s.power.queue.map f } }
         ((∃ o ∈ older, o.blocking = true) → passLoop (n :: rest) missed s = s)
           ∧ ((∀ o ∈ older, o.blocking = false) →
               (∀ a, grantFigure s e = some a → s.store.target < a →
                   passLoop (n :: rest) missed s
                     = passLoop rest missed (each fun o => if o.slot = n then { o with skips := 0, blocking := false } else o))
                 ∧ (oversize s e = false →
                     (∀ a p, offer s e = some (a, p) →
                         passLoop (n :: rest) missed s
                           = passLoop rest missed
                               (grant e a p
                                 (each fun o =>
                                   if o.slot ∈ missed then
                                     { o with
                                       skips := min 4 (o.skips + 1), blocking := o.blocking || decide (4 ≤ o.skips + 1) }
                                   else o)))
                       ∧ (offer s e = none → passLoop (n :: rest) missed s = passLoop rest (n :: missed) s))))
    ∧ (∀ (s : State) (e : AdmissionEntry) (m : ModelEntry), modelOf s (s.slot e.slot) = some m →
         let peak (p : Nat) := (s.slot e.slot).identity.peaks.getD p 0
         let time (p : Nat) := (m.profiles.map (·.spinTime)).getD p 0
         let fits (p : Nat) : Prop :=
           p < (s.slot e.slot).identity.peaks.length
             ∧ allocationSum s + max 1 (peak p) ≤ s.store.target + (s.slot e.slot).power.allocation
         (chooseProfile s e.slot = none ↔ ∀ p, ¬fits p)
           ∧ (∀ p, chooseProfile s e.slot = some p →
               fits p ∧ ∀ p', fits p' →
                 time p < time p' ∨ time p = time p' ∧ (peak p < peak p' ∨ peak p = peak p' ∧ p ≤ p'))
           ∧ (e.kind = .spinUp → offer s e = (chooseProfile s e.slot).map fun p => (max 1 (peak p), some p))
           ∧ (e.kind = .heavy → ∀ a p, offer s e = some (a, p) →
               a = max 1 ((s.slot e.slot).power.allocation + m.heavyIncrement)))
    ∧ (∀ (s : State) (e : AdmissionEntry) (a p : Nat) (k : Fin 4) (m : ModelEntry) (profile : SpinProfile),
         let n := e.slot
         let x := s.slot n
         let entry (tag : Nat) (cls : CmdClass) (from_ : Origin) (timeout : Nat) (source : Option Byte) : Option InFlight :=
           some ⟨tag, cls, from_, true, s.now, timeout, source, false⟩
         x.lines.powered = true → x.traffic.injections = [] → modelOf s x = some m → m.profiles[p]? = some profile →
           (∀ q : QueuedCmd, x.traffic.reserved = some k → x.traffic.queue = [q] → e.origin = .server →
               (e.kind = .heavy → q.cls = .heavy →
                   let t := grant e a none s
                   KeepsBut [.slot n, .admission, .passDue, .sent] s t
                     ∧ t.power.queue = s.power.queue.filter (·.slot ≠ n)
                     ∧ t.sent = s.sent ++ [(n, .command q.tag .heavy q.payload)]
                     ∧ t.slot n
                         = { x with
                             power := { x.power with allocation := a }
                             traffic := { x.traffic with
                               queue := [], reserved := none
                               inFlight := x.traffic.inFlight.set k
                                 (entry q.tag .heavy .server (s.store.settings.heavyTimeout * 1000) (some q.source)) }
                             drift.lastForward := s.now })
                 ∧ (e.kind = .spinUp → q.cls = .spinUp → a = max 1 (x.identity.peaks.getD p 0) →
                     let t := grant e a (some p) s
                     KeepsBut [.slot n, .admission, .passDue, .sent] s t
                       ∧ t.power.queue = s.power.queue.filter (·.slot ≠ n)
                       ∧ t.sent = s.sent ++ [(n, .command q.tag .spinUp (q.payload.set 1 (BitVec.ofNat 8 profile.mode)))]
                       ∧ t.slot n
                           = { x with
                               power := { x.power with allocation := a, spindle := .spinningUp, chosen := some p }
                               traffic := { x.traffic with
                                 queue := [], reserved := none
                                 inFlight := x.traffic.inFlight.set k
                                   (entry q.tag .spinUp .server (2 * profile.spinTime * 1000) (some q.source)) }
                               drift.lastForward := s.now }))
             ∧ (x.traffic.queue = [] → e.kind = .spinUp → e.origin = .part → a = max 1 (x.identity.peaks.getD p 0) →
                 let t := grant e a (some p) s
                 KeepsBut [.slot n, .admission, .passDue, .sent] s t
                   ∧ t.power.queue = s.power.queue.filter (·.slot ≠ n)
                   ∧ (x.partInFlight = false → x.freeEntry = some k →
                       t.sent = s.sent ++ [(n, .command 31 .spinUp [0x21, BitVec.ofNat 8 profile.mode])]
                         ∧ t.slot n
                             = { x with
                                 power := { x.power with
                                   allocation := a, spindle := .spinningUp, chosen := some p, held := none }
                                 traffic := { x.traffic with
                                   inFlight := x.traffic.inFlight.set k
                                     (entry 31 .spinUp .part (2 * profile.spinTime * 1000) none) } })
                   ∧ (x.partInFlight = true ∨ x.freeEntry = none →
                       t.sent = s.sent
                         ∧ t.slot n
                             = { x with
                                 power := { x.power with allocation := a, held := some p }
                                 traffic := { x.traffic with injections := [bareInjection .spinUp] } })))
    ∧ (∀ (s : State) (x : Slot),
         let heavy := ∃ k : Fin 4, ∃ e, x.traffic.inFlight[k] = some e ∧ e.cls = .heavy
         (x.lines.powered = false → stateFigure s x = 0)
           ∧ (x.lines.powered = true →
               (x.power.spindle = .spinningUp → ∀ p, x.power.chosen = some p → stateFigure s x = max 1 (x.identity.peaks.getD p 0))
                 ∧ (x.power.spindle = .stopped ∨ x.power.spindle = .spinningDown → ∀ p, x.power.held = some p →
                     stateFigure s x = max 1 (x.identity.peaks.getD p 0))
                 ∧ (x.power.spindle ≠ .spinningUp → x.power.held = none →
                     (modelOf s x = none → stateFigure s x = max 1 x.power.reserveGranted)
                       ∧ ∀ m, modelOf s x = some m →
                           (x.power.spindle = .stopped → stateFigure s x = max 1 m.standby)
                             ∧ (x.power.spindle ≠ .stopped → heavy → stateFigure s x = max 1 (m.run + m.heavyIncrement))
                             ∧ (x.power.spindle ≠ .stopped → ¬heavy → stateFigure s x = max 1 m.run))))

/-! ### The resets -/

/-- The state after reset is the one that POWER_ON_RESET leaves over a blank flash with station 21, load source
FLASH, tick default 1 s, the supply warning clear and no presence line asserted (the inputs are the model's choice,
log entry 5). -/
def Obligations.ResetIsPowerOn : Prop :=
  ∀ (s : State) (answers : Bool),
    s.pending = [] → s.store.flash = none → (∀ n, (s.slot n).lines.line = false) →
      exec (.powerOnReset Config.resetStraps false answers) s = .next State.reset

/-- POWER_ON_RESET clears every block whatever it held: each slot to the cleared record with the latch LOCKED and the
rundown running with the reset rundown setting (R2, R22), in SETTLING with its settle timer running where its
presence line is asserted (R3, R22; log entry 21), the queues, lists and counters empty, the manifest empty with next
sequence number 1 (R153), the supply state by the warning input (R85); RESTARTED is pending (R185), STRAP_INVALID
under an invalid station. Without an image that passes its check, or with load source SERVER, POWER_ON_RESET leaves
the default settings of 11.2 and the target 20000, blank tables and the bins of R153 (R186, R188, R190). The fields
of a blank model entry other than its valid flag, and the lamp patterns of a blank indicator entry, are the model's
choice (log entry 33). -/
def Obligations.PowerOn : Prop :=
  (∀ (straps : BitVec 8) (warning answers : Bool) (s : State),
     ∃ t, exec (.powerOnReset straps warning answers) s = .next t
       ∧ (∀ n, t.slot n
           = { clearedSlot 0 (.running (t.store.settings.resetRundown * 1000)) .locked
                 ((t.slot n).lines.lampA, (t.slot n).lines.lampB) with
                 state := if (s.slot n).lines.line then .settling else .empty
                 lines.line := (s.slot n).lines.line
                 lines.settle :=
                   if (s.slot n).lines.line then some (t.store.settings.settleTime * 1000) else none }
           ∧ LampsCurrent t n)
       ∧ t.now = 0 ∧ t.tickAt = tickMs t.store.settings.tickPeriod
       ∧ t.port.requests = [] ∧ t.port.replies = [] ∧ t.port.responses = [] ∧ t.port.stream = none
       ∧ t.port.rxErrors = 0 ∧ t.port.portBusy = 0 ∧ t.port.broadcastDiscards = 0 ∧ t.port.streamDropped = 0
       ∧ t.power.queue = [] ∧ t.power.warning = warning
       ∧ t.power.supply = (if warning then .warning else .restoring)
       ∧ t.power.restore = (if warning then none else some (t.store.settings.restoreDelay * 1000))
       ∧ t.sort.manifest = [] ∧ t.sort.next = 1 ∧ t.sort.waiting = []
       ∧ (∀ set p, (t.bin set p).fill = 0 ∧ (t.bin set p).generation = 0)
       ∧ (∀ i : Fin 16, t.tables.models[i].refCount = 0) ∧ (∀ i : Fin 64, t.tables.classify[i].matchCount = 0)
       ∧ t.store.straps = straps ∧ t.store.save = none ∧ t.store.flash = s.store.flash
       ∧ t.notices.part.getLsbD 0 = true ∧ t.notices.cause = .powerOn
       ∧ (stationOf straps < 4 → t.notices.part.getLsbD 6 = true)
       ∧ t.transit = ⟨[], [], []⟩ ∧ t.pending = s.pending)
    ∧ (∀ (straps : BitVec 8) (warning answers : Bool) (s : State),
         loadsFlash straps = false ∨ readFlash answers s.store.flash (tickDefault straps) = none →
           ∃ t, exec (.powerOnReset straps warning answers) s = .next t
             ∧ t.store.settings = defaultSettings (tickDefault straps) ∧ t.store.target = 20000
             ∧ (∀ i : Fin 16, t.tables.models[i] = blankModel ∧ t.tables.defects[i] = blankDefect
                 ∧ t.tables.indicators[i] = blankIndicator)
             ∧ (∀ i : Fin 64, t.tables.classify[i] = blankClassify)
             ∧ (∀ set p, (t.bin set p).kind = (if p = 7 then .reject else .unused)
                 ∧ (t.bin set p).capacity = 255 ∧ (t.bin set p).rank = 7 ∧ (t.bin set p).minScore = 0
                 ∧ (t.bin set p).maxShocks = 255 ∧ (t.bin set p).maxShed = 15 ∧ (t.bin set p).requiresFw = false)
             ∧ (loadsFlash straps = true → t.store.image = .bad ∧ t.notices.part.getLsbD 7 = true))

/-- Decode and encode agree over the whole stored image: a part that starts from the image that a storable part wrote
holds that part's settings, target and tables again, with the kept fields at 0 (R189, R190, R191, 12.5). -/
def Obligations.PowerOnRestoresImage : Prop :=
  ∀ (saved s : State) (straps : BitVec 8) (warning : Bool),
    saved.storable → loadsFlash straps = true → s.store.flash = some (imageBytes saved) →
      ∃ t, exec (.powerOnReset straps warning true) s = .next t
        ∧ t.store.settings = saved.store.settings ∧ t.store.target = saved.store.target ∧ t.store.image = .good
        ∧ (∀ i : Fin 16, t.tables.models[i] = { saved.tables.models[i] with refCount := 0 }
            ∧ t.tables.defects[i] = saved.tables.defects[i] ∧ t.tables.indicators[i] = saved.tables.indicators[i])
        ∧ (∀ i : Fin 64, t.tables.classify[i] = { saved.tables.classify[i] with matchCount := 0 })
        ∧ ∀ set p, t.bin set p = { saved.bin set p with fill := 0, generation := 0 }

/-- Reading a table entry back gives the entry that was written, and leaves what stands behind it (12.4). The
identity block (R47, R48, 12.3): a payload of 128 bytes or more whose version is 1 reads as the record of its fields,
with as many extension words as the count says, 6 at most; a shorter one, or another version, is no valid block. -/
def Obligations.EntriesReadBack : Prop :=
  (∀ rest : Bytes,
     (∀ m : ModelEntry, m.storable → getModel (m.bytes ++ rest) = some ({ m with refCount := 0 }, rest))
       ∧ (∀ e : ClassifyEntry, e.storable → getClassify (e.bytes ++ rest) = some ({ e with matchCount := 0 }, rest))
       ∧ (∀ e : DefectEntry, e.weight < 65536 → getDefect (e.bytes ++ rest) = some (e, rest))
       ∧ (∀ b : Bin, b.inRange →
           ∃ f, getBin (b.bytes ++ rest) = some (f, rest) ∧ f.toBin b.fill b.generation = some b)
       ∧ (∀ e : IndicatorEntry, ∃ f, getIndicator (e.bytes ++ rest) = some (f, rest) ∧ f.toEntry = some e))
    ∧ ((∀ payload : Bytes, payload.length < 128 ∨ payload.head? ≠ some 1 → parseIdentity payload = none)
         ∧ ∀ (model serial firmware rest : Bytes) (capacity power count : Nat) (words : List Nat)
             (supported enabled locked frozen expired : Bool),
             model.length = 40 → serial.length = 20 → firmware.length = 8 → 24 ≤ rest.length → capacity < 256 ^ 6 →
               power < 32768 → count < 256 → words.length = 6 → (∀ w ∈ words, w < 256 ^ 4) →
               let security := supported.toNat + 2 * enabled.toNat + 4 * locked.toNat + 8 * frozen.toNat + 16 * expired.toNat
               let block (declared : Bool) : Bytes :=
                 [1] ++ model ++ serial ++ firmware ++ putNum 6 capacity ++ putNum 2 security
                   ++ putNum 2 (power + 32768 * declared.toNat) ++ putNum 1 count ++ words.flatMap (putNum 4) ++ rest
               let record (declared : Option Nat) : IdentityRecord :=
                 { model := model, serial := serial, firmware := firmware, capacity := capacity
                   security := ⟨supported, enabled, locked, frozen, expired⟩, power := declared
                   extensions := words.take count, lastOutcome := .ack }
               parseIdentity (block false) = some (record none)
                 ∧ parseIdentity (block true) = some (record (some (power % 4096))))

/-- RESET-PART (R174): the reply OK, and the soft reset waits for it and every reply before it, the one being sent
included. Until then the Request Unit takes no request. SOFT_RESET, once RESET-PART's reply and every reply before it
have been sent (R174): every slot is cleared without a response (R23) and settles where its presence line is asserted
(R22, R195; log entry 21), the Port keeps replies, responses and the frame being sent and loses the rest (R155,
R195), settings, target, tables, image, manifest, bins and sequence numbers stay (R154, R195), the counts of the
tables are 0 (R51, R132), the supply state restarts (R85), RESTARTED is pending with cause REQUESTED (R185). Before
that it does nothing (the model's choice, log entry 1). -/
def Obligations.SoftResets : Prop :=
  (∀ (s : State) (q : QueuedRequest) (rest : List QueuedRequest), Serves s q rest 0x14 → q.operands = [] →
     let sending := if ∃ f, s.port.transmitting = some f ∧ f.kind = 4 then 1 else 0
     exec .resetPart s
       = .next
           (finish
             { s with
               port := { s.port with
                 requests := rest
                 replies := s.port.replies ++ [⟨q.source, q.tag, q.kind, .ok, .none, .empty⟩]
                 resetAwaits := some (s.port.replies.length + 1 + sending) } }))
    ∧ (∀ s : State,
         (s.port.resetAwaits ≠ some 0 → exec .softReset s = .next s)
           ∧ (s.port.resetAwaits = some 0 →
               ∃ u, exec .softReset s = .next (arbitrate u)
                 ∧ KeepsButSlots
                     [.lampStart, .tickAt, .requests, .stream, .counters, .resetAwaits, .models, .classify, .admission,
                       .supply, .passDue, .waiting, .partSet, .noticeQueue, .streamTimer, .transit] s u
                 ∧ (∀ n, u.slot n
                     = { clearedSlot s.now (.running (s.now + s.store.settings.resetRundown * 1000)) .locked
                           ((u.slot n).lines.lampA, (u.slot n).lines.lampB) with
                           state := if (s.slot n).lines.line then .settling else .empty
                           lines.line := (s.slot n).lines.line
                           lines.settle :=
                             if (s.slot n).lines.line then some (s.now + s.store.settings.settleTime * 1000) else none }
                     ∧ LampsCurrent u n)
                 ∧ u.lampStart = s.now ∧ u.tickAt = s.now + tickMs s.store.settings.tickPeriod
                 ∧ u.port.requests = [] ∧ u.port.stream = none ∧ u.port.resetAwaits = none
                 ∧ u.port.rxErrors = 0 ∧ u.port.portBusy = 0 ∧ u.port.broadcastDiscards = 0 ∧ u.port.streamDropped = 0
                 ∧ (∀ i : Fin 16, u.tables.models[i] = { s.tables.models[i] with refCount := 0 })
                 ∧ (∀ i : Fin 64, u.tables.classify[i] = { s.tables.classify[i] with matchCount := 0 })
                 ∧ u.power.queue = [] ∧ u.power.warning = s.power.warning
                 ∧ u.power.supply = (if s.power.warning then .warning else .restoring)
                 ∧ u.power.restore = (if s.power.warning then none else some (s.now + s.store.settings.restoreDelay * 1000))
                 ∧ u.sort.waiting = [] ∧ u.transit = ⟨[], [], []⟩
                 ∧ u.notices.part = (if s.power.warning then 3 else 1) ∧ u.notices.cause = .requested
                 ∧ u.notices.streamCount = 0 ∧ u.notices.streamNumber = 0))

/-! ### Slot lines and timers -/

/-- An event whose precondition no longer holds changes nothing: the timer, wait, report or save it speaks of does
not run, or the slot link is disregarded because slot power is OFF (the model's choice, log entry 1; all responses
but one taken at the time of the park timer, log entry 41). -/
def Obligations.StaleEventsChangeNothing : Prop :=
  ∀ (n : SlotId) (s : State),
    ((s.slot n).lines.settle = none → exec (.settleTimerExpiry n) s = .next s)
      ∧ ((s.slot n).lines.removal = none → exec (.removalCheckEnd n) s = .next s)
      ∧ ((∀ t, (s.slot n).lines.rundown ≠ .running t) → exec (.rundownTimerExpiry n) s = .next s)
      ∧ ((s.slot n).lines.park = none → exec (.parkTimerExpiry n) s = .next s)
      ∧ (s.power.restore = none → exec .restoreDelayExpiry s = .next s)
      ∧ (n ∉ s.transit.calibrations → exec (.calibrationComplete n) s = .next s)
      ∧ (n ∉ s.transit.handOvers → exec (.handOver n) s = .next s)
      ∧ (∀ r, (n, r) ∉ s.transit.quarantines → exec (.quarantineRequest n r) s = .next s)
      ∧ ((s.slot n).recovery.wait = none → exec (.linkReadyWaitExpiry n) s = .next s)
      ∧ (∀ k : Fin 4, (s.slot n).traffic.inFlight[k] = none → exec (.classTimeoutExpiry n k) s = .next s)
      ∧ (s.store.save = none →
          exec .saveEraseDone s = .next s ∧ exec .saveWriteDone s = .next s ∧ exec .flashError s = .next s
            ∧ exec .saveTimeout s = .next s ∧ ∀ b, exec (.saveVerifyDone b) s = .next s)
      ∧ (s.port.transmitting = none → exec .transmitComplete s = .next s)
      ∧ ((s.slot n).lines.powered = false →
          (∀ tag st code pay v, (tag.toNat, s.now) ∉ (s.slot n).lines.late → exec (.driveResponse n tag st code pay v) s = .next s)
            ∧ (∀ f, exec (.badFrame n f) s = .next s) ∧ exec (.linkReady n) s = .next s
            ∧ exec (.driveReset n) s = .next s ∧ exec (.lineBreak n) s = .next s
            ∧ exec (.lineBreakEnd n) s = .next s)

/-- PRESENCE_ASSERT (R3, R4): in EMPTY the slot enters SETTLING with the latch LOCKED and the settle timer started;
in SETTLING only the line changes; in every other state a removal check is discarded. PRESENCE_DEASSERT (R3, R4):
SETTLING ends in EMPTY, the latch opening when the rundown has expired; in every other state but EMPTY a removal
check of 100 ms runs, one already running going on. SETTLE_TIMER_EXPIRY (R3; here and below the clock moving to the
deadline is the model's choice, log entry 2): a slot in SETTLING whose line is asserted becomes PRESENT, raises
INSERTED, enters POWER_WAIT and asks for the settle reserve; a slot that holds no admission entry gets one at the
tail (R71). -/
def Obligations.PresenceLine : Prop :=
  (∀ (n : SlotId) (s : State),
     ∃ t, exec (.presenceAssert n) s = .next t ∧ KeepsBut [.slot n] s t
       ∧ ((s.slot n).state = .empty →
           t.slot n =
               { s.slot n with
                 state := .settling
                 lines := { (s.slot n).lines with
                   line := true, latch := .locked, settle := some (s.now + s.store.settings.settleTime * 1000) } }.lampsOf
                 (t.slot n)
             ∧ LampsCurrent t n)
       ∧ ((s.slot n).state = .settling → t.slot n = { s.slot n with lines.line := true })
       ∧ ((s.slot n).state ≠ .empty → (s.slot n).state ≠ .settling →
           t.slot n = { s.slot n with lines := { (s.slot n).lines with line := true, removal := none } }))
    ∧ (∀ (n : SlotId) (s : State),
         ∃ t, exec (.presenceDeassert n) s = .next t ∧ KeepsBut [.slot n] s t
           ∧ ((s.slot n).state = .empty → t.slot n = { s.slot n with lines.line := false })
           ∧ ((s.slot n).state = .settling →
               t.slot n =
                   { s.slot n with
                     state := .empty
                     lines := { (s.slot n).lines with
                       line := false, settle := none
                       latch := if (s.slot n).lines.rundown = Rundown.expired then .opened else (s.slot n).lines.latch } }.lampsOf
                     (t.slot n)
                 ∧ LampsCurrent t n)
           ∧ ((s.slot n).state ≠ .empty → (s.slot n).state ≠ .settling →
               t.slot n
                 = { s.slot n with
                     lines := { (s.slot n).lines with
                       line := false, removal := some ((s.slot n).lines.removal.getD (s.now + 100)) } }))
    ∧ (∀ (n : SlotId) (s : State) (at_ : Nat),
         (s.slot n).state = .settling → (s.slot n).lines.line = true → (s.slot n).lines.settle = some at_ →
           ∃ u, exec (.settleTimerExpiry n) s = .next (finish u)
             ∧ KeepsBut [.slot n, .now, .partSet, .noticeQueue, .admission, .passDue] s u
             ∧ u.now = max s.now at_
             ∧ u.slot n =
                 { s.slot n with
                   state := .powerWait
                   lines := { (s.slot n).lines with presence := .present, change := true, settle := none }
                   events := (s.slot n).events ||| SlotEvent.inserted.set
                   notice := (u.slot n).notice }.lampsOf (u.slot n)
             ∧ LampsCurrent u n
             ∧ (entryOf s n = none →
                 u.power.queue = s.power.queue ++ [⟨n, .slotPower, .part, 0, false⟩] ∧ u.power.passDue = true)
             ∧ ((entryOf s n).isSome → u.power.queue = s.power.queue))

/-- REMOVAL_CHECK_END (R4, R21): with the line still deasserted the drive is gone. Its commands are answered REMOVED,
queued ones first, its admission and sort-wait entries go, its model entry is released, its record is cleared with
the latch OPEN and the rundown complete, and REMOVED (from SORTED) or PULLED_EARLY is raised. -/
def Obligations.RemovalCheckEnd : Prop :=
  ∀ (n : SlotId) (s : State) (at_ : Nat),
    (s.slot n).state ≠ .empty → (s.slot n).state ≠ .settling → (s.slot n).lines.line = false →
      (s.slot n).lines.removal = some at_ →
      ∃ u, exec (.removalCheckEnd n) s = .next (finish u)
        ∧ KeepsBut [.slot n, .now, .responses, .admission, .passDue, .waiting, .models, .transit, .partSet, .noticeQueue] s u
        ∧ u.slot n =
            { clearedSlot (max s.now at_) .expired .opened ((u.slot n).lines.lampA, (u.slot n).lines.lampB) with
              lines.change := true
              events := (s.slot n).events
                ||| (if (s.slot n).state = .sorted then SlotEvent.removed.set else SlotEvent.pulledEarly.set)
              notice := (u.slot n).notice }
        ∧ LampsCurrent u n ∧ u.now = max s.now at_
        ∧ u.port.responses
            = s.port.responses ++ queueAnswers n (s.slot n) .removed ++ inFlightAnswers n (s.slot n) .removed
        ∧ u.power.queue = s.power.queue.filter (·.slot ≠ n)
        ∧ u.sort.waiting = s.sort.waiting.filter (·.slot ≠ n)
        ∧ (∀ i : Fin 16, u.tables.models[i]
            = if (s.slot n).identity.model = some i then
                { s.tables.models[i] with refCount := s.tables.models[i].refCount - 1 }
              else s.tables.models[i])
        ∧ u.transit =
            { quarantines := s.transit.quarantines.filter (·.1 ≠ n)
              calibrations := s.transit.calibrations.filter (· ≠ n)
              handOvers := s.transit.handOvers.filter (· ≠ n) }

/-- RUNDOWN_TIMER_EXPIRY (R13): in PARKING the slot enters SORTED with the latch OPEN and raises SORTED; in EMPTY the
latch opens; in every other state the timer is only marked expired (the model's reading, log entry 20).
PARK_TIMER_EXPIRY (R18, R6): the parking goes on without the drive. Every SPIN_DOWN in flight is retired, the spindle
is STOPPED, power goes OFF with allocation 0, and the rundown starts with the slot's rundown time: the bound model's
(R13: code 0 the rundown of the settings, 255 ten minutes, else steps of 2 s), or that of the settings with no model
bound. The tags retired are kept with the time (the model's choice between R18 and R42, log entry 41). -/
def Obligations.ParkingTimers : Prop :=
  (∀ (n : SlotId) (s : State) (at_ : Nat), (s.slot n).lines.rundown = .running at_ →
     ∃ u, exec (.rundownTimerExpiry n) s = .next (arbitrate u)
       ∧ KeepsBut [.slot n, .now, .partSet, .noticeQueue] s u ∧ u.now = max s.now at_
       ∧ ((s.slot n).state = .parking →
           u.slot n =
               { s.slot n with
                 state := .sorted
                 lines := { (s.slot n).lines with latch := .opened, rundown := .expired }
                 events := (s.slot n).events ||| SlotEvent.sorted.set
                 notice := (u.slot n).notice }.lampsOf (u.slot n)
             ∧ LampsCurrent u n)
       ∧ ((s.slot n).state = .empty →
           u.slot n = { s.slot n with lines := { (s.slot n).lines with latch := .opened, rundown := .expired } })
       ∧ ((s.slot n).state ≠ .parking → (s.slot n).state ≠ .empty →
           u.slot n = { s.slot n with lines.rundown := .expired }))
    ∧ (∀ (n : SlotId) (s : State) (at_ : Nat), (s.slot n).state = .parking → (s.slot n).lines.park = some at_ →
         ∃ u, exec (.parkTimerExpiry n) s = .next (finish u)
           ∧ KeepsBut [.slot n, .now, .passDue] s u ∧ u.now = max s.now at_
           ∧ SlotKeepsBut [.power, .rundown, .park, .allocation, .spindle, .inFlight, .injections, .identity, .tallies, .idle]
               (s.slot n) (u.slot n)
           ∧ (u.slot n).lines.powered = false ∧ (u.slot n).lines.park = none
           ∧ (u.slot n).lines.rundown = .running (max s.now at_ + rundownMs s (s.slot n))
           ∧ (modelOf s (s.slot n) = none → rundownMs s (s.slot n) = s.store.settings.resetRundown * 1000)
           ∧ (∀ m, modelOf s (s.slot n) = some m →
               rundownMs s (s.slot n)
                 = (if m.rundownCode = 0 then s.store.settings.resetRundown * 1000
                    else if m.rundownCode = 255 then 600000 else m.rundownCode * 2000))
           ∧ (u.slot n).power.allocation = 0 ∧ (u.slot n).power.spindle = .stopped ∧ (u.slot n).power.chosen = none
           ∧ (u.slot n).power.held = none ∧ (u.slot n).traffic.injections = []
           ∧ (∀ k : Fin 4, (u.slot n).traffic.inFlight[k]
               = match (s.slot n).traffic.inFlight[k] with
                 | some e => if e.cls = .spinDown then none else some e
                 | none => none)
           ∧ (u.slot n).lines.late = ((s.slot n).inFlightList.filter (·.cls == .spinDown)).map (fun e => (e.tag, u.now))
           ∧ (0 < (s.slot n).power.allocation → u.power.passDue = true))

/-! ### Supply episodes -/

/-- SUPPLY_WARNING_ASSERT (R85, R86, R87, R91). In NORMAL an episode begins: held grants lapse, each slot whose test
runs with its spindle not STOPPED is marked and counted, SUPPLY_WARN is pending, and each powered slot that is
SPINNING and not RECOVERING has SPIN_DOWN listed with the cause shed, or sent at once where the injection list can be
served (R88). A slot whose held grant lapses keeps that it did (R80, R86; that it is marked too is the model's
choice, log entry 43). In RESTORING the state goes back to WARNING without an onset. In WARNING only the input's
level is kept. SUPPLY_WARNING_DEASSERT (R91): in WARNING the restore delay starts; in the other states only the
input's level is kept. The shed condition (R88): in a supply episode a powered slot that is SPINNING and not
RECOVERING has SPIN_DOWN put in its injection list with the cause shed; otherwise nothing. -/
def Obligations.SupplyWarning : Prop :=
  (∀ s : State,
     (s.power.supply = .normal →
         ∃ u, exec .supplyWarningAssert s = .next (finish u)
           ∧ KeepsButSlots [.supply, .partSet, .noticeQueue, .passDue, .sent, .responses, .admission] s u
           ∧ u.power.supply = .warning ∧ u.power.warning = true ∧ u.power.restore = none
           ∧ u.notices.part.getLsbD 1 = true
           ∧ ∀ n, (u.slot n).power.held = none
               ∧ (u.slot n).tallies
                   = (let lapsed := { (s.slot n).tallies with lapsed := (s.slot n).power.held.isSome }
                      if (s.slot n).testRunning ∧ (s.slot n).power.spindle ≠ .stopped then
                        { lapsed with shedCount := min 15 (lapsed.shedCount + 1), shedMark := true }
                      else lapsed)
               ∧ SlotKeepsBut
                   [.identity, .allocation, .spindle, .queue, .reserved, .inFlight, .injections, .tallies, .lastForward, .notice]
                   (s.slot n) (u.slot n)
               ∧ ((s.slot n).lines.powered = true → (s.slot n).state ≠ .recovering → (s.slot n).power.spindle = .spinning →
                   ((∃ i ∈ (u.slot n).traffic.injections, i.cls = .spinDown ∧ i.shed = true)
                       ∨ (u.slot n).power.spindle = .spinningDown
                         ∧ ∃ k : Fin 4, ∃ e, (u.slot n).traffic.inFlight[k] = some e ∧ e.cls = .spinDown ∧ e.origin = .part
                             ∧ e.start = s.now)
                     ∧ ((s.slot n).traffic.injections = [] → (s.slot n).partInFlight = false →
                         ∀ k : Fin 4, (s.slot n).freeEntry = some k →
                           (u.slot n).power.spindle = .spinningDown ∧ (n, .command 31 .spinDown [0x20]) ∈ u.sent
                             ∧ (u.slot n).traffic.inFlight[k]
                                 = some
                                     ⟨31, .spinDown, .part, false, s.now, s.store.settings.spinDownTimeout * 1000, none,
                                       false⟩)))
       ∧ (s.power.supply = .restoring →
           ∃ u, exec .supplyWarningAssert s = .next (finish u)
             ∧ KeepsButSlots [.supply, .partSet, .noticeQueue] s u
             ∧ u.power.supply = .warning ∧ u.power.warning = true ∧ u.power.restore = none
             ∧ u.notices.part.getLsbD 1 = true
             ∧ ∀ n, SlotKeepsBut [.notice] (s.slot n) (u.slot n))
       ∧ (s.power.supply = .warning →
           exec .supplyWarningAssert s = .next (finish { s with power := { s.power with warning := true } })))
    ∧ (∀ s : State,
         exec .supplyWarningDeassert s
           = .next
               { s with
                 power :=
                   if s.power.supply = .warning then
                     { s.power with
                       warning := false, supply := .restoring
                       restore := some (s.now + s.store.settings.restoreDelay * 1000) }
                   else { s.power with warning := false } })
    ∧ (∀ (n : SlotId) (s : State),
         let x := s.slot n
         KeepsBut [.slot n] s (shedCheck n s)
           ∧ SlotKeepsBut [.injections] x ((shedCheck n s).slot n)
           ∧ (s.power.supply ≠ .normal → x.lines.powered = true → x.state ≠ .recovering → x.power.spindle = .spinning →
               ∃ i ∈ ((shedCheck n s).slot n).traffic.injections, i.cls = .spinDown ∧ i.shed = true)
           ∧ (s.power.supply = .normal ∨ x.lines.powered = false ∨ x.state = .recovering ∨ x.power.spindle ≠ .spinning →
               shedCheck n s = s))

/-- RESTORE_DELAY_EXPIRY (R92, R93): the supply is NORMAL again, SUPPLY_RESTORED is pending, every shed mark is
cleared, a pass is due; with auto-resume set, each marked slot still in its test with its spindle STOPPED or
SPINNING_DOWN and no admission entry gets a part-origin SPIN_UP entry. A slot whose held grant lapsed at the onset
gets none (R80, R86, against the list of R93: the model's choice, log entry 43). With auto-resume OFF, and for every
other slot, no part-origin entry joins: the part-origin entries are those held before and then the joining ones, in
slot-number order. A listed SPIN_DOWN with the shed cause alone leaves the list and is not sent; one that carries
another cause stays without the shed cause, or is sent where the list can be served (R28, R92; that the cause of a
recovery keeps it too is the model's reading of R92, which names parking and orphan, DEDUCED, log entry 56). -/
def Obligations.RestoreDelayExpiry : Prop :=
  ∀ (s : State) (at_ : Nat), s.power.supply = .restoring → s.power.restore = some at_ →
    ∃ u, exec .restoreDelayExpiry s = .next (finish u)
      ∧ KeepsButSlots [.now, .supply, .partSet, .noticeQueue, .passDue, .admission, .responses, .sent] s u
      ∧ u.now = max s.now at_ ∧ u.power.supply = .normal ∧ u.power.restore = none ∧ u.power.passDue = true
      ∧ u.power.warning = s.power.warning ∧ u.notices.part.getLsbD 2 = true
      ∧ ∀ n, (u.slot n).tallies = { (s.slot n).tallies with shedMark := false, lapsed := false }
          ∧ SlotKeepsBut
              [.allocation, .spindle, .queue, .reserved, .inFlight, .injections, .tallies, .lastForward, .notice]
              (s.slot n) (u.slot n)
          ∧ (s.store.settings.autoResume = true → (s.slot n).tallies.shedMark = true → (s.slot n).state.inTest = true →
              ((s.slot n).power.spindle = .stopped ∨ (s.slot n).power.spindle = .spinningDown) → entryOf s n = none →
              (s.slot n).tallies.lapsed = false → entryOf u n = some ⟨n, .spinUp, .part, 0, false⟩)
          ∧ ((s.slot n).tallies.lapsed = true → entryOf s n = none → ∀ e, entryOf u n = some e → e.origin = .server)
          ∧ (let x := s.slot n
             let y := u.slot n
             let joins (m : SlotId) : Bool :=
               s.store.settings.autoResume && (s.slot m).tallies.shedMark && (s.slot m).state.inTest
                 && decide ((s.slot m).power.spindle = .stopped ∨ (s.slot m).power.spindle = .spinningDown)
                 && !(s.slot m).tallies.lapsed && decide (entryOf s m = none)
             let alone (i : Injection) : Bool := i.shed && !i.parking && !i.orphan && !i.recovery
             (joins n = false → (∀ e, entryOf s n = some e → e.origin = .server) →
                 ∀ e, entryOf u n = some e → e.origin = .server)
               ∧ (s.admissionAgrees →
                   u.power.queue.filter (·.origin = .part)
                     = s.power.queue.filter (·.origin = .part)
                       ++ (allSlots.filter joins).map fun m => ⟨m, .spinUp, .part, 0, false⟩)
               ∧ (x.lines.powered = false ∨ x.partInFlight = true ∨ x.freeEntry = none →
                   y.traffic.injections
                     = (x.traffic.injections.filter fun i => !alone i).map fun i => { i with shed := false })
               ∧ ((∀ i ∈ x.traffic.injections, i.cls = .spinDown → alone i = true) →
                   y.listed .spinDown = false
                     ∧ ∀ (k : Fin 4) (f : InFlight), y.traffic.inFlight[k] = some f → f.cls = .spinDown → f.origin = .part →
                         ∃ j : Fin 4, x.traffic.inFlight[j] = some f)
               ∧ ∀ i ∈ x.traffic.injections, i.cls = .spinDown → alone i = false →
                   { i with shed := false } ∈ y.traffic.injections
                     ∨ ∃ k : Fin 4, ∃ f, y.traffic.inFlight[k] = some f ∧ f.cls = .spinDown ∧ f.origin = .part
                         ∧ f.start = u.now)

/-! ### The tick and the filters -/

/-- TICK (R10, R95, R97; the clock is the model's, log entry 2): the tick timer restarts with the period in force; a
slot counts its test elapsed ticks while its test runs; the idle count counts the ticks an idle powered slot skips, 0
to 7, and is else 0; a slot not due is not sampled. A slot whose last calibrating metric left CALIBRATING at this tick
has a calibration-complete report on its way (R112), in slot order (log entry 35); no other slot gains one. The stream
timer (R182, R183): in EVENT mode the count is 0 and no report is built; in STREAM mode a tick below the interval only
counts; a stream tick sets the count to 0, takes the next stream number, and drops and counts the report above 16
queued notices, else leaves it waiting, one not yet sent being replaced and counted. That ends TICK, on the part as
the samples leave it; the report lists the slots due at this tick, in slot-number order (the model's choice, log entry
35), each with its state and, of each metric, last raw value, last D and metric state as the sample left them, and
evaluated where the metric was read at this tick, is not lost, has a value and the test runs. What the sample of a due
slot leaves (R96, R98 to R101, R104, R82, R83, R127), the metrics being TEMP and DEFR while SPINNING_UP and else all
four; DEFR reads the accumulator as it stood before the tick (DEDUCED, log entry 18). A reading of 65535 raises the
miss count and the last raw value stands; at the 16th miss SENSOR_LOST is raised. While the test runs, the metric is
not lost and has a value, its record is the one that the filter stages give, halted in a supply episode and for CURR
and VIBE in RECOVERING; what they raise is pending, and FAULT with action QUARANTINE asks for METRIC_FAULT. A valid
CURR sample updates peak and mean current and is compared with the allocation plus the overdraw margin: a run of 2
raises OVERDRAW and counts class 13, one of 8 asks for the quarantine OVERDRAW. -/
def Obligations.TickTaken : Prop :=
  (∀ (sensors : Vector SensorReading 48) (s : State),
     ∃ u, exec (.tick sensors) s = .next (arbitrate u)
       ∧ KeepsButSlots [.now, .tickAt, .transit, .partSet, .noticeQueue, .streamTimer, .stream, .counters] s u
       ∧ u.now = max s.now s.tickAt ∧ u.tickAt = u.now + tickMs s.store.settings.tickPeriod
       ∧ (∃ (v : State) (records : List StreamRecord), u = streamTick records v
           ∧ KeepsButSlots [.now, .tickAt, .transit, .partSet, .noticeQueue] s v
           ∧ records.map (·.slot)
               = allSlots.filter (fun n =>
                   let x := s.slot n
                   x.lines.powered
                     && !(x.state.inTest && decide (x.drift.lastForward + s.store.settings.idleTime * 1000 ≤ u.now)
                       && decide (x.drift.idleCount ≠ 7)))
           ∧ ∀ r ∈ records,
               let x := s.slot r.slot
               let y := u.slot r.slot
               r.state = y.state
                 ∧ ∀ m : Metric,
                     let shown : StreamMetric :=
                       match m with
                       | .temp => r.temp
                       | .curr => r.curr
                       | .vibe => r.vibe
                       | .defr => r.defr
                     shown.raw = (y.filter m).lastRaw ∧ shown.lastD = (y.filter m).lastD ∧ shown.state = (y.filter m).state
                       ∧ (modelOf s x ≠ none →
                           (shown.evaluated = true ↔
                             (x.power.spindle = .spinningUp → m = .temp ∨ m = .defr) ∧ x.testRunning = true
                               ∧ (y.filter m).misses < 16 ∧ (y.filter m).lastRaw ≠ none)))
       ∧ (let calibrating (x : Slot) : Bool := [x.drift.temp, x.drift.curr, x.drift.vibe, x.drift.defr].any (·.state == .calibrating)
          u.transit.calibrations
            = s.transit.calibrations ++ allSlots.filter fun n => calibrating (s.slot n) && !calibrating (u.slot n))
       ∧ u.transit.handOvers = s.transit.handOvers
       ∧ ∀ n,
           let x := s.slot n
           let idle := x.state.inTest = true ∧ x.drift.lastForward + s.store.settings.idleTime * 1000 ≤ u.now
           SlotKeepsBut [.samples, .tallies, .idle, .testTicks, .lamps, .events, .notice] x (u.slot n)
             ∧ (u.slot n).drift.testTicks
                 = (if x.testRunning = true then min 4294967295 (x.drift.testTicks + 1) else x.drift.testTicks)
             ∧ (u.slot n).drift.idleCount
                 = (if x.lines.powered = true ∧ idle ∧ x.drift.idleCount ≠ 7 then x.drift.idleCount + 1 else 0)
             ∧ (x.lines.powered = false ∨ idle ∧ x.drift.idleCount ≠ 7 →
                 SlotKeepsBut [.idle, .testTicks] x (u.slot n))
             ∧ (x.lines.powered = true → ¬(idle ∧ x.drift.idleCount ≠ 7) →
                 (x.power.spindle = .spinningUp → (u.slot n).drift.deferral = true)
                   ∧ (sensors[n].temp ≠ 65535 → (u.slot n).drift.temp.lastRaw = some sensors[n].temp.toNat)
                   ∧ (sensors[n].temp = 65535 → (u.slot n).drift.temp.misses = min 255 (x.drift.temp.misses + 1))
                   ∧ (x.tallies.accumulator ≠ 65535 → (u.slot n).drift.defr.lastRaw = some x.tallies.accumulator)))
    ∧ (∀ (records : List StreamRecord) (s : State),
         (s.store.settings.reportMode = .event → streamTick records s = { s with notices.streamCount := 0 })
           ∧ (s.store.settings.reportMode = .stream →
               (s.notices.streamCount + 1 < s.store.settings.streamInterval →
                   streamTick records s = { s with notices.streamCount := s.notices.streamCount + 1 })
                 ∧ (s.store.settings.streamInterval ≤ s.notices.streamCount + 1 →
                     let number := (s.notices.streamNumber + 1) % 65536
                     KeepsBut [.streamTimer, .stream, .counters] s (streamTick records s)
                       ∧ (streamTick records s).notices.streamCount = 0
                       ∧ (streamTick records s).notices.streamNumber = number
                       ∧ (16 < s.notices.queue.length →
                           (streamTick records s).port
                             = { s.port with streamDropped := min 65535 (s.port.streamDropped + 1) })
                       ∧ (s.notices.queue.length ≤ 16 →
                           (streamTick records s).port
                             = { s.port with
                                 stream := some ⟨s.store.settings.reportStation, number, records⟩
                                 streamDropped :=
                                   if s.port.stream.isSome then min 65535 (s.port.streamDropped + 1)
                                   else s.port.streamDropped }))))
    ∧ (∀ (sensors : Vector SensorReading 48) (s : State) (n : SlotId),
         let x := s.slot n
         let idle := x.state.inTest = true
           ∧ x.drift.lastForward + s.store.settings.idleTime * 1000 ≤ max s.now s.tickAt
         x.lines.powered = true → ¬(idle ∧ x.drift.idleCount ≠ 7) →
           let reading (m : Metric) : Nat :=
             match m with
             | .temp => sensors[n].temp.toNat
             | .curr => sensors[n].curr.toNat
             | .vibe => sensors[n].vibe.toNat
             | .defr => x.tallies.accumulator
           let due (m : Metric) : Prop := x.power.spindle = .spinningUp → m = .temp ∨ m = .defr
           let taken (m : Metric) : Filter :=
             if reading m = 65535 then { x.filter m with misses := min 255 ((x.filter m).misses + 1) }
             else { x.filter m with misses := 0, lastRaw := some (reading m) }
           let halted (m : Metric) : Bool :=
             decide (s.power.supply ≠ .normal) || decide (x.state = .recovering ∧ (m = .curr ∨ m = .vibe))
           let v := sensors[n].curr.toNat
           let compared := x.power.spindle ≠ .spinningUp ∧ v ≠ 65535
           let exceeds := x.power.allocation + s.store.settings.overdrawMargin < v
           let overdraws := compared ∧ exceeds ∧ x.tallies.overdrawRun = 1
           ∃ u, exec (.tick sensors) s = .next (arbitrate u)
             ∧ (∀ m, due m →
                 (x.testRunning = false ∨ 16 ≤ (taken m).misses ∨ (taken m).lastRaw = none ∨ modelOf s x = none →
                     (u.slot n).filter m = taken m)
                   ∧ (x.testRunning = true → (taken m).misses < 16 →
                       ∀ entry sample, modelOf s x = some entry → (taken m).lastRaw = some sample →
                         let r := evaluate (entry.thresholds m) entry.calibrationCount (halted m) sample (taken m)
                         (u.slot n).filter m = r.record
                           ∧ (∀ e ∈ r.raised, (u.slot n).events.getLsbD e.bit = true)
                           ∧ (r.quarantine = true → (n, .metricFault) ∈ u.transit.quarantines))
                   ∧ (reading m = 65535 → (x.filter m).misses = 15 → (u.slot n).events.getLsbD 12 = true))
             ∧ (∀ m, ¬due m → (u.slot n).filter m = x.filter m)
             ∧ (compared →
                 (u.slot n).drift.peak = max x.drift.peak v
                   ∧ ((u.slot n).drift.mean : Int) = x.drift.mean + ((v : Int) - x.drift.mean).tdiv 16
                   ∧ (exceeds → (u.slot n).tallies.overdrawRun = min 255 (x.tallies.overdrawRun + 1))
                   ∧ (¬exceeds → (u.slot n).tallies.overdrawRun = 0)
                   ∧ (exceeds → x.tallies.overdrawRun = 7 → (n, .overdraw) ∈ u.transit.quarantines))
             ∧ (¬compared →
                 (u.slot n).drift.peak = x.drift.peak ∧ (u.slot n).drift.mean = x.drift.mean
                   ∧ (u.slot n).tallies.overdrawRun = x.tallies.overdrawRun)
             ∧ (overdraws →
                 (u.slot n).events.getLsbD 11 = true
                   ∧ (u.slot n).tallies.counters = x.tallies.counters.set 13 (min 65535 (x.tallies.counters[13] + 1))
                   ∧ (u.slot n).tallies.accumulator = min 65534 s.tables.defects[13].weight)
             ∧ (¬overdraws → (u.slot n).tallies.counters = x.tallies.counters ∧ (u.slot n).tallies.accumulator = 0))

/-- Stages 1 and 2 (R105): F moves toward 256 times the sample by a 2^kf-th of the distance, L in CLEAR toward F by a
2^kl-th, both truncated toward zero; so neither passes what it moves toward. Stage 5 (R110): samples at Ts or more
above L count an excursion, which ends as a shock, counted and raised, when it lasted at most the shock hold, and as
a sustained excursion when it lasted longer; Ts 0 starts none. With shock hold 255 a saturated run is a shock (the
model's choice, log entry 45). A halted metric (R90, R105, R106, R115, R116): in every metric state stage 1 runs, so
that F follows the sample, and the last D is the difference of that F and L; every other field of the record stays,
no event is raised and no quarantine is asked for. A calibration sample (R112): F moves, L becomes F, the count
rises; at the model's calibration count the metric enters CLEAR with its counters 0; no other field of the record
changes and no event is raised. Start of calibration (R111): F is 256 times the last raw value or 0, L is F, every
counter, count, run and maximum D is 0, the last D is absent, and the last raw value and the miss count stay. A
sample of a metric in CLEAR, WATCH or FAULT that is not halted (R104 to R106): stages 1 and 2, D as the difference of
F and L in whole units, kept as the last D, then stages 4, 5 and 6 in turn, maximum D rising with D. -/
def Obligations.FilterSamples : Prop :=
  (∀ (kf kl x : Nat) (f : Filter),
     (stage1 kf x f).f
         = (if f.f ≤ x * 256 then f.f + (x * 256 - f.f) / 2 ^ kf else f.f - (f.f - x * 256) / 2 ^ kf)
       ∧ min f.f (x * 256) ≤ (stage1 kf x f).f ∧ (stage1 kf x f).f ≤ max f.f (x * 256)
       ∧ stage1 kf x f = { f with f := (stage1 kf x f).f }
       ∧ (f.state ≠ .clear → stage2 kl f = f)
       ∧ (f.state = .clear →
           (stage2 kl f).l = (if f.l ≤ f.f then f.l + (f.f - f.l) / 2 ^ kl else f.l - (f.l - f.f) / 2 ^ kl)
             ∧ min f.l f.f ≤ (stage2 kl f).l ∧ (stage2 kl f).l ≤ max f.l f.f
             ∧ stage2 kl f = { f with l := (stage2 kl f).l }))
    ∧ (∀ (t : ThresholdSet) (x : Nat) (f : Filter),
         (0 < t.ts → f.l / 256 + t.ts ≤ x → stage5 t x f = ({ f with excursion := min 255 (f.excursion + 1) }, []))
           ∧ (t.ts = 0 ∨ x < f.l / 256 + t.ts →
               (f.excursion = 0 → stage5 t x f = (f, []))
                 ∧ (0 < f.excursion → f.excursion ≤ t.shockHold →
                     stage5 t x f = ({ f with excursion := 0, shocks := min 255 (f.shocks + 1) }, [.shock]))
                 ∧ (t.shockHold < f.excursion →
                     stage5 t x f = ({ f with excursion := 0, sustained := min 255 (f.sustained + 1) }, []))))
    ∧ (∀ (t : ThresholdSet) (count x : Nat) (f : Filter),
         let g := (stage1 t.kf x f).f
         evaluate t count true x f = ⟨{ f with f := g, lastD := some (((g : Int) - f.l).tdiv 256) }, [], false⟩)
    ∧ (∀ (t : ThresholdSet) (count x : Nat) (f : Filter),
         let g := (stage1 t.kf x f).f
         let reached := min 255 (f.calReached + 1)
         let moved := { f with f := g, l := g, calReached := reached }
         let level := (f.lastRaw.map (· * 256)).getD 0
         (f.state = .calibrating →
             evaluate t count false x f
               = ⟨if count ≤ reached then { moved with state := .clear, enter := 0, exit := 0, fault := 0, halt := 0 } else moved, [],
                   false⟩)
           ∧ startCalibration f
               = { f with
                   f := level, l := level, state := .calibrating, enter := 0, exit := 0, fault := 0, halt := 0, calReached := 0
                   excursion := 0, watchCount := 0, shocks := 0, sustained := 0, reseeds := 0, maxD := 0, lastD := none })
    ∧ (∀ (t : ThresholdSet) (count x : Nat) (f : Filter), f.state ≠ .calibrating →
         let g := stage2 t.kl (stage1 t.kf x f)
         let d := ((g.f : Int) - g.l).tdiv 256
         let r := stage4 t d { g with lastD := some d }
         let y := stage5 t x r.record
         evaluate t count false x f = ⟨{ y.1 with maxD := max y.1.maxD d }, r.raised ++ y.2, r.quarantine⟩)

/-- Stage 4 in CLEAR (R107): D at Tw or above raises the enter counter, which at Nw enters WATCH with every counter 0
and raises WATCH, the watch-sample count as it was; D below Tw sets it to 0. That a counter above its limit acts too,
here and in WATCH, is the model's reading of "reaches" (DEDUCED, log entry 29). Stage 4 in WATCH (R108, R109): the
WATCH sample is counted; the fault counter at Nf enters FAULT, raises FAULT and asks for a quarantine by the fault
action; else the exit counter at Nx returns to CLEAR; else the halt counter at a halt limit other than 0 reseeds. In
FAULT and CALIBRATING the stage does nothing. -/
def Obligations.StateLogic : Prop :=
  (∀ (t : ThresholdSet) (d : Int) (f : Filter), f.state = .clear →
     ((t.tw : Int) ≤ d → t.nw ≤ f.enter + 1 →
         stage4 t d f = ⟨{ f with state := .watch, enter := 0, exit := 0, fault := 0, halt := 0 }, [.watch], false⟩)
       ∧ ((t.tw : Int) ≤ d → f.enter + 1 < t.nw → stage4 t d f = ⟨{ f with enter := f.enter + 1 }, [], false⟩)
       ∧ (d < (t.tw : Int) → stage4 t d f = ⟨{ f with enter := 0 }, [], false⟩))
    ∧ (∀ (t : ThresholdSet) (d : Int) (f : Filter),
         (f.state = .fault ∨ f.state = .calibrating → stage4 t d f = ⟨f, [], false⟩)
           ∧ (f.state = .watch →
               let w := min 65535 (f.watchCount + 1)
               let faults := if (t.tf : Int) ≤ d then f.fault + 1 else 0
               let exits := if d < (t.tw : Int) - t.h then f.exit + 1 else 0
               let toFault := (t.tf : Int) ≤ d ∧ t.nf ≤ f.fault + 1
               let toClear := d < (t.tw : Int) - t.h ∧ t.nx ≤ f.exit + 1
               let reseeds := t.haltLimit ≠ 0 ∧ t.haltLimit ≤ min 65535 (f.halt + 1)
               (toFault →
                   stage4 t d f
                     = ⟨{ f with state := .fault, watchCount := w, enter := 0, exit := 0, fault := 0, halt := 0 }, [.fault],
                         t.faultAction == 1⟩)
                 ∧ (¬toFault → toClear →
                     stage4 t d f
                       = ⟨{ f with state := .clear, watchCount := w, enter := 0, exit := 0, fault := 0, halt := 0 }, [], false⟩)
                 ∧ (¬toFault → ¬toClear → reseeds →
                     stage4 t d f
                       = ⟨{ f with state := .clear, l := f.f, watchCount := w, enter := 0, exit := 0, fault := 0, halt := 0
                                   reseeds := min 255 (f.reseeds + 1) }, [], false⟩)
                 ∧ (¬toFault → ¬toClear → ¬reseeds →
                     stage4 t d f
                       = ⟨{ f with watchCount := w, fault := faults, exit := exits, halt := min 65535 (f.halt + 1) }, [],
                           false⟩)))

/-! ### The rack link -/

/-- RACK_FRAME_BAD (R155): the receive-error counter rises, saturating at 65535, and nothing else changes; with
invalid straps the frame is discarded uncounted (R187; the model's reading, log entry 38). TRANSMIT_COMPLETE (R184,
R174): the transmitter is idle and the arbiter looks again; a REPLY sent is one fewer before a soft reset that waits. -/
def Obligations.PortFrames : Prop :=
  (∀ (frame : Bytes) (s : State),
     (4 ≤ stationOf s.store.straps →
         exec (.rackFrameBad frame) s
           = .next { s with port := { s.port with rxErrors := min 65535 (s.port.rxErrors + 1) } })
       ∧ (stationOf s.store.straps < 4 → exec (.rackFrameBad frame) s = .next s))
    ∧ (∀ (f : RackFrame) (s : State), s.port.transmitting = some f →
         exec .transmitComplete s
           = .next
               (arbitrate
                 { s with
                   port := { s.port with
                     transmitting := none
                     resetAwaits := if f.kind = 4 then s.port.resetAwaits.map (· - 1) else s.port.resetAwaits } }))

/-- SLOT_CMD that is not taken (R24, R155, R187): a frame to another station, or under invalid straps, changes
nothing; a slot number of 48 or more is answered BAD_SLOT with slot and tag as received. The checks of a SLOT_CMD in
their order (R25): tag above 27 BAD_TAG; unknown class, a length that disagrees or a payload outside 1..512 bytes
BAD_COMMAND; a state that does not accept the class NOT_ACCEPTING; a tag queued or in flight TAG_IN_USE; a HEAVY with
the spindle STOPPED SPINDLE_STOPPED; eight frames queued QUEUE_FULL. A refused command leaves the slot as it was. -/
def Obligations.SlotCmdRefused : Prop :=
  (∀ (dest source : Byte) (payload : Bytes) (s : State),
     (stationOf s.store.straps < 4 ∨ dest.toNat ≠ stationOf s.store.straps → exec (.slotCmd dest source payload) s = .next s)
       ∧ (4 ≤ stationOf s.store.straps → dest.toNat = stationOf s.store.straps → 48 ≤ (payload.getD 0 0).toNat →
           exec (.slotCmd dest source payload) s
             = .next
                 (finish
                   { s with
                     port := { s.port with
                       responses := s.port.responses
                         ++ [.partMade source (payload.getD 0 0) (payload.getD 1 0) .badSlot] } })))
    ∧ (∀ (dest source : Byte) (payload : Bytes) (s : State) (n : SlotId),
         4 ≤ stationOf s.store.straps → dest.toNat = stationOf s.store.straps → payload.getD 0 0 = slotByte n →
           let x := s.slot n
           let tag := (payload.getD 1 0).toNat
           let inUse := (∃ q ∈ x.traffic.queue, q.tag = tag)
             ∨ ∃ k : Fin 4, ∃ e, x.traffic.inFlight[k] = some e ∧ e.tag = tag
           let answers (code : PartCode) : Prop :=
             exec (.slotCmd dest source payload) s
               = .next
                   (finish
                     { s with
                       port := { s.port with
                         responses := s.port.responses ++ [.partMade source (slotByte n) (payload.getD 1 0) code] } })
           (27 < tag → answers .badTag)
             ∧ (tag ≤ 27 → frameCommand payload = none → answers .badCommand)
             ∧ ∀ c, tag ≤ 27 → frameCommand payload = some c →
                 (x.state.accepts c = false → answers .notAccepting)
                   ∧ (x.state.accepts c = true →
                       (inUse → answers .tagInUse)
                         ∧ (¬inUse →
                             (c = .heavy ∧ x.power.spindle = .stopped → answers .spindleStopped)
                               ∧ (¬(c = .heavy ∧ x.power.spindle = .stopped) → 8 ≤ x.traffic.queue.length →
                                   answers .queueFull))))

/-- A SLOT_CMD that passes every check of R25 joins the tail of the slot command queue. Behind other frames nothing
else happens; as the head it is considered at once (R29): a LIGHT or IDENTIFY with no injection listed and an entry
free is forwarded, holding the lowest free entry (log entry 10) with the class timeout of the settings (R36) and the
current time. A SLOT_CMD accepted into an empty queue is its head at once (R28 to R31, R36): the injection list is
served first. With an entry free, LIGHT and IDENTIFY are forwarded, SPIN_DOWN unless SPINNING_UP, SPIN_UP and a HEAVY
beside another HEAVY while SPINNING, each ungranted with its class timeout, SPIN_DOWN making SPINNING into
SPINNING_DOWN. SPIN_UP from STOPPED or SPINNING_DOWN and another HEAVY while SPINNING ask for a grant: one admission
entry at the tail and an entry reserved, unless the slot holds an admission entry or a held grant (R71). In
SPINNING_UP all but LIGHT and IDENTIFY wait, and with no entry free every head waits; a HEAVY that meets a stopped or
stopping spindle is refused SPINDLE_STOPPED. -/
def Obligations.SlotCmdAccepted : Prop :=
  (∀ (dest source : Byte) (payload : Bytes) (s : State) (n : SlotId) (c : CmdClass),
     4 ≤ stationOf s.store.straps → dest.toNat = stationOf s.store.straps → payload.getD 0 0 = slotByte n →
       checkCommand (s.slot n) (payload.getD 1 0).toNat (frameCommand payload) = .ok c →
       let x := s.slot n
       let tag := (payload.getD 1 0).toNat
       let q : QueuedCmd := ⟨tag, c, payload.drop 5, source⟩
       ∃ u, exec (.slotCmd dest source payload) s = .next (finish u)
         ∧ KeepsBut [.slot n, .responses, .admission, .passDue, .sent] s u
         ∧ (x.traffic.queue ≠ [] → u = modSlot n (fun x => { x with traffic.queue := x.traffic.queue ++ [q] }) s)
         ∧ (x.traffic.queue = [] → x.traffic.injections = [] → c = .light ∨ c = .identify →
             ∀ k : Fin 4, x.freeEntry = some k →
               u.slot n
                   = { x with
                       traffic := { x.traffic with
                         queue := []
                         inFlight := x.traffic.inFlight.set k.val
                           (some
                             ⟨tag, c, .server, false, s.now,
                               (if c = .light then s.store.settings.lightTimeout else s.store.settings.identifyTimeout) * 1000,
                               some source, false⟩) k.isLt }
                       drift.lastForward := s.now }
                 ∧ u.sent = s.sent ++ [(n, .command tag c (payload.drop 5))]
                 ∧ KeepsBut [.slot n, .sent] s u))
    ∧ (∀ (dest source : Byte) (payload : Bytes) (s : State) (n : SlotId) (c : CmdClass),
         4 ≤ stationOf s.store.straps → dest.toNat = stationOf s.store.straps → payload.getD 0 0 = slotByte n →
           checkCommand (s.slot n) (payload.getD 1 0).toNat (frameCommand payload) = .ok c →
           (s.slot n).traffic.queue = [] →
           let tag := (payload.getD 1 0).toNat
           let v := serveInjections n s
           let y := v.slot n
           let sp := y.power.spindle
           let q : QueuedCmd := ⟨tag, c, payload.drop 5, source⟩
           let queued := modSlot n (fun x => { x with traffic.queue := [q] }) v
           let forwards := c = .light ∨ c = .identify ∨ c = .spinDown ∧ sp ≠ .spinningUp ∨ c = .spinUp ∧ sp = .spinning
             ∨ c = .heavy ∧ sp = .spinning ∧ y.heavyInFlight = true
           let asks := c = .spinUp ∧ (sp = .stopped ∨ sp = .spinningDown)
             ∨ c = .heavy ∧ sp = .spinning ∧ y.heavyInFlight = false
           let refused := c = .heavy ∧ (sp = .stopped ∨ sp = .spinningDown)
           let seconds :=
             match c with
             | .light => s.store.settings.lightTimeout
             | .heavy => s.store.settings.heavyTimeout
             | .identify => s.store.settings.identifyTimeout
             | .spinDown => s.store.settings.spinDownTimeout
             | .spinUp => s.store.settings.repeatSpinUpTimeout
           ∃ u, exec (.slotCmd dest source payload) s = .next (finish u)
             ∧ (y.freeEntry = none → ¬refused → u = queued)
             ∧ (sp = .spinningUp → c = .spinDown ∨ c = .spinUp ∨ c = .heavy → u = queued)
             ∧ (forwards → ∀ k : Fin 4, y.freeEntry = some k →
                 KeepsBut [.slot n, .passDue, .sent] v u
                   ∧ SlotKeepsBut [.allocation, .spindle, .inFlight, .lastForward] y (u.slot n)
                   ∧ u.sent = v.sent ++ [(n, .command tag c (payload.drop 5))]
                   ∧ (u.slot n).drift.lastForward = s.now
                   ∧ (u.slot n).traffic.inFlight
                       = y.traffic.inFlight.set k (some ⟨tag, c, .server, false, s.now, seconds * 1000, some source, false⟩)
                   ∧ (u.slot n).power.spindle = (if c = .spinDown ∧ sp = .spinning then .spinningDown else sp)
                   ∧ (u.slot n).power.chosen = y.power.chosen ∧ (u.slot n).power.held = y.power.held)
             ∧ (asks → ∀ k : Fin 4, y.freeEntry = some k →
                 (entryOf v n = none → y.power.held = none →
                     KeepsBut [.slot n, .admission, .passDue] v u
                       ∧ u.power.queue = v.power.queue ++ [⟨n, if c = .heavy then .heavy else .spinUp, .server, 0, false⟩]
                       ∧ u.power.passDue = true
                       ∧ u.slot n = { y with traffic := { y.traffic with queue := [q], reserved := some k } })
                   ∧ (entryOf v n ≠ none ∨ y.power.held ≠ none → u = queued))
             ∧ (refused →
                 u.port.responses = v.port.responses ++ [.partMade source (slotByte n) (payload.getD 1 0) .spindleStopped]
                   ∧ (u.slot n).traffic.queue = [] ∧ u.sent = v.sent ∧ (u.slot n).traffic.inFlight = y.traffic.inFlight))

/-- REQUEST_RECEIVED (R155, R156, R187): a request to the part's station, or a broadcast DISCOVER, joins the queue,
or is answered BUSY at once when eight stand in it; another broadcast is discarded and counted; with invalid straps a
DISCOVER alone is taken; everything else is discarded. -/
def Obligations.RequestReceived : Prop :=
  ∀ (dest source : Byte) (payload : Bytes) (s : State),
    let station := stationOf s.store.straps
    let tag := payload.getD 0 0
    let kind := payload.getD 1 0
    let operands := payload.drop 2
    let valid := 4 ≤ station
    let discover := kind = 0x01 ∧ (dest = 0 ∨ dest.toNat = station)
    let taken := valid ∧ dest.toNat = station ∨ discover
    (taken → s.port.requests.length < 8 →
        exec (.requestReceived dest source payload) s
          = .next (arbitrate { s with port := { s.port with requests := s.port.requests ++ [⟨source, tag, kind, operands⟩] } }))
      ∧ (taken → 8 ≤ s.port.requests.length →
          exec (.requestReceived dest source payload) s
            = .next
                (arbitrate
                  { s with
                    port := { s.port with
                      portBusy := min 65535 (s.port.portBusy + 1)
                      replies := s.port.replies
                        ++ [⟨source, tag, kind, .busy, .none, .zeroed 0 none (zeroWidth kind operands)⟩] } }))
      ∧ (¬taken → valid → dest = 0 →
          exec (.requestReceived dest source payload) s
            = .next
                { s with port := { s.port with broadcastDiscards := min 65535 (s.port.broadcastDiscards + 1) } })
      ∧ (¬taken → ¬(valid ∧ dest = 0) → exec (.requestReceived dest source payload) s = .next s)

/-! ### Requests: the part, the tables, the save -/

/-- A request command executes the head of the request queue, and only one of its own kind: with no request queued, a
head of another kind, or a soft reset awaited, it changes nothing (R156, R174; the model's choice of the command, log
entry 4). UNKNOWN_REQUEST_KIND (R157, step 1): a head of unknown kind, or whose operands do not fit, is answered
BAD_REQUEST (the model's division of the rows, log entry 4). The first checks of R157: operands whose length or names
do not fit the kind are answered BAD_REQUEST; while a save is in flight WRITE-SETTINGS, LOAD-TABLE and SAVE-CONFIG
are answered BUSY (R158); a slot number of 48 or more is answered BAD_SLOT. A failed check has no other effect, and
the result fields are zero (R156). The slot requests in the wrong state (R157, R166 to R170): WRONG_STATE with the
slot's state, and nothing else changes. The place of the state among the result bytes, one byte more for REBASE, is
the model's choice (log entry 23). -/
def Obligations.RequestRefused : Prop :=
  (∀ s : State,
     ∀ p ∈ [((0x01 : Byte), Instr.discover), (0x02, .readPartStatus), (0x03, .readSettings), (0x04, .writeSettings),
         (0x05, .setBudget), (0x06, .loadTableModel), (0x06, .loadTableClassify), (0x06, .loadTableDefect),
         (0x06, .loadTableBin), (0x06, .loadTableIndicator), (0x07, .readTable), (0x08, .saveConfig), (0x09, .readSlot),
         (0x0A, .readFilter), (0x0B, .startTest), (0x0C, .endTest), (0x0D, .rebase), (0x0E, .quarantine), (0x0F, .recover),
         (0x10, .rematch), (0x11, .readManifest), (0x12, .retireManifest), (0x13, .cartSwap), (0x14, .resetPart)],
       (s.port.resetAwaits.isSome = true ∨ s.port.requests = [] ∨ (∃ q rest, s.port.requests = q :: rest ∧ q.kind ≠ p.1)) →
         exec p.2 s = .next s)
    ∧ (∀ (s : State) (q : QueuedRequest) (rest : List QueuedRequest),
         s.port.resetAwaits = none → s.port.requests = q :: rest →
           (requestFits q.kind q.operands = false →
               exec .unknownRequestKind s
                 = .next
                     (finish ((s.taken rest).replied q .badRequest .none (.zeroed 0 none (zeroWidth q.kind q.operands)))))
             ∧ (requestFits q.kind q.operands = true → exec .unknownRequestKind s = .next s)
             ∧ (q.kind = 0 ∨ 0x15 ≤ q.kind.toNat → requestFits q.kind q.operands = false))
    ∧ (∀ (s : State) (q : QueuedRequest) (rest : List QueuedRequest),
         let refused (c : Instr) (status : ReplyStatus) : Prop :=
           exec c s = .next (finish ((s.taken rest).replied q status .none (.zeroed 0 none (zeroWidth q.kind q.operands))))
         (∀ p ∈ [((0x01 : Byte), Instr.discover), (0x02, .readPartStatus), (0x03, .readSettings), (0x04, .writeSettings),
             (0x05, .setBudget), (0x07, .readTable), (0x08, .saveConfig), (0x09, .readSlot), (0x0A, .readFilter),
             (0x0B, .startTest), (0x0C, .endTest), (0x0D, .rebase), (0x0E, .quarantine), (0x0F, .recover), (0x10, .rematch),
             (0x11, .readManifest), (0x12, .retireManifest), (0x13, .cartSwap), (0x14, .resetPart)],
             Serves s q rest p.1 → requestFits q.kind q.operands = false → refused p.2 .badRequest)
           ∧ (∀ p ∈ [((0x04 : Byte), Instr.writeSettings), (0x08, .saveConfig)],
               Serves s q rest p.1 → requestFits q.kind q.operands = true → s.store.save.isSome = true → refused p.2 .busy)
           ∧ (∀ p ∈ [((0x01 : Byte), Instr.loadTableModel), (0x02, .loadTableClassify), (0x03, .loadTableDefect),
               (0x04, .loadTableBin), (0x05, .loadTableIndicator)],
               Serves s q rest 0x06 → q.operands.head? = some p.1 → requestFits q.kind q.operands = true →
                 s.store.save.isSome = true → refused p.2 .busy)
           ∧ (∀ p ∈ [((0x09 : Byte), Instr.readSlot), (0x0A, .readFilter), (0x0B, .startTest), (0x0C, .endTest),
               (0x0D, .rebase), (0x0E, .quarantine), (0x0F, .recover), (0x10, .rematch)],
               Serves s q rest p.1 → requestFits q.kind q.operands = true → 48 ≤ (q.operands.headD 0).toNat →
                 refused p.2 .badSlot))
    ∧ (∀ (s : State) (q : QueuedRequest) (rest : List QueuedRequest) (n : SlotId),
         let st := (s.slot n).state
         let refused (c : Instr) (before after : Nat) : Prop :=
           exec c s = .next (finish ((s.taken rest).replied q .wrongState .none (.zeroed before (some st) after)))
         (Serves s q rest 0x0B → q.operands = [slotByte n] → st ≠ .ready → refused .startTest 0 1)
           ∧ (Serves s q rest 0x0C → q.operands = [slotByte n] → st ≠ .calibrating → st ≠ .burning → refused .endTest 0 2)
           ∧ (Serves s q rest 0x0D → (∃ m : Fin 5, q.operands = [slotByte n, BitVec.ofNat 8 m.val]) →
               st ≠ .calibrating → st ≠ .burning → refused .rebase 12 0)
           ∧ (Serves s q rest 0x0E → q.operands = [slotByte n] → st = .empty ∨ st = .settling → refused .quarantine 2 0)
           ∧ (Serves s q rest 0x0F → q.operands = [slotByte n] → st ≠ .ready → st ≠ .calibrating → st ≠ .burning →
               refused .recover 1 2)
           ∧ (Serves s q rest 0x10 → q.operands = [slotByte n] → st ≠ .unmatched →
               st ≠ .ready ∨ (s.slot n).power.spindle ≠ .stopped ∨ (s.slot n).heavyInFlight = true
                 ∨ (s.slot n).spinUpInFlight = true → refused .rematch 2 0))

/-- DISCOVER (R159): the station, straps, image state, save flag, report station and report mode; with invalid
straps STRAP_INVALID with the straps and the image state (R187). Nothing else changes. READ-PART-STATUS (R160,
R181): the reply reports the part as it stands, and acknowledges: the part event set is emptied and its notice
withdrawn. Nothing else changes. The next sequence number is the counter, 2^32 once none is left (the model's
choice, log entry 46). The notice queue occupancy counts the part notice that this read withdraws (the model's
choice, log entry 52). READ-SETTINGS (R161, R188): the seventeen settings and the target as they stand. Nothing else
changes. READ-TABLE (R163): the entry named, as it stands, reference count, match count, fill count and generation
included; an index, bin set or position outside the table BAD_REQUEST. Nothing else changes. -/
def Obligations.PartAndTableReads : Prop :=
  (∀ (s : State) (q : QueuedRequest) (rest : List QueuedRequest), Serves s q rest 0x01 → q.operands = [] →
     let st := s.store
     (4 ≤ stationOf st.straps →
         exec .discover s
           = .next
               (finish
                 ((s.taken rest).replied q .ok .none
                   (.discover (stationOf st.straps) st.straps st.image st.save.isSome st.settings.reportStation
                     st.settings.reportMode))))
       ∧ (stationOf st.straps < 4 →
           exec .discover s
             = .next
                 (finish
                   ((s.taken rest).replied q .strapInvalid .none
                     (.discoverInvalid (stationOf st.straps) st.straps st.image)))))
    ∧ (∀ (s : State) (q : QueuedRequest) (rest : List QueuedRequest), Serves s q rest 0x02 → q.operands = [] →
         ∃ u v, exec .readPartStatus s = .next (finish u)
           ∧ u = { (s.taken rest).replied q .ok .none (.partStatus v) with
                   notices := { s.notices with
                     part := 0, partState := .quiet, queue := s.notices.queue.filter (· ≠ .part) } }
           ∧ v.events = s.notices.part ∧ v.supply = s.power.supply ∧ v.warning = s.power.warning
           ∧ (s.notices.part.getLsbD 0 = true → v.cause = s.notices.cause)
           ∧ (∀ at_, s.power.restore = some at_ → v.delayLeft = at_ - s.now) ∧ (s.power.restore = none → v.delayLeft = 0)
           ∧ v.target = s.store.target ∧ v.sum = allocationSum s ∧ v.admissionCount = s.power.queue.length
           ∧ v.manifestCount = s.sort.manifest.length ∧ v.lowest = s.sort.manifest.head?.map (·.sequence)
           ∧ v.next = s.sort.next ∧ v.waiting = s.sort.waiting.length ∧ v.noticeCount = s.notices.queue.length
           ∧ v.mode = s.store.settings.reportMode ∧ v.saving = s.store.save.isSome ∧ v.image = s.store.image
           ∧ v.straps = s.store.straps ∧ v.rxErrors = s.port.rxErrors ∧ v.portBusy = s.port.portBusy
           ∧ v.broadcastDiscards = s.port.broadcastDiscards ∧ v.streamDropped = s.port.streamDropped
           ∧ v.slots = allSlots.map fun n => ((s.slot n).state, unmaskedSlot s n != 0))
    ∧ (∀ (s : State) (q : QueuedRequest) (rest : List QueuedRequest), Serves s q rest 0x03 → q.operands = [] →
         exec .readSettings s
           = .next (finish ((s.taken rest).replied q .ok .none (.settings s.store.settings s.store.target))))
    ∧ (∀ (s : State) (q : QueuedRequest) (rest : List QueuedRequest), Serves s q rest 0x07 →
         let replied (r : Results) : Prop := exec .readTable s = .next (finish ((s.taken rest).replied q .ok .none r))
         let refused : Prop :=
           exec .readTable s
             = .next (finish ((s.taken rest).replied q .badRequest .none (.zeroed 0 none (zeroWidth q.kind q.operands))))
         (∀ i : Fin 16, q.operands = [1, BitVec.ofNat 8 i.val] → replied (.model s.tables.models[i]))
           ∧ (∀ i : Fin 64, q.operands = [2, BitVec.ofNat 8 i.val] → replied (.classify s.tables.classify[i]))
           ∧ (∀ i : Fin 16, q.operands = [3, BitVec.ofNat 8 i.val] → replied (.defect s.tables.defects[i]))
           ∧ (∀ (set : Fin 4) (p : Fin 8), q.operands = [4, BitVec.ofNat 8 set.val, BitVec.ofNat 8 p.val] →
               replied (.bin (s.bin set p)))
           ∧ (∀ i : Fin 16, q.operands = [5, BitVec.ofNat 8 i.val] → replied (.indicator s.tables.indicators[i]))
           ∧ ∀ i : Byte,
               (q.operands = [1, i] ∨ q.operands = [3, i] ∨ q.operands = [5, i] → 16 ≤ i.toNat → refused)
                 ∧ (q.operands = [2, i] → 64 ≤ i.toNat → refused)
                 ∧ ∀ p : Byte, q.operands = [4, i, p] → 4 ≤ i.toNat ∨ 8 ≤ p.toNat → refused)

/-- WRITE-SETTINGS (R161, R62, R176, R182, 11.2, 12.4): 1 to 17 identifiers, none twice, each with its value. A
value out of the range that 11.2 gives its setting, or a settle reserve below the standby current of a valid model
entry, refuses the whole list (27 zero bytes: the model's choice, log entry 23); else every setting named takes its
value in one change and no other setting changes, a mask written moves notices alone, a report mode written sets the
stream count to 0, and the reply reports all settings. SET-BUDGET (R63, R162): a target of 1000 to 60000 replaces
the target, a rise making a pass due, and the reply reports it with the sum before that pass; another value is
refused FIELD_RANGE and the target stays. That the pass is marked due (log entry 6) and the four zero bytes of the
refusal (log entry 23) are the model's choices. -/
def Obligations.SettingsAndBudget : Prop :=
  (∀ (s : State) (q : QueuedRequest) (rest : List QueuedRequest) (pairs : List (Nat × Nat)),
     let width (id : Nat) : Nat := [0, 1, 2, 1, 2, 2, 1, 1, 2, 2, 1, 1, 1, 2, 3, 1, 1, 1].getD id 0
     let range (id : Nat) : Nat × Nat :=
       [(1, 0), (1, 10), (200, 2000), (1, 120), (1, 600), (60, 7200), (1, 60), (5, 120), (10, 300), (0, 2000), (1, 60), (0, 1),
         (0, 3), (5, 600), (0, 16777215), (0, 1), (1, 255), (1, 63)].getD id (1, 0)
     Serves s q rest 0x04 → 1 ≤ pairs.length → (pairs.map (·.1)).Nodup →
       (∀ p ∈ pairs, 1 ≤ p.1 ∧ p.1 ≤ 17 ∧ p.2 < 256 ^ width p.1) →
       q.operands = putNum 1 pairs.length ++ pairs.flatMap (fun p => putNum 1 p.1 ++ putNum (width p.1) p.2) →
       s.store.save = none →
       let ok := ∀ p ∈ pairs, (range p.1).1 ≤ p.2 ∧ p.2 ≤ (range p.1).2
       let below := ∃ p ∈ pairs, p.1 = 2 ∧ ∃ i : Fin 16, s.tables.models[i].valid = true ∧ p.2 < s.tables.models[i].standby
       let refused (reason : RefusalReason) : Prop :=
         exec .writeSettings s = .next (finish ((s.taken rest).replied q .tableRefused reason (.zeroed 0 none 27)))
       let value (id : Nat) : Option Nat := (pairs.find? (·.1 == id)).map (·.2)
       let was := s.store.settings
       let new : Settings :=
         { settleTime := (value 1).getD was.settleTime
           settleReserve := (value 2).getD was.settleReserve
           resetRundown := (value 3).getD was.resetRundown
           lightTimeout := (value 4).getD was.lightTimeout
           heavyTimeout := (value 5).getD was.heavyTimeout
           identifyTimeout := (value 6).getD was.identifyTimeout
           spinDownTimeout := (value 7).getD was.spinDownTimeout
           repeatSpinUpTimeout := (value 8).getD was.repeatSpinUpTimeout
           overdrawMargin := (value 9).getD was.overdrawMargin
           restoreDelay := (value 10).getD was.restoreDelay
           autoResume := ((value 11).map fun v => decide (v = 1)).getD was.autoResume
           tickPeriod := ((value 12).bind fun v => [TickPeriod.ms100, .ms250, .s1, .s4][v]?).getD was.tickPeriod
           idleTime := (value 13).getD was.idleTime
           eventMask := ((value 14).map fun v => ⟨BitVec.ofNat 16 v, BitVec.ofNat 8 (v / 65536)⟩).getD was.eventMask
           reportMode := ((value 15).bind fun v => [ReportMode.event, .stream][v]?).getD was.reportMode
           streamInterval := (value 16).getD was.streamInterval
           reportStation := (value 17).getD was.reportStation }
       (¬ok → refused .fieldRange)
         ∧ (ok → below → refused .standbyAboveReserve)
         ∧ (ok → ¬below →
             ∃ u, exec .writeSettings s = .next (finish u)
               ∧ KeepsButSlots [.requests, .replies, .settings, .partSet, .noticeQueue, .streamTimer] s u
               ∧ (∀ n, SlotKeepsBut [.notice] (s.slot n) (u.slot n))
               ∧ u.store.settings = new ∧ u.port.requests = rest
               ∧ u.port.replies
                   = s.port.replies ++ [⟨q.source, q.tag, q.kind, .ok, .none, .settings new s.store.target⟩]
               ∧ u.notices.streamNumber = s.notices.streamNumber
               ∧ u.notices.streamCount = (if ∃ p ∈ pairs, p.1 = 15 then 0 else s.notices.streamCount)
               ∧ ((∀ p ∈ pairs, p.1 ≠ 14) → sameIn s u .partSet ∧ sameIn s u .noticeQueue ∧ ∀ n, u.slot n = s.slot n)))
    ∧ (∀ (s : State) (q : QueuedRequest) (rest : List QueuedRequest) (x : Nat),
         Serves s q rest 0x05 → x < 65536 → q.operands = putNum 2 x →
           (1000 ≤ x → x ≤ 60000 →
               exec .setBudget s
                 = .next
                     (finish
                       ({ s.taken rest with
                           store := { s.store with target := x }
                           power := { s.power with
                             passDue := s.power.passDue || decide (s.store.target < x) } }.replied q .ok .none
                         (.budget x (allocationSum s)))))
             ∧ (x < 1000 ∨ 60000 < x →
                 exec .setBudget s
                   = .next (finish ((s.taken rest).replied q .tableRefused .fieldRange (.zeroed 0 none 4)))))

/-- LOAD-TABLE MODEL (R61, R163): index above 15 BAD_REQUEST, an entry in use IN_USE, a valid entry refused by the
first failed check of R61; else the entry is stored with reference count 0 and the reply carries it. Nothing else
changes. That an entry whose unused firmware or profile places are not zero is stored, and carried, with those bytes
as written is the model's choice, and no rule (log entry 50). The checks of a model entry written valid, in the order
of R61: a pattern with a character that is no space; 1 to 4 profiles; every field in the range of R49 and R102; the
standby current at or below the settle reserve; in each threshold set kl of 2 to 15, Tf above Tw and H below Tw. The
first that fails gives the reason. -/
def Obligations.LoadTableModel : Prop :=
  (∀ (s : State) (q : QueuedRequest) (rest : List QueuedRequest) (i : Nat) (m : ModelEntry),
     Serves s q rest 0x06 → m.storable → i < 256 → q.operands = 0x01 :: (putNum 1 i ++ m.bytes) → s.store.save = none →
       let new := { m with refCount := 0 }
       let replied (status : ReplyStatus) (reason : RefusalReason) : Prop :=
         exec .loadTableModel s = .next (finish ((s.taken rest).replied q status reason (.zeroed 0 none 172)))
       (16 ≤ i → replied .badRequest .none)
         ∧ ∀ h : i < 16,
             (s.tables.models[i].refCount ≠ 0 → replied .inUse .none)
               ∧ (s.tables.models[i].refCount = 0 → m.valid = true → modelCheck s.store.settings.settleReserve new ≠ .none →
                   replied .tableRefused (modelCheck s.store.settings.settleReserve new))
               ∧ (s.tables.models[i].refCount = 0 →
                   (m.valid = true → modelCheck s.store.settings.settleReserve new = .none) →
                   exec .loadTableModel s
                     = .next
                         (finish
                           ({ s.taken rest with tables := { s.tables with models := s.tables.models.set i new } }.replied
                             q .ok .none (.model new)))))
    ∧ (∀ (reserve : Nat) (m : ModelEntry),
         let sets := [m.temp, m.curr, m.vibe, m.defr]
         let inRange := m.firmwareCount ≤ 2 ∧ m.standby ≤ 2000 ∧ m.run ≤ 4000 ∧ m.heavyIncrement ≤ 4000
           ∧ (∀ p ∈ m.profiles, 100 ≤ p.peak ∧ p.peak ≤ 4000 ∧ 1 ≤ p.spinTime ∧ p.spinTime ≤ 120)
           ∧ 8 ≤ m.calibrationCount ∧ m.calibrationCount ≤ 255 ∧ m.shockPenalty ≤ 1000 ∧ m.reseedPenalty ≤ 1000
           ∧ m.binSet ≤ 3
           ∧ ∀ t ∈ sets, t.kf ≤ 7 ∧ 1 ≤ t.tw ∧ t.tw ≤ 65535 ∧ 1 ≤ t.nw ∧ t.nw ≤ 15 ∧ 1 ≤ t.nx ∧ t.nx ≤ 15 ∧ 1 ≤ t.nf
               ∧ t.nf ≤ 15 ∧ 1 ≤ t.shockHold ∧ t.shockHold ≤ 255 ∧ t.watchPenalty ≤ 1000 ∧ t.faultAction ≤ 1
         let related := ∀ t ∈ sets, 2 ≤ t.kl ∧ t.kl ≤ 15 ∧ t.tw < t.tf ∧ t.h < t.tw
         let empty := ∀ b ∈ m.pattern, b = 0x20
         let counted := 1 ≤ m.profileCount ∧ m.profileCount ≤ 4
         (empty → modelCheck reserve m = .emptyPattern)
           ∧ (¬empty → ¬counted → modelCheck reserve m = .noProfile)
           ∧ (¬empty → counted → ¬inRange → modelCheck reserve m = .fieldRange)
           ∧ (¬empty → counted → inRange → reserve < m.standby → modelCheck reserve m = .standbyAboveReserve)
           ∧ (¬empty → counted → inRange → m.standby ≤ reserve → ¬related → modelCheck reserve m = .thresholds)
           ∧ (¬empty → counted → inRange → m.standby ≤ reserve → related → modelCheck reserve m = .none))

/-- LOAD-TABLE CLASSIFY and DEFECT (R131, R163): an index outside the table BAD_REQUEST; a valid classification entry
of class 15 or with a field out of range, or a weight above 1000, is refused; else the entry is stored, a
classification entry with match count 0. LOAD-TABLE BIN and INDICATOR (R151, R163, R20): at position 7 a kind other
than REJECT, and a capacity below the fill count, are refused; else the bin takes the written fields and keeps fill
count and generation, the reply being built before the retry pass (log entry 36), and with no slot waiting nothing
else changes. An indicator entry is stored and every slot's lamps follow. A bin or an indicator map entry that is not
stored (R151, R163): a bin set above 3, a position above 7 or an index above 15 is BAD_REQUEST; a bin kind, condition
or lamp pattern that is no known code, and a bin field out of the range of R139, are refused FIELD_RANGE. The lamps
of a slot (R19): those of the first indicator entry, in index order, whose condition holds where it is not inverted,
or does not hold where it is; both OFF where no entry matches. -/
def Obligations.LoadTableOthers : Prop :=
  (∀ (s : State) (q : QueuedRequest) (rest : List QueuedRequest) (i : Nat),
     Serves s q rest 0x06 → i < 256 → s.store.save = none →
       let replied (c : Instr) (status : ReplyStatus) (reason : RefusalReason) (width : Nat) : Prop :=
         exec c s = .next (finish ((s.taken rest).replied q status reason (.zeroed 0 none width)))
       (∀ e : ClassifyEntry, e.storable → q.operands = 0x02 :: (putNum 1 i ++ e.bytes) →
           let new := { e with matchCount := 0 }
           (64 ≤ i → replied .loadTableClassify .badRequest .none 11)
             ∧ ∀ h : i < 64,
                 (e.valid = true → e.defectClass = 15 → replied .loadTableClassify .tableRefused .reservedClass 11)
                   ∧ (e.valid = true → e.defectClass ≠ 15 →
                       6 < e.statusMatch ∨ 5 < e.commandMatch ∨ 15 < e.defectClass ∨ 3 < e.action →
                       replied .loadTableClassify .tableRefused .fieldRange 11)
                   ∧ ((e.valid = true →
                         e.statusMatch ≤ 6 ∧ e.commandMatch ≤ 5 ∧ e.defectClass ≤ 14 ∧ e.action ≤ 3) →
                       exec .loadTableClassify s
                         = .next
                             (finish
                               ({ s.taken rest with
                                   tables := { s.tables with classify := s.tables.classify.set i new } }.replied q .ok .none
                                 (.classify new)))))
         ∧ ∀ e : DefectEntry, e.weight < 65536 → q.operands = 0x03 :: (putNum 1 i ++ e.bytes) →
             (16 ≤ i → replied .loadTableDefect .badRequest .none 3)
               ∧ ∀ h : i < 16,
                   (1000 < e.weight → replied .loadTableDefect .tableRefused .fieldRange 3)
                     ∧ (e.weight ≤ 1000 →
                         exec .loadTableDefect s
                           = .next
                               (finish
                                 ({ s.taken rest with
                                     tables := { s.tables with defects := s.tables.defects.set i e } }.replied q .ok .none
                                   (.defect e)))))
    ∧ (∀ (s : State) (q : QueuedRequest) (rest : List QueuedRequest), Serves s q rest 0x06 → s.store.save = none →
         (∀ (set : Fin 4) (p : Fin 8) (b : Bin), b.inRange → q.operands = 0x04 :: (putNum 1 set.val ++ putNum 1 p.val ++ b.bytes) →
             let old := s.bin set p
             let new := { b with fill := old.fill, generation := old.generation }
             let refused (reason : RefusalReason) : Prop :=
               exec .loadTableBin s = .next (finish ((s.taken rest).replied q .tableRefused reason (.zeroed 0 none 11)))
             (p = 7 → b.kind ≠ .reject → refused .rejectPosition)
               ∧ ((p = 7 → b.kind = .reject) → b.capacity < old.fill → refused .capacityBelowFill)
               ∧ ((p = 7 → b.kind = .reject) → old.fill ≤ b.capacity →
                   exec .loadTableBin s
                     = .next (finish (retryPass ((setBin set p new (s.taken rest)).replied q .ok .none (.bin new))))))
           ∧ (∀ u : State, u.sort.waiting = [] → retryPass u = u)
           ∧ ∀ (i : Fin 16) (e : IndicatorEntry), q.operands = 0x05 :: (putNum 1 i.val ++ e.bytes) →
               ∃ u, exec .loadTableIndicator s = .next (finish u)
                 ∧ KeepsButSlots [.requests, .replies, .indicators] s u
                 ∧ u.tables.indicators = s.tables.indicators.set i e ∧ u.port.requests = rest
                 ∧ u.port.replies = s.port.replies ++ [⟨q.source, q.tag, q.kind, .ok, .none, .indicator e⟩]
                 ∧ ∀ n, SlotKeepsBut [.lamps] (s.slot n) (u.slot n) ∧ LampsCurrent u n)
    ∧ (∀ (s : State) (q : QueuedRequest) (rest : List QueuedRequest), Serves s q rest 0x06 → s.store.save = none →
         let replied (c : Instr) (status : ReplyStatus) (reason : RefusalReason) (width : Nat) : Prop :=
           exec c s = .next (finish ((s.taken rest).replied q status reason (.zeroed 0 none width)))
         (∀ (set p kind rank maxShocks maxShed capacity fill : Byte) (minScore generation : Nat) (fw : Bool),
             minScore < 65536 → generation < 65536 →
             q.operands
                 = [0x04, set, p, kind] ++ putNum 2 minScore ++ [maxShocks, maxShed] ++ putFlag fw ++ [rank, capacity, fill]
                   ++ putNum 2 generation →
               (4 ≤ set.toNat ∨ 8 ≤ p.toNat → replied .loadTableBin .badRequest .none 11)
                 ∧ (set.toNat < 4 → p.toNat < 8 →
                     4 ≤ kind.toNat ∨ 10000 < minScore ∨ 15 < maxShed.toNat ∨ 7 < rank.toNat ∨ capacity = 0 →
                     replied .loadTableBin .tableRefused .fieldRange 11))
           ∧ ∀ (i condition lampA lampB : Byte) (invert : Bool),
               q.operands = [0x05, i, condition, lampA, lampB] ++ putFlag invert →
               (16 ≤ i.toNat → replied .loadTableIndicator .badRequest .none 4)
                 ∧ (i.toNat < 16 → 14 ≤ condition.toNat ∨ 4 ≤ lampA.toNat ∨ 4 ≤ lampB.toNat →
                     replied .loadTableIndicator .tableRefused .fieldRange 4))
    ∧ (∀ (s : State) (x : Slot),
         let inTest := x.state = .calibrating ∨ x.state = .burning
         let some_ (st : MetricState) : Prop := ∃ m, (x.filter m).state = st
         let sorted (kind : BinKind) : Prop :=
           x.state = .sorted ∧ ∃ g, x.grading.grade = some g ∧ (s.bin g.binSet g.position).kind = kind
         let holds (c : Condition) : Prop :=
           match c with
           | .none => False
           | .empty => x.state = .empty
           | .starting => x.state = .settling ∨ x.state = .powerWait ∨ x.state = .identifying
           | .unmatched => x.state = .unmatched
           | .ready => x.state = .ready
           | .testingClear => inTest ∧ ¬some_ .watch ∧ ¬some_ .fault
           | .testingWatch => inTest ∧ some_ .watch ∧ ¬some_ .fault
           | .testingFault => inTest ∧ some_ .fault
           | .recovering => x.state = .recovering
           | .sorting => x.state = .grading ∨ x.state = .sortWait ∨ x.state = .parking
           | .sortedShip => sorted .ship
           | .sortedRework => sorted .rework
           | .sortedReject => sorted .reject
           | .quarantined => x.grading.reason ≠ none ∧ x.state ≠ .empty
         let shows (i : Fin 16) : Prop := holds s.tables.indicators[i].condition ↔ s.tables.indicators[i].invert = false
         (∀ i, shows i → (∀ j, j < i → ¬shows j) →
             lampsFor s x = (s.tables.indicators[i].lampA, s.tables.indicators[i].lampB))
           ∧ ((∀ i, ¬shows i) → lampsFor s x = (.off, .off)))

/-- The save (R158, R192): SAVE-CONFIG hands over the image of the settings, target and tables as they stand and
answers OK; the image state is WRITING and the flash holds no good image until the save ends (log entry 27); the erase
and write stages end in turn. How a save ends (R192): verified, the image state is GOOD, the flash holds the image
handed over, SAVE_DONE is pending; an image that does not verify, a flash error in any stage (log entry 39), or 10 s,
leave it BAD with SAVE_FAILED pending. That SAVE_ERASE_DONE, SAVE_WRITE_DONE and SAVE_VERIFY_DONE change nothing in a
stage other than their own is the model's choice (DESIGN CHOICE, log entry 1). -/
def Obligations.SaveStages : Prop :=
  (∀ (s : State) (q : QueuedRequest) (rest : List QueuedRequest),
     (Serves s q rest 0x08 → q.operands = [] → s.store.save = none →
         exec .saveConfig s
           = .next
               (finish
                 ({ s.taken rest with
                     store := { s.store with
                       image := .writing, flash := none
                       save := some ⟨.erase, imageBytes s, s.now + 10000⟩ } }.replied q .ok .none .empty)))
       ∧ ∀ v : Save, s.store.save = some v →
           (v.stage = .erase →
               exec .saveEraseDone s = .next { s with store := { s.store with save := some { v with stage := .write } } })
             ∧ (v.stage ≠ .erase → exec .saveEraseDone s = .next s)
             ∧ (v.stage = .write →
                 exec .saveWriteDone s = .next { s with store := { s.store with save := some { v with stage := .verify } } })
             ∧ (v.stage ≠ .write → exec .saveWriteDone s = .next s))
    ∧ (∀ (s : State) (v : Save), s.store.save = some v →
         let ended (c : Instr) (image : ImageState) (flash : Option Bytes) (bit : Nat) (now : Nat) : Prop :=
           ∃ u, exec c s = .next (arbitrate u)
             ∧ KeepsBut [.now, .image, .partSet, .noticeQueue] s u ∧ u.now = now
             ∧ u.store = { s.store with image := image, flash := flash, save := none }
             ∧ u.notices.part.getLsbD bit = true
         (v.stage = .verify →
             ended (.saveVerifyDone true) .good (some v.image) 3 s.now ∧ ended (.saveVerifyDone false) .bad none 4 s.now)
           ∧ (v.stage ≠ .verify → ∀ b, exec (.saveVerifyDone b) s = .next s)
           ∧ ended .flashError .bad none 4 s.now
           ∧ ended .saveTimeout .bad none 4 (max s.now v.limit))

/-! ### Requests that name a slot -/

/-- READ-SLOT (R164, R181): the whole record with its admission entry and wait reason. Unacknowledged it changes
nothing else; acknowledged it clears the pending set and the presence-change flag and withdraws the slot's notice.
That the places in the admission queue and the sort-wait list count from 0 is the model's choice (log entry 23); how
the record's injection list lies in the bytes of the reply is the model's choice too (log entry 55), and no clause
here. READ-FILTER (R165): the four filter records with supply halt, recovery halt, lost and thresholds, the idle count
and the deferral mark. Nothing else changes. -/
def Obligations.SlotReads : Prop :=
  (∀ (s : State) (q : QueuedRequest) (rest : List QueuedRequest) (n : SlotId), Serves s q rest 0x09 →
     let results : Results :=
       .slot (s.slot n) ((entryOf s n).map fun e => (e, s.power.queue.findIdx (·.slot == n)))
         ((s.sort.waiting.find? (·.slot == n)).map fun w => (w.reason, s.sort.waiting.findIdx (·.slot == n))) s.now
     (q.operands = [slotByte n, 0] → exec .readSlot s = .next (finish ((s.taken rest).replied q .ok .none results)))
       ∧ (q.operands = [slotByte n, 1] →
           ∃ u, exec .readSlot s = .next (finish u)
             ∧ KeepsBut [.slot n, .requests, .replies, .partSet, .noticeQueue] s u
             ∧ u.slot n
                 = { s.slot n with events := 0, notice := .quiet, lines := { (s.slot n).lines with change := false } }
             ∧ u.port = ((s.taken rest).replied q .ok .none results).port
             ∧ .slot n ∉ u.notices.queue))
    ∧ (∀ (s : State) (q : QueuedRequest) (rest : List QueuedRequest) (n : SlotId),
         Serves s q rest 0x0A → q.operands = [slotByte n] →
           let x := s.slot n
           let halted := decide (s.power.supply ≠ .normal)
           let recovering := decide (x.state = .recovering) && (x.recovery.resume.map SlotState.inTest).getD false
           let thresholds (m : Metric) := (modelOf s x).map (·.thresholds m)
           exec .readFilter s
             = .next
                 (finish
                   ((s.taken rest).replied q .ok .none
                     (.filter ⟨x.drift.temp, halted, false, decide (16 ≤ x.drift.temp.misses), thresholds .temp⟩
                       ⟨x.drift.curr, halted, recovering, decide (16 ≤ x.drift.curr.misses), thresholds .curr⟩
                       ⟨x.drift.vibe, halted, recovering, decide (16 ≤ x.drift.vibe.misses), thresholds .vibe⟩
                       ⟨x.drift.defr, halted, false, decide (16 ≤ x.drift.defr.misses), thresholds .defr⟩
                       x.drift.idleCount x.drift.deferral))))

/-- START-TEST in READY (R9, R111, R166): CALIBRATING, every tally, the episode count, the shed count and the test
ticks 0, the last forward time now, every filter at the start of calibration; the reply carries the calibration
count. CALIBRATION_COMPLETE (R10): with a report waiting for the slot, CALIBRATING enters BURNING, RECOVERING to
CALIBRATING will resume in BURNING, and any other state discards the report. -/
def Obligations.TestStarts : Prop :=
  (∀ (s : State) (q : QueuedRequest) (rest : List QueuedRequest) (n : SlotId),
     Serves s q rest 0x0B → q.operands = [slotByte n] → (s.slot n).state = .ready →
       ∃ u, exec .startTest s = .next (finish u) ∧ KeepsBut [.slot n, .requests, .replies] s u
         ∧ u.port
             = ((s.taken rest).replied q .ok .none
                 (.startTest .calibrating (((modelOf s (s.slot n)).map (·.calibrationCount)).getD 0))).port
         ∧ LampsCurrent u n
         ∧ SlotKeepsBut [.state, .lamps, .recovery, .tallies, .samples, .lastForward, .testTicks] (s.slot n) (u.slot n)
         ∧ (u.slot n).state = .calibrating
         ∧ (u.slot n).recovery = { (s.slot n).recovery with episodes := 0 }
         ∧ (u.slot n).tallies = ⟨Vector.replicate 16 0, 0, 0, 0, 0, 0, 0, false, false⟩
         ∧ (u.slot n).drift.lastForward = s.now ∧ (u.slot n).drift.testTicks = 0
         ∧ (∀ m, (u.slot n).filter m = startCalibration ((s.slot n).filter m))
         ∧ (u.slot n).drift.peak = (s.slot n).drift.peak ∧ (u.slot n).drift.mean = (s.slot n).drift.mean)
    ∧ (∀ (n : SlotId) (s : State), n ∈ s.transit.calibrations →
         ∃ t, exec (.calibrationComplete n) s = .next t ∧ KeepsBut [.slot n, .transit] s t
           ∧ t.transit = { s.transit with calibrations := s.transit.calibrations.erase n }
           ∧ ((s.slot n).state = .calibrating →
               t.slot n = { s.slot n with state := .burning }.lampsOf (t.slot n) ∧ LampsCurrent t n)
           ∧ ((s.slot n).state = .recovering → (s.slot n).recovery.resume = some .calibrating →
               t.slot n = { s.slot n with recovery.resume := some .burning })
           ∧ ((s.slot n).state ≠ .calibrating →
               ((s.slot n).state ≠ .recovering ∨ (s.slot n).recovery.resume ≠ some .calibrating) → t.slot n = s.slot n))

/-- END-TEST in CALIBRATING or BURNING (R11, R133, R135, R166): the slot enters GRADING, its queued frames are
answered END_OF_TEST in queue order, its admission entry and held grant go; with nothing recorded and no server
command in flight the final IDENTIFY is due at once, and no hand-over is sent; with a reason recorded the hand-over
goes to the Sort Unit at once where the table and the injection list are empty or slot power is OFF and the table is
empty (R136). The reply counts the frames answered and the commands in flight at the request, before the final
IDENTIFY is sent (the model's choice, log entry 23). -/
def Obligations.EndTest : Prop :=
  ∀ (s : State) (q : QueuedRequest) (rest : List QueuedRequest) (n : SlotId),
    Serves s q rest 0x0C → q.operands = [slotByte n] →
      (s.slot n).state = .calibrating ∨ (s.slot n).state = .burning →
      ∃ u, exec .endTest s = .next (finish u)
        ∧ KeepsBut [.slot n, .requests, .replies, .responses, .admission, .passDue, .sent, .transit] s u
        ∧ u.port.replies
            = s.port.replies
              ++ [⟨q.source, q.tag, q.kind, .ok, .none,
                    .endTest .grading (s.slot n).traffic.queue.length (s.slot n).inFlightList.length⟩]
        ∧ u.port.responses = s.port.responses ++ queueAnswers n (s.slot n) .endOfTest
        ∧ u.power.queue = s.power.queue.filter (·.slot ≠ n)
        ∧ SlotKeepsBut
            [.state, .lamps, .identity, .allocation, .spindle, .queue, .reserved, .inFlight, .injections, .grading]
            (s.slot n) (u.slot n)
        ∧ (u.slot n).state = .grading ∧ (u.slot n).traffic.queue = [] ∧ (u.slot n).traffic.reserved = none
        ∧ (u.slot n).power.held = none ∧ (u.slot n).grading.grade = none
        ∧ ((s.slot n).grading.reason = none →
            (u.slot n).grading.handedOver = false ∧ u.transit = s.transit
              ∧ (u.slot n).grading.finalIdentify = (if (s.slot n).serverInFlight = true then .notDue else .due))
        ∧ ((s.slot n).grading.reason ≠ none → (∀ k : Fin 4, (s.slot n).traffic.inFlight[k] = none) →
            (s.slot n).traffic.injections = [] ∨ (s.slot n).lines.powered = false →
            u.transit = { s.transit with handOvers := s.transit.handOvers ++ [n] } ∧ (u.slot n).grading.handedOver = true)

/-- REBASE in CALIBRATING or BURNING (R114, R167): each metric named that is CLEAR or WATCH is reseeded and counted;
no other record changes; the reply reports the four metrics. -/
def Obligations.RebaseRequest : Prop :=
  ∀ (s : State) (q : QueuedRequest) (rest : List QueuedRequest) (n : SlotId) (code : Fin 5),
    Serves s q rest 0x0D → q.operands = [slotByte n, BitVec.ofNat 8 code.val] →
      (s.slot n).state = .calibrating ∨ (s.slot n).state = .burning →
      let named (m : Metric) : Prop := code = 4 ∨ allMetrics[code.val]? = some m
      let reseeds (m : Metric) : Prop :=
        named m ∧ (((s.slot n).filter m).state = .clear ∨ ((s.slot n).filter m).state = .watch)
      ∃ u report, exec .rebase s = .next (finish u)
        ∧ KeepsBut [.slot n, .requests, .replies] s u
        ∧ u.port = ((s.taken rest).replied q .ok .none (.rebase report)).port
        ∧ SlotKeepsBut [.samples, .lamps] (s.slot n) (u.slot n) ∧ LampsCurrent u n
        ∧ (u.slot n).drift.peak = (s.slot n).drift.peak ∧ (u.slot n).drift.mean = (s.slot n).drift.mean
        ∧ (∀ m, reseeds m →
            (u.slot n).filter m
              = { (s.slot n).filter m with
                  l := ((s.slot n).filter m).f, state := .clear, enter := 0, exit := 0, fault := 0, halt := 0
                  reseeds := min 255 (((s.slot n).filter m).reseeds + 1) })
        ∧ (∀ m, ¬reseeds m → (u.slot n).filter m = (s.slot n).filter m)
        ∧ report.map (fun r => (r.2.1, r.2.2))
            = allMetrics.map (fun m => (((u.slot n).filter m).reseeds, ((u.slot n).filter m).state))
        ∧ ∀ (i : Fin 4) (r : Bool × Nat × MetricState) (m : Metric),
            report[i.val]? = some r → allMetrics[i.val]? = some m → (r.1 = true ↔ reseeds m)

/-- Taking a quarantine request (R14, R15, R16): without a drive record, or with a reason already recorded, it is
discarded; else the reason is recorded and QUARANTINE raised, and the slot goes to GRADING from every state before it,
stays in GRADING, PARKING or SORTED, and from SORT_WAIT stays or goes to PARKING. The grade point at a quarantine
(R16, R136): taken in GRADING before the hand-over, or bringing the slot to GRADING, it leaves no final IDENTIFY
listed. With the in-flight table then empty the hand-over is sent at once: with slot power OFF, or with nothing listed
(and, from RECOVERING, no spin-up to bring to rest), where the table was empty before. Else it is not sent yet. That a
listed SPIN_DOWN which can be sent is sent and waited for before the grade point is tested is the model's reading, and
no rule (DEDUCED, log entry 25). Taken after the hand-over it sends nothing. A quarantine taken in SORT_WAIT (R14,
R16, R148): the reason is recorded and QUARANTINE raised; the kept inputs become forced with that reason and score 0;
the room tests are made for position 7 of the grade's bin set. With room the entry is appended, and a regrade is
followed by a retry pass; else the slot keeps its place with the wait reason of these tests and a forced grade of
score 0 at position 7, no second SORT_WAIT raised. QUARANTINE (R168): a quarantine request with reason REQUESTED is
taken, and the reply carries whether this request recorded the reason, the reason recorded and the state after.
QUARANTINE_REQUEST (R14): the first request with this reason waiting for the slot leaves the list and is taken; which
requests come as such events of their own, and which are taken inside the command that finds them, is the model's
choice (log entry 9). -/
def Obligations.QuarantineTaken : Prop :=
  (∀ (n : SlotId) (r : QuarantineReason) (s : State),
     let x := s.slot n
     let t := takeQuarantine n r s
     (x.state = .empty ∨ x.state = .settling ∨ x.grading.reason ≠ none → t = s)
       ∧ (x.state ≠ .empty → x.state ≠ .settling → x.grading.reason = none →
           (t.slot n).grading.reason = some r
             ∧ (t.slot n).events.getLsbD 10 = true
             ∧ (x.state ∈ [SlotState.powerWait, .identifying, .unmatched, .ready, .calibrating, .burning, .recovering, .grading] →
                 (t.slot n).state = .grading)
             ∧ (x.state = .parking ∨ x.state = .sorted → (t.slot n).state = x.state)
             ∧ (x.state = .sortWait → (t.slot n).state = .sortWait ∨ (t.slot n).state = .parking)
             ∧ (x.state ≠ .sortWait →
                 KeepsBut [.slot n, .responses, .admission, .passDue, .sent, .transit, .partSet, .noticeQueue] s t)
             ∧ (x.state ∈ [SlotState.powerWait, .identifying, .unmatched, .ready, .calibrating, .burning, .recovering] →
                 (t.slot n).traffic.queue = [] ∧ (t.slot n).power.held = none
                   ∧ t.port.responses = s.port.responses ++ queueAnswers n x .endOfTest
                   ∧ t.power.queue = s.power.queue.filter (·.slot ≠ n)
                   ∧ (x.state = .recovering →
                       (t.slot n).recovery.resume = none ∧ (t.slot n).recovery.breakLatch = false
                         ∧ (t.slot n).recovery.wait = none))))
    ∧ (∀ (n : SlotId) (r : QuarantineReason) (s : State), (s.slot n).grading.reason = none →
         let x := s.slot n
         let t := takeQuarantine n r s
         let sent : Prop :=
           t.transit = { s.transit with handOvers := s.transit.handOvers ++ [n] } ∧ (t.slot n).grading.handedOver = true
         let empty (y : Slot) : Prop := ∀ k : Fin 4, y.traffic.inFlight[k] = none
         (x.state ∈ [SlotState.powerWait, .identifying, .unmatched, .ready, .calibrating, .burning, .recovering]
               ∨ x.state = .grading ∧ x.grading.handedOver = false →
             (t.slot n).listed .identify = false
               ∧ (empty (t.slot n) → sent)
               ∧ (¬empty (t.slot n) → t.transit = s.transit ∧ (t.slot n).grading.handedOver = false)
               ∧ (empty x → x.lines.powered = false ∨ x.traffic.injections = [] ∧ x.state ≠ .recovering → sent))
           ∧ (x.state = .grading → x.grading.handedOver = true → t.transit = s.transit))
    ∧ (∀ (n : SlotId) (r : QuarantineReason) (s : State) (w : WaitEntry),
         (s.slot n).state = .sortWait → (s.slot n).grading.reason = none → s.sort.waiting.find? (·.slot == n) = some w →
           let x := s.slot n
           let t := takeQuarantine n r s
           let set := (x.grading.grade.map (·.binSet)).getD 0
           let inputs := { w.inputs with score := 0, forced := true, reason := some r }
           let old := entryWithSerial s (x.identity.record.map (·.serial))
           ∃ v, KeepsBut [.slot n, .partSet, .noticeQueue] s v
             ∧ SlotKeepsBut [.lamps, .reason, .events, .notice] x (v.slot n)
             ∧ (v.slot n).grading.reason = some r ∧ (v.slot n).events = x.events ||| SlotEvent.quarantine.set
             ∧ LampsCurrent v n
             ∧ (sortOutcome s n set 7 = .made false → t = appendEntry n inputs set 7 old v)
             ∧ (sortOutcome s n set 7 = .made true → t = retryPass (appendEntry n inputs set 7 old v))
             ∧ ∀ reason, sortOutcome s n set 7 = .waits reason →
                 KeepsBut [.slot n, .waiting] v t
                   ∧ t.slot n = { v.slot n with grading.grade := some ⟨0, set, 7, true, none⟩ }
                   ∧ t.sort.waiting
                       = s.sort.waiting.map fun o => if o.slot = n then { slot := w.slot, reason := reason, inputs := inputs } else o)
    ∧ (∀ (s : State) (q : QueuedRequest) (rest : List QueuedRequest) (n : SlotId),
         Serves s q rest 0x0E → q.operands = [slotByte n] → (s.slot n).state ≠ .empty → (s.slot n).state ≠ .settling →
           let t := takeQuarantine n .requested (s.taken rest)
           exec .quarantine s
               = .next
                   (finish
                     (t.replied q .ok .none
                       (.quarantine (s.slot n).grading.reason.isNone (t.slot n).grading.reason (t.slot n).state)))
             ∧ (t.slot n).grading.reason = some ((s.slot n).grading.reason.getD .requested)
             ∧ ((s.slot n).grading.reason ≠ none → t = s.taken rest))
    ∧ (∀ (n : SlotId) (r : QuarantineReason) (s : State), (n, r) ∈ s.transit.quarantines →
         exec (.quarantineRequest n r) s
           = .next
               (finish
                 (takeQuarantine n r
                   { s with transit := { s.transit with quarantines := s.transit.quarantines.erase (n, r) } })))

/-- A recovery that falls due (R42, R43, R44): nothing in a state that allows none; with four episodes counted the
slot is quarantined RECOVERY_LIMIT; else the episode begins. Its entry answers the server commands in flight RECOVERY,
frees the table, empties the injection list and the held grant, withdraws the admission entry, raises RECOVERY, enters
RECOVERING and puts a link reset on the link, with a wait of 10 s. The slot command queue, the tallies, slot power,
the identity record, the identity flags, the binding, the quarantine reason and the retry mark stay (R12); the
effective peaks stay too, but that peaks pending behind a held grant take effect as it lapses (R53; the model's
choice, log entry 12). RECOVER in READY, CALIBRATING and BURNING (R169): a recovery with reason SERVER_REQUEST;
STARTED carries RECOVERING, the resume state and the episode count before it, LIMIT the reason recorded and the state
after. -/
def Obligations.RecoveryEpisode : Prop :=
  (∀ (n : SlotId) (r : RecoveryReason) (s : State),
     let x := s.slot n
     let t := startRecovery n r s
     (x.state ∉ [SlotState.identifying, .unmatched, .ready, .calibrating, .burning] → t = s)
       ∧ (x.state ∈ [SlotState.identifying, .unmatched, .ready, .calibrating, .burning] →
           (4 ≤ x.recovery.episodes → t = takeQuarantine n .recoveryLimit s)
             ∧ (x.recovery.episodes < 4 →
                 KeepsBut [.slot n, .responses, .admission, .passDue, .sent, .partSet, .noticeQueue] s t
                   ∧ SlotKeepsBut
                       [.state, .lamps, .identity, .allocation, .spindle, .reserved, .inFlight, .injections, .recovery,
                         .events, .notice] x (t.slot n)
                   ∧ LampsCurrent t n
                   ∧ (t.slot n).identity
                       = (if x.power.held = none then x.identity
                          else { x.identity with peaks := x.identity.pendingPeaks.getD x.identity.peaks, pendingPeaks := none })
                   ∧ (t.slot n).state = .recovering
                   ∧ (t.slot n).recovery
                       = { x.recovery with
                           lastReason := some r, resume := some x.state, attempts := 1, wait := some (s.now + 10000) }
                   ∧ (t.slot n).events = x.events ||| SlotEvent.recovery.set
                   ∧ (t.slot n).traffic.inFlight = Vector.replicate 4 none ∧ (t.slot n).traffic.injections = []
                   ∧ (t.slot n).traffic.reserved = none ∧ (t.slot n).power.held = none
                   ∧ (t.slot n).power.spindle = x.power.spindle ∧ (t.slot n).power.chosen = x.power.chosen
                   ∧ t.port.responses = s.port.responses ++ inFlightAnswers n x .recovery
                   ∧ t.power.queue = s.power.queue.filter (·.slot ≠ n)
                   ∧ t.sent = s.sent ++ [(n, .linkReset)])))
    ∧ (∀ (s : State) (q : QueuedRequest) (rest : List QueuedRequest) (n : SlotId),
         Serves s q rest 0x0F → q.operands = [slotByte n] →
           (s.slot n).state = .ready ∨ (s.slot n).state = .calibrating ∨ (s.slot n).state = .burning →
           let t := startRecovery n .serverRequest (s.taken rest)
           ((s.slot n).recovery.episodes < 4 →
               exec .recover s
                 = .next
                     (finish
                       (t.replied q .ok .none
                         (.recoverStarted .recovering (some (s.slot n).state) (s.slot n).recovery.episodes))))
             ∧ (4 ≤ (s.slot n).recovery.episodes →
                 exec .recover s
                   = .next
                       (finish
                         (t.replied q .ok .none
                           (.recoverLimit (some ((s.slot n).grading.reason.getD .recoveryLimit)) (t.slot n).state)))))

/-- REMATCH (R8, R58, R59, R170). In UNMATCHED, no match leaves everything as it was; a match binds the slot, raises
IDENTIFIED and enters READY, or, exactly where every effective peak is above the target (R54), GRADING with
POWER_MISMATCH recorded (IDENTIFIED is raised then too: DEDUCED, log entry 16), the allocation the lesser of the
standby current and what it was (R67). In READY, a search that finds the entry already bound keeps the state, the
binding and the allocation. The reply carries the model index and the state after. REMATCH in READY with the spindle
STOPPED and no HEAVY or SPIN_UP in flight, where the search finds another entry or none (R58, R59, R170). Another
entry whose standby current fits: the binding and the two reference counts move, the allocation becomes the standby
current (0 counting as 1, R66), IDENTIFIED is raised, the slot stays READY; a smallest effective peak above the
target asks for POWER_MISMATCH, an event of its own (the model's choice, log entry 9). None, the settle reserve
fitting: the slot is UNMATCHED with no model and the settle reserve, UNMATCHED is raised, each queued frame but LIGHT
and IDENTIFY is answered NOT_ACCEPTING in queue order. A new allocation that does not fit: nothing is rebound, and
POWER_MISMATCH is taken. -/
def Obligations.Rematch : Prop :=
  (∀ (s : State) (q : QueuedRequest) (rest : List QueuedRequest) (n : SlotId) (r : IdentityRecord),
     Serves s q rest 0x10 → q.operands = [slotByte n] → (s.slot n).identity.record = some r →
       ((s.slot n).state = .unmatched →
           (matchSearch s.tables.models r.model = none →
               exec .rematch s
                 = .next (finish ((s.taken rest).replied q .ok .none (.rematch (s.slot n).identity.model .unmatched))))
             ∧ ∀ i, matchSearch s.tables.models r.model = some i →
                 ∃ u, exec .rematch s = .next (finish u)
                   ∧ (u.slot n).identity.model = some i ∧ (u.slot n).identity.record = some r
                   ∧ (u.slot n).events.getLsbD 3 = true
                   ∧ u.tables.models[i].refCount = s.tables.models[i].refCount + 1
                   ∧ u.port.replies
                       = s.port.replies ++ [⟨q.source, q.tag, q.kind, .ok, .none, .rematch (some i) (u.slot n).state⟩]
                   ∧ (let x := s.slot n
                      let m := s.tables.models[i]
                      let peaks := effectivePeaks r (some m)
                      let mismatch := peaks ≠ [] ∧ ∀ p ∈ peaks, s.store.target < p
                      (u.slot n).identity.flags = identityFlags r (some m) x.identity.flags
                        ∧ (¬mismatch → (u.slot n).state = .ready ∧ (u.slot n).grading.reason = x.grading.reason
                            ∧ KeepsBut [.slot n, .requests, .replies, .models, .passDue, .partSet, .noticeQueue] s u
                            ∧ SlotKeepsBut [.state, .lamps, .identity, .allocation, .events, .notice] x (u.slot n))
                        ∧ (mismatch → x.grading.reason = none →
                            (u.slot n).state = .grading ∧ (u.slot n).grading.reason = some .powerMismatch)
                        ∧ (x.lines.powered = true → x.power.spindle = .stopped → x.power.held = none →
                            x.traffic.injections = [] →
                            (u.slot n).identity.peaks = peaks
                              ∧ (u.slot n).power.allocation = min (max 1 m.standby) x.power.allocation)))
         ∧ ((s.slot n).state = .ready → (s.slot n).power.spindle = .stopped → (s.slot n).heavyInFlight = false →
             (s.slot n).spinUpInFlight = false →
             ∀ i, matchSearch s.tables.models r.model = some i → (s.slot n).identity.model = some i →
               ∃ u, exec .rematch s = .next (finish u)
                 ∧ KeepsBut [.slot n, .requests, .replies, .transit, .partSet, .noticeQueue] s u
                 ∧ SlotKeepsBut [.identity, .events, .notice] (s.slot n) (u.slot n)
                 ∧ (u.slot n).identity.model = some i ∧ (u.slot n).events.getLsbD 3 = true
                 ∧ u.port = ((s.taken rest).replied q .ok .none (.rematch (some i) .ready)).port))
    ∧ (∀ (s : State) (q : QueuedRequest) (rest : List QueuedRequest) (n : SlotId) (r : IdentityRecord) (old : Fin 16),
         Serves s q rest 0x10 → q.operands = [slotByte n] → (s.slot n).identity.record = some r →
           (s.slot n).identity.model = some old → (s.slot n).state = .ready → (s.slot n).power.spindle = .stopped →
           (s.slot n).heavyInFlight = false → (s.slot n).spinUpInFlight = false →
           let x := s.slot n
           let stays : Prop :=
             let t := takeQuarantine n .powerMismatch (s.taken rest)
             exec .rematch s = .next (finish (t.replied q .ok .none (.rematch (some old) (t.slot n).state)))
           let reply (model : Option (Fin 16)) (st : SlotState) : List Reply :=
             s.port.replies ++ [⟨q.source, q.tag, q.kind, .ok, .none, .rematch model st⟩]
           (∀ i, matchSearch s.tables.models r.model = some i → i ≠ old →
               let a := max 1 s.tables.models[i].standby
               let peaks := effectivePeaks r (some s.tables.models[i])
               let mismatch := peaks ≠ [] ∧ ∀ p ∈ peaks, s.store.target < p
               (fits s n a = false → stays)
                 ∧ (fits s n a = true →
                     ∃ u, exec .rematch s = .next (finish u)
                       ∧ KeepsBut [.slot n, .requests, .replies, .models, .passDue, .transit, .partSet, .noticeQueue] s u
                       ∧ SlotKeepsBut [.identity, .allocation, .events, .notice] x (u.slot n)
                       ∧ (u.slot n).identity.record = some r ∧ (u.slot n).identity.model = some i
                       ∧ (u.slot n).power.allocation = a ∧ (u.slot n).events = x.events ||| SlotEvent.identified.set
                       ∧ u.tables.models[i].refCount = s.tables.models[i].refCount + 1
                       ∧ u.tables.models[old].refCount = s.tables.models[old].refCount - 1
                       ∧ u.port.replies = reply (some i) .ready
                       ∧ (a < x.power.allocation → u.power.passDue = true)
                       ∧ (mismatch → u.transit.quarantines = s.transit.quarantines ++ [(n, .powerMismatch)])
                       ∧ (¬mismatch → u.transit.quarantines = s.transit.quarantines)))
             ∧ (matchSearch s.tables.models r.model = none →
                 let a := s.store.settings.settleReserve
                 let kept (c : QueuedCmd) : Bool := decide (c.cls = .light) || decide (c.cls = .identify)
                 (fits s n a = false → stays)
                   ∧ (fits s n a = true →
                       ∃ u, exec .rematch s = .next (finish u)
                         ∧ KeepsBut
                             [.slot n, .requests, .replies, .responses, .models, .admission, .passDue, .sent, .partSet,
                               .noticeQueue] s u
                         ∧ (u.slot n).state = .unmatched ∧ LampsCurrent u n
                         ∧ (u.slot n).identity.record = some r ∧ (u.slot n).identity.model = none
                         ∧ (x.power.held = none → x.traffic.injections = [] → (u.slot n).identity.peaks = [])
                         ∧ (x.traffic.injections = [] → (u.slot n).power.allocation = a)
                         ∧ (u.slot n).events = x.events ||| SlotEvent.unmatched.set
                         ∧ u.tables.models[old].refCount = s.tables.models[old].refCount - 1
                         ∧ u.port.responses
                             = s.port.responses
                               ++ (x.traffic.queue.filter fun c => !kept c).map
                                 (fun c => .partMade c.source (slotByte n) (BitVec.ofNat 8 c.tag) .notAccepting)
                         ∧ u.port.replies = reply none .unmatched)))

/-! ### Grading, bins and the manifest -/

/-- The score of an unforced grade (R137): 10000 less the defect, watch, shock and reseed penalties, never below 0;
it is the score of the grade that the hand-over of a slot without a recorded reason is given. -/
def Obligations.Score : Prop :=
  ∀ (s : State) (x : Slot),
    let defects := ((List.finRange 16).map fun c => s.tables.defects[c].weight * x.tallies.counters[c]).sum
    let d := x.drift
    let shocks := d.temp.shocks + d.curr.shocks + d.vibe.shocks + d.defr.shocks
    let reseeds := d.temp.reseeds + d.curr.reseeds + d.vibe.reseeds + d.defr.reseeds
    score s x ≤ 10000
      ∧ (x.grading.reason = none → (gradeInputs s x).score = score s x)
      ∧ ∀ m, modelOf s x = some m →
          score s x
            = 10000
              - (defects
                + (m.temp.watchPenalty * (d.temp.watchCount / 64) + m.curr.watchPenalty * (d.curr.watchCount / 64)
                  + m.vibe.watchPenalty * (d.vibe.watchCount / 64) + m.defr.watchPenalty * (d.defr.watchCount / 64))
                + m.shockPenalty * shocks + m.reseedPenalty * reseeds)

/-- The bin selection (R140, R141): a forced grade goes to position 7; an unforced one to the eligible position of 0
to 6 with the lowest rank, then the highest minimum score, then the lowest position, and to 7 where none is eligible.
A bin is eligible when it is not UNUSED, its four limits admit the grade, and, for SHIP, none of the four flags is
set. -/
def Obligations.BinSelected : Prop :=
  ∀ (s : State) (set : Fin 4) (g : GradeInputs),
    let fits (p : Fin 8) : Prop :=
      let b := s.bin set p
      p ≠ 7 ∧ b.kind ≠ .unused ∧ b.minScore ≤ g.score ∧ (b.maxShocks = 255 ∨ g.shocks ≤ b.maxShocks)
        ∧ (b.maxShed = 15 ∨ g.shed ≤ b.maxShed) ∧ (b.requiresFw = true → g.fwMismatch = false)
        ∧ (b.kind = .ship → g.fwMismatch = false ∧ g.capLow = false ∧ g.secBlock = false ∧ g.finalIdMissing = false)
    let p := selectBin s set g
    (g.forced = true → p = 7)
      ∧ (g.forced = false → (∀ p', ¬fits p') → p = 7)
      ∧ (g.forced = false → (∃ p', fits p') →
          fits p ∧ ∀ p', fits p' →
            (s.bin set p).rank < (s.bin set p').rank
              ∨ (s.bin set p).rank = (s.bin set p').rank
                ∧ ((s.bin set p').minScore < (s.bin set p).minScore
                  ∨ (s.bin set p').minScore = (s.bin set p).minScore ∧ p ≤ p'))

/-- The room tests (R142, R144, R145): bin room counts the place that the regrade of an entry of the same bin and
generation gives back; manifest room is given by a regrade, or by fewer than 64 entries, while a sequence number is
left. Without bin room the slot waits BIN_FULL, else without manifest room MANIFEST_FULL. An append (R142, R143, R144,
R145): the old entry of the serial leaves, giving its place back when the bin's generation is its own; the new entry
takes the next sequence number and the tail of the manifest; the bin's fill count rises; the slot leaves the sort-wait
list, gets its grade, raises GRADED and enters PARKING. Entering PARKING (R18, R6, R13). With slot power already OFF
the rundown runs at once and nothing else is started. With power ON the park timer of 30 s runs, but that with the
spindle STOPPED the spin-down ends at once: no park timer, power OFF, allocation 0, the rundown running. SPINNING:
SPIN_DOWN is listed for the parking, or sent at once with tag 31 where the list can be served, the spindle then
SPINNING_DOWN. SPINNING_DOWN, and SPINNING_UP with no granted SPIN_UP in flight (orphaned; beside an ungranted one
too, DEDUCED, log entry 40): a SPIN_DOWN in flight is waited on, one listed takes the parking cause, and only without
either is one injected. SPINNING_UP with a granted SPIN_UP in flight: nothing is listed or sent yet. -/
def Obligations.EntryAppended : Prop :=
  (∀ (s : State) (n : SlotId) (set : Fin 4) (p : Fin 8),
     let b := s.bin set p
     let old := entryWithSerial s ((s.slot n).identity.record.map (·.serial))
     let back := if ∃ o, old = some o ∧ o.binSet = set ∧ o.position = p ∧ o.generation = b.generation ∧ 0 < b.fill then 1 else 0
     let manifest := (s.sort.manifest.length < 64 ∨ old ≠ none) ∧ s.sort.next ≤ 4294967295
     (b.capacity ≤ b.fill - back → sortOutcome s n set p = .waits .binFull)
       ∧ (b.fill - back < b.capacity → ¬manifest → sortOutcome s n set p = .waits .manifestFull)
       ∧ (b.fill - back < b.capacity → manifest → sortOutcome s n set p = .made old.isSome))
    ∧ (∀ (s : State) (n : SlotId) (g : GradeInputs) (set : Fin 4) (p : Fin 8) (old : Option ManifestEntry),
         let t := appendEntry n g set p old s
         let back (set' : Fin 4) (p' : Fin 8) : Nat :=
           if ∃ o, old = some o ∧ o.binSet = set' ∧ o.position = p' ∧ o.generation = (s.bin set' p').generation then 1 else 0
         KeepsBut [.slot n, .bins, .manifest, .waiting, .passDue, .sent, .partSet, .noticeQueue] s t
           ∧ t.sort.next = s.sort.next + 1
           ∧ t.sort.waiting = s.sort.waiting.filter (·.slot ≠ n)
           ∧ (∃ e, t.sort.manifest = s.sort.manifest.filter (fun o => ∀ x ∈ old, o.sequence ≠ x.sequence) ++ [e]
               ∧ e.sequence = s.sort.next ∧ e.slot = n ∧ e.serial = (s.slot n).identity.record.map (·.serial)
               ∧ e.model = (s.slot n).identity.model ∧ e.binSet = set ∧ e.position = p
               ∧ e.generation = (s.bin set p).generation ∧ e.score = g.score ∧ e.forced = g.forced
               ∧ e.regraded = old.isSome ∧ e.fwMismatch = g.fwMismatch ∧ e.shed = decide (1 ≤ g.shed)
               ∧ e.finalIdMissing = g.finalIdMissing ∧ e.reason = (if g.forced then g.reason else none))
           ∧ (∀ set' p', t.bin set' p'
               = { s.bin set' p' with
                   fill := (s.bin set' p').fill - back set' p' + if set' = set ∧ p' = p then 1 else 0 })
           ∧ (∃ v, t = enterParking n v ∧ KeepsBut [.slot n, .bins, .manifest, .waiting, .partSet, .noticeQueue] s v
               ∧ SlotKeepsBut [.grading, .events, .notice] (s.slot n) (v.slot n))
           ∧ (t.slot n).state = .parking
           ∧ (t.slot n).grading.grade = some ⟨g.score, set, p, g.forced, some s.sort.next⟩
           ∧ (t.slot n).events = (s.slot n).events ||| SlotEvent.graded.set
           ∧ (t.slot n).identity.record = (s.slot n).identity.record ∧ (t.slot n).tallies.counters = (s.slot n).tallies.counters)
    ∧ (∀ (n : SlotId) (s : State),
         let x := s.slot n
         let t := enterParking n s
         let y := t.slot n
         let ends := y.lines.rundown = .running (s.now + rundownMs s x)
         let due := (∃ i ∈ y.traffic.injections, i.cls = .spinDown ∧ i.parking = true)
           ∨ ∃ k : Fin 4, ∃ e, y.traffic.inFlight[k] = some e ∧ e.cls = .spinDown ∧ e.origin = .part ∧ e.start = s.now
         let sentAtOnce := ∀ k : Fin 4, x.traffic.injections = [] → x.partInFlight = false → x.freeEntry = some k →
           y.traffic.injections = [] ∧ t.sent = s.sent ++ [(n, .command 31 .spinDown [0x20])]
             ∧ y.traffic.inFlight
                 = x.traffic.inFlight.set k
                     (some ⟨31, .spinDown, .part, false, s.now, s.store.settings.spinDownTimeout * 1000, none, false⟩)
         y.state = .parking ∧ LampsCurrent t n ∧ KeepsBut [.slot n, .passDue, .sent] s t
           ∧ (x.lines.powered = false →
               KeepsBut [.slot n] s t ∧ SlotKeepsBut [.state, .lamps, .rundown] x y ∧ ends)
           ∧ (x.lines.powered = true → x.power.spindle = .stopped →
               KeepsBut [.slot n, .passDue] s t ∧ ends
                 ∧ SlotKeepsBut
                     [.state, .lamps, .power, .rundown, .park, .allocation, .spindle, .injections, .identity, .tallies, .idle] x y
                 ∧ y.lines.powered = false ∧ y.lines.park = none ∧ y.power.allocation = 0 ∧ y.power.spindle = .stopped
                 ∧ y.power.chosen = none ∧ y.power.held = none ∧ y.traffic.injections = []
                 ∧ (0 < x.power.allocation → t.power.passDue = true))
           ∧ (x.lines.powered = true → x.power.spindle ≠ .stopped →
               y.lines.powered = true ∧ y.lines.park = some (s.now + 30000) ∧ y.lines.rundown = x.lines.rundown
                 ∧ (x.power.spindle = .spinning →
                     due ∧ sentAtOnce
                       ∧ ∀ k : Fin 4, x.traffic.injections = [] → x.partInFlight = false → x.freeEntry = some k →
                           y.power.spindle = .spinningDown)
                 ∧ (x.power.spindle = .spinningDown ∨ x.power.spindle = .spinningUp ∧ x.grantedSpinUpInFlight = false →
                     (x.spinDownInFlight = true →
                         (∀ i ∈ y.traffic.injections, i ∈ x.traffic.injections)
                           ∧ (x.traffic.injections = [] → KeepsBut [.slot n] s t ∧ SlotKeepsBut [.state, .lamps, .park] x y))
                       ∧ (x.spinDownInFlight = false →
                           due ∧ sentAtOnce ∧ (x.traffic.injections = [] → y.power.spindle = x.power.spindle)
                             ∧ (x.listed .spinDown = true → y.traffic.injections.length ≤ x.traffic.injections.length)))
                 ∧ (x.power.spindle = .spinningUp → x.grantedSpinUpInFlight = true →
                     KeepsBut [.slot n] s t ∧ SlotKeepsBut [.state, .lamps, .park] x y)))

/-- HAND_OVER (R136, R138, R146): the hand-over waiting for a slot in GRADING is graded in its model's bin set, or
set 0; with room its entry is appended, a regrade being followed by a retry pass; else the slot joins the sort-wait
list with its inputs and enters SORT_WAIT. A hand-over whose slot has left GRADING is discarded. The inputs are the
reason, the four metrics' shocks, the shed count and the identity flags as they stand. The score of an unforced grade
with no model bound is the model's choice (log entry 54). -/
def Obligations.HandOver : Prop :=
  ∀ (n : SlotId) (s : State), n ∈ s.transit.handOvers →
    let v := { s with transit := { s.transit with handOvers := s.transit.handOvers.erase n } }
    let x := s.slot n
    let g := gradeInputs s x
    let set := binSetOf s x
    let p := selectBin s set g
    let old := entryWithSerial s (x.identity.record.map (·.serial))
    (x.state ≠ .grading ∨ x.grading.handedOver = false → exec (.handOver n) s = .next (finish v))
      ∧ (x.state = .grading → x.grading.handedOver = true →
          (sortOutcome s n set p = .made false → exec (.handOver n) s = .next (finish (appendEntry n g set p old v)))
            ∧ (sortOutcome s n set p = .made true →
                exec (.handOver n) s = .next (finish (retryPass (appendEntry n g set p old v))))
            ∧ ∀ reason, sortOutcome s n set p = .waits reason →
                ∃ u, exec (.handOver n) s = .next (finish u)
                  ∧ KeepsBut [.slot n, .waiting, .transit, .partSet, .noticeQueue] s u
                  ∧ SlotKeepsBut [.state, .lamps, .grading, .events, .notice] x (u.slot n)
                  ∧ u.sort.waiting = s.sort.waiting ++ [⟨n, reason, g⟩] ∧ u.transit = v.transit
                  ∧ (u.slot n).state = .sortWait ∧ LampsCurrent u n
                  ∧ (u.slot n).grading.grade = some ⟨g.score, set, p, g.forced, none⟩
                  ∧ (u.slot n).events = x.events ||| SlotEvent.sortWait.set)
      ∧ (∀ m, modelOf s x = some m → m.binSet < 4 → set.val = m.binSet)
      ∧ g.reason = x.grading.reason
      ∧ g.shocks = x.drift.temp.shocks + x.drift.curr.shocks + x.drift.vibe.shocks + x.drift.defr.shocks
      ∧ g.shed = x.tallies.shedCount ∧ g.fwMismatch = x.identity.flags.fwMismatch ∧ g.capLow = x.identity.flags.capLow
      ∧ g.secBlock = x.identity.flags.secBlock ∧ g.finalIdMissing = x.identity.flags.finalIdMissing
      ∧ (x.grading.reason = none → g.forced = false ∧ g.score = score s x)
      ∧ (x.grading.reason ≠ none → g.forced = true ∧ g.score = 0)
      ∧ (modelOf s x = none →
          set = 0
            ∧ score s x = 10000 - ((List.finRange 16).map fun c => s.tables.defects[c].weight * x.tallies.counters[c]).sum)

/-- READ-MANIFEST (R171): the entries at or above the number, up to the count, with the more flag and the next
number; NOT_FOUND where there is none; a count outside 1 to 8 BAD_REQUEST. Nothing else changes. The six zero bytes
of that refusal (log entry 23) and the next number as the counter, 2^32 once none is left (log entry 46), are the
model's choices. RETIRE-MANIFEST names a sequence number and removes every entry at or below it (R149, R172); a
removal is followed by a retry pass in the same change, before the reply with the number removed, the number held and
the lowest number held is built. -/
def Obligations.ManifestRequests : Prop :=
  (∀ (s : State) (q : QueuedRequest) (rest : List QueuedRequest) (from_ count : Nat),
     Serves s q rest 0x11 → from_ < 256 ^ 4 → count < 256 → q.operands = putNum 4 from_ ++ putNum 1 count →
       let found := s.sort.manifest.filter fun e => from_ ≤ e.sequence
       let replied (status : ReplyStatus) (r : Results) : Prop :=
         exec .readManifest s = .next (finish ((s.taken rest).replied q status .none r))
       (count = 0 ∨ 8 < count → replied .badRequest (.zeroed 0 none 6))
         ∧ (1 ≤ count → count ≤ 8 → found = [] → replied .notFound (.manifest [] false s.sort.next))
         ∧ (1 ≤ count → count ≤ 8 → found ≠ [] →
             replied .ok (.manifest (found.take count) (decide (count < found.length)) s.sort.next)))
    ∧ (∀ (s : State) (q : QueuedRequest) (rest : List QueuedRequest) (upTo : Nat),
         Serves s q rest 0x12 → upTo < 256 ^ 4 → q.operands = putNum 4 upTo →
           let kept := s.sort.manifest.filter fun e => upTo < e.sequence
           let removed := (s.sort.manifest.filter fun e => e.sequence ≤ upTo).length
           let v := { s.taken rest with sort := { s.sort with manifest := kept } }
           let t := if removed = 0 then v else retryPass v
           exec .retireManifest s
             = .next
                 (finish
                   (t.replied q .ok .none
                     (.retire removed t.sort.manifest.length (t.sort.manifest.head?.map (·.sequence))))))

/-- CART-SWAP (R150, R173): the bin's fill count becomes 0 and its generation the next, 65535 wrapping to 0; a retry
pass follows in the same change, before the reply with the generation and the fill count is built; a set above 3 or a
position above 7 is BAD_REQUEST, whose result fields are zero bytes (R156; that there are three is the model's
choice, log entry 23). The retry pass (R140, R141, R142, R146, R147): the sort-wait list, of at most 48 slots, is
walked from its first entry to its last; the walk, once ended, is followed by another where one of its appends was a
regrade. For each entry the selection is made again from the kept inputs, in the bin set of the slot's grade, against
the bin table as it stands. Where the room tests pass, the entry is appended with those inputs; else it keeps its
place with the wait reason of this pass, the grade takes the position selected, and neither the manifest, the bins
nor any event changes. In both cases the walk goes on to the next entry. -/
def Obligations.CartSwap : Prop :=
  (∀ (s : State) (q : QueuedRequest) (rest : List QueuedRequest),
     Serves s q rest 0x13 →
       (∀ (set : Fin 4) (p : Fin 8), q.operands = [BitVec.ofNat 8 set.val, BitVec.ofNat 8 p.val] →
           let t := retryPass
             (setBin set p { s.bin set p with fill := 0, generation := ((s.bin set p).generation + 1) % 65536 } (s.taken rest))
           exec .cartSwap s
             = .next (finish (t.replied q .ok .none (.cartSwap (t.bin set p).generation (t.bin set p).fill))))
         ∧ ∀ set p : Byte, q.operands = [set, p] → 4 ≤ set.toNat ∨ 8 ≤ p.toNat →
             exec .cartSwap s = .next (finish ((s.taken rest).replied q .badRequest .none (.zeroed 0 none 3))))
    ∧ (∀ s : State,
         (s.sort.waiting.length ≤ 48 →
             let r := retryWalk (s.sort.waiting.map (·.slot)) false s
             retryPass s = if r.1 = true then retryPass r.2 else r.2)
           ∧ (∀ again, retryWalk [] again s = (again, s))
           ∧ ∀ (n : SlotId) (rest : List SlotId) (again : Bool),
               (s.sort.waiting.find? (·.slot == n) = none → retryWalk (n :: rest) again s = retryWalk rest again s)
                 ∧ ∀ w, s.sort.waiting.find? (·.slot == n) = some w →
                     let x := s.slot n
                     let set := (x.grading.grade.map (·.binSet)).getD 0
                     let p := selectBin s set w.inputs
                     let old := entryWithSerial s (x.identity.record.map (·.serial))
                     (∀ regrade, sortOutcome s n set p = .made regrade →
                         retryWalk (n :: rest) again s = retryWalk rest (again || regrade) (appendEntry n w.inputs set p old s))
                       ∧ ∀ reason, sortOutcome s n set p = .waits reason →
                           ∃ u, retryWalk (n :: rest) again s = retryWalk rest again u
                             ∧ KeepsBut [.slot n, .waiting] s u
                             ∧ u.slot n = { x with grading.grade := some ⟨w.inputs.score, set, p, w.inputs.forced, none⟩ }
                             ∧ u.sort.waiting = s.sort.waiting.map fun v => if v.slot = n then { w with reason := reason } else v)

/-! ### The slot links -/

/-- The classification of a response (R121, R122): the valid entry of lowest index whose status, masked code and
command class match gives its class and action; without one a GOOD response has no class and is ignored, and any
other is class 14 with COUNT_NOTE. What a classification does to the slot (R120, R124, R125, R126): the match count
of its entry rises; IGNORE and no class change nothing more; every other action raises the class's counter and the
accumulator by its weight; COUNT_NOTE, or a class with its notice flag set, raises DEFECT; QUARANTINE sends the
request CLASSIFIED. -/
def Obligations.ResponseClassified : Prop :=
  (∀ (table : Vector ClassifyEntry 64) (status : StatusClass) (code : BitVec 16) (cls : Option CmdClass),
     let hits (i : Fin 64) : Prop :=
       table[i].valid = true
         ∧ (table[i].statusMatch = 6 ∨ table[i].statusMatch = codeIn StatusClass.names status)
         ∧ code &&& BitVec.ofNat 16 table[i].codeMask = BitVec.ofNat 16 table[i].codeValue &&& BitVec.ofNat 16 table[i].codeMask
         ∧ (table[i].commandMatch = 5 ∨ ∃ c, cls = some c ∧ table[i].commandMatch = codeIn CmdClass.names c)
     let c := classification table status code cls
     (∀ i, hits i → (∀ j, j < i → ¬hits j) →
         c.entry = some i
           ∧ (table[i].defectClass < 16 → ∃ d, c.cls = some d ∧ d.val = table[i].defectClass)
           ∧ (∀ a, Action.names[table[i].action]? = some a → c.action = a))
       ∧ ((∀ i, ¬hits i) → status = .good → c = ⟨none, none, .ignore⟩)
       ∧ ((∀ i, ¬hits i) → status ≠ .good → c = ⟨none, some 14, .countNote⟩))
    ∧ (∀ (n : SlotId) (status : StatusClass) (code : BitVec 16) (cls : Option CmdClass) (s : State),
         let c := classification s.tables.classify status code cls
         let t := (classify n status code cls s).1
         (classify n status code cls s).2 = c
           ∧ KeepsBut [.slot n, .classify, .partSet, .noticeQueue, .transit] s t
           ∧ SlotKeepsBut [.tallies, .events, .notice] (s.slot n) (t.slot n)
           ∧ (∀ i : Fin 64, t.tables.classify[i]
               = if c.entry = some i then
                   { s.tables.classify[i] with matchCount := min 65535 (s.tables.classify[i].matchCount + 1) }
                 else s.tables.classify[i])
           ∧ (c.cls = none ∨ c.action = .ignore → t.slot n = s.slot n ∧ t.transit = s.transit)
           ∧ ∀ d, c.cls = some d → c.action ≠ .ignore →
               (t.slot n).tallies
                   = { (s.slot n).tallies with
                       counters := (s.slot n).tallies.counters.set d (min 65535 ((s.slot n).tallies.counters[d] + 1))
                       accumulator := min 65534 ((s.slot n).tallies.accumulator + s.tables.defects[d].weight) }
                 ∧ (t.slot n).events
                     = (if c.action = .countNote ∨ s.tables.defects[d].notice = true then
                         (s.slot n).events ||| SlotEvent.defect.set
                       else (s.slot n).events)
                 ∧ t.transit.quarantines
                     = (if c.action = .quarantine then s.transit.quarantines ++ [(n, .classified)] else s.transit.quarantines))

/-- The spindle after a response to SPIN_UP or SPIN_DOWN (R33), the entry that it answers being free: a granted
SPIN_UP taken in SPINNING_UP gives SPINNING or, not GOOD, STOPPED; a SPIN_DOWN taken in SPINNING_DOWN, or in
SPINNING_UP with no SPIN_UP in flight, gives STOPPED; in every other case the spindle stays. At STOPPED no profile is
chosen. The response to a SPIN_UP or SPIN_DOWN in flight (R32, R33, R98), outside RECOVERING, in a NORMAL supply,
with nothing queued or listed: the spindle becomes what R33 gives. Where it leaves SPINNING_UP with the deferral mark
set, the mark is cleared and CURR and VIBE are sampled, as a tick's sample of the two is: last raw value, miss count,
the filter stages while the test runs, SENSOR_LOST at the 16th miss, peak and mean current, and the overdraw
comparison with the new allocation; TEMP, DEFR and the idle count stay, and the calibration-complete report is sent
where the last calibrating metric leaves CALIBRATING (R112). In every other case no metric changes. -/
def Obligations.SpindleAfterResponse : Prop :=
  (∀ (n : SlotId) (cls : CmdClass) (granted good : Bool) (v : SensorReading) (s : State),
     let x := s.slot n
     let after :=
       if cls = .spinUp ∧ granted = true ∧ x.power.spindle = .spinningUp then
         if good then Spindle.spinning else Spindle.stopped
       else if cls = .spinDown ∧ (x.power.spindle = .spinningDown
           ∨ x.power.spindle = .spinningUp ∧ x.spinUpInFlight = false) then Spindle.stopped
       else x.power.spindle
     let t := takeSpindle n cls granted good v s
     (t.slot n).power.spindle = after
       ∧ (after = x.power.spindle → t = s)
       ∧ (after ≠ x.power.spindle → after = .stopped → (t.slot n).power.chosen = none)
       ∧ (after = .spinning → (t.slot n).power.chosen = x.power.chosen))
    ∧ (∀ (n : SlotId) (tag : Byte) (status : StatusClass) (code : BitVec 16) (payload : Bytes) (sensor : SensorReading)
         (s : State) (k : Fin 4) (e : InFlight),
         (s.slot n).lines.powered = true → (s.slot n).state ≠ .recovering → (s.slot n).state ≠ .parking →
           s.power.supply = .normal → (s.slot n).traffic.queue = [] → (s.slot n).traffic.injections = [] →
           (s.slot n).entryWithTag tag.toNat = some k → (s.slot n).traffic.inFlight[k] = some e →
           e.cls = .spinUp ∨ e.cls = .spinDown →
           let x := s.slot n
           let freed := { x with traffic.inFlight := x.traffic.inFlight.set k none }
           let up := x.power.spindle = .spinningUp
           let ends := up ∧ (e.cls = .spinUp ∧ e.granted = true ∨ e.cls = .spinDown ∧ freed.spinUpInFlight = false)
           let reading (m : Metric) : Nat := if m = .curr then sensor.curr.toNat else sensor.vibe.toNat
           let taken (m : Metric) : Filter :=
             if reading m = 65535 then { x.filter m with misses := min 255 ((x.filter m).misses + 1) }
             else { x.filter m with misses := 0, lastRaw := some (reading m) }
           let v := sensor.curr.toNat
           ∃ u, exec (.driveResponse n tag status code payload sensor) s = .next (finish u)
             ∧ (u.slot n).power.spindle
                 = (if ends then if e.cls = .spinUp ∧ status = .good then Spindle.spinning else .stopped
                    else if e.cls = .spinDown ∧ x.power.spindle = .spinningDown then .stopped else x.power.spindle)
             ∧ (let calibrating (y : Slot) : Bool := [y.drift.temp, y.drift.curr, y.drift.vibe, y.drift.defr].any (·.state == .calibrating)
                u.transit.calibrations
                  = s.transit.calibrations ++ if calibrating x = true ∧ calibrating (u.slot n) = false then [n] else [])
             ∧ (u.slot n).drift.idleCount = x.drift.idleCount
             ∧ (u.slot n).filter .temp = x.filter .temp ∧ (u.slot n).filter .defr = x.filter .defr
             ∧ (¬ends ∨ x.drift.deferral = false →
                 (∀ m, (u.slot n).filter m = x.filter m) ∧ (u.slot n).drift.deferral = x.drift.deferral
                   ∧ (u.slot n).drift.peak = x.drift.peak ∧ (u.slot n).drift.mean = x.drift.mean
                   ∧ (u.slot n).tallies.overdrawRun = x.tallies.overdrawRun)
             ∧ (ends → x.drift.deferral = true →
                 (u.slot n).drift.deferral = false
                   ∧ (∀ m, m = .curr ∨ m = .vibe →
                       (x.testRunning = false ∨ 16 ≤ (taken m).misses ∨ (taken m).lastRaw = none ∨ modelOf s x = none →
                           (u.slot n).filter m = taken m)
                         ∧ (x.testRunning = true → (taken m).misses < 16 →
                             ∀ entry sample, modelOf s x = some entry → (taken m).lastRaw = some sample →
                               let r := evaluate (entry.thresholds m) entry.calibrationCount false sample (taken m)
                               (u.slot n).filter m = r.record
                                 ∧ (∀ ev ∈ r.raised, (u.slot n).events.getLsbD ev.bit = true)
                                 ∧ (r.quarantine = true → (n, .metricFault) ∈ u.transit.quarantines))
                         ∧ (reading m = 65535 → (x.filter m).misses = 15 → (u.slot n).events.getLsbD 12 = true))
                   ∧ (v = 65535 →
                       (u.slot n).drift.peak = x.drift.peak ∧ (u.slot n).drift.mean = x.drift.mean
                         ∧ (u.slot n).tallies.overdrawRun = x.tallies.overdrawRun)
                   ∧ (v ≠ 65535 →
                       (u.slot n).drift.peak = max x.drift.peak v
                         ∧ ((u.slot n).drift.mean : Int) = x.drift.mean + ((v : Int) - x.drift.mean).tdiv 16
                         ∧ (u.slot n).tallies.overdrawRun
                             = (if (u.slot n).power.allocation + s.store.settings.overdrawMargin < v then
                                 min 255 (x.tallies.overdrawRun + 1)
                               else 0))))

/-- A response to a server's command other than IDENTIFY, outside RECOVERING (R32, R34, R39, R124): its entry is
freed, it is classified, and it goes to the server that sent the command, with the classification, before any answer
to a frame that the slot then refuses. One to a LIGHT or HEAVY counts toward the good run, which at 64 clears itself
and the bad-frame counter, and its class is counted. With nothing queued or listed the allocation follows the state
figure where the retirement moves it, and stays where it does not (R67, R69; the increment is told apart from the
rest of the figure: DEDUCED, log entry 53). A response to a server's IDENTIFY, outside RECOVERING (R32, R34, R124):
it is classified, its payload is read (R47, R56), and it goes to the server that sent the command, with the
classification, behind the answers that the capture itself gives to queued frames and, where it starts a recovery, to
the other commands in flight, and before any later one. Responses to the part's own commands (R7, R18, R32): none is
forwarded. An IDENTIFY in IDENTIFYING answered with another status than GOOD, or without a valid block: with the
retry mark clear the mark is set and a recovery IDENTIFY_FAILED starts, with it set NO_IDENTITY is taken. In PARKING
a SPIN_DOWN's response, whatever its status, ends the spin-down, and the response to a granted SPIN_UP, whoever sent
it and whatever its status, is followed by SPIN_DOWN (of a server's command: the model's choice, log entry 41). A
response that drains a slot in GRADING (R135, R136), nothing listed and the supply NORMAL: with no other entry in
flight, and a reason recorded or the final identify ended with it or before it, the hand-over is sent to the Sort
Unit; with an entry still in flight, or nothing recorded and the final identify not ended, it is not. With nothing
recorded, the retirement of the last server command makes the final IDENTIFY due: it is listed or in flight. After
the hand-over nothing more is sent. -/
def Obligations.ResponseForwarded : Prop :=
  (∀ (n : SlotId) (tag : Byte) (status : StatusClass) (code : BitVec 16) (payload : Bytes) (sensor : SensorReading)
     (s : State) (k : Fin 4) (e : InFlight) (dest : Byte),
     (s.slot n).lines.powered = true → (s.slot n).state ≠ .recovering → (s.slot n).entryWithTag tag.toNat = some k →
       (s.slot n).traffic.inFlight[k] = some e → e.source = some dest → e.cls ≠ .identify →
       let x := s.slot n
       let c := classification s.tables.classify status code (some e.cls)
       ∃ u more, exec (.driveResponse n tag status code payload sensor) s = .next (finish u)
         ∧ KeepsBut
             [.slot n, .responses, .classify, .admission, .passDue, .sent, .transit, .partSet, .noticeQueue] s u
         ∧ u.port.responses
             = s.port.responses ++ .drive dest (slotByte n) (BitVec.ofNat 8 e.tag) status code c payload :: more
         ∧ (x.traffic.queue = [] → more = [])
         ∧ (e.cls = .light ∨ e.cls = .heavy →
             (x.traffic.queue = [] → x.traffic.injections = [] → x.state ≠ .grading →
                 (u.slot n).traffic.inFlight = x.traffic.inFlight.set k none)
               ∧ (u.slot n).tallies.goodRun = (if x.tallies.goodRun < 63 then x.tallies.goodRun + 1 else 0)
               ∧ (u.slot n).tallies.badFrames = (if x.tallies.goodRun < 63 then x.tallies.badFrames else 0)
               ∧ (x.traffic.queue = [] → x.traffic.injections = [] → x.state ≠ .grading →
                   (u.slot n).power.allocation
                     = (let freed := { x with traffic.inFlight := x.traffic.inFlight.set k none }
                        if figureParts s freed = figureParts s x then x.power.allocation
                        else min (stateFigure s freed) x.power.allocation))
               ∧ (u.slot n).tallies.unexpected = x.tallies.unexpected
               ∧ (∀ d, c.cls = some d → c.action ≠ .ignore →
                   (u.slot n).tallies.counters = x.tallies.counters.set d (min 65535 (x.tallies.counters[d] + 1)))
               ∧ (c.cls = none ∨ c.action = .ignore → (u.slot n).tallies.counters = x.tallies.counters)))
    ∧ (∀ (n : SlotId) (tag : Byte) (status : StatusClass) (code : BitVec 16) (payload : Bytes) (sensor : SensorReading)
         (s : State) (k : Fin 4) (e : InFlight) (dest : Byte),
         (s.slot n).lines.powered = true → (s.slot n).state ≠ .recovering → (s.slot n).entryWithTag tag.toNat = some k →
           (s.slot n).traffic.inFlight[k] = some e → e.source = some dest → e.cls = .identify →
           let x := s.slot n
           let c := classification s.tables.classify status code (some .identify)
           ∃ u before more, exec (.driveResponse n tag status code payload sensor) s = .next (finish u)
             ∧ KeepsBut
                 [.slot n, .responses, .classify, .models, .admission, .passDue, .sent, .transit, .partSet, .noticeQueue] s u
             ∧ u.port.responses
                 = s.port.responses ++ before
                   ++ .drive dest (slotByte n) (BitVec.ofNat 8 e.tag) status code c payload :: more
             ∧ (x.traffic.queue = [] → x.state ≠ .identifying → before = [] ∧ more = [])
             ∧ (x.state ≠ .identifying → ∀ old, x.identity.record = some old →
                 (∀ new, status = .good → parseIdentity payload = some new → new.serial = old.serial →
                     (u.slot n).identity.record = some new)
                   ∧ (status ≠ .good ∨ parseIdentity payload = none →
                       (u.slot n).identity.record = some { old with lastOutcome := .error })))
    ∧ (∀ (n : SlotId) (tag : Byte) (status : StatusClass) (code : BitVec 16) (payload : Bytes) (sensor : SensorReading)
         (s : State) (k : Fin 4) (e : InFlight),
         (s.slot n).lines.powered = true → (s.slot n).entryWithTag tag.toNat = some k →
           (s.slot n).traffic.inFlight[k] = some e →
           let x := s.slot n
           ∃ u, exec (.driveResponse n tag status code payload sensor) s = .next (finish u)
             ∧ (x.state = .identifying → e.cls = .identify → status ≠ .good ∨ parseIdentity payload = none →
                 (x.identity.retryMark = false → x.recovery.episodes < 4 →
                     (u.slot n).state = .recovering ∧ (u.slot n).identity.retryMark = true
                       ∧ (u.slot n).recovery.lastReason = some .identifyFailed)
                   ∧ (x.identity.retryMark = true → x.grading.reason = none →
                       (u.slot n).state = .grading ∧ (u.slot n).grading.reason = some .noIdentity))
             ∧ (x.state = .parking →
                 (e.source = none → u.port.responses = s.port.responses)
                   ∧ (e.cls = .spinDown →
                       (u.slot n).state = .parking ∧ (u.slot n).lines.powered = false ∧ (u.slot n).lines.park = none
                         ∧ (u.slot n).power.spindle = .stopped ∧ (u.slot n).power.allocation = 0
                         ∧ (u.slot n).lines.rundown = .running (s.now + rundownMs s x))
                   ∧ (e.cls = .spinUp → e.granted = true →
                       (u.slot n).lines.powered = true
                         ∧ ((u.slot n).listed .spinDown = true ∨ (u.slot n).spinDownInFlight = true))))
    ∧ (∀ (n : SlotId) (tag : Byte) (status : StatusClass) (code : BitVec 16) (payload : Bytes) (sensor : SensorReading)
         (s : State) (k : Fin 4) (e : InFlight),
         (s.slot n).lines.powered = true → (s.slot n).state = .grading → (s.slot n).entryWithTag tag.toNat = some k →
           (s.slot n).traffic.inFlight[k] = some e →
           let x := s.slot n
           let others (p : InFlight → Prop) : Prop := ∃ j : Fin 4, j ≠ k ∧ ∃ f, x.traffic.inFlight[j] = some f ∧ p f
           let ends := x.grading.reason ≠ none ∨ x.grading.finalIdentify = .ended ∨ e.cls = .identify ∧ e.final = true
           ∃ u, exec (.driveResponse n tag status code payload sensor) s = .next (finish u)
             ∧ (x.grading.handedOver = true → u.transit.handOvers = s.transit.handOvers)
             ∧ (x.grading.handedOver = false → x.traffic.injections = [] → s.power.supply = .normal →
                 (ends → ¬others (fun _ => True) →
                     u.transit.handOvers = s.transit.handOvers ++ [n] ∧ (u.slot n).grading.handedOver = true)
                   ∧ (others (fun _ => True) ∨ ¬ends ∧ e.cls ≠ .identify →
                       u.transit.handOvers = s.transit.handOvers ∧ (u.slot n).grading.handedOver = false)
                   ∧ (x.grading.reason = none → x.grading.finalIdentify = .notDue → e.cls ≠ .identify →
                       ¬others (fun f => f.origin = .server) →
                       (u.slot n).grading.finalIdentify = .due
                         ∧ ((u.slot n).listed .identify = true
                           ∨ ∃ j : Fin 4, ∃ f, (u.slot n).traffic.inFlight[j] = some f ∧ f.cls = .identify ∧ f.final = true))))

/-- A response whose tag matches no entry held (R35, R46): the unexpected-tag counter rises, the response is
classified with no command class and goes to no server; a counter of 3 or more starts a recovery UNEXPECTED_TAG, in a
state that allows one ("or more" is the model's reading of R35's "reaches 3", DEDUCED, log entry 29). In RECOVERING
every response is unexpected, and none starts anything. With slot power OFF (R18, R32, R35, R42), a response taken at
the very time at which the park timer retired the SPIN_DOWN of its tag arrived before power went OFF: it is counted
as unexpected and classified with no command class, once, and starts nothing (the model's choice between R18 and R42,
log entry 41). -/
def Obligations.ResponseUnexpected : Prop :=
  (∀ (n : SlotId) (tag : Byte) (status : StatusClass) (code : BitVec 16) (payload : Bytes) (sensor : SensorReading) (s : State),
     (s.slot n).lines.powered = true →
       let x := s.slot n
       let counted := modSlot n fun x => { x with tallies.unexpected := min 255 (x.tallies.unexpected + 1) }
       let good := modSlot n fun x =>
         if x.tallies.goodRun < 63 then { x with tallies.goodRun := x.tallies.goodRun + 1 }
         else { x with tallies := { x.tallies with goodRun := 0, badFrames := 0 } }
       (x.state = .recovering →
           exec (.driveResponse n tag status code payload sensor) s
             = .next (finish (classify n status code none (counted s)).1))
         ∧ (x.state ≠ .recovering → x.entryWithTag tag.toNat = none →
             let t := (classify n status code none (counted (good s))).1
             (x.tallies.unexpected < 2 →
                 exec (.driveResponse n tag status code payload sensor) s = .next (finish t))
               ∧ (2 ≤ x.tallies.unexpected →
                   exec (.driveResponse n tag status code payload sensor) s
                     = .next (finish (startRecovery n .unexpectedTag t)))))
    ∧ (∀ (n : SlotId) (tag : Byte) (status : StatusClass) (code : BitVec 16) (payload : Bytes) (sensor : SensorReading) (s : State),
         (s.slot n).lines.powered = false → (tag.toNat, s.now) ∈ (s.slot n).lines.late →
           let counted := modSlot n (fun x =>
             { x with
               lines.late := x.lines.late.erase (tag.toNat, s.now)
               tallies.unexpected := min 255 (x.tallies.unexpected + 1) }) s
           exec (.driveResponse n tag status code payload sensor) s
             = .next (finish (classify n status code none counted).1))

/-- BAD_FRAME outside RECOVERING (R39, R42, R46): the bad-frame counter rises and the good run is 0; at 8 or more a
recovery BAD_FRAMES starts in a state that allows one ("or more" is the model's reading of R39's "reaches 8",
DEDUCED, log entry 29). In RECOVERING nothing is counted. BREAK and BREAK_END (R40, R42, R46): a break sets the latch
and starts a recovery LINK_BREAK in a state that allows one; with the latch set it does nothing further; the end of
the break clears the latch in a state that allows no recovery (in RECOVERING too, the model's reading, log entry 14).
A drive frame's bytes (R196): one that the receive check passes and whose kind byte is 81h is a response with the
fields it carries, 82h a link-ready, 83h a drive reset; any bytes that fail the check are a bad frame. -/
def Obligations.LinkErrors : Prop :=
  (∀ (n : SlotId) (frame : Bytes) (s : State), (s.slot n).lines.powered = true →
     let t := modSlot n (fun x =>
       { x with tallies := { x.tallies with badFrames := min 255 (x.tallies.badFrames + 1), goodRun := 0 } }) s
     ((s.slot n).state = .recovering → exec (.badFrame n frame) s = .next s)
       ∧ ((s.slot n).state ≠ .recovering →
           ((s.slot n).tallies.badFrames < 7 → exec (.badFrame n frame) s = .next (finish t))
             ∧ (7 ≤ (s.slot n).tallies.badFrames →
                 exec (.badFrame n frame) s = .next (finish (startRecovery n .badFrames t)))))
    ∧ (∀ (n : SlotId) (s : State), (s.slot n).lines.powered = true →
         let x := s.slot n
         let latch (b : Bool) := modSlot n (fun x => { x with recovery := { x.recovery with breakLatch := b } }) s
         (x.recovery.breakLatch = true → exec (.lineBreak n) s = .next s)
           ∧ (x.recovery.breakLatch = false →
               exec (.lineBreak n) s = .next (finish (startRecovery n .linkBreak (latch true))))
           ∧ (x.state ∈ [SlotState.identifying, .unmatched, .ready, .calibrating, .burning] → exec (.lineBreakEnd n) s = .next s)
           ∧ (x.state ∉ [SlotState.identifying, .unmatched, .ready, .calibrating, .burning] →
               exec (.lineBreakEnd n) s = .next (latch false)))
    ∧ ((∀ (n : SlotId) (tag : Byte) (status : StatusClass) (code : BitVec 16) (payload : Bytes) (v : SensorReading),
          payload.length < 65536 →
            let bytes (kind : Byte) : Bytes :=
              withCrc
                ([kind, tag, BitVec.ofNat 8 (codeIn StatusClass.names status)] ++ putNum 2 code.toNat
                  ++ putNum 2 payload.length ++ payload)
            driveFrameCommand n (bytes 0x81) v = some (.driveResponse n tag status code payload v)
              ∧ driveFrameCommand n (bytes 0x82) v = some (.linkReady n)
              ∧ driveFrameCommand n (bytes 0x83) v = some (.driveReset n))
         ∧ ∀ (n : SlotId) (frame : Bytes) (v : SensorReading), driveFramePasses frame = false →
             driveFrameCommand n frame v = some (.badFrame n frame))

/-- LINK_READY (R44, R45): while an episode waits, it succeeds, but a link-ready taken at the very time a second or
third attempt began is ignored (R44; the model's reading, log entry 42). On success the link counters are 0, the
episode is counted, class 15 is counted with its weight, and the slot goes back to its resume state with the break
latch clear and the retry mark as it was. The injection list is refilled: IDENTIFY for a slot resumed into
IDENTIFYING; SPIN_DOWN for a spindle SPINNING_DOWN or an orphaned spin-up, or, in a supply episode, for the shed of a
spindle SPINNING (R88); a spindle STOPPED, or SPINNING with the supply NORMAL, is left alone. Then the list is served
and the queue head considered: with the table empty, as it is in RECOVERING (R46), the first injected command is sent
with tag 31, in the lowest free entry (the model's choice, log entry 10), a LIGHT or IDENTIFY at the head is
forwarded, and a SPIN_UP or HEAVY that needs a grant asks for it again (R29, R30). Outside RECOVERING the frame only
counts toward the good run (R39). LINK_READY_WAIT_EXPIRY (R44): after the first and second attempt the next begins,
with another link reset and another 10 s; after the third the episode fails and the slot is quarantined LINK_LOST with
the break latch clear. That LINK_READY with no wait running in RECOVERING, and LINK_READY_WAIT_EXPIRY outside
RECOVERING, change nothing is the model's choice (DESIGN CHOICE, log entry 1). -/
def Obligations.LinkReady : Prop :=
  (∀ (n : SlotId) (s : State), (s.slot n).lines.powered = true →
     let x := s.slot n
     (x.state ≠ .recovering →
         exec (.linkReady n) s
           = .next
               (modSlot n (fun x =>
                 if x.tallies.goodRun < 63 then { x with tallies.goodRun := x.tallies.goodRun + 1 }
                 else { x with tallies := { x.tallies with goodRun := 0, badFrames := 0 } }) s))
       ∧ (x.state = .recovering → x.recovery.wait = none → exec (.linkReady n) s = .next s)
       ∧ (x.state = .recovering → 2 ≤ x.recovery.attempts → ∀ t, x.recovery.wait = some t → s.now + 10000 ≤ t →
           exec (.linkReady n) s = .next s)
       ∧ (x.state = .recovering → ∀ t, x.recovery.wait = some t → x.recovery.attempts ≤ 1 ∨ t < s.now + 10000 →
           ∃ u, exec (.linkReady n) s = .next (finish u)
             ∧ KeepsBut [.slot n, .responses, .admission, .passDue, .sent, .partSet, .noticeQueue] s u
             ∧ (u.slot n).state = x.recovery.resume.getD .ready
             ∧ (u.slot n).recovery
                 = { x.recovery with
                     episodes := x.recovery.episodes + 1, resume := none, breakLatch := false, attempts := 0, wait := none }
             ∧ (u.slot n).tallies
                 = { x.tallies with
                     badFrames := 0, goodRun := 0, unexpected := 0
                     counters := x.tallies.counters.set 15 (min 65535 (x.tallies.counters[15] + 1))
                     accumulator := min 65534 (x.tallies.accumulator + s.tables.defects[15].weight) }
             ∧ (u.slot n).identity.retryMark = x.identity.retryMark
             ∧ (x.traffic.injections = [] →
                 let y := u.slot n
                 let back := x.recovery.resume.getD .ready
                 let identify : List Injection :=
                   if back = .identifying then [⟨.identify, false, false, false, false, false⟩] else []
                 let spinDown : List Injection :=
                   if x.power.spindle = .spinningDown then [⟨.spinDown, false, false, true, false, false⟩]
                   else if x.power.spindle = .spinningUp then [⟨.spinDown, false, true, false, false, false⟩]
                   else if x.power.spindle = .spinning ∧ s.power.supply ≠ .normal ∧ back ≠ .recovering then
                     [⟨.spinDown, false, false, false, true, false⟩]
                   else []
                 (∃ v, u = serveSlot n v ∧ KeepsBut [.slot n, .partSet, .noticeQueue] s v
                     ∧ SlotKeepsBut [.state, .lamps, .injections, .recovery, .tallies, .events, .notice] x (v.slot n)
                     ∧ (v.slot n).traffic.injections = identify ++ spinDown)
                   ∧ (x.traffic.reserved = none → (∀ k : Fin 4, x.traffic.inFlight[k] = none) →
                       (identify ++ spinDown = [] →
                           y.traffic.injections = []
                             ∧ ∀ (k : Fin 4) (f : InFlight), y.traffic.inFlight[k] = some f → f.origin = .server)
                         ∧ (∀ i rest, identify ++ spinDown = i :: rest →
                             let identifies := i.cls = .identify
                             y.traffic.injections = rest
                               ∧ y.traffic.inFlight[(0 : Fin 4)]
                                   = some
                                       ⟨31, i.cls, .part, false, s.now,
                                         (if identifies then s.store.settings.identifyTimeout
                                          else s.store.settings.spinDownTimeout) * 1000,
                                         none, false⟩
                               ∧ (n, .command 31 i.cls [if identifies then 0x10 else 0x20]) ∈ u.sent)
                         ∧ (back ∈ [SlotState.unmatched, .ready, .calibrating, .burning] →
                             ∀ q rest, x.traffic.queue = q :: rest →
                               let asks (kind : AdmissionKind) : Prop :=
                                 entryOf u n = some ⟨n, kind, .server, 0, false⟩ ∧ y.traffic.queue = x.traffic.queue
                                   ∧ ∃ k : Fin 4, y.traffic.reserved = some k ∧ y.traffic.inFlight[k] = none
                               (q.cls = .light ∨ q.cls = .identify →
                                   ∃ k : Fin 4,
                                     y.traffic.inFlight[k]
                                       = some
                                           ⟨q.tag, q.cls, .server, false, s.now,
                                             (if q.cls = .light then s.store.settings.lightTimeout
                                              else s.store.settings.identifyTimeout) * 1000,
                                             some q.source, false⟩)
                                 ∧ (entryOf s n = none → x.power.held = none →
                                     (q.cls = .spinUp → x.power.spindle = .stopped ∨ x.power.spindle = .spinningDown →
                                         asks .spinUp)
                                       ∧ (q.cls = .heavy → x.power.spindle = .spinning → s.power.supply = .normal →
                                           asks .heavy)))))))
    ∧ (∀ (n : SlotId) (s : State) (at_ : Nat), (s.slot n).recovery.wait = some at_ →
         let x := s.slot n
         let now := max s.now at_
         (x.state ≠ .recovering → exec (.linkReadyWaitExpiry n) s = .next s)
           ∧ (x.state = .recovering → x.recovery.attempts < 3 →
               exec (.linkReadyWaitExpiry n) s
                 = .next
                     (finish
                       { modSlot n (fun x =>
                           { x with
                             recovery := { x.recovery with
                               attempts := x.recovery.attempts + 1, wait := some (now + 10000) } }) s with
                         now := now
                         sent := s.sent ++ [(n, .linkReset)] }))
           ∧ (x.state = .recovering → 3 ≤ x.recovery.attempts →
               exec (.linkReadyWaitExpiry n) s
                 = .next
                     (finish
                       (takeQuarantine n .linkLost
                         { modSlot n (fun x =>
                             { x with recovery := { x.recovery with breakLatch := false, wait := none } }) s with
                           now := now }))))

/-- DRIVE_RESET (R41, R43, R46): ignored in RECOVERING; in a state that allows one, with fewer than four episodes, a
recovery DRIVE_RESET starts, the frame counting toward the good run (log entry 13); with four the server's commands
are answered and the slot is quarantined RECOVERY_LIMIT (log entry 15), a spin-up left orphaned then having SPIN_DOWN
listed or in flight; in GRADING, SORT_WAIT and PARKING every server command in flight is answered DRIVE_RESET, in
table order, and the table is freed. There each part command ends as if timed out (R37, R38, R60): an IDENTIFY leaves
the record's last outcome NO_RESPONSE, and a final one FINAL_ID_MISSING; in PARKING a SPIN_DOWN, whoever sent it (the
model's reading, log entry 41), ends the spin-down: no park timer, power OFF, allocation 0, the rundown running. Else
slot power and park timer stay, and the spindle and the chosen profile do too with nothing listed; a granted SPIN_UP
that leaves the spindle SPINNING_UP is orphaned, and SPIN_DOWN is listed or in flight. In GRADING, nothing listed and
no spin-up to end, the hand-over is sent where a reason is recorded or the final identify has ended (R136); with
nothing recorded and the final identify not yet due it falls due (R135). -/
def Obligations.DriveReset : Prop :=
  ∀ (n : SlotId) (s : State), (s.slot n).lines.powered = true →
    let x := s.slot n
    let good := modSlot n fun x =>
      if x.tallies.goodRun < 63 then { x with tallies.goodRun := x.tallies.goodRun + 1 }
      else { x with tallies := { x.tallies with goodRun := 0, badFrames := 0 } }
    (x.state = .recovering → exec (.driveReset n) s = .next s)
      ∧ (x.state ∈ [SlotState.identifying, .unmatched, .ready, .calibrating, .burning] → x.recovery.episodes < 4 →
          exec (.driveReset n) s = .next (finish (startRecovery n .driveReset (good s))))
      ∧ (x.state ∈ [SlotState.identifying, .unmatched, .ready, .calibrating, .burning] → 4 ≤ x.recovery.episodes →
          ∃ u, exec (.driveReset n) s = .next (finish u)
            ∧ (x.grading.reason = none → (u.slot n).grading.reason = some .recoveryLimit ∧ (u.slot n).state = .grading)
            ∧ (x.grading.reason = none → x.power.spindle = .spinningUp →
                (u.slot n).listed .spinDown = true ∨ (u.slot n).spinDownInFlight = true)
            ∧ ∃ more, u.port.responses = s.port.responses ++ inFlightAnswers n x .driveReset ++ more)
      ∧ (x.state = .grading ∨ x.state = .sortWait ∨ x.state = .parking →
          ∃ u, exec (.driveReset n) s = .next (finish u)
            ∧ KeepsBut [.slot n, .responses, .admission, .passDue, .sent, .transit, .partSet, .noticeQueue] s u
            ∧ u.port.responses = s.port.responses ++ inFlightAnswers n x .driveReset
            ∧ (u.slot n).state = x.state
            ∧ (∀ k : Fin 4, ∀ e, (u.slot n).traffic.inFlight[k] = some e → e.origin = .part)
            ∧ (u.slot n).tallies.goodRun = (if x.tallies.goodRun < 63 then x.tallies.goodRun + 1 else 0)
            ∧ (u.slot n).tallies.badFrames = (if x.tallies.goodRun < 63 then x.tallies.badFrames else 0)
            ∧ (let y := u.slot n
               let flew (p : InFlight → Prop) : Prop := ∃ k : Fin 4, ∃ e, x.traffic.inFlight[k] = some e ∧ p e
               let final := flew fun e => e.cls = .identify ∧ e.final = true
               let parks := x.state = .parking ∧ flew fun e => e.cls = .spinDown
               y.identity.model = x.identity.model
                 ∧ ((flew fun e => e.cls = .identify) →
                     ∀ r, x.identity.record = some r → y.identity.record = some { r with lastOutcome := .noResponse })
                 ∧ ((¬flew fun e => e.cls = .identify) → y.identity.record = x.identity.record)
                 ∧ (final →
                     y.grading.finalIdentify = .ended ∧ y.identity.flags = { x.identity.flags with finalIdMissing := true })
                 ∧ (¬final → y.identity.flags = x.identity.flags)
                 ∧ (parks →
                     y.lines.powered = false ∧ y.lines.park = none ∧ y.power.spindle = .stopped ∧ y.power.chosen = none
                       ∧ y.power.allocation = 0 ∧ y.lines.rundown = .running (s.now + rundownMs s x))
                 ∧ (¬parks →
                     y.lines.powered = true ∧ y.lines.park = x.lines.park ∧ y.lines.rundown = x.lines.rundown
                       ∧ (x.traffic.injections = [] → y.power.spindle = x.power.spindle ∧ y.power.chosen = x.power.chosen)
                       ∧ ((flew fun e => e.cls = .spinUp ∧ e.granted = true) → x.power.spindle = .spinningUp →
                           y.listed .spinDown = true ∨ y.spinDownInFlight = true))
                 ∧ (x.state = .grading → x.grading.handedOver = false →
                     (x.traffic.injections = [] → x.power.spindle ≠ .spinningUp →
                         x.grading.reason ≠ none ∨ x.grading.finalIdentify = .ended ∨ final →
                         u.transit = { s.transit with handOvers := s.transit.handOvers ++ [n] } ∧ y.grading.handedOver = true)
                       ∧ (x.grading.reason = none → x.grading.finalIdentify = .notDue → ¬final →
                           u.transit = s.transit ∧ y.grading.handedOver = false ∧ y.grading.finalIdentify = .due
                             ∧ (y.listed .identify = true
                               ∨ ∃ k : Fin 4, ∃ e, y.traffic.inFlight[k] = some e ∧ e.cls = .identify ∧ e.final = true)))))

/-- CLASS_TIMEOUT_EXPIRY (R37): the entry is retired and its server answered TIMEOUT; in a state that allows one a
recovery TIMEOUT starts. For a LIGHT or HEAVY of a server: in GRADING, SORT_WAIT and PARKING no recovery starts,
nothing else is answered and the state stays; with nothing listed, only the entry goes, but in GRADING the last server
command's, nothing recorded, makes the final IDENTIFY due (R135), sent at once where it can be (in the lowest free
entry: DESIGN CHOICE, log entry 10). In GRADING the hand-over is not sent while another command is in flight or the
final IDENTIFY falls due (R136). The class timeout of a server's IDENTIFY, SPIN_UP or SPIN_DOWN (R37, R38, R60): the
server is answered TIMEOUT; where allowed a recovery TIMEOUT starts; in GRADING, SORT_WAIT and PARKING none does and
nothing else is answered. An IDENTIFY leaves the record's last outcome NO_RESPONSE; a SPIN_DOWN in PARKING ends the
spin-down (of a server's command: the model's choice, log entry 41); a granted SPIN_UP that leaves the spindle
SPINNING_UP is orphaned, as below. The part's own commands retired by a timeout (R7, R37, R38, R60): no SLOT_RESP
answers them. An IDENTIFY in IDENTIFYING: with the retry mark clear the mark is set and a recovery TIMEOUT starts,
with it set NO_IDENTITY is taken. A final IDENTIFY: FINAL_ID_MISSING, and the record's last outcome is NO_RESPONSE. A
SPIN_DOWN or SPIN_UP in a state that allows a recovery starts one; in GRADING, SORT_WAIT and PARKING none starts, and
a granted SPIN_UP that left the spindle SPINNING_UP is orphaned: the spindle stays, and a SPIN_DOWN is listed or in
flight, an ungranted SPIN_UP in flight or not (log entry 40). In PARKING a SPIN_DOWN ends the spin-down: power OFF,
the rundown running. The timeout of the last command in flight in GRADING, nothing listed (R37, R60, R136): for a
LIGHT, a HEAVY or an IDENTIFY, the hand-over is sent where a reason is recorded or the final identify has ended, with
this IDENTIFY or before. -/
def Obligations.ClassTimeoutExpiry : Prop :=
  (∀ (n : SlotId) (k : Fin 4) (s : State) (e : InFlight) (dest : Byte),
     (s.slot n).traffic.inFlight[k] = some e → e.source = some dest → e.cls = .light ∨ e.cls = .heavy →
       let x := s.slot n
       ∃ u more, exec (.classTimeoutExpiry n k) s = .next (finish u)
         ∧ u.now = max s.now (e.start + e.timeout)
         ∧ u.port.responses
             = s.port.responses ++ .partMade dest (slotByte n) (BitVec.ofNat 8 e.tag) .timeout :: more
         ∧ (x.state ∈ [SlotState.identifying, .unmatched, .ready, .calibrating, .burning] → x.recovery.episodes < 4 →
             (u.slot n).state = .recovering ∧ (u.slot n).recovery.lastReason = some .timeout
               ∧ (u.slot n).recovery.resume = some x.state
               ∧ (u.slot n).traffic.inFlight = Vector.replicate 4 none)
         ∧ (x.state = .grading ∨ x.state = .sortWait ∨ x.state = .parking → more = [] ∧ (u.slot n).state = x.state)
         ∧ (x.state = .sortWait ∨ x.state = .parking → x.traffic.injections = [] →
             (u.slot n).traffic.inFlight = x.traffic.inFlight.set k none)
         ∧ (x.state = .grading →
             let y := u.slot n
             let others (p : InFlight → Prop) : Prop := ∃ j : Fin 4, j ≠ k ∧ ∃ f, x.traffic.inFlight[j] = some f ∧ p f
             let due := x.grading.handedOver = false ∧ x.grading.reason = none ∧ x.grading.finalIdentify = .notDue
               ∧ ¬others fun f => f.origin = .server
             (¬due →
                 y.grading.finalIdentify = x.grading.finalIdentify
                   ∧ (x.traffic.injections = [] → y.traffic.inFlight = x.traffic.inFlight.set k none))
               ∧ ((others fun _ => True) ∨ due →
                   u.transit = s.transit ∧ y.grading.handedOver = x.grading.handedOver)
               ∧ (due →
                   y.grading.finalIdentify = .due
                     ∧ (y.listed .identify = true
                       ∨ ∃ j : Fin 4, ∃ f, y.traffic.inFlight[j] = some f ∧ f.cls = .identify ∧ f.final = true)
                     ∧ (x.lines.powered = true → x.traffic.injections = [] → x.traffic.reserved = none →
                         (¬others fun _ => True) →
                         y.traffic.inFlight[(0 : Fin 4)]
                             = some
                                 ⟨31, .identify, .part, false, u.now, s.store.settings.identifyTimeout * 1000, none, true⟩
                           ∧ ∀ j : Fin 4, j ≠ 0 → y.traffic.inFlight[j] = none))))
    ∧ (∀ (n : SlotId) (k : Fin 4) (s : State) (e : InFlight) (dest : Byte),
         (s.slot n).traffic.inFlight[k] = some e → e.source = some dest →
           e.cls = .identify ∨ e.cls = .spinUp ∨ e.cls = .spinDown →
           let x := s.slot n
           let now := max s.now (e.start + e.timeout)
           ∃ u more, exec (.classTimeoutExpiry n k) s = .next (finish u) ∧ u.now = now
             ∧ u.port.responses
                 = s.port.responses ++ .partMade dest (slotByte n) (BitVec.ofNat 8 e.tag) .timeout :: more
             ∧ (x.state ∈ [SlotState.identifying, .unmatched, .ready, .calibrating, .burning] → x.recovery.episodes < 4 →
                 ¬(x.state = .identifying ∧ e.cls = .identify) →
                 (u.slot n).state = .recovering ∧ (u.slot n).recovery.lastReason = some .timeout
                   ∧ (u.slot n).recovery.resume = some x.state
                   ∧ (u.slot n).traffic.inFlight = Vector.replicate 4 none)
             ∧ (x.state = .grading ∨ x.state = .sortWait ∨ x.state = .parking → more = [] ∧ (u.slot n).state = x.state)
             ∧ (e.cls = .identify → x.state ≠ .identifying → ∀ r, x.identity.record = some r →
                 (u.slot n).identity.record = some { r with lastOutcome := .noResponse })
             ∧ (x.state = .grading ∨ x.state = .sortWait ∨ x.state = .parking → e.cls = .spinUp → e.granted = true →
                 x.power.spindle = .spinningUp →
                 (∀ j : Fin 4, j ≠ k → ∀ f, x.traffic.inFlight[j] = some f → f.cls = .spinUp → f.granted = false) →
                 ((u.slot n).listed .spinDown = true ∨ (u.slot n).spinDownInFlight = true)
                   ∧ (x.traffic.injections = [] →
                       (u.slot n).power.spindle = .spinningUp ∧ (u.slot n).power.chosen = x.power.chosen))
             ∧ (x.state = .parking → x.lines.powered = true → e.cls = .spinDown →
                 (u.slot n).lines.powered = false ∧ (u.slot n).lines.park = none ∧ (u.slot n).power.spindle = .stopped
                   ∧ (u.slot n).power.allocation = 0 ∧ (u.slot n).lines.rundown = .running (now + rundownMs s x)))
    ∧ (∀ (n : SlotId) (k : Fin 4) (s : State) (e : InFlight),
         (s.slot n).traffic.inFlight[k] = some e → e.source = none →
           let x := s.slot n
           let now := max s.now (e.start + e.timeout)
           let allows := x.state ∈ [SlotState.identifying, .unmatched, .ready, .calibrating, .burning]
           let first := x.state = .identifying ∧ e.cls = .identify
           ∃ u, exec (.classTimeoutExpiry n k) s = .next (finish u) ∧ u.now = now
             ∧ (allows → x.recovery.episodes < 4 → ¬(first ∧ x.identity.retryMark = true) →
                 (u.slot n).state = .recovering ∧ (u.slot n).recovery.lastReason = some .timeout
                   ∧ (u.slot n).recovery.resume = some x.state
                   ∧ (first → (u.slot n).identity.retryMark = true))
             ∧ (first → x.identity.retryMark = true → x.grading.reason = none →
                 (u.slot n).grading.reason = some .noIdentity ∧ (u.slot n).state = .grading)
             ∧ (x.state = .grading ∨ x.state = .sortWait ∨ x.state = .parking →
                 u.port.responses = s.port.responses ∧ (u.slot n).state = x.state)
             ∧ (x.state = .grading → e.cls = .identify → e.final = true →
                 (u.slot n).grading.finalIdentify = .ended ∧ (u.slot n).identity.flags.finalIdMissing = true
                   ∧ ∀ r, x.identity.record = some r →
                       (u.slot n).identity.record = some { r with lastOutcome := .noResponse })
             ∧ (x.state = .grading ∨ x.state = .sortWait ∨ x.state = .parking → e.cls = .spinUp → e.granted = true →
                 x.power.spindle = .spinningUp →
                 (∀ j : Fin 4, j ≠ k → ∀ f, x.traffic.inFlight[j] = some f → f.cls = .spinUp → f.granted = false) →
                 ((u.slot n).listed .spinDown = true ∨ (u.slot n).spinDownInFlight = true)
                   ∧ (x.traffic.injections = [] →
                       (u.slot n).power.spindle = .spinningUp ∧ (u.slot n).power.chosen = x.power.chosen))
             ∧ (x.state = .parking → x.lines.powered = true → e.cls = .spinDown →
                 (u.slot n).lines.powered = false ∧ (u.slot n).lines.park = none ∧ (u.slot n).power.spindle = .stopped
                   ∧ (u.slot n).power.allocation = 0 ∧ (u.slot n).lines.rundown = .running (now + rundownMs s x)))
    ∧ (∀ (n : SlotId) (k : Fin 4) (s : State) (e : InFlight),
         (s.slot n).traffic.inFlight[k] = some e → (s.slot n).state = .grading → (s.slot n).grading.handedOver = false →
           (s.slot n).traffic.injections = [] → (∀ j : Fin 4, j ≠ k → (s.slot n).traffic.inFlight[j] = none) →
           (s.slot n).power.spindle ≠ .spinningUp → e.cls = .light ∨ e.cls = .heavy ∨ e.cls = .identify →
           (s.slot n).grading.reason ≠ none ∨ (s.slot n).grading.finalIdentify = .ended ∨ e.cls = .identify ∧ e.final = true →
           ∃ u, exec (.classTimeoutExpiry n k) s = .next (finish u)
             ∧ u.transit = { s.transit with handOvers := s.transit.handOvers ++ [n] } ∧ (u.slot n).grading.handedOver = true)

/-- First identification (R7, R47, R50 to R55, R67): in IDENTIFYING a GOOD answer to the part's IDENTIFY with a valid
block records it. The first valid entry that matches its model binds the slot and raises IDENTIFIED; the slot is
GRADING with POWER_MISMATCH exactly where every effective peak is above the target (log entry 16), else READY; the
allocation becomes the lesser of itself and the standby current, 0 counting as 1. Without a match UNMATCHED is raised
and entered, the allocation kept. A later IDENTIFY, GOOD with a valid block, for a slot with a record, outside
IDENTIFYING and RECOVERING (R56, R57, R60). Another serial: only its last outcome changes, to ACK, and
IDENTITY_CHANGED is taken in GRADING, else sent (as every finding: DEDUCED, log entry 9). The same serial: the new
record stands, and flags and peaks are computed against the entry bound; then (this order: DEDUCED, log entry 17), in
READY only, a rebinding follows where the firmware differs and the slot is stopped with no HEAVY or SPIN_UP in flight;
elsewhere the binding stays; during a granted spin-up the peaks held stay and those computed are pending (R53; a held
grant counts as one, DEDUCED, log entry 12), and take effect at the answer to the granted SPIN_UP, whatever its
status, or to the SPIN_DOWN that ends an orphan. A rebinding (R59) sets the allocation to the standby current, or with
no match to the settle reserve, the slot then UNMATCHED; one that does not fit leaves binding, flags and peaks, and
POWER_MISMATCH is taken. Else it follows exactly where every peak against an entry bound, before or after, is above
the target (R54). A final IDENTIFY ends the final identify. An answer not GOOD, or with no valid block, changes only
the last outcome, to ERROR, and sets FINAL_ID_MISSING where final. Patterns, flags, peaks (R50, R52, R53): one ending
in '*' matches models beginning with the rest, another those equal up to trailing spaces; flags by row; each profile's
peak, raised to the declared current. -/
def Obligations.FirstIdentify : Prop :=
  (∀ (n : SlotId) (tag : Byte) (code : BitVec 16) (payload : Bytes) (sensor : SensorReading) (s : State) (k : Fin 4)
     (e : InFlight) (r : IdentityRecord),
     (s.slot n).lines.powered = true → (s.slot n).state = .identifying → (s.slot n).grading.reason = none →
       (s.slot n).entryWithTag tag.toNat = some k → (s.slot n).traffic.inFlight[k] = some e → e.cls = .identify →
       e.source = none → parseIdentity payload = some r →
       let x := s.slot n
       let quiet := x.power.spindle = .stopped ∧ x.power.held = none ∧ x.traffic.injections = []
       ∃ u, exec (.driveResponse n tag .good code payload sensor) s = .next (finish u)
         ∧ (u.slot n).identity.record = some r
         ∧ (u.slot n).power.allocation ≤ x.power.allocation
         ∧ (matchSearch s.tables.models r.model = none →
             (∀ i : Fin 16, s.tables.models[i].valid = true → patternMatches s.tables.models[i].pattern r.model = false)
               ∧ (u.slot n).state = .unmatched ∧ (u.slot n).events.getLsbD 4 = true ∧ u.tables.models = s.tables.models
               ∧ (u.slot n).identity.model = x.identity.model
               ∧ (x.identity.model = none → (u.slot n).identity.flags = identityFlags r none x.identity.flags)
               ∧ (quiet → (u.slot n).power.allocation = x.power.allocation))
         ∧ ∀ i, matchSearch s.tables.models r.model = some i →
             let m := s.tables.models[i]
             let peaks := effectivePeaks r (some m)
             let mismatch := peaks ≠ [] ∧ ∀ p ∈ peaks, s.store.target < p
             m.valid = true ∧ patternMatches m.pattern r.model = true
               ∧ (∀ j, j < i → s.tables.models[j].valid = true → patternMatches s.tables.models[j].pattern r.model = false)
               ∧ (u.slot n).identity.model = some i
               ∧ u.tables.models[i].refCount = m.refCount + 1
               ∧ (u.slot n).events.getLsbD 3 = true
               ∧ (u.slot n).identity.flags = identityFlags r (some m) x.identity.flags
               ∧ (mismatch → (u.slot n).state = .grading ∧ (u.slot n).grading.reason = some .powerMismatch)
               ∧ (¬mismatch → (u.slot n).state = .ready ∧ (u.slot n).grading.reason = none)
               ∧ (quiet → (u.slot n).identity.peaks = peaks
                   ∧ (u.slot n).power.allocation = min (max 1 m.standby) x.power.allocation))
    ∧ (∀ (n : SlotId) (tag : Byte) (status : StatusClass) (code : BitVec 16) (payload : Bytes) (sensor : SensorReading)
         (s : State) (k : Fin 4) (e : InFlight) (old : IdentityRecord),
         (s.slot n).lines.powered = true → (s.slot n).state ≠ .identifying → (s.slot n).state ≠ .recovering →
           (s.slot n).entryWithTag tag.toNat = some k → (s.slot n).traffic.inFlight[k] = some e → e.cls = .identify →
           (s.slot n).identity.record = some old →
           let x := s.slot n
           let quiet := x.power.spindle ≠ .spinningUp ∧ x.power.held = none ∧ x.traffic.injections = []
           let missing := x.identity.flags.finalIdMissing
           let mismatch (new : IdentityRecord) (m : ModelEntry) : Prop :=
             effectivePeaks new (some m) ≠ [] ∧ ∀ p ∈ effectivePeaks new (some m), s.store.target < p
           ∃ u, exec (.driveResponse n tag status code payload sensor) s = .next (finish u)
             ∧ (let sentWhere (fails : Prop) : Prop :=
                  (fails → (n, .powerMismatch) ∈ u.transit.quarantines)
                    ∧ (¬fails → ((n, .powerMismatch) ∈ u.transit.quarantines ↔ (n, .powerMismatch) ∈ s.transit.quarantines))
                let mismatchBefore (new : IdentityRecord) : Prop := ∃ m, modelOf s x = some m ∧ mismatch new m
                let unbound (new : IdentityRecord) : Prop :=
                  (u.slot n).identity.model = x.identity.model ∧ u.tables.models = s.tables.models
                    ∧ (u.slot n).identity.flags = identityFlags new (modelOf s x) x.identity.flags
                    ∧ (x.power.held = none → x.traffic.injections = [] →
                        (u.slot n).identity.peaks = effectivePeaks new (modelOf s x))
                    ∧ sentWhere (mismatchBefore new)
                    ∧ (x.power.held = none → x.traffic.injections = [] →
                        (u.slot n).power.allocation = x.power.allocation)
                    ∧ (x.grading.reason = none → (u.slot n).state = .grading ∧ (u.slot n).grading.reason = some .powerMismatch)
                (x.state = .grading → e.final = true → (u.slot n).grading.finalIdentify = .ended)
                ∧ (∀ new, status = .good → parseIdentity payload = some new →
                    (new.serial ≠ old.serial →
                        (u.slot n).identity.record = some { old with lastOutcome := .ack }
                          ∧ (u.slot n).identity.model = x.identity.model ∧ (u.slot n).identity.flags = x.identity.flags
                          ∧ (x.state ≠ .grading → (n, .identityChanged) ∈ u.transit.quarantines)
                          ∧ (x.state = .grading → (u.slot n).grading.reason = some (x.grading.reason.getD .identityChanged)))
                      ∧ (new.serial = old.serial →
                          (u.slot n).identity.record = some new
                            ∧ (x.state ≠ .ready ∨ new.firmware = old.firmware ∨ x.power.spindle ≠ .stopped
                                  ∨ x.heavyInFlight = true ∨ x.spinUpInFlight = true →
                                (u.slot n).identity.model = x.identity.model
                                  ∧ (u.slot n).identity.flags = identityFlags new (modelOf s x) x.identity.flags
                                  ∧ (quiet → (u.slot n).identity.peaks = effectivePeaks new (modelOf s x))
                                  ∧ (x.power.spindle = .spinningUp ∨ x.power.held ≠ none →
                                      (u.slot n).identity.peaks = x.identity.peaks
                                        ∧ (u.slot n).identity.pendingPeaks = some (effectivePeaks new (modelOf s x)))
                                  ∧ ∀ m, modelOf s x = some m →
                                      (mismatch new m →
                                          (x.state ≠ .grading → (n, .powerMismatch) ∈ u.transit.quarantines)
                                            ∧ (x.state = .grading →
                                                (u.slot n).grading.reason = some (x.grading.reason.getD .powerMismatch)))
                                        ∧ (¬mismatch new m →
                                            ((n, .powerMismatch) ∈ u.transit.quarantines ↔ (n, .powerMismatch) ∈ s.transit.quarantines)
                                              ∧ (u.slot n).grading.reason = x.grading.reason))
                            ∧ (x.state = .ready → new.firmware ≠ old.firmware → x.power.spindle = .stopped →
                                x.heavyInFlight = false → x.spinUpInFlight = false →
                                (∀ i, matchSearch s.tables.models new.model = some i →
                                    let m := s.tables.models[i]
                                    (x.identity.model = some i ∨ fits s n (max 1 m.standby) = true →
                                        (u.slot n).identity.model = some i ∧ (u.slot n).events.getLsbD 3 = true
                                          ∧ (u.slot n).state = .ready
                                          ∧ (u.slot n).identity.flags = identityFlags new (some m) x.identity.flags
                                          ∧ sentWhere (mismatchBefore new ∨ mismatch new m)
                                          ∧ (x.identity.model ≠ some i → x.traffic.injections = [] →
                                              (u.slot n).power.allocation = max 1 m.standby
                                                ∧ u.tables.models[i].refCount = m.refCount + 1
                                                ∧ ∀ j, x.identity.model = some j →
                                                    u.tables.models[j].refCount = s.tables.models[j].refCount - 1)
                                          ∧ (x.power.held = none → x.traffic.injections = [] →
                                              (u.slot n).identity.peaks = effectivePeaks new (some m))
                                          ∧ (x.identity.model = some i → x.traffic.injections = [] →
                                              (u.slot n).power.allocation = x.power.allocation
                                                ∧ u.tables.models[i].refCount = m.refCount))
                                      ∧ (x.identity.model ≠ some i → fits s n (max 1 m.standby) = false → unbound new))
                                  ∧ (matchSearch s.tables.models new.model = none →
                                      (fits s n s.store.settings.settleReserve = true →
                                          (u.slot n).state = .unmatched ∧ (u.slot n).identity.model = none
                                            ∧ (u.slot n).events.getLsbD 4 = true
                                            ∧ (u.slot n).identity.flags = identityFlags new none x.identity.flags
                                            ∧ sentWhere (mismatchBefore new)
                                            ∧ (x.traffic.injections = [] →
                                                (u.slot n).power.allocation = s.store.settings.settleReserve)
                                            ∧ (∀ i, x.identity.model = some i →
                                                u.tables.models[i].refCount = s.tables.models[i].refCount - 1)
                                            ∧ (x.power.held = none → x.traffic.injections = [] →
                                                (u.slot n).identity.peaks = [])
                                            ∧ ∀ c ∈ (u.slot n).traffic.queue, c.cls = .light ∨ c.cls = .identify)
                                        ∧ (fits s n s.store.settings.settleReserve = false → unbound new))))
                      ∧ (u.slot n).identity.flags.finalIdMissing = missing)
                ∧ (status ≠ .good ∨ parseIdentity payload = none →
                    (u.slot n).identity.record = some { old with lastOutcome := .error }
                      ∧ (u.slot n).identity.model = x.identity.model
                      ∧ (u.slot n).identity.flags = { x.identity.flags with finalIdMissing := missing || e.final })))
    ∧ (∀ (n : SlotId) (tag : Byte) (status : StatusClass) (code : BitVec 16) (payload : Bytes) (sensor : SensorReading)
         (s : State) (k : Fin 4) (e : InFlight) (ps : List Nat),
         (s.slot n).lines.powered = true → (s.slot n).state ≠ .recovering →
           (s.slot n).entryWithTag tag.toNat = some k → (s.slot n).traffic.inFlight[k] = some e →
           e.cls = .spinUp ∧ e.granted = true ∨ e.cls = .spinDown ∧ (s.slot n).spinUpInFlight = false →
           (s.slot n).power.spindle = .spinningUp → (s.slot n).identity.pendingPeaks = some ps →
           ∃ u, exec (.driveResponse n tag status code payload sensor) s = .next (finish u)
             ∧ (u.slot n).identity = { (s.slot n).identity with peaks := ps, pendingPeaks := none })
    ∧ (∀ (n : SlotId) (s : State) (r : IdentityRecord), (s.slot n).identity.record = some r →
         let x := s.slot n
         let computed := effectivePeaks r (modelOf s x)
         let flags := identityFlags r (modelOf s x) x.identity.flags
         KeepsBut [.slot n] s (computeIdentity n s)
           ∧ (x.power.spindle = .spinningUp ∨ x.power.held ≠ none →
               (computeIdentity n s).slot n = { x with identity := { x.identity with flags := flags, pendingPeaks := some computed } })
           ∧ (x.power.spindle ≠ .spinningUp → x.power.held = none →
               (computeIdentity n s).slot n
                 = { x with identity := { x.identity with flags := flags, peaks := computed, pendingPeaks := none } }))
    ∧ ((∀ (text model : Bytes) (spaces : Nat), text.getLast? ≠ some 0x20 →
          let pattern := text ++ List.replicate spaces 0x20
          (∀ start, text = start ++ [0x2A] → (patternMatches pattern model = true ↔ start <+: model))
            ∧ (text.getLast? ≠ some 0x2A →
                (patternMatches pattern model = true ↔ ∃ k, model = text ++ List.replicate k 0x20)))
         ∧ ∀ (r : IdentityRecord) (m : ModelEntry) (old : IdentityFlags),
             let blocked := r.security.enabled || r.security.locked || r.security.expired
             let accepted := m.firmwarePlaces.take m.firmwareCount
             let profiles := m.profilePlaces.take m.profileCount
             let flags := identityFlags r (some m) old
             identityFlags r none old = ⟨false, false, false, blocked, old.finalIdMissing⟩
               ∧ (flags.fwMismatch = true ↔ accepted ≠ [] ∧ r.firmware ∉ accepted)
               ∧ (flags.capLow = true ↔ ∃ c, m.minCapacity = some c ∧ r.capacity < c)
               ∧ (flags.declHigh = true ↔ ∃ declared, r.power = some declared ∧ ∃ p ∈ profiles, p.peak < declared)
               ∧ flags.secBlock = blocked ∧ flags.finalIdMissing = old.finalIdMissing
               ∧ effectivePeaks r none = []
               ∧ (r.power = none → effectivePeaks r (some m) = profiles.map (·.peak))
               ∧ ∀ declared, r.power = some declared → effectivePeaks r (some m) = profiles.map fun p => max p.peak declared)

/-! ### Events, notices and the machine's invariants -/

/-- Raising an event (R175, R176, R177, R178). Its kind joins the pending set; while the unmasked set was not empty,
or the kind is masked, no notice moves; else the notice joins the tail of the queue, or is LOST at 32 notices, and
NOTICE_LOST joins the part set. -/
def Obligations.EventRaised : Prop :=
  (∀ (n : SlotId) (e : SlotEvent) (s : State),
    let t := raiseSlot n e s
    KeepsBut [.slot n, .partSet, .noticeQueue] s t
      ∧ SlotKeepsBut [.events, .notice] (s.slot n) (t.slot n)
      ∧ (t.slot n).events = (s.slot n).events ||| e.set
      ∧ (unmaskedSlot s n ≠ 0 ∨ unmaskedSlot t n = 0 →
          t.notices = s.notices ∧ (t.slot n).notice = (s.slot n).notice)
      ∧ (unmaskedSlot s n = 0 → unmaskedSlot t n ≠ 0 →
          (s.notices.queue.length < 32 →
              t.notices = { s.notices with queue := s.notices.queue ++ [.slot n] } ∧ (t.slot n).notice = .queued)
            ∧ (32 ≤ s.notices.queue.length →
                (t.slot n).notice = .lost ∧ t.notices.queue = s.notices.queue ∧ t.notices.part.getLsbD 5 = true)))
    ∧ (∀ (e : PartEvent) (s : State),
      let t := raisePart e s
      KeepsBut [.partSet, .noticeQueue] s t
        ∧ (unmaskedPart s ≠ 0 ∨ unmaskedPart { s with notices.part := s.notices.part ||| e.set } = 0 →
            t.notices = { s.notices with part := s.notices.part ||| e.set })
        ∧ (unmaskedPart s = 0 → unmaskedPart { s with notices.part := s.notices.part ||| e.set } ≠ 0 →
            (s.notices.queue.length < 32 →
                t.notices
                  = { s.notices with
                      part := s.notices.part ||| e.set, queue := s.notices.queue ++ [.part], partState := .queued })
              ∧ (32 ≤ s.notices.queue.length →
                  t.notices
                    = { s.notices with
                        part := s.notices.part ||| e.set ||| PartEvent.noticeLost.set, partState := .lost })))
    ∧ (∀ s : State,
      let t := raiseSupplyWarn s
      let others := s.notices.queue.filter (· ≠ .part)
      (s.store.settings.eventMask.part.getLsbD 1 = true → t = raisePart .supplyWarn s)
        ∧ (s.store.settings.eventMask.part.getLsbD 1 = false →
            t.notices.partState = .queued ∧ t.notices.part.getLsbD 1 = true
              ∧ (others.length < 32 → t.notices.queue = .part :: others ∧ ∀ n, t.slot n = s.slot n)
              ∧ (∀ n rest, others = .slot n :: rest → 32 ≤ others.length →
                  t.notices.queue = .part :: rest ∧ (t.slot n).notice = .lost
                    ∧ t.notices.part.getLsbD 5 = true)))

/-- Every step keeps the limits of the request queue (R156) and of the slot command queues (R26), the relations of
the notices: at most 32 queued, none twice, a source queued exactly when its notice state says so, and QUIET exactly
when its unmasked pending set is empty (R177, R178), and the admission queue at no more than one entry for each slot
(R71). -/
def Obligations.QueuesAndNoticesKept : Prop :=
  ∀ s t : State, step s = .next t →
    (s.queuesWithin → t.queuesWithin) ∧ (s.noticesAgree → t.noticesAgree) ∧ (s.admissionAgrees → t.admissionAgrees)

/-- Every step keeps the relations of a slot's commands, of every slot for itself. In flight at most one is the part's
own, with tag 31, and no two have the same tag; a server's has a tag of 0..27 and the station that sent it (R27). In
the queue no two have the same tag and none has that of a command in flight (R25, R26). The entry reserved for the
queue head is free (R28, R30). -/
def Obligations.CommandsKept : Prop :=
  ∀ (s t : State), step s = .next t → ∀ n, (s.slot n).commandsAgree → (t.slot n).commandsAgree

/-- Every step keeps the relations of the slots' lives. The latch is OPEN only with slot power OFF and the rundown
expired (R13), in EMPTY and SORTED; the rundown timer runs only with slot power OFF (R5, R13); slot power is OFF in
EMPTY, SETTLING, POWER_WAIT and SORTED (R5, R6); RECOVERING keeps a resume state that allows a recovery (R12); a
quarantine reason is recorded only from GRADING on (R15, R16); a SLOT_POWER entry belongs to a slot in POWER_WAIT
(R5, R71), and the sort-wait list holds slots in SORT_WAIT (R146). -/
def Obligations.LivesKept : Prop :=
  ∀ s t : State, s.livesAgree → step s = .next t → t.livesAgree

/-- Every step keeps the bindings: the reference count of a model entry is the number of slots bound to it (R51), and
a slot that is not yet identified, that is UNMATCHED, or that recovers from IDENTIFYING or UNMATCHED is bound to none.
The relations of the slots' lives are a premise, since a binding is made on leaving IDENTIFYING or UNMATCHED. -/
def Obligations.BindingsKept : Prop :=
  ∀ s t : State, s.livesAgree → s.bindingsAgree → step s = .next t → t.bindingsAgree

/-- Every step keeps the relations of the Sort Unit: at most 64 manifest entries, in rising sequence order and below
the next number, no serial twice, no bin above its capacity, kind REJECT at position 7 (R139, R142, R144, R145, R151,
R153). -/
def Obligations.SortUnitKept : Prop :=
  ∀ s t : State, s.sortAgrees → step s = .next t → t.sortAgrees

/-- Every step keeps the Configuration Store within its ranges: settings and target (R161, R162, 11.2), the checks of
every table (R61, R131, R151), the stored image of any content included (R191), and the standby current of every
valid model entry at or below the settle reserve (R62). -/
def Obligations.StoreKept : Prop :=
  ∀ s t : State, s.storable → step s = .next t → t.storable ∧ t.standbyWithinReserve

/-- The sum of the allocations stays at or below the budget target (R63, R65, R67) through every command but
SET-BUDGET, which may lower the target below it. -/
def Obligations.BudgetKept : Prop :=
  ∀ s t : State, s.withinBudget → (∀ rest, s.pending ≠ .setBudget :: rest) → step s = .next t → t.withinBudget

/-- The state after reset has every invariant that the statements name, and a step from it runs. -/
def Obligations.ResetHasInvariants : Prop :=
  State.reset.queuesWithin ∧ State.reset.noticesAgree ∧ State.reset.sortAgrees ∧ State.reset.storable
    ∧ State.reset.withinBudget ∧ State.reset.admissionAgrees ∧ (∀ n, (State.reset.slot n).commandsAgree)
    ∧ State.reset.livesAgree ∧ State.reset.bindingsAgree ∧ State.reset.pending = [] ∧ Runs State.reset

end
end

