-- ==== Sys2Proof/Laws/State.lean ====
section
/-! SUPPORT. What each update leaves of the state, field by field, and reading a slot after writing one. -/

namespace Sys2Proof.Machine

/-! ### Slots -/

@[simp] theorem slot_setSlot_same (s : State) (n : SlotId) (x : Slot) : (s.setSlot n x).slot n = x := by
  simp [State.slot, State.setSlot]

theorem slot_setSlot_other (s : State) {m n : SlotId} (x : Slot) (h : m ≠ n) :
    (s.setSlot n x).slot m = s.slot m := by
  have h' : n.val ≠ m.val := fun e => h (Fin.ext e.symm)
  simp [State.slot, State.setSlot, Vector.getElem_set_ne, h']

theorem slot_setSlot (s : State) (m n : SlotId) (x : Slot) :
    (s.setSlot n x).slot m = if m = n then x else s.slot m := by
  split
  · next h => subst h; simp
  · next h => exact slot_setSlot_other s x h

@[simp] theorem setSlot_setSlot (s : State) (n : SlotId) (x y : Slot) : (s.setSlot n x).setSlot n y = s.setSlot n y := by
  simp [State.setSlot]

@[simp] theorem setSlot_slot (s : State) (n : SlotId) : s.setSlot n (s.slot n) = s := by
  simp [State.setSlot, State.slot]

@[simp] theorem slot_modSlot_same (s : State) (n : SlotId) (f : Slot → Slot) : (modSlot n f s).slot n = f (s.slot n) := by
  simp [modSlot]

theorem slot_modSlot_other (s : State) {m n : SlotId} (f : Slot → Slot) (h : m ≠ n) :
    (modSlot n f s).slot m = s.slot m := slot_setSlot_other s _ h

@[simp] theorem modSlot_modSlot (s : State) (n : SlotId) (f g : Slot → Slot) :
    modSlot n g (modSlot n f s) = modSlot n (g ∘ f) s := by
  simp [modSlot]

/-- The lamps of a slot depend on the tables, the Sort Unit's bins and the slot alone (R19). -/
theorem lampsFor_congr {s t : State} (ht : t.tables = s.tables) (hs : t.sort = s.sort) (x : Slot) :
    lampsFor t x = lampsFor s x := by
  have h : conditionHolds t x = conditionHolds s x := by
    funext c; simp [conditionHolds, sortedKind, State.bin, hs]
  simp [lampsFor, h, ht]

/-! ### The fields that an update leaves -/

@[simp] theorem setSlot_pending (s : State) (n : SlotId) (x : Slot) : (s.setSlot n x).pending = s.pending := rfl
@[simp] theorem setSlot_now (s : State) (n : SlotId) (x : Slot) : (s.setSlot n x).now = s.now := rfl
@[simp] theorem setSlot_lampStart (s : State) (n : SlotId) (x : Slot) : (s.setSlot n x).lampStart = s.lampStart := rfl
@[simp] theorem setSlot_tickAt (s : State) (n : SlotId) (x : Slot) : (s.setSlot n x).tickAt = s.tickAt := rfl
@[simp] theorem setSlot_port (s : State) (n : SlotId) (x : Slot) : (s.setSlot n x).port = s.port := rfl
@[simp] theorem setSlot_tables (s : State) (n : SlotId) (x : Slot) : (s.setSlot n x).tables = s.tables := rfl
@[simp] theorem setSlot_power (s : State) (n : SlotId) (x : Slot) : (s.setSlot n x).power = s.power := rfl
@[simp] theorem setSlot_sort (s : State) (n : SlotId) (x : Slot) : (s.setSlot n x).sort = s.sort := rfl
@[simp] theorem setSlot_notices (s : State) (n : SlotId) (x : Slot) : (s.setSlot n x).notices = s.notices := rfl
@[simp] theorem setSlot_store (s : State) (n : SlotId) (x : Slot) : (s.setSlot n x).store = s.store := rfl
@[simp] theorem setSlot_transit (s : State) (n : SlotId) (x : Slot) : (s.setSlot n x).transit = s.transit := rfl
@[simp] theorem setSlot_sent (s : State) (n : SlotId) (x : Slot) : (s.setSlot n x).sent = s.sent := rfl

@[simp] theorem modSlot_pending (s : State) (n : SlotId) (f : Slot → Slot) : (modSlot n f s).pending = s.pending := rfl
@[simp] theorem modSlot_now (s : State) (n : SlotId) (f : Slot → Slot) : (modSlot n f s).now = s.now := rfl
@[simp] theorem modSlot_lampStart (s : State) (n : SlotId) (f : Slot → Slot) : (modSlot n f s).lampStart = s.lampStart := rfl
@[simp] theorem modSlot_tickAt (s : State) (n : SlotId) (f : Slot → Slot) : (modSlot n f s).tickAt = s.tickAt := rfl
@[simp] theorem modSlot_port (s : State) (n : SlotId) (f : Slot → Slot) : (modSlot n f s).port = s.port := rfl
@[simp] theorem modSlot_tables (s : State) (n : SlotId) (f : Slot → Slot) : (modSlot n f s).tables = s.tables := rfl
@[simp] theorem modSlot_power (s : State) (n : SlotId) (f : Slot → Slot) : (modSlot n f s).power = s.power := rfl
@[simp] theorem modSlot_sort (s : State) (n : SlotId) (f : Slot → Slot) : (modSlot n f s).sort = s.sort := rfl
@[simp] theorem modSlot_notices (s : State) (n : SlotId) (f : Slot → Slot) : (modSlot n f s).notices = s.notices := rfl
@[simp] theorem modSlot_store (s : State) (n : SlotId) (f : Slot → Slot) : (modSlot n f s).store = s.store := rfl
@[simp] theorem modSlot_transit (s : State) (n : SlotId) (f : Slot → Slot) : (modSlot n f s).transit = s.transit := rfl
@[simp] theorem modSlot_sent (s : State) (n : SlotId) (f : Slot → Slot) : (modSlot n f s).sent = s.sent := rfl

@[simp] theorem reach_pending (s : State) (k : Nat) : (reach k s).pending = s.pending := rfl
@[simp] theorem reach_lampStart (s : State) (k : Nat) : (reach k s).lampStart = s.lampStart := rfl
@[simp] theorem reach_tickAt (s : State) (k : Nat) : (reach k s).tickAt = s.tickAt := rfl
@[simp] theorem reach_port (s : State) (k : Nat) : (reach k s).port = s.port := rfl
@[simp] theorem reach_tables (s : State) (k : Nat) : (reach k s).tables = s.tables := rfl
@[simp] theorem reach_power (s : State) (k : Nat) : (reach k s).power = s.power := rfl
@[simp] theorem reach_sort (s : State) (k : Nat) : (reach k s).sort = s.sort := rfl
@[simp] theorem reach_notices (s : State) (k : Nat) : (reach k s).notices = s.notices := rfl
@[simp] theorem reach_store (s : State) (k : Nat) : (reach k s).store = s.store := rfl
@[simp] theorem reach_transit (s : State) (k : Nat) : (reach k s).transit = s.transit := rfl
@[simp] theorem reach_sent (s : State) (k : Nat) : (reach k s).sent = s.sent := rfl
@[simp] theorem reach_slot (s : State) (k : Nat) (m : SlotId) : (reach k s).slot m = s.slot m := rfl

@[simp] theorem pushReply_pending (s : State) (r : Reply) : (pushReply r s).pending = s.pending := rfl
@[simp] theorem pushReply_now (s : State) (r : Reply) : (pushReply r s).now = s.now := rfl
@[simp] theorem pushReply_lampStart (s : State) (r : Reply) : (pushReply r s).lampStart = s.lampStart := rfl
@[simp] theorem pushReply_tickAt (s : State) (r : Reply) : (pushReply r s).tickAt = s.tickAt := rfl
@[simp] theorem pushReply_tables (s : State) (r : Reply) : (pushReply r s).tables = s.tables := rfl
@[simp] theorem pushReply_power (s : State) (r : Reply) : (pushReply r s).power = s.power := rfl
@[simp] theorem pushReply_sort (s : State) (r : Reply) : (pushReply r s).sort = s.sort := rfl
@[simp] theorem pushReply_notices (s : State) (r : Reply) : (pushReply r s).notices = s.notices := rfl
@[simp] theorem pushReply_store (s : State) (r : Reply) : (pushReply r s).store = s.store := rfl
@[simp] theorem pushReply_transit (s : State) (r : Reply) : (pushReply r s).transit = s.transit := rfl
@[simp] theorem pushReply_sent (s : State) (r : Reply) : (pushReply r s).sent = s.sent := rfl
@[simp] theorem pushReply_slot (s : State) (r : Reply) (m : SlotId) : (pushReply r s).slot m = s.slot m := rfl

@[simp] theorem pushResponse_pending (s : State) (r : SlotResponse) : (pushResponse r s).pending = s.pending := rfl
@[simp] theorem pushResponse_now (s : State) (r : SlotResponse) : (pushResponse r s).now = s.now := rfl
@[simp] theorem pushResponse_lampStart (s : State) (r : SlotResponse) : (pushResponse r s).lampStart = s.lampStart := rfl
@[simp] theorem pushResponse_tickAt (s : State) (r : SlotResponse) : (pushResponse r s).tickAt = s.tickAt := rfl
@[simp] theorem pushResponse_tables (s : State) (r : SlotResponse) : (pushResponse r s).tables = s.tables := rfl
@[simp] theorem pushResponse_power (s : State) (r : SlotResponse) : (pushResponse r s).power = s.power := rfl
@[simp] theorem pushResponse_sort (s : State) (r : SlotResponse) : (pushResponse r s).sort = s.sort := rfl
@[simp] theorem pushResponse_notices (s : State) (r : SlotResponse) : (pushResponse r s).notices = s.notices := rfl
@[simp] theorem pushResponse_store (s : State) (r : SlotResponse) : (pushResponse r s).store = s.store := rfl
@[simp] theorem pushResponse_transit (s : State) (r : SlotResponse) : (pushResponse r s).transit = s.transit := rfl
@[simp] theorem pushResponse_sent (s : State) (r : SlotResponse) : (pushResponse r s).sent = s.sent := rfl
@[simp] theorem pushResponse_slot (s : State) (r : SlotResponse) (m : SlotId) : (pushResponse r s).slot m = s.slot m := rfl

@[simp] theorem answerPart_pending (s : State) (d : Byte) (n : SlotId) (k : Nat) (c : PartCode) : (answerPart d n k c s).pending = s.pending := rfl
@[simp] theorem answerPart_now (s : State) (d : Byte) (n : SlotId) (k : Nat) (c : PartCode) : (answerPart d n k c s).now = s.now := rfl
@[simp] theorem answerPart_lampStart (s : State) (d : Byte) (n : SlotId) (k : Nat) (c : PartCode) : (answerPart d n k c s).lampStart = s.lampStart := rfl
@[simp] theorem answerPart_tickAt (s : State) (d : Byte) (n : SlotId) (k : Nat) (c : PartCode) : (answerPart d n k c s).tickAt = s.tickAt := rfl
@[simp] theorem answerPart_tables (s : State) (d : Byte) (n : SlotId) (k : Nat) (c : PartCode) : (answerPart d n k c s).tables = s.tables := rfl
@[simp] theorem answerPart_power (s : State) (d : Byte) (n : SlotId) (k : Nat) (c : PartCode) : (answerPart d n k c s).power = s.power := rfl
@[simp] theorem answerPart_sort (s : State) (d : Byte) (n : SlotId) (k : Nat) (c : PartCode) : (answerPart d n k c s).sort = s.sort := rfl
@[simp] theorem answerPart_notices (s : State) (d : Byte) (n : SlotId) (k : Nat) (c : PartCode) : (answerPart d n k c s).notices = s.notices := rfl
@[simp] theorem answerPart_store (s : State) (d : Byte) (n : SlotId) (k : Nat) (c : PartCode) : (answerPart d n k c s).store = s.store := rfl
@[simp] theorem answerPart_transit (s : State) (d : Byte) (n : SlotId) (k : Nat) (c : PartCode) : (answerPart d n k c s).transit = s.transit := rfl
@[simp] theorem answerPart_sent (s : State) (d : Byte) (n : SlotId) (k : Nat) (c : PartCode) : (answerPart d n k c s).sent = s.sent := rfl
@[simp] theorem answerPart_slot (s : State) (d : Byte) (n : SlotId) (k : Nat) (c : PartCode) (m : SlotId) : (answerPart d n k c s).slot m = s.slot m := rfl

@[simp] theorem sendLink_pending (s : State) (n : SlotId) (f : LinkFrame) : (sendLink n f s).pending = s.pending := rfl
@[simp] theorem sendLink_now (s : State) (n : SlotId) (f : LinkFrame) : (sendLink n f s).now = s.now := rfl
@[simp] theorem sendLink_lampStart (s : State) (n : SlotId) (f : LinkFrame) : (sendLink n f s).lampStart = s.lampStart := rfl
@[simp] theorem sendLink_tickAt (s : State) (n : SlotId) (f : LinkFrame) : (sendLink n f s).tickAt = s.tickAt := rfl
@[simp] theorem sendLink_port (s : State) (n : SlotId) (f : LinkFrame) : (sendLink n f s).port = s.port := rfl
@[simp] theorem sendLink_tables (s : State) (n : SlotId) (f : LinkFrame) : (sendLink n f s).tables = s.tables := rfl
@[simp] theorem sendLink_power (s : State) (n : SlotId) (f : LinkFrame) : (sendLink n f s).power = s.power := rfl
@[simp] theorem sendLink_sort (s : State) (n : SlotId) (f : LinkFrame) : (sendLink n f s).sort = s.sort := rfl
@[simp] theorem sendLink_notices (s : State) (n : SlotId) (f : LinkFrame) : (sendLink n f s).notices = s.notices := rfl
@[simp] theorem sendLink_store (s : State) (n : SlotId) (f : LinkFrame) : (sendLink n f s).store = s.store := rfl
@[simp] theorem sendLink_transit (s : State) (n : SlotId) (f : LinkFrame) : (sendLink n f s).transit = s.transit := rfl
@[simp] theorem sendLink_slot (s : State) (n : SlotId) (f : LinkFrame) (m : SlotId) : (sendLink n f s).slot m = s.slot m := rfl

@[simp] theorem relamp_pending (s : State) (n : SlotId) : (relamp n s).pending = s.pending := rfl
@[simp] theorem relamp_now (s : State) (n : SlotId) : (relamp n s).now = s.now := rfl
@[simp] theorem relamp_lampStart (s : State) (n : SlotId) : (relamp n s).lampStart = s.lampStart := rfl
@[simp] theorem relamp_tickAt (s : State) (n : SlotId) : (relamp n s).tickAt = s.tickAt := rfl
@[simp] theorem relamp_port (s : State) (n : SlotId) : (relamp n s).port = s.port := rfl
@[simp] theorem relamp_tables (s : State) (n : SlotId) : (relamp n s).tables = s.tables := rfl
@[simp] theorem relamp_power (s : State) (n : SlotId) : (relamp n s).power = s.power := rfl
@[simp] theorem relamp_sort (s : State) (n : SlotId) : (relamp n s).sort = s.sort := rfl
@[simp] theorem relamp_notices (s : State) (n : SlotId) : (relamp n s).notices = s.notices := rfl
@[simp] theorem relamp_store (s : State) (n : SlotId) : (relamp n s).store = s.store := rfl
@[simp] theorem relamp_transit (s : State) (n : SlotId) : (relamp n s).transit = s.transit := rfl
@[simp] theorem relamp_sent (s : State) (n : SlotId) : (relamp n s).sent = s.sent := rfl

@[simp] theorem setState_pending (s : State) (n : SlotId) (st : SlotState) : (setState n st s).pending = s.pending := rfl
@[simp] theorem setState_now (s : State) (n : SlotId) (st : SlotState) : (setState n st s).now = s.now := rfl
@[simp] theorem setState_lampStart (s : State) (n : SlotId) (st : SlotState) : (setState n st s).lampStart = s.lampStart := rfl
@[simp] theorem setState_tickAt (s : State) (n : SlotId) (st : SlotState) : (setState n st s).tickAt = s.tickAt := rfl
@[simp] theorem setState_port (s : State) (n : SlotId) (st : SlotState) : (setState n st s).port = s.port := rfl
@[simp] theorem setState_tables (s : State) (n : SlotId) (st : SlotState) : (setState n st s).tables = s.tables := rfl
@[simp] theorem setState_power (s : State) (n : SlotId) (st : SlotState) : (setState n st s).power = s.power := rfl
@[simp] theorem setState_sort (s : State) (n : SlotId) (st : SlotState) : (setState n st s).sort = s.sort := rfl
@[simp] theorem setState_notices (s : State) (n : SlotId) (st : SlotState) : (setState n st s).notices = s.notices := rfl
@[simp] theorem setState_store (s : State) (n : SlotId) (st : SlotState) : (setState n st s).store = s.store := rfl
@[simp] theorem setState_transit (s : State) (n : SlotId) (st : SlotState) : (setState n st s).transit = s.transit := rfl
@[simp] theorem setState_sent (s : State) (n : SlotId) (st : SlotState) : (setState n st s).sent = s.sent := rfl

@[simp] theorem transmit_pending (s : State) (f : RackFrame) : (transmit f s).pending = s.pending := rfl
@[simp] theorem transmit_now (s : State) (f : RackFrame) : (transmit f s).now = s.now := rfl
@[simp] theorem transmit_lampStart (s : State) (f : RackFrame) : (transmit f s).lampStart = s.lampStart := rfl
@[simp] theorem transmit_tickAt (s : State) (f : RackFrame) : (transmit f s).tickAt = s.tickAt := rfl
@[simp] theorem transmit_tables (s : State) (f : RackFrame) : (transmit f s).tables = s.tables := rfl
@[simp] theorem transmit_power (s : State) (f : RackFrame) : (transmit f s).power = s.power := rfl
@[simp] theorem transmit_sort (s : State) (f : RackFrame) : (transmit f s).sort = s.sort := rfl
@[simp] theorem transmit_notices (s : State) (f : RackFrame) : (transmit f s).notices = s.notices := rfl
@[simp] theorem transmit_store (s : State) (f : RackFrame) : (transmit f s).store = s.store := rfl
@[simp] theorem transmit_transit (s : State) (f : RackFrame) : (transmit f s).transit = s.transit := rfl
@[simp] theorem transmit_sent (s : State) (f : RackFrame) : (transmit f s).sent = s.sent := rfl
@[simp] theorem transmit_slot (s : State) (f : RackFrame) (m : SlotId) : (transmit f s).slot m = s.slot m := rfl

@[simp] theorem fillEntry_pending (s : State) (n : SlotId) (k : Fin 4) (e : InFlight) : (fillEntry n k e s).pending = s.pending := rfl
@[simp] theorem fillEntry_now (s : State) (n : SlotId) (k : Fin 4) (e : InFlight) : (fillEntry n k e s).now = s.now := rfl
@[simp] theorem fillEntry_lampStart (s : State) (n : SlotId) (k : Fin 4) (e : InFlight) : (fillEntry n k e s).lampStart = s.lampStart := rfl
@[simp] theorem fillEntry_tickAt (s : State) (n : SlotId) (k : Fin 4) (e : InFlight) : (fillEntry n k e s).tickAt = s.tickAt := rfl
@[simp] theorem fillEntry_port (s : State) (n : SlotId) (k : Fin 4) (e : InFlight) : (fillEntry n k e s).port = s.port := rfl
@[simp] theorem fillEntry_tables (s : State) (n : SlotId) (k : Fin 4) (e : InFlight) : (fillEntry n k e s).tables = s.tables := rfl
@[simp] theorem fillEntry_power (s : State) (n : SlotId) (k : Fin 4) (e : InFlight) : (fillEntry n k e s).power = s.power := rfl
@[simp] theorem fillEntry_sort (s : State) (n : SlotId) (k : Fin 4) (e : InFlight) : (fillEntry n k e s).sort = s.sort := rfl
@[simp] theorem fillEntry_notices (s : State) (n : SlotId) (k : Fin 4) (e : InFlight) : (fillEntry n k e s).notices = s.notices := rfl
@[simp] theorem fillEntry_store (s : State) (n : SlotId) (k : Fin 4) (e : InFlight) : (fillEntry n k e s).store = s.store := rfl
@[simp] theorem fillEntry_transit (s : State) (n : SlotId) (k : Fin 4) (e : InFlight) : (fillEntry n k e s).transit = s.transit := rfl
@[simp] theorem fillEntry_sent (s : State) (n : SlotId) (k : Fin 4) (e : InFlight) : (fillEntry n k e s).sent = s.sent := rfl

@[simp] theorem releaseReserved_pending (s : State) (n : SlotId) : (releaseReserved n s).pending = s.pending := rfl
@[simp] theorem releaseReserved_now (s : State) (n : SlotId) : (releaseReserved n s).now = s.now := rfl
@[simp] theorem releaseReserved_lampStart (s : State) (n : SlotId) : (releaseReserved n s).lampStart = s.lampStart := rfl
@[simp] theorem releaseReserved_tickAt (s : State) (n : SlotId) : (releaseReserved n s).tickAt = s.tickAt := rfl
@[simp] theorem releaseReserved_port (s : State) (n : SlotId) : (releaseReserved n s).port = s.port := rfl
@[simp] theorem releaseReserved_tables (s : State) (n : SlotId) : (releaseReserved n s).tables = s.tables := rfl
@[simp] theorem releaseReserved_power (s : State) (n : SlotId) : (releaseReserved n s).power = s.power := rfl
@[simp] theorem releaseReserved_sort (s : State) (n : SlotId) : (releaseReserved n s).sort = s.sort := rfl
@[simp] theorem releaseReserved_notices (s : State) (n : SlotId) : (releaseReserved n s).notices = s.notices := rfl
@[simp] theorem releaseReserved_store (s : State) (n : SlotId) : (releaseReserved n s).store = s.store := rfl
@[simp] theorem releaseReserved_transit (s : State) (n : SlotId) : (releaseReserved n s).transit = s.transit := rfl
@[simp] theorem releaseReserved_sent (s : State) (n : SlotId) : (releaseReserved n s).sent = s.sent := rfl

@[simp] theorem inject_pending (s : State) (n : SlotId) (i : Injection) : (inject n i s).pending = s.pending := rfl
@[simp] theorem inject_now (s : State) (n : SlotId) (i : Injection) : (inject n i s).now = s.now := rfl
@[simp] theorem inject_lampStart (s : State) (n : SlotId) (i : Injection) : (inject n i s).lampStart = s.lampStart := rfl
@[simp] theorem inject_tickAt (s : State) (n : SlotId) (i : Injection) : (inject n i s).tickAt = s.tickAt := rfl
@[simp] theorem inject_port (s : State) (n : SlotId) (i : Injection) : (inject n i s).port = s.port := rfl
@[simp] theorem inject_tables (s : State) (n : SlotId) (i : Injection) : (inject n i s).tables = s.tables := rfl
@[simp] theorem inject_power (s : State) (n : SlotId) (i : Injection) : (inject n i s).power = s.power := rfl
@[simp] theorem inject_sort (s : State) (n : SlotId) (i : Injection) : (inject n i s).sort = s.sort := rfl
@[simp] theorem inject_notices (s : State) (n : SlotId) (i : Injection) : (inject n i s).notices = s.notices := rfl
@[simp] theorem inject_store (s : State) (n : SlotId) (i : Injection) : (inject n i s).store = s.store := rfl
@[simp] theorem inject_transit (s : State) (n : SlotId) (i : Injection) : (inject n i s).transit = s.transit := rfl
@[simp] theorem inject_sent (s : State) (n : SlotId) (i : Injection) : (inject n i s).sent = s.sent := rfl

@[simp] theorem unlist_pending (s : State) (n : SlotId) (c : CmdClass) : (unlist n c s).pending = s.pending := rfl
@[simp] theorem unlist_now (s : State) (n : SlotId) (c : CmdClass) : (unlist n c s).now = s.now := rfl
@[simp] theorem unlist_lampStart (s : State) (n : SlotId) (c : CmdClass) : (unlist n c s).lampStart = s.lampStart := rfl
@[simp] theorem unlist_tickAt (s : State) (n : SlotId) (c : CmdClass) : (unlist n c s).tickAt = s.tickAt := rfl
@[simp] theorem unlist_port (s : State) (n : SlotId) (c : CmdClass) : (unlist n c s).port = s.port := rfl
@[simp] theorem unlist_tables (s : State) (n : SlotId) (c : CmdClass) : (unlist n c s).tables = s.tables := rfl
@[simp] theorem unlist_power (s : State) (n : SlotId) (c : CmdClass) : (unlist n c s).power = s.power := rfl
@[simp] theorem unlist_sort (s : State) (n : SlotId) (c : CmdClass) : (unlist n c s).sort = s.sort := rfl
@[simp] theorem unlist_notices (s : State) (n : SlotId) (c : CmdClass) : (unlist n c s).notices = s.notices := rfl
@[simp] theorem unlist_store (s : State) (n : SlotId) (c : CmdClass) : (unlist n c s).store = s.store := rfl
@[simp] theorem unlist_transit (s : State) (n : SlotId) (c : CmdClass) : (unlist n c s).transit = s.transit := rfl
@[simp] theorem unlist_sent (s : State) (n : SlotId) (c : CmdClass) : (unlist n c s).sent = s.sent := rfl

@[simp] theorem modLines_pending (s : State) (n : SlotId) (f : SlotLines → SlotLines) : (modLines n f s).pending = s.pending := rfl
@[simp] theorem modLines_now (s : State) (n : SlotId) (f : SlotLines → SlotLines) : (modLines n f s).now = s.now := rfl
@[simp] theorem modLines_lampStart (s : State) (n : SlotId) (f : SlotLines → SlotLines) : (modLines n f s).lampStart = s.lampStart := rfl
@[simp] theorem modLines_tickAt (s : State) (n : SlotId) (f : SlotLines → SlotLines) : (modLines n f s).tickAt = s.tickAt := rfl
@[simp] theorem modLines_port (s : State) (n : SlotId) (f : SlotLines → SlotLines) : (modLines n f s).port = s.port := rfl
@[simp] theorem modLines_tables (s : State) (n : SlotId) (f : SlotLines → SlotLines) : (modLines n f s).tables = s.tables := rfl
@[simp] theorem modLines_power (s : State) (n : SlotId) (f : SlotLines → SlotLines) : (modLines n f s).power = s.power := rfl
@[simp] theorem modLines_sort (s : State) (n : SlotId) (f : SlotLines → SlotLines) : (modLines n f s).sort = s.sort := rfl
@[simp] theorem modLines_notices (s : State) (n : SlotId) (f : SlotLines → SlotLines) : (modLines n f s).notices = s.notices := rfl
@[simp] theorem modLines_store (s : State) (n : SlotId) (f : SlotLines → SlotLines) : (modLines n f s).store = s.store := rfl
@[simp] theorem modLines_transit (s : State) (n : SlotId) (f : SlotLines → SlotLines) : (modLines n f s).transit = s.transit := rfl
@[simp] theorem modLines_sent (s : State) (n : SlotId) (f : SlotLines → SlotLines) : (modLines n f s).sent = s.sent := rfl

@[simp] theorem setBin_pending (s : State) (a : Fin 4) (p : Fin 8) (b : Bin) : (setBin a p b s).pending = s.pending := rfl
@[simp] theorem setBin_now (s : State) (a : Fin 4) (p : Fin 8) (b : Bin) : (setBin a p b s).now = s.now := rfl
@[simp] theorem setBin_lampStart (s : State) (a : Fin 4) (p : Fin 8) (b : Bin) : (setBin a p b s).lampStart = s.lampStart := rfl
@[simp] theorem setBin_tickAt (s : State) (a : Fin 4) (p : Fin 8) (b : Bin) : (setBin a p b s).tickAt = s.tickAt := rfl
@[simp] theorem setBin_port (s : State) (a : Fin 4) (p : Fin 8) (b : Bin) : (setBin a p b s).port = s.port := rfl
@[simp] theorem setBin_tables (s : State) (a : Fin 4) (p : Fin 8) (b : Bin) : (setBin a p b s).tables = s.tables := rfl
@[simp] theorem setBin_power (s : State) (a : Fin 4) (p : Fin 8) (b : Bin) : (setBin a p b s).power = s.power := rfl
@[simp] theorem setBin_notices (s : State) (a : Fin 4) (p : Fin 8) (b : Bin) : (setBin a p b s).notices = s.notices := rfl
@[simp] theorem setBin_store (s : State) (a : Fin 4) (p : Fin 8) (b : Bin) : (setBin a p b s).store = s.store := rfl
@[simp] theorem setBin_transit (s : State) (a : Fin 4) (p : Fin 8) (b : Bin) : (setBin a p b s).transit = s.transit := rfl
@[simp] theorem setBin_sent (s : State) (a : Fin 4) (p : Fin 8) (b : Bin) : (setBin a p b s).sent = s.sent := rfl
@[simp] theorem setBin_slot (s : State) (a : Fin 4) (p : Fin 8) (b : Bin) (m : SlotId) : (setBin a p b s).slot m = s.slot m := rfl

@[simp] theorem setFill_pending (s : State) (a : Fin 4) (p : Fin 8) (f : Nat → Nat) : (setFill a p f s).pending = s.pending := rfl
@[simp] theorem setFill_now (s : State) (a : Fin 4) (p : Fin 8) (f : Nat → Nat) : (setFill a p f s).now = s.now := rfl
@[simp] theorem setFill_lampStart (s : State) (a : Fin 4) (p : Fin 8) (f : Nat → Nat) : (setFill a p f s).lampStart = s.lampStart := rfl
@[simp] theorem setFill_tickAt (s : State) (a : Fin 4) (p : Fin 8) (f : Nat → Nat) : (setFill a p f s).tickAt = s.tickAt := rfl
@[simp] theorem setFill_port (s : State) (a : Fin 4) (p : Fin 8) (f : Nat → Nat) : (setFill a p f s).port = s.port := rfl
@[simp] theorem setFill_tables (s : State) (a : Fin 4) (p : Fin 8) (f : Nat → Nat) : (setFill a p f s).tables = s.tables := rfl
@[simp] theorem setFill_power (s : State) (a : Fin 4) (p : Fin 8) (f : Nat → Nat) : (setFill a p f s).power = s.power := rfl
@[simp] theorem setFill_notices (s : State) (a : Fin 4) (p : Fin 8) (f : Nat → Nat) : (setFill a p f s).notices = s.notices := rfl
@[simp] theorem setFill_store (s : State) (a : Fin 4) (p : Fin 8) (f : Nat → Nat) : (setFill a p f s).store = s.store := rfl
@[simp] theorem setFill_transit (s : State) (a : Fin 4) (p : Fin 8) (f : Nat → Nat) : (setFill a p f s).transit = s.transit := rfl
@[simp] theorem setFill_sent (s : State) (a : Fin 4) (p : Fin 8) (f : Nat → Nat) : (setFill a p f s).sent = s.sent := rfl
@[simp] theorem setFill_slot (s : State) (a : Fin 4) (p : Fin 8) (f : Nat → Nat) (m : SlotId) : (setFill a p f s).slot m = s.slot m := rfl

@[simp] theorem setGrade_pending (s : State) (n : SlotId) (g : GradeInputs) (a : Fin 4) (p : Fin 8) (q : Option Nat) : (setGrade n g a p q s).pending = s.pending := rfl
@[simp] theorem setGrade_now (s : State) (n : SlotId) (g : GradeInputs) (a : Fin 4) (p : Fin 8) (q : Option Nat) : (setGrade n g a p q s).now = s.now := rfl
@[simp] theorem setGrade_lampStart (s : State) (n : SlotId) (g : GradeInputs) (a : Fin 4) (p : Fin 8) (q : Option Nat) : (setGrade n g a p q s).lampStart = s.lampStart := rfl
@[simp] theorem setGrade_tickAt (s : State) (n : SlotId) (g : GradeInputs) (a : Fin 4) (p : Fin 8) (q : Option Nat) : (setGrade n g a p q s).tickAt = s.tickAt := rfl
@[simp] theorem setGrade_port (s : State) (n : SlotId) (g : GradeInputs) (a : Fin 4) (p : Fin 8) (q : Option Nat) : (setGrade n g a p q s).port = s.port := rfl
@[simp] theorem setGrade_tables (s : State) (n : SlotId) (g : GradeInputs) (a : Fin 4) (p : Fin 8) (q : Option Nat) : (setGrade n g a p q s).tables = s.tables := rfl
@[simp] theorem setGrade_power (s : State) (n : SlotId) (g : GradeInputs) (a : Fin 4) (p : Fin 8) (q : Option Nat) : (setGrade n g a p q s).power = s.power := rfl
@[simp] theorem setGrade_sort (s : State) (n : SlotId) (g : GradeInputs) (a : Fin 4) (p : Fin 8) (q : Option Nat) : (setGrade n g a p q s).sort = s.sort := rfl
@[simp] theorem setGrade_notices (s : State) (n : SlotId) (g : GradeInputs) (a : Fin 4) (p : Fin 8) (q : Option Nat) : (setGrade n g a p q s).notices = s.notices := rfl
@[simp] theorem setGrade_store (s : State) (n : SlotId) (g : GradeInputs) (a : Fin 4) (p : Fin 8) (q : Option Nat) : (setGrade n g a p q s).store = s.store := rfl
@[simp] theorem setGrade_transit (s : State) (n : SlotId) (g : GradeInputs) (a : Fin 4) (p : Fin 8) (q : Option Nat) : (setGrade n g a p q s).transit = s.transit := rfl
@[simp] theorem setGrade_sent (s : State) (n : SlotId) (g : GradeInputs) (a : Fin 4) (p : Fin 8) (q : Option Nat) : (setGrade n g a p q s).sent = s.sent := rfl

@[simp] theorem countReference_pending (s : State) (i : Fin 16) (f : Nat → Nat) : (countReference i f s).pending = s.pending := rfl
@[simp] theorem countReference_now (s : State) (i : Fin 16) (f : Nat → Nat) : (countReference i f s).now = s.now := rfl
@[simp] theorem countReference_lampStart (s : State) (i : Fin 16) (f : Nat → Nat) : (countReference i f s).lampStart = s.lampStart := rfl
@[simp] theorem countReference_tickAt (s : State) (i : Fin 16) (f : Nat → Nat) : (countReference i f s).tickAt = s.tickAt := rfl
@[simp] theorem countReference_port (s : State) (i : Fin 16) (f : Nat → Nat) : (countReference i f s).port = s.port := rfl
@[simp] theorem countReference_power (s : State) (i : Fin 16) (f : Nat → Nat) : (countReference i f s).power = s.power := rfl
@[simp] theorem countReference_sort (s : State) (i : Fin 16) (f : Nat → Nat) : (countReference i f s).sort = s.sort := rfl
@[simp] theorem countReference_notices (s : State) (i : Fin 16) (f : Nat → Nat) : (countReference i f s).notices = s.notices := rfl
@[simp] theorem countReference_store (s : State) (i : Fin 16) (f : Nat → Nat) : (countReference i f s).store = s.store := rfl
@[simp] theorem countReference_transit (s : State) (i : Fin 16) (f : Nat → Nat) : (countReference i f s).transit = s.transit := rfl
@[simp] theorem countReference_sent (s : State) (i : Fin 16) (f : Nat → Nat) : (countReference i f s).sent = s.sent := rfl
@[simp] theorem countReference_slot (s : State) (i : Fin 16) (f : Nat → Nat) (m : SlotId) : (countReference i f s).slot m = s.slot m := rfl

@[simp] theorem sendQuarantine_pending (s : State) (n : SlotId) (r : QuarantineReason) : (sendQuarantine n r s).pending = s.pending := rfl
@[simp] theorem sendQuarantine_now (s : State) (n : SlotId) (r : QuarantineReason) : (sendQuarantine n r s).now = s.now := rfl
@[simp] theorem sendQuarantine_lampStart (s : State) (n : SlotId) (r : QuarantineReason) : (sendQuarantine n r s).lampStart = s.lampStart := rfl
@[simp] theorem sendQuarantine_tickAt (s : State) (n : SlotId) (r : QuarantineReason) : (sendQuarantine n r s).tickAt = s.tickAt := rfl
@[simp] theorem sendQuarantine_port (s : State) (n : SlotId) (r : QuarantineReason) : (sendQuarantine n r s).port = s.port := rfl
@[simp] theorem sendQuarantine_tables (s : State) (n : SlotId) (r : QuarantineReason) : (sendQuarantine n r s).tables = s.tables := rfl
@[simp] theorem sendQuarantine_power (s : State) (n : SlotId) (r : QuarantineReason) : (sendQuarantine n r s).power = s.power := rfl
@[simp] theorem sendQuarantine_sort (s : State) (n : SlotId) (r : QuarantineReason) : (sendQuarantine n r s).sort = s.sort := rfl
@[simp] theorem sendQuarantine_notices (s : State) (n : SlotId) (r : QuarantineReason) : (sendQuarantine n r s).notices = s.notices := rfl
@[simp] theorem sendQuarantine_store (s : State) (n : SlotId) (r : QuarantineReason) : (sendQuarantine n r s).store = s.store := rfl
@[simp] theorem sendQuarantine_sent (s : State) (n : SlotId) (r : QuarantineReason) : (sendQuarantine n r s).sent = s.sent := rfl
@[simp] theorem sendQuarantine_slot (s : State) (n : SlotId) (r : QuarantineReason) (m : SlotId) : (sendQuarantine n r s).slot m = s.slot m := rfl

@[simp] theorem keepRecord_pending (s : State) (n : SlotId) (r : IdentityRecord) : (keepRecord n r s).pending = s.pending := rfl
@[simp] theorem keepRecord_now (s : State) (n : SlotId) (r : IdentityRecord) : (keepRecord n r s).now = s.now := rfl
@[simp] theorem keepRecord_lampStart (s : State) (n : SlotId) (r : IdentityRecord) : (keepRecord n r s).lampStart = s.lampStart := rfl
@[simp] theorem keepRecord_tickAt (s : State) (n : SlotId) (r : IdentityRecord) : (keepRecord n r s).tickAt = s.tickAt := rfl
@[simp] theorem keepRecord_port (s : State) (n : SlotId) (r : IdentityRecord) : (keepRecord n r s).port = s.port := rfl
@[simp] theorem keepRecord_tables (s : State) (n : SlotId) (r : IdentityRecord) : (keepRecord n r s).tables = s.tables := rfl
@[simp] theorem keepRecord_power (s : State) (n : SlotId) (r : IdentityRecord) : (keepRecord n r s).power = s.power := rfl
@[simp] theorem keepRecord_sort (s : State) (n : SlotId) (r : IdentityRecord) : (keepRecord n r s).sort = s.sort := rfl
@[simp] theorem keepRecord_notices (s : State) (n : SlotId) (r : IdentityRecord) : (keepRecord n r s).notices = s.notices := rfl
@[simp] theorem keepRecord_store (s : State) (n : SlotId) (r : IdentityRecord) : (keepRecord n r s).store = s.store := rfl
@[simp] theorem keepRecord_transit (s : State) (n : SlotId) (r : IdentityRecord) : (keepRecord n r s).transit = s.transit := rfl
@[simp] theorem keepRecord_sent (s : State) (n : SlotId) (r : IdentityRecord) : (keepRecord n r s).sent = s.sent := rfl

@[simp] theorem noteOutcome_pending (s : State) (n : SlotId) (o : IdentifyOutcome) : (noteOutcome n o s).pending = s.pending := rfl
@[simp] theorem noteOutcome_now (s : State) (n : SlotId) (o : IdentifyOutcome) : (noteOutcome n o s).now = s.now := rfl
@[simp] theorem noteOutcome_lampStart (s : State) (n : SlotId) (o : IdentifyOutcome) : (noteOutcome n o s).lampStart = s.lampStart := rfl
@[simp] theorem noteOutcome_tickAt (s : State) (n : SlotId) (o : IdentifyOutcome) : (noteOutcome n o s).tickAt = s.tickAt := rfl
@[simp] theorem noteOutcome_port (s : State) (n : SlotId) (o : IdentifyOutcome) : (noteOutcome n o s).port = s.port := rfl
@[simp] theorem noteOutcome_tables (s : State) (n : SlotId) (o : IdentifyOutcome) : (noteOutcome n o s).tables = s.tables := rfl
@[simp] theorem noteOutcome_power (s : State) (n : SlotId) (o : IdentifyOutcome) : (noteOutcome n o s).power = s.power := rfl
@[simp] theorem noteOutcome_sort (s : State) (n : SlotId) (o : IdentifyOutcome) : (noteOutcome n o s).sort = s.sort := rfl
@[simp] theorem noteOutcome_notices (s : State) (n : SlotId) (o : IdentifyOutcome) : (noteOutcome n o s).notices = s.notices := rfl
@[simp] theorem noteOutcome_store (s : State) (n : SlotId) (o : IdentifyOutcome) : (noteOutcome n o s).store = s.store := rfl
@[simp] theorem noteOutcome_transit (s : State) (n : SlotId) (o : IdentifyOutcome) : (noteOutcome n o s).transit = s.transit := rfl
@[simp] theorem noteOutcome_sent (s : State) (n : SlotId) (o : IdentifyOutcome) : (noteOutcome n o s).sent = s.sent := rfl

@[simp] theorem endEpisode_pending (s : State) (n : SlotId) : (endEpisode n s).pending = s.pending := rfl
@[simp] theorem endEpisode_now (s : State) (n : SlotId) : (endEpisode n s).now = s.now := rfl
@[simp] theorem endEpisode_lampStart (s : State) (n : SlotId) : (endEpisode n s).lampStart = s.lampStart := rfl
@[simp] theorem endEpisode_tickAt (s : State) (n : SlotId) : (endEpisode n s).tickAt = s.tickAt := rfl
@[simp] theorem endEpisode_port (s : State) (n : SlotId) : (endEpisode n s).port = s.port := rfl
@[simp] theorem endEpisode_tables (s : State) (n : SlotId) : (endEpisode n s).tables = s.tables := rfl
@[simp] theorem endEpisode_power (s : State) (n : SlotId) : (endEpisode n s).power = s.power := rfl
@[simp] theorem endEpisode_sort (s : State) (n : SlotId) : (endEpisode n s).sort = s.sort := rfl
@[simp] theorem endEpisode_notices (s : State) (n : SlotId) : (endEpisode n s).notices = s.notices := rfl
@[simp] theorem endEpisode_store (s : State) (n : SlotId) : (endEpisode n s).store = s.store := rfl
@[simp] theorem endEpisode_transit (s : State) (n : SlotId) : (endEpisode n s).transit = s.transit := rfl
@[simp] theorem endEpisode_sent (s : State) (n : SlotId) : (endEpisode n s).sent = s.sent := rfl

@[simp] theorem setBreak_pending (s : State) (n : SlotId) (b : Bool) : (setBreak n b s).pending = s.pending := rfl
@[simp] theorem setBreak_now (s : State) (n : SlotId) (b : Bool) : (setBreak n b s).now = s.now := rfl
@[simp] theorem setBreak_lampStart (s : State) (n : SlotId) (b : Bool) : (setBreak n b s).lampStart = s.lampStart := rfl
@[simp] theorem setBreak_tickAt (s : State) (n : SlotId) (b : Bool) : (setBreak n b s).tickAt = s.tickAt := rfl
@[simp] theorem setBreak_port (s : State) (n : SlotId) (b : Bool) : (setBreak n b s).port = s.port := rfl
@[simp] theorem setBreak_tables (s : State) (n : SlotId) (b : Bool) : (setBreak n b s).tables = s.tables := rfl
@[simp] theorem setBreak_power (s : State) (n : SlotId) (b : Bool) : (setBreak n b s).power = s.power := rfl
@[simp] theorem setBreak_sort (s : State) (n : SlotId) (b : Bool) : (setBreak n b s).sort = s.sort := rfl
@[simp] theorem setBreak_notices (s : State) (n : SlotId) (b : Bool) : (setBreak n b s).notices = s.notices := rfl
@[simp] theorem setBreak_store (s : State) (n : SlotId) (b : Bool) : (setBreak n b s).store = s.store := rfl
@[simp] theorem setBreak_transit (s : State) (n : SlotId) (b : Bool) : (setBreak n b s).transit = s.transit := rfl
@[simp] theorem setBreak_sent (s : State) (n : SlotId) (b : Bool) : (setBreak n b s).sent = s.sent := rfl

@[simp] theorem queueCommand_pending (s : State) (n : SlotId) (q : QueuedCmd) : (queueCommand n q s).pending = s.pending := rfl
@[simp] theorem queueCommand_now (s : State) (n : SlotId) (q : QueuedCmd) : (queueCommand n q s).now = s.now := rfl
@[simp] theorem queueCommand_lampStart (s : State) (n : SlotId) (q : QueuedCmd) : (queueCommand n q s).lampStart = s.lampStart := rfl
@[simp] theorem queueCommand_tickAt (s : State) (n : SlotId) (q : QueuedCmd) : (queueCommand n q s).tickAt = s.tickAt := rfl
@[simp] theorem queueCommand_port (s : State) (n : SlotId) (q : QueuedCmd) : (queueCommand n q s).port = s.port := rfl
@[simp] theorem queueCommand_tables (s : State) (n : SlotId) (q : QueuedCmd) : (queueCommand n q s).tables = s.tables := rfl
@[simp] theorem queueCommand_power (s : State) (n : SlotId) (q : QueuedCmd) : (queueCommand n q s).power = s.power := rfl
@[simp] theorem queueCommand_sort (s : State) (n : SlotId) (q : QueuedCmd) : (queueCommand n q s).sort = s.sort := rfl
@[simp] theorem queueCommand_notices (s : State) (n : SlotId) (q : QueuedCmd) : (queueCommand n q s).notices = s.notices := rfl
@[simp] theorem queueCommand_store (s : State) (n : SlotId) (q : QueuedCmd) : (queueCommand n q s).store = s.store := rfl
@[simp] theorem queueCommand_transit (s : State) (n : SlotId) (q : QueuedCmd) : (queueCommand n q s).transit = s.transit := rfl
@[simp] theorem queueCommand_sent (s : State) (n : SlotId) (q : QueuedCmd) : (queueCommand n q s).sent = s.sent := rfl

@[simp] theorem putModel_pending (s : State) (i : Fin 16) (m : ModelEntry) : (putModel i m s).pending = s.pending := rfl
@[simp] theorem putModel_now (s : State) (i : Fin 16) (m : ModelEntry) : (putModel i m s).now = s.now := rfl
@[simp] theorem putModel_lampStart (s : State) (i : Fin 16) (m : ModelEntry) : (putModel i m s).lampStart = s.lampStart := rfl
@[simp] theorem putModel_tickAt (s : State) (i : Fin 16) (m : ModelEntry) : (putModel i m s).tickAt = s.tickAt := rfl
@[simp] theorem putModel_port (s : State) (i : Fin 16) (m : ModelEntry) : (putModel i m s).port = s.port := rfl
@[simp] theorem putModel_power (s : State) (i : Fin 16) (m : ModelEntry) : (putModel i m s).power = s.power := rfl
@[simp] theorem putModel_sort (s : State) (i : Fin 16) (m : ModelEntry) : (putModel i m s).sort = s.sort := rfl
@[simp] theorem putModel_notices (s : State) (i : Fin 16) (m : ModelEntry) : (putModel i m s).notices = s.notices := rfl
@[simp] theorem putModel_store (s : State) (i : Fin 16) (m : ModelEntry) : (putModel i m s).store = s.store := rfl
@[simp] theorem putModel_transit (s : State) (i : Fin 16) (m : ModelEntry) : (putModel i m s).transit = s.transit := rfl
@[simp] theorem putModel_sent (s : State) (i : Fin 16) (m : ModelEntry) : (putModel i m s).sent = s.sent := rfl
@[simp] theorem putModel_slot (s : State) (i : Fin 16) (e : ModelEntry) (m : SlotId) : (putModel i e s).slot m = s.slot m := rfl

/-! ### What the updates that change a field make of it -/

@[simp] theorem reach_now (s : State) (k : Nat) : (reach k s).now = max s.now k := rfl
@[simp] theorem pushReply_port (s : State) (r : Reply) :
    (pushReply r s).port = { s.port with replies := s.port.replies ++ [r] } := rfl
@[simp] theorem pushResponse_port (s : State) (r : SlotResponse) :
    (pushResponse r s).port = { s.port with responses := s.port.responses ++ [r] } := rfl
@[simp] theorem sendLink_sent (s : State) (n : SlotId) (f : LinkFrame) : (sendLink n f s).sent = s.sent ++ [(n, f)] := rfl
@[simp] theorem transmit_port (s : State) (f : RackFrame) :
    (transmit f s).port = { s.port with transmitting := some f } := rfl
@[simp] theorem sendQuarantine_transit (s : State) (n : SlotId) (r : QuarantineReason) :
    (sendQuarantine n r s).transit = { s.transit with quarantines := s.transit.quarantines ++ [(n, r)] } := rfl

end Sys2Proof.Machine
end

