-- ==== Sys2Proof/Laws/Keeps.lean ====
section
/-! SUPPORT. What each shared operation leaves unchanged: one lemma per operation over the part's groups, and one over
the groups of the slot record it changes. -/

namespace Sys2Proof.Machine

/-! ### The relations -/

theorem KeepsBut.refl (ch : List Group) (s : State) : KeepsBut ch s s := by
  refine ⟨fun g _ => ?_⟩; cases g <;> simp [sameIn]

theorem sameIn_trans {s t u : State} (g : Group) (h : sameIn s t g) (h' : sameIn t u g) : sameIn s u g := by
  cases g <;> simp_all [sameIn]

theorem KeepsBut.trans {ch : List Group} {s t u : State} (h : KeepsBut ch s t) (h' : KeepsBut ch t u) : KeepsBut ch s u :=
  ⟨fun g hg => sameIn_trans g (h.same g hg) (h'.same g hg)⟩

theorem KeepsBut.mono {ch ch' : List Group} {s t : State} (h : KeepsBut ch s t) (hs : ch ⊆ ch') : KeepsBut ch' s t :=
  ⟨fun g hg => h.same g fun hc => hg (hs hc)⟩

theorem KeepsBut.slots {ch : List Group} {s t : State} {n : SlotId} (h : KeepsBut (.slot n :: ch) s t) :
    KeepsButSlots ch s t :=
  ⟨fun g hg hn => h.same g (by simp [hg, hn n])⟩

theorem KeepsButSlots.refl (ch : List Group) (s : State) : KeepsButSlots ch s s :=
  ⟨fun g hg _ => (KeepsBut.refl ch s).same g hg⟩

theorem KeepsButSlots.trans {ch : List Group} {s t u : State} (h : KeepsButSlots ch s t) (h' : KeepsButSlots ch t u) :
    KeepsButSlots ch s u :=
  ⟨fun g hg hn => sameIn_trans g (h.same g hg hn) (h'.same g hg hn)⟩

theorem KeepsButSlots.mono {ch ch' : List Group} {s t : State} (h : KeepsButSlots ch s t) (hs : ch ⊆ ch') :
    KeepsButSlots ch' s t :=
  ⟨fun g hg hn => h.same g (fun hc => hg (hs hc)) hn⟩

theorem SlotKeepsBut.refl (ch : List SlotGroup) (x : Slot) : SlotKeepsBut ch x x := by
  refine ⟨fun g _ => ?_⟩; cases g <;> simp [slotSameIn]

theorem slotSameIn_trans {x y z : Slot} (g : SlotGroup) (h : slotSameIn x y g) (h' : slotSameIn y z g) : slotSameIn x z g := by
  cases g <;> simp_all [slotSameIn]

theorem SlotKeepsBut.trans {ch : List SlotGroup} {x y z : Slot} (h : SlotKeepsBut ch x y) (h' : SlotKeepsBut ch y z) :
    SlotKeepsBut ch x z :=
  ⟨fun g hg => slotSameIn_trans g (h.same g hg) (h'.same g hg)⟩

theorem SlotKeepsBut.mono {ch ch' : List SlotGroup} {x y : Slot} (h : SlotKeepsBut ch x y) (hs : ch ⊆ ch') :
    SlotKeepsBut ch' x y :=
  ⟨fun g hg => h.same g fun hc => hg (hs hc)⟩

theorem KeepsBut.ite {c : Prop} [Decidable c] {ch : List Group} {s t u : State} (h : KeepsBut ch s t) (h' : KeepsBut ch s u) :
    KeepsBut ch s (if c then t else u) := by
  split <;> assumption

/-- Reading another slot. -/
theorem KeepsBut.slot_eq {ch : List Group} {s t : State} {m : SlotId} (h : KeepsBut ch s t) (hm : Group.slot m ∉ ch) :
    t.slot m = s.slot m := h.same (.slot m) hm

/-! ### The simplest updates -/

theorem modSlot_keeps (n : SlotId) (f : Slot → Slot) (s : State) : KeepsBut [.slot n] s (modSlot n f s) := by
  refine ⟨fun g hg => ?_⟩
  cases g with
  | slot m => exact slot_modSlot_other s f (by simpa using hg)
  | _ => simp [sameIn]

theorem setSlot_keeps (n : SlotId) (x : Slot) (s : State) : KeepsBut [.slot n] s (s.setSlot n x) :=
  modSlot_keeps n (fun _ => x) s

theorem relamp_keeps (n : SlotId) (s : State) : KeepsBut [.slot n] s (relamp n s) := modSlot_keeps ..

theorem setState_keeps (n : SlotId) (st : SlotState) (s : State) : KeepsBut [.slot n] s (setState n st s) :=
  (modSlot_keeps ..).trans (relamp_keeps ..)

theorem pushResponse_keeps (r : SlotResponse) (s : State) : KeepsBut [.responses] s (pushResponse r s) := by
  refine ⟨fun g hg => ?_⟩; cases g <;> simp_all [sameIn]

theorem pushReply_keeps (r : Reply) (s : State) : KeepsBut [.replies] s (pushReply r s) := by
  refine ⟨fun g hg => ?_⟩; cases g <;> simp_all [sameIn]

theorem answerPart_keeps (dest : Byte) (n : SlotId) (tag : Nat) (code : PartCode) (s : State) :
    KeepsBut [.responses] s (answerPart dest n tag code s) := pushResponse_keeps ..

theorem sendLink_keeps (n : SlotId) (f : LinkFrame) (s : State) : KeepsBut [.sent] s (sendLink n f s) := by
  refine ⟨fun g hg => ?_⟩; cases g <;> simp_all [sameIn]

theorem sendQuarantine_keeps (n : SlotId) (r : QuarantineReason) (s : State) : KeepsBut [.transit] s (sendQuarantine n r s) := by
  refine ⟨fun g hg => ?_⟩; cases g <;> simp_all [sameIn]

theorem reach_keeps (t : Nat) (s : State) : KeepsBut [.now] s (reach t s) := by
  refine ⟨fun g hg => ?_⟩; cases g <;> simp_all [sameIn]

/-! ### Slot states and lamps -/

@[simp] theorem relamp_slot_same (n : SlotId) (s : State) :
    (relamp n s).slot n =
      { s.slot n with lines := { (s.slot n).lines with lampA := (lampsFor s (s.slot n)).1, lampB := (lampsFor s (s.slot n)).2 } } := by
  simp [relamp]

theorem relamp_slot (n : SlotId) (s : State) : SlotKeepsBut [.lamps] (s.slot n) ((relamp n s).slot n) := by
  refine ⟨fun g hg => ?_⟩; cases g <;> simp_all [slotSameIn]

theorem setState_slot (n : SlotId) (st : SlotState) (s : State) :
    SlotKeepsBut [.state, .lamps] (s.slot n) ((setState n st s).slot n) := by
  refine ⟨fun g hg => ?_⟩; cases g <;> simp_all [slotSameIn, setState]

@[simp] theorem setState_slot_state (n : SlotId) (st : SlotState) (s : State) : ((setState n st s).slot n).state = st := by
  simp [setState]

/-- The lamps do not depend on the lamps. -/
theorem lampsFor_lamps (s : State) (x : Slot) (a b : LampPattern) :
    lampsFor s { x with lines := { x.lines with lampA := a, lampB := b } } = lampsFor s x := by
  have h : conditionHolds s { x with lines := { x.lines with lampA := a, lampB := b } } = conditionHolds s x := by
    funext c; cases c <;> rfl
  simp [lampsFor, h]

theorem relamp_lamps (n : SlotId) (s : State) : LampsCurrent (relamp n s) n := by
  have h : lampsFor (relamp n s) ((relamp n s).slot n) = lampsFor s (s.slot n) := by
    rw [lampsFor_congr (s := s) (by simp) (by simp), relamp_slot_same]
    exact lampsFor_lamps ..
  unfold LampsCurrent
  rw [h, relamp_slot_same]

theorem setState_lamps (n : SlotId) (st : SlotState) (s : State) : LampsCurrent (setState n st s) n := relamp_lamps ..

/-- Lamps stay current through a change that leaves the slot, the tables and the bins. -/
theorem LampsCurrent.of_keeps {ch : List Group} {s t : State} {n : SlotId} (h : KeepsBut ch s t)
    (hl : LampsCurrent s n) (h1 : Group.slot n ∉ ch) (h2 : Group.indicators ∉ ch) (h3 : Group.bins ∉ ch) :
    LampsCurrent t n := by
  have e1 : t.slot n = s.slot n := h.same (.slot n) h1
  have e2 : t.tables.indicators = s.tables.indicators := h.same .indicators h2
  have e3 : t.sort.bins = s.sort.bins := h.same .bins h3
  unfold LampsCurrent at *
  rw [e1]
  have hc : conditionHolds t (s.slot n) = conditionHolds s (s.slot n) := by
    funext c; simp [conditionHolds, sortedKind, State.bin, e3]
  simpa [lampsFor, hc, e2] using hl

/-! ### Events and notices -/

theorem setNoticeState_part_keeps (st : NoticeState) (s : State) : KeepsBut [.noticeQueue] s (setNoticeState .part st s) := by
  refine ⟨fun g hg => ?_⟩; cases g <;> simp_all [sameIn, setNoticeState]; rfl

theorem setNoticeState_slot_keeps (n : SlotId) (st : NoticeState) (s : State) :
    KeepsBut [.slot n] s (setNoticeState (.slot n) st s) := modSlot_keeps n (fun x => { x with notice := st }) s

theorem joinPart_keeps (s : State) : KeepsBut [.partSet, .noticeQueue] s (joinPart s) := by
  unfold joinPart; refine ⟨fun g hg => ?_⟩; split <;> cases g <;> simp_all [sameIn, setNoticeState] <;> rfl

theorem raisePart_keeps (e : PartEvent) (s : State) : KeepsBut [.partSet, .noticeQueue] s (raisePart e s) := by
  have h : KeepsBut [.partSet, .noticeQueue] s { s with notices.part := s.notices.part ||| e.set } := by
    refine ⟨fun g hg => ?_⟩; cases g <;> simp_all [sameIn]; rfl
  unfold raisePart
  dsimp only
  split
  · exact h.trans (joinPart_keeps _)
  · exact h

theorem joinSlot_keeps (n : SlotId) (s : State) : KeepsBut [.slot n, .partSet, .noticeQueue] s (joinSlot n s) := by
  unfold joinSlot
  split
  · refine KeepsBut.trans (t := { s with notices.queue := s.notices.queue ++ [.slot n] }) ?_
      ((setNoticeState_slot_keeps ..).mono (by simp))
    refine ⟨fun g hg => ?_⟩; cases g <;> simp_all [sameIn]; rfl
  · exact ((setNoticeState_slot_keeps ..).mono (by simp)).trans ((raisePart_keeps ..).mono (by simp))

theorem raiseSlot_keeps (n : SlotId) (e : SlotEvent) (s : State) :
    KeepsBut [.slot n, .partSet, .noticeQueue] s (raiseSlot n e s) := by
  unfold raiseSlot
  dsimp only
  split
  · exact ((modSlot_keeps ..).mono (by simp)).trans (joinSlot_keeps ..)
  · exact (modSlot_keeps ..).mono (by simp)

@[simp] theorem joinPart_slots (s : State) : (joinPart s).slots = s.slots := by
  unfold joinPart; split <;> rfl

@[simp] theorem raisePart_slots (e : PartEvent) (s : State) : (raisePart e s).slots = s.slots := by
  unfold raisePart; dsimp only; split <;> simp

@[simp] theorem raisePart_slot (e : PartEvent) (s : State) (n : SlotId) : (raisePart e s).slot n = s.slot n := by
  simp [State.slot]

/-- A notice asking to join changes the notice state of its slot alone. -/
theorem joinSlot_slot (n : SlotId) (s : State) :
    ∃ st, (joinSlot n s).slot n = { s.slot n with notice := st } := by
  unfold joinSlot
  split
  · exact ⟨.queued, slot_modSlot_same _ n _⟩
  · exact ⟨.lost, by simp [setNoticeState]⟩

/-- A raise adds its kind to the slot's pending set, and may move the slot's notice state; nothing else of the slot. -/
theorem raiseSlot_slot (n : SlotId) (e : SlotEvent) (s : State) :
    ∃ st, (raiseSlot n e s).slot n = { s.slot n with events := (s.slot n).events ||| e.set, notice := st } := by
  unfold raiseSlot
  dsimp only
  split
  · obtain ⟨st, h⟩ := joinSlot_slot n (modSlot n (fun x => { x with events := x.events ||| e.set }) s)
    exact ⟨st, by rw [h]; simp⟩
  · exact ⟨(s.slot n).notice, by simp⟩

@[simp] theorem raiseSlot_slot_events (n : SlotId) (e : SlotEvent) (s : State) :
    ((raiseSlot n e s).slot n).events = (s.slot n).events ||| e.set := by
  obtain ⟨st, h⟩ := raiseSlot_slot n e s; rw [h]

theorem raiseSlot_slot_keeps (n : SlotId) (e : SlotEvent) (s : State) :
    SlotKeepsBut [.events, .notice] (s.slot n) ((raiseSlot n e s).slot n) := by
  obtain ⟨st, h⟩ := raiseSlot_slot n e s
  rw [h]; refine ⟨fun g hg => ?_⟩; cases g <;> simp_all [slotSameIn]

/-! ### Allocations and the admission queue -/

theorem setAllocation_keeps (n : SlotId) (a : Nat) (s : State) : KeepsBut [.slot n, .passDue] s (setAllocation n a s) := by
  refine KeepsBut.trans (t := modSlot n (fun x => { x with power.allocation := a }) s) ((modSlot_keeps ..).mono (by simp)) ?_
  refine ⟨fun g hg => ?_⟩; cases g <;> simp_all [sameIn, setAllocation]; rfl

@[simp] theorem setAllocation_slot_same (n : SlotId) (a : Nat) (s : State) :
    (setAllocation n a s).slot n = { s.slot n with power := { (s.slot n).power with allocation := a } } := by
  have : (setAllocation n a s).slot n = (modSlot n (fun x => { x with power.allocation := a }) s).slot n := rfl
  rw [this]; simp

theorem lowerAllocation_keeps (n : SlotId) (s : State) : KeepsBut [.slot n, .passDue] s (lowerAllocation n s) :=
  setAllocation_keeps ..

theorem followFigure_keeps (n : SlotId) (f : Slot → Slot) (s : State) :
    KeepsBut [.slot n, .passDue] s (followFigure n f s) := by
  unfold followFigure
  dsimp only
  split
  · exact (modSlot_keeps ..).mono (by simp)
  · exact ((modSlot_keeps ..).mono (by simp)).trans (lowerAllocation_keeps ..)

theorem joinAdmission_keeps (n : SlotId) (k : AdmissionKind) (o : Origin) (s : State) :
    KeepsBut [.admission, .passDue] s (joinAdmission n k o s) := by
  unfold joinAdmission; split
  · exact KeepsBut.refl _ _
  · refine ⟨fun g hg => ?_⟩; cases g <;> simp_all [sameIn]; rfl

theorem leaveAdmission_keeps (n : SlotId) (s : State) : KeepsBut [.admission, .passDue] s (leaveAdmission n s) := by
  unfold leaveAdmission; split
  · exact KeepsBut.refl _ _
  · refine ⟨fun g hg => ?_⟩; cases g <;> simp_all [sameIn]; rfl

theorem releaseReserved_keeps (n : SlotId) (s : State) : KeepsBut [.slot n] s (releaseReserved n s) := modSlot_keeps ..

theorem withdrawHead_keeps (n : SlotId) (s : State) : KeepsBut [.slot n, .admission, .passDue] s (withdrawHead n s) := by
  unfold withdrawHead; split
  · exact ((leaveAdmission_keeps ..).mono (by simp)).trans ((releaseReserved_keeps ..).mono (by simp))
  · exact (releaseReserved_keeps ..).mono (by simp)

theorem dropAdmission_keeps (n : SlotId) (s : State) : KeepsBut [.slot n, .admission, .passDue] s (dropAdmission n s) :=
  ((leaveAdmission_keeps ..).mono (by simp)).trans ((releaseReserved_keeps ..).mono (by simp))

/-! ### The Slot Engine's operations -/

theorem fillEntry_keeps (n : SlotId) (k : Fin 4) (e : InFlight) (s : State) : KeepsBut [.slot n] s (fillEntry n k e s) :=
  modSlot_keeps ..

theorem retireEntry_keeps (n : SlotId) (k : Fin 4) (s : State) : KeepsBut [.slot n, .passDue] s (retireEntry n k s) :=
  followFigure_keeps ..

theorem clearTable_keeps (n : SlotId) (s : State) : KeepsBut [.slot n, .passDue] s (clearTable n s) :=
  followFigure_keeps ..

theorem setSpindle_keeps (n : SlotId) (sp : Spindle) (s : State) : KeepsBut [.slot n, .passDue] s (setSpindle n sp s) :=
  followFigure_keeps ..

theorem inject_keeps (n : SlotId) (i : Injection) (s : State) : KeepsBut [.slot n] s (inject n i s) := modSlot_keeps ..

theorem unlist_keeps (n : SlotId) (c : CmdClass) (s : State) : KeepsBut [.slot n] s (unlist n c s) := modSlot_keeps ..

theorem lapseHeld_keeps (n : SlotId) (s : State) : KeepsBut [.slot n, .passDue] s (lapseHeld n s) := by
  unfold lapseHeld; split
  · exact KeepsBut.refl _ _
  · exact ((unlist_keeps ..).mono (by simp)).trans (followFigure_keeps ..)

theorem sendInjection_keeps (n : SlotId) (k : Fin 4) (i : Injection) (s : State) :
    KeepsBut [.slot n, .passDue, .sent] s (sendInjection n k i s) := by
  have h1 : ∀ t : State, KeepsBut [.slot n, .passDue, .sent] t (unlist n i.cls t) := fun t => (unlist_keeps ..).mono (by simp)
  have h2 : ∀ t : State, KeepsBut [.slot n, .passDue, .sent] t (if i.cls = .spinUp then modSlot n takeHeld t else t) :=
    fun t => KeepsBut.ite ((modSlot_keeps ..).mono (by simp)) (KeepsBut.refl _ _)
  have h3 : ∀ (e : InFlight) (t : State), KeepsBut [.slot n, .passDue, .sent] t (fillEntry n k e t) :=
    fun e t => (fillEntry_keeps ..).mono (by simp)
  have h4 : ∀ (f : LinkFrame) (t : State), KeepsBut [.slot n, .passDue, .sent] t (sendLink n f t) :=
    fun f t => (sendLink_keeps ..).mono (by simp)
  have h5 : ∀ (sp : Spindle) (t : State), KeepsBut [.slot n, .passDue, .sent] t (setSpindle n sp t) :=
    fun sp t => (setSpindle_keeps ..).mono (by simp)
  have h := fun e f => ((h1 s).trans (h2 _)).trans ((h3 e _).trans (h4 f _))
  unfold sendInjection
  dsimp only
  cases hc : i.cls <;> simp only [hc] at h ⊢
  case spinUp => exact (h ..).trans (h5 ..)
  case spinDown => exact KeepsBut.ite ((h ..).trans (h5 ..)) (h ..)
  all_goals exact h ..

theorem serveInjections_keeps (n : SlotId) (s : State) : KeepsBut [.slot n, .passDue, .sent] s (serveInjections n s) := by
  unfold serveInjections
  dsimp only
  split
  · exact KeepsBut.refl _ _
  · split
    · split
      · exact KeepsBut.refl _ _
      · exact sendInjection_keeps ..
    · exact KeepsBut.refl _ _

theorem forwardHead_keeps (n : SlotId) (k : Fin 4) (g : Bool) (s : State) :
    KeepsBut [.slot n, .passDue, .sent] s (forwardHead n k g s) := by
  have h3 : ∀ (e : InFlight) (t : State), KeepsBut [.slot n, .passDue, .sent] t (fillEntry n k e t) :=
    fun e t => (fillEntry_keeps ..).mono (by simp)
  have h4 : ∀ (f : LinkFrame) (t : State), KeepsBut [.slot n, .passDue, .sent] t (sendLink n f t) :=
    fun f t => (sendLink_keeps ..).mono (by simp)
  have h5 : ∀ (sp : Spindle) (t : State), KeepsBut [.slot n, .passDue, .sent] t (setSpindle n sp t) :=
    fun sp t => (setSpindle_keeps ..).mono (by simp)
  unfold forwardHead
  dsimp only
  split
  · exact KeepsBut.refl _ _
  · next q rest hq =>
    have h : ∀ f' e f, KeepsBut [.slot n, .passDue, .sent] s (sendLink n f (fillEntry n k e (modSlot n f' s))) :=
      fun f' e f => ((modSlot_keeps ..).mono (by simp)).trans ((h3 e _).trans (h4 f _))
    cases q.cls
    case spinUp => exact KeepsBut.ite ((h ..).trans (h5 ..)) (h ..)
    case spinDown => exact KeepsBut.ite ((h ..).trans (h5 ..)) (h ..)
    all_goals exact h ..

theorem refuseHead_keeps (n : SlotId) (s : State) :
    KeepsBut [.slot n, .responses, .admission, .passDue] s (refuseHead n s) := by
  unfold refuseHead; split
  · exact KeepsBut.refl _ _
  · exact (((modSlot_keeps ..).mono (by simp)).trans ((answerPart_keeps ..).mono (by simp))).trans
      ((withdrawHead_keeps ..).mono (by simp))

theorem requestHead_keeps (n : SlotId) (k : Fin 4) (c : CmdClass) (s : State) :
    KeepsBut [.slot n, .admission, .passDue] s (requestHead n k c s) := by
  unfold requestHead; split
  · exact KeepsBut.refl _ _
  · exact ((modSlot_keeps ..).mono (by simp)).trans ((joinAdmission_keeps ..).mono (by simp))

theorem considerHead_keeps (fuel : Nat) (n : SlotId) (s : State) :
    KeepsBut [.slot n, .responses, .admission, .passDue, .sent] s (considerHead fuel n s) := by
  induction fuel generalizing s with
  | zero => exact KeepsBut.refl _ _
  | succ fuel ih =>
    unfold considerHead
    dsimp only
    split
    · exact KeepsBut.refl _ _
    · split
      · exact KeepsBut.refl _ _
      · split
        · exact KeepsBut.refl _ _
        · exact ((refuseHead_keeps ..).mono (by simp)).trans (ih _)
        · exact ((forwardHead_keeps ..).mono (by simp)).trans (ih _)
        · exact (requestHead_keeps ..).mono (by simp)
        · exact KeepsBut.refl _ _
        · exact KeepsBut.refl _ _

theorem serveSlot_keeps (n : SlotId) (s : State) :
    KeepsBut [.slot n, .responses, .admission, .passDue, .sent] s (serveSlot n s) :=
  ((serveInjections_keeps ..).mono (by simp)).trans (considerHead_keeps ..)

theorem foldl_keeps {α : Type} {ch : List Group} (f : State → α → State) (h : ∀ s a, KeepsBut ch s (f s a)) (l : List α) (s : State) :
    KeepsBut ch s (l.foldl f s) := by
  induction l generalizing s with
  | nil => exact KeepsBut.refl _ _
  | cons a l ih => exact (h s a).trans (ih _)

theorem answerQueue_keeps (n : SlotId) (c : PartCode) (s : State) :
    KeepsBut [.slot n, .responses] s (answerQueue n c s) := by
  have h := foldl_keeps (ch := [.responses]) (fun s (q : QueuedCmd) => answerPart q.source n q.tag c s)
    (fun _ _ => answerPart_keeps ..) (s.slot n).traffic.queue s
  unfold answerQueue
  exact (h.mono (ch' := [.slot n, .responses]) (by simp)).trans ((modSlot_keeps ..).mono (by simp))

theorem answerInFlight_keeps (n : SlotId) (c : PartCode) (s : State) : KeepsBut [.responses] s (answerInFlight n c s) := by
  refine foldl_keeps _ (fun s e => ?_) _ _
  split
  · exact KeepsBut.refl _ _
  · exact answerPart_keeps ..

theorem powerOff_keeps (n : SlotId) (s : State) : KeepsBut [.slot n, .passDue] s (powerOff n s) :=
  ((modSlot_keeps ..).mono (by simp)).trans (setAllocation_keeps ..)

theorem startRundown_keeps (n : SlotId) (s : State) : KeepsBut [.slot n] s (startRundown n s) := modSlot_keeps ..

theorem spinDownEnd_keeps (n : SlotId) (s : State) : KeepsBut [.slot n, .passDue] s (spinDownEnd n s) :=
  (((modSlot_keeps ..).mono (by simp)).trans (powerOff_keeps ..)).trans ((startRundown_keeps ..).mono (by simp))

theorem injectParking_keeps (n : SlotId) (s : State) : KeepsBut [.slot n] s (injectParking n s) := by
  unfold injectParking; split
  · exact KeepsBut.refl _ _
  · exact inject_keeps ..

theorem enterParking_keeps (n : SlotId) (s : State) : KeepsBut [.slot n, .passDue, .sent] s (enterParking n s) := by
  unfold enterParking
  dsimp only
  have h0 : KeepsBut [.slot n, .passDue, .sent] s (setState n .parking s) := (setState_keeps ..).mono (by simp)
  have hp : ∀ t : State, KeepsBut [.slot n, .passDue, .sent] t (serveInjections n (injectParking n t)) :=
    fun t => ((injectParking_keeps ..).mono (by simp)).trans (serveInjections_keeps ..)
  split
  · exact h0.trans ((startRundown_keeps ..).mono (by simp))
  · have h1 := h0.trans ((modSlot_keeps n (fun x => { x with lines.park := some ((setState n .parking s).now + Config.parkMs) })
      (setState n .parking s)).mono (by simp))
    split
    · exact h1.trans ((spinDownEnd_keeps ..).mono (by simp))
    · exact h1.trans (hp _)
    · exact h1.trans (hp _)
    · split
      · exact h1
      · exact h1.trans (hp _)

theorem shedCheck_keeps (n : SlotId) (s : State) : KeepsBut [.slot n] s (shedCheck n s) := by
  unfold shedCheck
  dsimp only
  split
  · exact inject_keeps ..
  · exact KeepsBut.refl _ _

/-! ### Passes and the arbiter -/

theorem grant_keeps (e : AdmissionEntry) (a : Nat) (p : Option Nat) (s : State) :
    KeepsBut [.slot e.slot, .responses, .admission, .passDue, .sent] s (grant e a p s) := by
  unfold grant
  dsimp only
  have h0 : KeepsBut [.slot e.slot, .responses, .admission, .passDue, .sent] s
      { s with power.queue := s.power.queue.filter (·.slot != e.slot) } := by
    refine ⟨fun g hg => ?_⟩; cases g <;> simp_all [sameIn]; rfl
  have h1 := h0.trans ((setAllocation_keeps e.slot a _).mono (by simp))
  have hm : ∀ (f : Slot → Slot) (t : State), KeepsBut [.slot e.slot, .responses, .admission, .passDue, .sent] t (modSlot e.slot f t) :=
    fun f t => (modSlot_keeps ..).mono (by simp)
  have hs : ∀ (t : State), KeepsBut [.slot e.slot, .responses, .admission, .passDue, .sent] t (serveSlot e.slot t) :=
    fun t => serveSlot_keeps ..
  have hd : ∀ (r : Option Nat) (t : State),
      KeepsBut [.slot e.slot, .responses, .admission, .passDue, .sent] t (takeHeadGrant e.slot r t) := by
    intro r t
    unfold takeHeadGrant
    split
    · exact KeepsBut.refl _ _
    · dsimp only
      refine KeepsBut.trans ?_ (hs _)
      refine KeepsBut.trans ?_ ((forwardHead_keeps e.slot ..).mono (by simp))
      refine ((releaseReserved_keeps e.slot _).mono (by simp)).trans ?_
      split
      · exact KeepsBut.refl _ _
      · exact hm ..
  split
  · refine h1.trans ?_
    unfold takeSlotPower
    exact ((((modSlot_keeps ..).mono (by simp)).trans ((inject_keeps ..).mono (by simp))).trans
      ((setState_keeps ..).mono (by simp))).trans ((serveInjections_keeps ..).mono (by simp))
  · exact h1.trans (hd ..)
  · exact h1.trans (hd ..)
  · refine h1.trans ?_
    exact ((hm _ _).trans ((inject_keeps ..).mono (by simp))).trans (hs _)

theorem grantGroups_slots {n : SlotId} {s t : State} (h : KeepsBut [.slot n, .responses, .admission, .passDue, .sent] s t) :
    KeepsButSlots [.responses, .admission, .passDue, .sent] s t := h.slots

theorem passLoop_keeps (l missed : List SlotId) (s : State) :
    KeepsButSlots [.responses, .admission, .passDue, .sent] s (passLoop l missed s) := by
  have hq : ∀ (f : AdmissionEntry → AdmissionEntry) (t : State), KeepsButSlots [.responses, .admission, .passDue, .sent] t
      { t with power.queue := t.power.queue.map f } := by
    intro f t; refine ⟨fun g hg hn => ?_⟩; cases g <;> simp_all [sameIn]
  induction l generalizing missed s with
  | nil => exact KeepsButSlots.refl _ _
  | cons n l ih =>
    unfold passLoop
    split
    · exact ih ..
    · next e he =>
      split
      · exact KeepsButSlots.refl _ _
      · split
        · exact (hq _ _).trans (ih ..)
        · split
          · exact ((hq _ _).trans (grant_keeps ..).slots).trans (ih ..)
          · exact ih ..

theorem runPasses_keeps (fuel : Nat) (s : State) : KeepsButSlots [.responses, .admission, .passDue, .sent] s (runPasses fuel s) := by
  induction fuel generalizing s with
  | zero => exact KeepsButSlots.refl _ _
  | succ fuel ih =>
    unfold runPasses
    split
    · refine KeepsButSlots.trans ?_ (ih _)
      have h0 : KeepsButSlots [.responses, .admission, .passDue, .sent] s { s with power.passDue := false } := by
        refine ⟨fun g hg hn => ?_⟩; cases g <;> simp_all [sameIn]
      unfold runPass
      split
      · exact h0
      · exact h0.trans (passLoop_keeps ..)
    · exact KeepsButSlots.refl _ _

/-- A pass gives power and forwards commands; everything outside the slots but the responses, the admission queue and
the slot links stays. -/
theorem settlePasses_keeps (s : State) : KeepsButSlots [.responses, .admission, .passDue, .sent] s (settlePasses s) :=
  runPasses_keeps ..

theorem setNoticeState_keeps (src : Source) (st : NoticeState) (s : State) :
    KeepsButSlots [.noticeQueue] s (setNoticeState src st s) := by
  cases src with
  | part => exact ⟨fun g hg _ => (setNoticeState_part_keeps st s).same g hg⟩
  | slot n => exact (setNoticeState_slot_keeps n st s).slots.mono (by simp)

theorem noticeLeft_keeps (s : State) : KeepsBut [.partSet, .noticeQueue] s (noticeLeft s) := by
  unfold noticeLeft; split
  · exact joinPart_keeps ..
  · exact KeepsBut.refl _ _

theorem sendNotice_keeps (src : Source) (rest : List Source) (s : State) :
    KeepsButSlots [.transmitter, .partSet, .noticeQueue] s (sendNotice src rest s) := by
  unfold sendNotice
  have h0 : KeepsButSlots [.transmitter, .partSet, .noticeQueue] s { s with notices := { s.notices with queue := rest } } := by
    refine ⟨fun g hg hn => ?_⟩; cases g <;> simp_all [sameIn]
  have h1 : ∀ (f : RackFrame) (t : State), KeepsButSlots [.transmitter, .partSet, .noticeQueue] t (transmit f t) := by
    intro f t; refine ⟨fun g hg hn => ?_⟩; cases g <;> simp_all [sameIn]
  refine KeepsButSlots.trans ((h0.trans (h1 (noticeFrame { s with notices := { s.notices with queue := rest } } src) _)).trans
    ((setNoticeState_keeps src .announced _).mono (by simp))) ?_
  exact ⟨fun g hg _ => ((noticeLeft_keeps _).mono (ch' := [.transmitter, .partSet, .noticeQueue]) (by simp)).same g hg⟩

/-- The arbiter touches the lists it serves, the transmitter and the notices. -/
theorem arbitrate_keeps (s : State) :
    KeepsButSlots [.replies, .responses, .stream, .transmitter, .partSet, .noticeQueue] s (arbitrate s) := by
  unfold arbitrate
  split
  · exact KeepsButSlots.refl _ _
  · split
    · refine ⟨fun g hg hn => ?_⟩; cases g <;> simp_all [sameIn]
    · split
      · exact KeepsButSlots.refl _ _
      · split
        · exact (sendNotice_keeps ..).mono (by simp)
        · split
          · refine ⟨fun g hg hn => ?_⟩; cases g <;> simp_all [sameIn]
          · split
            · refine ⟨fun g hg hn => ?_⟩; cases g <;> simp_all [sameIn]
            · exact KeepsButSlots.refl _ _

/-- What the end of a step leaves: everything outside the slots but the lists of the Port, the admission queue, the
slot links and the notices. -/
theorem finish_keeps (s : State) :
    KeepsButSlots
      [.replies, .responses, .stream, .transmitter, .admission, .passDue, .sent, .partSet, .noticeQueue] s (finish s) :=
  ((settlePasses_keeps s).mono (by simp)).trans ((arbitrate_keeps _).mono (by simp))

end Sys2Proof.Machine
end

