-- ==== Sys2Proof/Laws/Slots.lean ====
section
/-! SUPPORT. What each operation of the Slot Engine leaves of its slot's record, and what the injection list can do. -/

namespace Sys2Proof.Machine

theorem slotKeeps_of_eq {ch : List SlotGroup} {x y : Slot} (h : y = x) : SlotKeepsBut ch x y := h ▸ SlotKeepsBut.refl _ _

theorem modSlot_slot {n : SlotId} {f : Slot → Slot} {s : State} {ch : List SlotGroup}
    (h : SlotKeepsBut ch (s.slot n) (f (s.slot n))) : SlotKeepsBut ch (s.slot n) ((modSlot n f s).slot n) := by
  rwa [slot_modSlot_same]

@[simp] theorem sendLink_slots (n : SlotId) (f : LinkFrame) (s : State) : (sendLink n f s).slots = s.slots := rfl

/-- Another slot is untouched by whatever keeps every slot but one. -/
theorem KeepsBut.slot_keeps {ch : List Group} {s t : State} {m : SlotId} (h : KeepsBut ch s t) (hm : Group.slot m ∉ ch)
    (c : List SlotGroup) : SlotKeepsBut c (s.slot m) (t.slot m) := slotKeeps_of_eq (h.slot_eq hm)

theorem setAllocation_slot (n : SlotId) (a : Nat) (s : State) :
    SlotKeepsBut [.allocation] (s.slot n) ((setAllocation n a s).slot n) := by
  rw [setAllocation_slot_same]; refine ⟨fun g hg => ?_⟩; cases g <;> simp_all [slotSameIn]

theorem lowerAllocation_slot (n : SlotId) (s : State) :
    SlotKeepsBut [.allocation] (s.slot n) ((lowerAllocation n s).slot n) := setAllocation_slot ..

/-- All that following the state figure does to the slot's record (R67). -/
theorem followFigure_slot_same (n : SlotId) (f : Slot → Slot) (s : State) :
    (followFigure n f s).slot n =
      if figureParts (modSlot n f s) (f (s.slot n)) = figureParts s (s.slot n) then f (s.slot n)
      else
        { f (s.slot n) with
          power := { (f (s.slot n)).power with
            allocation := min (stateFigure (modSlot n f s) (f (s.slot n))) (f (s.slot n)).power.allocation } } := by
  unfold followFigure
  dsimp only
  rw [slot_modSlot_same]
  split
  · exact slot_modSlot_same ..
  · rw [lowerAllocation, setAllocation_slot_same, slot_modSlot_same]

theorem followFigure_slot {n : SlotId} {f : Slot → Slot} {s : State} {ch : List SlotGroup}
    (h : SlotKeepsBut ch (s.slot n) (f (s.slot n))) (ha : .allocation ∈ ch) :
    SlotKeepsBut ch (s.slot n) ((followFigure n f s).slot n) := by
  unfold followFigure
  dsimp only
  split
  · exact modSlot_slot h
  · exact SlotKeepsBut.trans (modSlot_slot h) ((lowerAllocation_slot ..).mono (by simpa using ha))

theorem fillEntry_slot (n : SlotId) (k : Fin 4) (e : InFlight) (s : State) :
    SlotKeepsBut [.inFlight] (s.slot n) ((fillEntry n k e s).slot n) := by
  refine modSlot_slot ⟨fun g hg => ?_⟩; cases g <;> simp_all [slotSameIn]

theorem retireEntry_slot (n : SlotId) (k : Fin 4) (s : State) :
    SlotKeepsBut [.inFlight, .allocation] (s.slot n) ((retireEntry n k s).slot n) := by
  refine followFigure_slot ⟨fun g hg => ?_⟩ (by simp)
  cases g <;> simp_all [slotSameIn]

theorem clearTable_slot (n : SlotId) (s : State) :
    SlotKeepsBut [.inFlight, .allocation] (s.slot n) ((clearTable n s).slot n) := by
  refine followFigure_slot ⟨fun g hg => ?_⟩ (by simp)
  cases g <;> simp_all [slotSameIn]

/-- A spindle state set without leaving SPINNING_UP changes the spindle and the allocation. -/
theorem setSpindle_slot (n : SlotId) (sp : Spindle) (s : State)
    (h : (s.slot n).power.spindle ≠ .spinningUp ∨ sp = .spinningUp) :
    SlotKeepsBut [.spindle, .allocation] (s.slot n) ((setSpindle n sp s).slot n) := by
  refine followFigure_slot ?_ (by simp)
  have h' : ((s.slot n).power.spindle == .spinningUp && sp != .spinningUp) = false := by
    rcases h with h | h <;> simp [h]
  dsimp only
  rw [h']
  refine ⟨fun g hg => ?_⟩; cases g <;> simp_all [slotSameIn]

/-- Leaving SPINNING_UP, the pending effective peaks may take effect (R53). -/
theorem setSpindle_slot_leaving (n : SlotId) (sp : Spindle) (s : State) :
    SlotKeepsBut [.spindle, .allocation, .identity] (s.slot n) ((setSpindle n sp s).slot n) := by
  refine followFigure_slot ?_ (by simp)
  dsimp only [applyPending]
  refine ⟨fun g hg => ?_⟩
  split
  · split <;> cases g <;> simp_all [slotSameIn]
  · cases g <;> simp_all [slotSameIn]

theorem inject_slot (n : SlotId) (i : Injection) (s : State) :
    SlotKeepsBut [.injections] (s.slot n) ((inject n i s).slot n) := by
  refine modSlot_slot ⟨fun g hg => ?_⟩; cases g <;> simp_all [slotSameIn]

theorem unlist_slot (n : SlotId) (c : CmdClass) (s : State) :
    SlotKeepsBut [.injections] (s.slot n) ((unlist n c s).slot n) := by
  refine modSlot_slot ⟨fun g hg => ?_⟩; cases g <;> simp_all [slotSameIn]

theorem releaseReserved_slot (n : SlotId) (s : State) :
    SlotKeepsBut [.reserved] (s.slot n) ((releaseReserved n s).slot n) := by
  refine modSlot_slot ⟨fun g hg => ?_⟩; cases g <;> simp_all [slotSameIn]

theorem withdrawHead_slot (n : SlotId) (s : State) :
    SlotKeepsBut [.reserved] (s.slot n) ((withdrawHead n s).slot n) := by
  unfold withdrawHead
  split
  · have h : (leaveAdmission n s).slot n = s.slot n := (leaveAdmission_keeps n s).slot_eq (by simp)
    rw [← h]; exact releaseReserved_slot ..
  · exact releaseReserved_slot ..

theorem dropAdmission_slot (n : SlotId) (s : State) :
    SlotKeepsBut [.reserved] (s.slot n) ((dropAdmission n s).slot n) := by
  have h : (leaveAdmission n s).slot n = s.slot n := (leaveAdmission_keeps n s).slot_eq (by simp)
  rw [← h]; exact releaseReserved_slot ..

/-- A held grant that lapses (R80). -/
theorem lapseHeld_slot (n : SlotId) (s : State) :
    SlotKeepsBut [.injections, .spindle, .allocation, .identity] (s.slot n) ((lapseHeld n s).slot n) := by
  unfold lapseHeld
  split
  · exact SlotKeepsBut.refl _ _
  · refine SlotKeepsBut.trans ((unlist_slot ..).mono (by simp)) (followFigure_slot ?_ (by simp))
    dsimp only [applyPending]
    refine ⟨fun g hg => ?_⟩
    split <;> cases g <;> simp_all [slotSameIn]

@[simp] theorem fillEntry_slot_power (n : SlotId) (k : Fin 4) (e : InFlight) (s : State) :
    ((fillEntry n k e s).slot n).power = (s.slot n).power := by simp [fillEntry]

/-- The groups that a command sent on the link changes of its slot. -/
abbrev sendGroups : List SlotGroup := [.injections, .spindle, .inFlight, .allocation]

theorem sendInjection_slot (n : SlotId) (k : Fin 4) (i : Injection) (s : State) :
    SlotKeepsBut sendGroups (s.slot n) ((sendInjection n k i s).slot n) := by
  have h1 : SlotKeepsBut sendGroups (s.slot n) ((unlist n i.cls s).slot n) := (unlist_slot ..).mono (by simp)
  have h2 : ∀ t : State, SlotKeepsBut sendGroups (t.slot n)
      ((if i.cls = .spinUp then modSlot n takeHeld t else t).slot n) := by
    intro t; split
    · refine modSlot_slot ⟨fun g hg => ?_⟩; cases g <;> simp_all [slotSameIn, takeHeld]
    · exact SlotKeepsBut.refl _ _
  have h := h1.trans (h2 _)
  generalize ht : (if i.cls = .spinUp then modSlot n takeHeld (unlist n i.cls s) else unlist n i.cls s) = t at h
  have h3 : ∀ (e : InFlight) (f : LinkFrame), SlotKeepsBut sendGroups (s.slot n) ((sendLink n f (fillEntry n k e t)).slot n) :=
    fun e f => h.trans ((fillEntry_slot n k e t).mono (by simp))
  have h4 : ∀ (e : InFlight) (f : LinkFrame),
      ((sendLink n f (fillEntry n k e t)).slot n).power.spindle = (t.slot n).power.spindle :=
    fun e f => by rw [show (sendLink n f (fillEntry n k e t)).slot n = (fillEntry n k e t).slot n from rfl, fillEntry_slot_power]
  unfold sendInjection
  dsimp only
  rw [ht]
  cases hc : i.cls
  case spinUp => exact (h3 ..).trans ((setSpindle_slot _ _ _ (Or.inr rfl)).mono (by simp))
  case spinDown =>
    dsimp only
    split
    · next hd => exact (h3 ..).trans ((setSpindle_slot _ _ _ (Or.inl (by rw [h4, hd]; simp))).mono (by simp))
    · exact h3 ..
  all_goals exact h3 ..

theorem serveInjections_slot (n : SlotId) (s : State) :
    SlotKeepsBut [.injections, .spindle, .inFlight, .allocation] (s.slot n) ((serveInjections n s).slot n) := by
  unfold serveInjections
  dsimp only
  split
  · exact SlotKeepsBut.refl _ _
  · split
    · split
      · exact SlotKeepsBut.refl _ _
      · exact sendInjection_slot ..
    · exact SlotKeepsBut.refl _ _

theorem forwardHead_slot (n : SlotId) (k : Fin 4) (g : Bool) (s : State) :
    SlotKeepsBut [.queue, .lastForward, .spindle, .inFlight, .allocation] (s.slot n) ((forwardHead n k g s).slot n) := by
  unfold forwardHead
  dsimp only
  split
  · exact SlotKeepsBut.refl _ _
  · next q rest hq =>
    have h1 : SlotKeepsBut [.queue, .lastForward, .spindle, .inFlight, .allocation] (s.slot n)
        ((modSlot n (fun x => { x with traffic.queue := rest, drift.lastForward := s.now }) s).slot n) := by
      refine modSlot_slot ⟨fun g hg => ?_⟩; cases g <;> simp_all [slotSameIn]
    have hp : ((modSlot n (fun x => { x with traffic.queue := rest, drift.lastForward := s.now }) s).slot n).power.spindle
        = (s.slot n).power.spindle := by simp
    generalize (modSlot n (fun x => { x with traffic.queue := rest, drift.lastForward := s.now }) s) = t at *
    have h3 : ∀ (e : InFlight) (f : LinkFrame),
        SlotKeepsBut [.queue, .lastForward, .spindle, .inFlight, .allocation] (s.slot n) ((sendLink n f (fillEntry n k e t)).slot n) :=
      fun e f => h1.trans ((fillEntry_slot n k e t).mono (by simp))
    have h4 : ∀ (e : InFlight) (f : LinkFrame),
        ((sendLink n f (fillEntry n k e t)).slot n).power.spindle = (s.slot n).power.spindle :=
      fun e f => by
        rw [show (sendLink n f (fillEntry n k e t)).slot n = (fillEntry n k e t).slot n from rfl, fillEntry_slot_power, hp]
    cases hc : q.cls <;> dsimp only
    case spinUp =>
      split
      · exact (h3 ..).trans ((setSpindle_slot _ _ _ (Or.inr rfl)).mono (by simp))
      · exact h3 ..
    case spinDown =>
      split
      · next hd => exact (h3 ..).trans ((setSpindle_slot _ _ _ (Or.inl (by rw [h4, hd]; simp))).mono (by simp))
      · exact h3 ..
    all_goals exact h3 ..

theorem refuseHead_slot (n : SlotId) (s : State) :
    SlotKeepsBut [.queue, .reserved] (s.slot n) ((refuseHead n s).slot n) := by
  unfold refuseHead
  split
  · exact SlotKeepsBut.refl _ _
  · next q rest hq =>
    have h1 : SlotKeepsBut [.queue, .reserved] (s.slot n)
        ((modSlot n (fun x => { x with traffic.queue := rest }) s).slot n) := by
      refine modSlot_slot ⟨fun g hg => ?_⟩; cases g <;> simp_all [slotSameIn]
    have h2 := withdrawHead_slot n (answerPart q.source n q.tag .spindleStopped
      (modSlot n (fun x => { x with traffic.queue := rest }) s))
    exact h1.trans (h2.mono (by simp))

theorem requestHead_slot (n : SlotId) (k : Fin 4) (c : CmdClass) (s : State) :
    SlotKeepsBut [.reserved] (s.slot n) ((requestHead n k c s).slot n) := by
  unfold requestHead
  split
  · exact SlotKeepsBut.refl _ _
  · have h := (joinAdmission_keeps n (if c = .heavy then .heavy else .spinUp) .server
      (modSlot n (fun x => { x with traffic.reserved := some k }) s)).slot_eq (m := n) (by simp)
    rw [h]
    refine modSlot_slot ⟨fun g hg => ?_⟩; cases g <;> simp_all [slotSameIn]

theorem considerHead_slot (fuel : Nat) (n : SlotId) (s : State) :
    SlotKeepsBut [.queue, .lastForward, .spindle, .inFlight, .allocation, .reserved] (s.slot n)
      ((considerHead fuel n s).slot n) := by
  induction fuel generalizing s with
  | zero => exact SlotKeepsBut.refl _ _
  | succ fuel ih =>
    unfold considerHead
    dsimp only
    split
    · exact SlotKeepsBut.refl _ _
    · split
      · exact SlotKeepsBut.refl _ _
      · split
        · exact SlotKeepsBut.refl _ _
        · exact ((refuseHead_slot ..).mono (by simp)).trans (ih _)
        · exact ((forwardHead_slot ..).mono (by simp)).trans (ih _)
        · exact (requestHead_slot ..).mono (by simp)
        · exact SlotKeepsBut.refl _ _
        · exact SlotKeepsBut.refl _ _

/-- What serving a slot changes of it: its queues, table and injection list, the spindle with the allocation, and the
last forward time. -/
theorem serveSlot_slot (n : SlotId) (s : State) :
    SlotKeepsBut [.queue, .lastForward, .spindle, .inFlight, .allocation, .reserved, .injections] (s.slot n)
      ((serveSlot n s).slot n) :=
  ((serveInjections_slot ..).mono (by simp)).trans ((considerHead_slot ..).mono (by simp))

theorem startRundown_slot (n : SlotId) (s : State) :
    SlotKeepsBut [.rundown] (s.slot n) ((startRundown n s).slot n) := by
  refine modSlot_slot ⟨fun g hg => ?_⟩; cases g <;> simp_all [slotSameIn]

/-- The groups that a grant may change of the slot it serves. -/
abbrev grantGroups : List SlotGroup :=
  [.state, .power, .rundown, .lamps, .allocation, .spindle, .queue, .reserved, .inFlight, .injections, .lastForward]

theorem takeSlotPower_slot (n : SlotId) (r : Nat) (s : State) :
    SlotKeepsBut grantGroups (s.slot n) ((takeSlotPower n r s).slot n) := by
  have h1 : SlotKeepsBut grantGroups (s.slot n)
      ((modSlot n (fun x => { x with lines := { x.lines with powered := true, rundown := .stopped }, power.reserveGranted := r }) s).slot n) := by
    refine modSlot_slot ⟨fun g hg => ?_⟩; cases g <;> simp_all [slotSameIn]
  unfold takeSlotPower
  generalize (modSlot n (fun x => { x with lines := { x.lines with powered := true, rundown := .stopped }, power.reserveGranted := r }) s) = t at *
  have h2 := (inject_slot n (bareInjection .identify) t).mono (ch' := grantGroups) (by simp)
  have h3 := (setState_slot n .identifying (inject n (bareInjection .identify) t)).mono (ch' := grantGroups) (by simp)
  exact ((h1.trans h2).trans h3).trans ((serveInjections_slot ..).mono (by simp))

theorem takeHeadGrant_slot (n : SlotId) (p : Option Nat) (s : State) :
    SlotKeepsBut grantGroups (s.slot n) ((takeHeadGrant n p s).slot n) := by
  unfold takeHeadGrant
  split
  · exact SlotKeepsBut.refl _ _
  · next k hk =>
    have h1 := (releaseReserved_slot n s).mono (ch' := grantGroups) (by simp)
    generalize releaseReserved n s = t at *
    have h3 : ∀ u, SlotKeepsBut grantGroups (s.slot n) (u.slot n) →
        SlotKeepsBut grantGroups (s.slot n) ((serveSlot n (forwardHead n k true u)).slot n) := fun u hu =>
      (hu.trans ((forwardHead_slot n k true u).mono (by simp))).trans ((serveSlot_slot ..).mono (by simp))
    cases p with
    | none => exact h3 _ h1
    | some p =>
      refine h3 _ (h1.trans (modSlot_slot (f := fun x => { x with power.chosen := some p }) ⟨fun g hg => ?_⟩))
      cases g <;> simp_all [slotSameIn]

theorem takeHeldGrant_slot (n : SlotId) (p : Option Nat) (s : State) :
    SlotKeepsBut grantGroups (s.slot n) ((takeHeldGrant n p s).slot n) := by
  have h1 : SlotKeepsBut grantGroups (s.slot n) ((modSlot n (fun x => { x with power.held := p }) s).slot n) := by
    refine modSlot_slot ⟨fun g hg => ?_⟩; cases g <;> simp_all [slotSameIn]
  unfold takeHeldGrant
  generalize modSlot n (fun x => { x with power.held := p }) s = t at *
  have h2 := (inject_slot n (bareInjection .spinUp) t).mono (ch' := grantGroups) (by simp)
  exact (h1.trans h2).trans ((serveSlot_slot ..).mono (by simp))

theorem grant_slot (e : AdmissionEntry) (a : Nat) (p : Option Nat) (s : State) :
    SlotKeepsBut grantGroups (s.slot e.slot) ((grant e a p s).slot e.slot) := by
  have h1 : SlotKeepsBut grantGroups (s.slot e.slot)
      ((setAllocation e.slot a { s with power.queue := s.power.queue.filter (·.slot != e.slot) }).slot e.slot) :=
    (setAllocation_slot e.slot a { s with power.queue := s.power.queue.filter (·.slot != e.slot) }).mono (by simp)
  unfold grant
  dsimp only
  generalize setAllocation e.slot a { s with power.queue := s.power.queue.filter (·.slot != e.slot) } = t at *
  split
  · exact h1.trans (takeSlotPower_slot ..)
  · exact h1.trans (takeHeadGrant_slot ..)
  · exact h1.trans (takeHeadGrant_slot ..)
  · exact h1.trans (takeHeldGrant_slot ..)

theorem grant_slots (e : AdmissionEntry) (a : Nat) (p : Option Nat) (s : State) (m : SlotId) :
    SlotKeepsBut grantGroups (s.slot m) ((grant e a p s).slot m) := by
  by_cases h : m = e.slot
  · subst h; exact grant_slot ..
  · exact (grant_keeps ..).slot_keeps (by simp [h]) _

theorem passLoop_slots (l missed : List SlotId) (s : State) (m : SlotId) :
    SlotKeepsBut grantGroups (s.slot m) ((passLoop l missed s).slot m) := by
  induction l generalizing missed s with
  | nil => exact SlotKeepsBut.refl _ _
  | cons n l ih =>
    unfold passLoop
    split
    · exact ih ..
    · next e he =>
      split
      · exact SlotKeepsBut.refl _ _
      · split
        · exact ih missed (resetSkips n s)
        · split
          · next a p hp => exact (grant_slots e a p (bumpSkips missed s) m).trans (ih ..)
          · exact ih ..

theorem runPasses_slots (fuel : Nat) (s : State) (m : SlotId) :
    SlotKeepsBut grantGroups (s.slot m) ((runPasses fuel s).slot m) := by
  induction fuel generalizing s with
  | zero => exact SlotKeepsBut.refl _ _
  | succ fuel ih =>
    unfold runPasses
    split
    · refine SlotKeepsBut.trans ?_ (ih _)
      unfold runPass
      split
      · exact SlotKeepsBut.refl _ _
      · exact passLoop_slots _ _ { s with power.passDue := false } m
    · exact SlotKeepsBut.refl _ _

theorem setNoticeState_slot (src : Source) (st : NoticeState) (s : State) (m : SlotId) :
    SlotKeepsBut [.notice] (s.slot m) ((setNoticeState src st s).slot m) := by
  cases src with
  | part => exact SlotKeepsBut.refl _ _
  | slot n =>
    by_cases h : m = n
    · subst h
      refine modSlot_slot (f := fun x => { x with notice := st }) ⟨fun g hg => ?_⟩
      cases g <;> simp_all [slotSameIn]
    · exact (setNoticeState_slot_keeps n st s).slot_keeps (by simp [h]) _

/-- What the arbiter leaves of a slot: everything but its notice state. -/
theorem arbitrate_slots (s : State) (m : SlotId) : SlotKeepsBut [.notice] (s.slot m) ((arbitrate s).slot m) := by
  unfold arbitrate
  split
  · exact SlotKeepsBut.refl _ _
  · split
    · exact SlotKeepsBut.refl _ _
    · split
      · exact SlotKeepsBut.refl _ _
      · split
        · next src rest h =>
          unfold sendNotice
          dsimp only
          rw [(noticeLeft_keeps _).slot_eq (m := m) (by simp)]
          exact setNoticeState_slot src .announced (transmit (noticeFrame { s with notices := { s.notices with queue := rest } } src)
            { s with notices := { s.notices with queue := rest } }) m
        · split
          · exact SlotKeepsBut.refl _ _
          · split <;> exact SlotKeepsBut.refl _ _

/-- What the end of a step leaves of a slot. -/
theorem finish_slots (s : State) (m : SlotId) :
    SlotKeepsBut (.notice :: grantGroups) (s.slot m) ((finish s).slot m) :=
  ((runPasses_slots ..).mono (by simp)).trans ((arbitrate_slots ..).mono (by simp))

/-! ### What the injection list can do, once -/

/-- Serving the injection list sends its head, or does nothing (R28). -/
theorem serveInjections_cases (n : SlotId) (s : State) :
    (serveInjections n s = s
        ∧ ((s.slot n).traffic.injections = [] ∨ (s.slot n).lines.powered = false ∨ (s.slot n).partInFlight = true
            ∨ (s.slot n).freeEntry = none))
      ∨ ∃ i rest k, (s.slot n).traffic.injections = i :: rest ∧ (s.slot n).lines.powered = true
          ∧ (s.slot n).partInFlight = false ∧ (s.slot n).freeEntry = some k ∧ serveInjections n s = sendInjection n k i s := by
  unfold serveInjections
  dsimp only
  split
  · next h => exact .inl ⟨rfl, .inl h⟩
  · next i rest h =>
    split
    · next hp =>
      simp only [Bool.and_eq_true, Bool.not_eq_true'] at hp
      split
      · next hf => exact .inl ⟨rfl, .inr (.inr (.inr hf))⟩
      · next k hf => exact .inr ⟨i, rest, k, h, hp.1, hp.2, hf, rfl⟩
    · next hp =>
      refine .inl ⟨rfl, .inr ?_⟩
      cases hl : (s.slot n).lines.powered <;> simp_all

/-- Into an empty list a command goes as it is (R28). -/
theorem inject_injections_empty {n : SlotId} {s : State} (h : (s.slot n).traffic.injections = []) (i : Injection) :
    ((inject n i s).slot n).traffic.injections = [i] := by
  simp [inject, h]

/-- Beside a command of another class, one joins the tail (R28). -/
theorem inject_injections_other {n : SlotId} {s : State} {j : Injection} (h : (s.slot n).traffic.injections = [j])
    {i : Injection} (hi : j.cls ≠ i.cls) : ((inject n i s).slot n).traffic.injections = [j, i] := by
  simp [inject, h, hi]

/-- The refill after a recovery, of an empty list (R45). -/
theorem refillInjections_injections {n : SlotId} {s : State} (h : (s.slot n).traffic.injections = []) :
    ((refillInjections n s).slot n).traffic.injections
      = (if (s.slot n).state = .identifying then [bareInjection .identify] else [])
          ++ match (s.slot n).power.spindle with
            | .spinningDown => [{ bareInjection .spinDown with recovery := true }]
            | .spinningUp => [{ bareInjection .spinDown with orphan := true }]
            | .stopped | .spinning => [] := by
  unfold refillInjections injectOrphan
  by_cases hs : (s.slot n).state = .identifying
  · have hi := inject_injections_empty h (bareInjection .identify)
    have hp : ((inject n (bareInjection .identify) s).slot n).power = (s.slot n).power := by simp [inject]
    simp only [hs, if_true, hp]
    cases (s.slot n).power.spindle
    · exact hi
    · exact inject_injections_other hi (by decide)
    · exact hi
    · exact inject_injections_other hi (by decide)
  · simp only [hs, if_false]
    cases (s.slot n).power.spindle <;> simp [h, inject_injections_empty h]

theorem refillInjections_keeps (n : SlotId) (s : State) : KeepsBut [.slot n] s (refillInjections n s) := by
  have h : KeepsBut [.slot n] s (if (s.slot n).state = .identifying then inject n (bareInjection .identify) s else s) := by
    split
    · exact inject_keeps ..
    · exact KeepsBut.refl _ _
  unfold refillInjections
  dsimp only
  split
  · exact h.trans (inject_keeps ..)
  · exact h.trans (inject_keeps ..)
  · exact h
  · exact h

theorem refillInjections_slot (n : SlotId) (s : State) :
    SlotKeepsBut [.injections] (s.slot n) ((refillInjections n s).slot n) := by
  have h : SlotKeepsBut [.injections] (s.slot n)
      ((if (s.slot n).state = .identifying then inject n (bareInjection .identify) s else s).slot n) := by
    split
    · exact inject_slot ..
    · exact SlotKeepsBut.refl _ _
  unfold refillInjections
  dsimp only
  split
  · exact h.trans (inject_slot ..)
  · exact h.trans (inject_slot ..)
  · exact h
  · exact h

/-- The shed check lists SPIN_DOWN where the shed condition holds, and does nothing elsewhere (R88). -/
theorem shedCheck_cases (n : SlotId) (s : State) :
    (s.power.supply ≠ .normal ∧ (s.slot n).lines.powered = true ∧ (s.slot n).state ≠ .recovering
        ∧ (s.slot n).power.spindle = .spinning ∧ shedCheck n s = inject n { bareInjection .spinDown with shed := true } s)
      ∨ ((s.power.supply = .normal ∨ (s.slot n).lines.powered = false ∨ (s.slot n).state = .recovering
          ∨ (s.slot n).power.spindle ≠ .spinning) ∧ shedCheck n s = s) := by
  unfold shedCheck
  dsimp only
  split
  · next h => exact .inl ⟨h.1, h.2.1, h.2.2.1, h.2.2.2, rfl⟩
  · next h =>
    refine .inr ⟨?_, rfl⟩
    cases hp : (s.slot n).lines.powered <;> simp_all
    tauto

/-! ### The computation of a capture -/

/-- A computation changes nothing of its slot's record but the identity (R52, R53). -/
theorem computeIdentity_slot (n : SlotId) (s : State) :
    SlotKeepsBut [.identity] (s.slot n) ((computeIdentity n s).slot n) := by
  refine modSlot_slot ⟨fun g hg => ?_⟩
  dsimp only
  split
  · exact (SlotKeepsBut.refl [] _).same g (by simp)
  · split <;> cases g <;> simp_all [slotSameIn]

/-- Outside GRADING a computation with its check is the computation alone, or the computation and a request that waits, where
every effective peak is above the target (R54; log entry 9). -/
theorem computeAndCheck_cases {n : SlotId} {s : State} (h : (s.slot n).state ≠ .grading) :
    let t := computeIdentity n s
    (powerMismatch t (t.slot n) = true ∧ computeAndCheck n s = sendQuarantine n .powerMismatch t)
      ∨ (powerMismatch t (t.slot n) = false ∧ computeAndCheck n s = t) := by
  have hs : ((computeIdentity n s).slot n).state ≠ .grading := by
    rw [show ((computeIdentity n s).slot n).state = (s.slot n).state from (computeIdentity_slot n s).same .state (by simp)]
    exact h
  cases hm : powerMismatch (computeIdentity n s) ((computeIdentity n s).slot n) <;>
    simp [computeAndCheck, checkMismatch, captureQuarantine, hm, hs]

/-- So outside GRADING it changes nothing of the slot's record but the identity, and a slot that may be rebound still may
(R57). -/
theorem computeAndCheck_slot {n : SlotId} {s : State} (h : (s.slot n).state ≠ .grading) :
    SlotKeepsBut [.identity] (s.slot n) ((computeAndCheck n s).slot n) := by
  obtain ⟨-, ht⟩ | ⟨-, ht⟩ := computeAndCheck_cases h <;> rw [ht]
  · exact computeIdentity_slot n s
  · exact computeIdentity_slot n s

end Sys2Proof.Machine
end

