-- ==== Sys2Proof/WellFormed.lean ====
section
/-! DEFINITION. Which commands can reach the part at all: a frame no longer than its format allows, and bytes
reported as a bad frame that do fail the check. Everything else is right by its type. DESIGN CHOICE (log entry 49): a frame
with a station byte above 63 or a payload above 1600 bytes, or a drive response with a tag above 31 or a payload above 512
bytes, cannot occur, though R196 names no such failure. -/

namespace Sys2Proof

/-- Can the command occur (station bytes, tags and longest payloads: DESIGN CHOICE, log entry 49; shortest: log entry 26). -/
def Instr.wellFormed : Instr → Bool
  | .rackFrameBad frame => Machine.rackFrameIsBad frame
  | .slotCmd dest source payload =>
    decide (5 ≤ payload.length) && decide (payload.length ≤ 1600) && decide (dest.toNat < 64)
      && decide (source.toNat < 64)
  | .requestReceived dest source payload =>
    decide (2 ≤ payload.length) && decide (payload.length ≤ 1600) && decide (dest.toNat < 64)
      && decide (source.toNat < 64)
  | .driveResponse _ tag _ _ payload _ => decide (tag.toNat < 32) && decide (payload.length ≤ 512)
  | .badFrame _ frame => !Machine.driveFramePasses frame
  | .powerOnReset .. | .presenceAssert _ | .presenceDeassert _ | .settleTimerExpiry _ | .removalCheckEnd _
  | .rundownTimerExpiry _ | .parkTimerExpiry _ | .supplyWarningAssert | .supplyWarningDeassert
  | .restoreDelayExpiry | .tick _ | .calibrationComplete _ | .discover | .readPartStatus | .readSettings
  | .writeSettings | .setBudget | .loadTableModel | .loadTableClassify | .loadTableDefect | .loadTableBin
  | .loadTableIndicator | .readTable | .saveConfig | .saveEraseDone | .saveWriteDone | .saveVerifyDone _
  | .flashError | .saveTimeout | .readSlot | .readFilter | .startTest | .endTest | .rebase | .quarantine
  | .recover | .rematch | .readManifest | .retireManifest | .cartSwap | .resetPart | .softReset
  | .linkReady _ | .driveReset _ | .lineBreak _ | .lineBreakEnd _ | .linkReadyWaitExpiry _
  | .classTimeoutExpiry _ _ | .quarantineRequest _ _ | .handOver _ | .transmitComplete
  | .unknownRequestKind => true

end Sys2Proof
end

