-- ==== Sys2Proof/Tests/Slice0.lean ====
section
/-! SUPPORT. Tests. The smoke tests of WellFormed; the worked examples of the spec's own text, each named in its comment;
and, for each statement with hypotheses, a theorem that shows states and operands that meet them, clause by clause at the
boundary values. -/

namespace Sys2Proof.Tests

open Sys2Proof Sys2Proof.Machine

set_option Elab.async false

/-! ### Small states -/

/-- The reset state with slot 0 changed. -/
def slot0 (f : Slot → Slot) : State := modSlot 0 f State.reset

/-- A server command in flight with tag 3. -/
def flying (cls : CmdClass) : InFlight := ⟨3, cls, .server, false, 0, 1000, some 5, false⟩

/-- The part's own IDENTIFY in flight. -/
def ownIdentify : InFlight := ⟨31, .identify, .part, false, 0, 1000, none, false⟩

/-- A frame of a slot command queue. -/
def waiting (cls : CmdClass) : QueuedCmd := ⟨3, cls, [], 5⟩

/-- Slot 0 powered in a state, with an in-flight table. -/
def powered (st : SlotState) (table : List (Option InFlight)) : State :=
  slot0 fun x =>
    { x with state := st, lines.powered := true
             traffic.inFlight := Vector.ofFn fun k : Fin 4 => (table[k.val]?).getD none }

/-- The reset state with one request queued, from station 1 with tag 7. -/
def asked (kind : Byte) (operands : Bytes) (s : State := State.reset) : State :=
  { s with port.requests := [⟨1, 7, kind, operands⟩] }

/-- The request that `asked` queues. -/
def request (kind : Byte) (operands : Bytes) : QueuedRequest := ⟨1, 7, kind, operands⟩

theorem asked_serves (kind : Byte) (operands : Bytes) : Serves (asked kind operands) (request kind operands) [] kind :=
  ⟨rfl, rfl, rfl⟩

/-- A text field: characters, then spaces. -/
def text (width : Nat) (s : String) : Bytes :=
  (s.toList.map fun c => BitVec.ofNat 8 c.toNat) ++ List.replicate (width - s.length) 0x20

/-- TEMP thresholds of 06, "a chamber step on TEMP". -/
def stepThresholds : ThresholdSet := ⟨2, 6, 15, 40, 5, 3, 4, 3, 600, 0, 3, 30, 1⟩

/-- The model entry of index 3 of 03, "capture and flags", with the penalties of 08, "a score and a bin". -/
def model3 : ModelEntry :=
  { valid := true, pattern := text 40 "VT-4000*", firmwareCount := 2
    firmwarePlaces := [text 8 "FW0217", text 8 "FW0219"], minCapacity := some 7800000000, standby := 350, run := 650
    heavyIncrement := 400, profileCount := 3, profilePlaces := [⟨2, 1600, 9⟩, ⟨1, 1200, 15⟩, ⟨0, 900, 28⟩, ⟨0, 0, 0⟩]
    rundownCode := 15, calibrationCount := 16, shockPenalty := 25, reseedPenalty := 100, binSet := 0
    temp := stepThresholds, curr := stepThresholds, vibe := { stepThresholds with ts := 200 }, defr := stepThresholds
    refCount := 0 }

/-- The identity block of 03, "capture and flags". -/
def block3 : Bytes :=
  [1] ++ text 40 "VT-4000SX" ++ text 20 "      ZK8813420057Q1" ++ text 8 "FW0218" ++ putNum 6 7814037168 ++ putNum 2 9
    ++ putNum 2 (0x8000 + 1400) ++ putNum 1 2 ++ [1, 0, 0, 0, 2, 0, 0, 0] ++ List.replicate 40 0

/-- The record of the block of 03, "capture and flags". -/
def record3 : IdentityRecord :=
  { model := text 40 "VT-4000SX", serial := text 20 "      ZK8813420057Q1", firmware := text 8 "FW0218"
    capacity := 7814037168, security := ⟨true, false, false, true, false⟩, power := some 1400, extensions := [1, 2]
    lastOutcome := .ack }

/-- The reset state with the model at index 3. -/
def withModel (s : State := State.reset) : State :=
  { s with tables := { s.tables with models := s.tables.models.set 3 model3 } }

/-! ### WellFormed: an ill-formed term for each check, which the check refuses -/

theorem test_wellFormed_good_rack_frame_refused :
    (Instr.rackFrameBad (rackFrameBytes ⟨3, 21, 1, [7, 1]⟩)).wellFormed = false := by decide +kernel
theorem test_wellFormed_bad_rack_frame : (Instr.rackFrameBad [1, 2, 3]).wellFormed = true := by decide +kernel
theorem test_wellFormed_slotCmd_short : (Instr.slotCmd 21 1 [0, 0, 0, 0]).wellFormed = false := by decide +kernel
theorem test_wellFormed_slotCmd_long :
    (Instr.slotCmd 21 1 (List.replicate 1601 0)).wellFormed = false := by decide +kernel
theorem test_wellFormed_slotCmd_dest : (Instr.slotCmd 64 1 [0, 0, 0, 1, 0, 0]).wellFormed = false := by decide +kernel
theorem test_wellFormed_slotCmd_source : (Instr.slotCmd 21 64 [0, 0, 0, 1, 0, 0]).wellFormed = false := by decide +kernel
theorem test_wellFormed_request_short : (Instr.requestReceived 21 1 [7]).wellFormed = false := by decide +kernel
theorem test_wellFormed_request_long :
    (Instr.requestReceived 21 1 (List.replicate 1601 0)).wellFormed = false := by decide +kernel
theorem test_wellFormed_request_dest : (Instr.requestReceived 64 1 [7, 1]).wellFormed = false := by decide +kernel
theorem test_wellFormed_request_source : (Instr.requestReceived 21 64 [7, 1]).wellFormed = false := by decide +kernel
theorem test_wellFormed_response_tag :
    (Instr.driveResponse 0 32 .good 0 [] ⟨0, 0, 0⟩).wellFormed = false := by decide +kernel
theorem test_wellFormed_response_length :
    (Instr.driveResponse 0 0 .good 0 (List.replicate 513 0) ⟨0, 0, 0⟩).wellFormed = false := by decide +kernel
theorem test_wellFormed_good_drive_frame_refused :
    (Instr.badFrame 0 (withCrc [0x82, 0, 0, 0, 0, 0, 0])).wellFormed = false := by decide +kernel
theorem test_wellFormed_bad_drive_frame : (Instr.badFrame 0 [0x82]).wellFormed = true := by decide +kernel

/-! ### Worked examples of the spec's text -/

/-- R189: generator, bit order, start value and final inversion, on the check string of this CRC-32 (PRESUMED, log entry 32). -/
theorem test_crc : crc32 (text 9 "123456789") = 0xCBF43926#32 := by decide +kernel

/-- The table of R50. -/
theorem test_patterns :
    ["VT-4000SX", "VT-4000S", "VT-4000*", "vt-4000*", "VT-*000SX", "*"].map
        (fun p => patternMatches (text 40 p) (text 40 "VT-4000SX"))
      = [true, false, true, false, false, true] := by decide +kernel

/-- The table of R121: MEDIUM, code 0311h, to a LIGHT command, each row alone in the table. -/
theorem test_classification_examples :
    ([(2, 0x0311, 0xFFFF, 5), (2, 0x0311, 0xFFFF, 1), (2, 0x0300, 0xFF00, 0), (6, 0, 0, 5), (3, 0, 0, 5),
        (2, 0x0312, 0xFFFF, 5)].map fun r : Nat × Nat × Nat × Nat =>
        (classification ((Vector.replicate 64 blankClassify).set 9 ⟨true, r.1, r.2.1, r.2.2.1, r.2.2.2, 4, 1, 0⟩) .medium
          0x0311 (some .light)).entry.isSome)
      = [true, false, true, true, false, false] := by decide +kernel

/-- R101: samples of 350 mA from 0 make the mean 21, then 41. -/
theorem test_mean_current :
    (takeCurrent 350 (State.reset.slot 0)).drift.mean = 21
      ∧ (takeCurrent 350 (takeCurrent 350 (State.reset.slot 0))).drift.mean = 41 := by decide +kernel

/-- A TEMP record in CLEAR at 40.0 °C. -/
def steady : Filter := { clearFilter with f := 102400, l := 102400, state := .clear }

/-- 06, "a chamber step on TEMP": samples 1 and 2 of the table. -/
theorem test_step_samples_1_2 :
    let a := (evaluate stepThresholds 16 false 440 steady).record
    let b := (evaluate stepThresholds 16 false 440 a).record
    (a.f, a.l, a.lastD, a.state, a.enter) = (104960, 102440, some 9, .clear, 0)
      ∧ (b.f, b.l, b.lastD, b.state, b.enter) = (106880, 102509, some 17, .clear, 1) := by decide +kernel

/-- The same table: sample 4 enters WATCH and raises it, sample 5 is the first WATCH sample. -/
theorem test_step_samples_4_5 :
    let three : Filter := { steady with f := 108320, l := 102599, enter := 2 }
    let a := evaluate stepThresholds 16 false 440 three
    let b := (evaluate stepThresholds 16 false 440 a.record).record
    (a.record.f, a.record.l, a.record.state, a.record.enter, a.raised) = (109400, 102705, .watch, 0, [.watch])
      ∧ (b.f, b.l, b.lastD, b.watchCount, b.halt) = (110210, 102705, some 29, 1, 1) := by decide +kernel

/-- The same case: sample 604 is reseeded by the halt limit. -/
theorem test_step_sample_604 :
    let before : Filter := { steady with f := 112637, l := 102705, state := .watch, watchCount := 599, halt := 599 }
    let a := (evaluate stepThresholds 16 false 440 before).record
    (a.state, a.l, a.watchCount, a.halt, a.reseeds) = (.clear, 112637, 600, 0, 1) := by decide +kernel

/-- 06, "shocks and a sustained excursion on VIBE": a run of 2 is a shock, a run of 4 over the hold of 3 is sustained. -/
theorem test_shocks :
    let t := { stepThresholds with ts := 200, shockHold := 3 }
    let f : Filter := { clearFilter with l := 38400, state := .clear }
    let after := [160, 420, 380, 140, 400, 410, 390, 430, 150].foldl (fun f x => (stage5 t x f).1) f
    (after.shocks, after.sustained, after.excursion) = (1, 1, 0)
      ∧ (stage5 t 140 { f with excursion := 2 }).2 = [.shock] := by decide +kernel

/-- Slot 0 graded as in 08, "a score and a bin". -/
def gradedCase : State :=
  let s := withModel
  let s := { s with tables := { s.tables with defects := (s.tables.defects.set 2 ⟨5, false⟩).set 6 ⟨400, true⟩ } }
  let s := { s with
    sort := { s.sort with
      bins := ((s.sort.bins.set 0 ⟨.ship, 9500, 2, 0, true, 0, 10, 0, 0⟩).set 1 ⟨.ship, 8000, 5, 1, true, 1, 10, 0, 0⟩).set 2
        ⟨.rework, 0, 255, 15, false, 2, 10, 0, 0⟩ } }
  modSlot 0
    (fun x =>
      { x with state := .grading, identity.model := some 3
               tallies := { x.tallies with counters := (x.tallies.counters.set 2 37).set 6 2 }
               drift := { x.drift with temp := { x.drift.temp with watchCount := 150 }
                                       vibe := { x.drift.vibe with shocks := 3 }
                                       curr := { x.drift.curr with reseeds := 1, watchCount := 63 } } }) s

/-- 08, "a score and a bin": 10000 less 1220, and bin 1. -/
theorem test_score : score gradedCase (gradedCase.slot 0) = 8780 := by decide +kernel

/-- The second table of that case: FW_MISMATCH set, 6 shocks, and shed count 2 lead to bin 2; nothing changed to bin 1. -/
theorem test_bins :
    let g := gradeInputs gradedCase (gradedCase.slot 0)
    (selectBin gradedCase 0 g, selectBin gradedCase 0 { g with fwMismatch := true }, selectBin gradedCase 0 { g with shocks := 6 },
        selectBin gradedCase 0 { g with shed := 2 }, selectBin gradedCase 0 { g with score := 9655, shocks := 0 },
        selectBin gradedCase 0 { g with forced := true })
      = (1, 2, 2, 2, 0, 7) := by decide +kernel

/-- 03, "capture and flags": slot 0 IDENTIFYING at 500 mA, the part's IDENTIFY answered with the block of the example. -/
def captured : State :=
  takeResponse 0 0 ownIdentify .good 0 block3 ⟨0, 0, 0⟩
    (modSlot 0
      (fun x =>
        { x with state := .identifying, lines.powered := true, power.allocation := 500, power.reserveGranted := 500
                 traffic.inFlight := x.traffic.inFlight.set 0 (some ownIdentify) }) withModel)

/-- The table of that example: flags, effective peaks, allocation, reference count, READY. -/
theorem test_capture :
    (captured.slot 0).identity.flags = ⟨true, false, true, false, false⟩
      ∧ (captured.slot 0).identity.peaks = [1600, 1400, 1400] ∧ (captured.slot 0).power.allocation = 350
      ∧ (captured.slot 0).state = .ready ∧ (captured.slot 0).identity.model = some 3
      ∧ captured.tables.models[3].refCount = 1 := by decide +kernel

/-- 12.4: the widths of the replies that name no list. -/
theorem test_widths :
    (blankModel.bytes.length, blankClassify.bytes.length, blankDefect.bytes.length, (blankBin 0).bytes.length,
        blankIndicator.bytes.length, (settingsBytes (defaultSettings .s1) 20000).length)
      = (172, 11, 3, 11, 4, 27) := by decide +kernel

/-! ### Witnesses: states and operands that meet the hypotheses of the statements, clause by clause -/

theorem witness_StepRunsFront :
    ({ State.reset with pending := [.presenceAssert 47, .discover] } : State).pending = .presenceAssert 47 :: [.discover] :=
  rfl

theorem witness_FinishKeeps : State.reset.notices.queue.length ≤ 32 := by decide +kernel

/-- A frame in the transmitter; each list the first that is not empty; invalid straps. -/
theorem witness_ArbiterOrder :
    let idle : State := { State.reset with port.transmitting := none }
    let reply : Reply := ⟨1, 7, 1, .ok, .none, .empty⟩
    (∃ f, State.reset.port.transmitting = some f) ∧ idle.port.transmitting = none
      ∧ ({ idle with port.replies := [reply] } : State).port.replies = reply :: []
      ∧ idle.port.replies = [] ∧ stationOf ({ idle with store.straps := 3 } : State).store.straps < 4
      ∧ 4 ≤ stationOf ({ idle with store.straps := 4 } : State).store.straps
      ∧ ({ idle with notices.queue := [.slot 47, .part] } : State).notices.queue = .slot 47 :: [.part]
      ∧ idle.notices.queue = [] ∧ idle.port.responses = [] ∧ idle.port.stream = none
      ∧ ({ idle with notices.partState := .lost } : State).notices.partState = .lost
      ∧ idle.notices.partState ≠ .lost := by
  refine ⟨⟨_, rfl⟩, ?_⟩
  decide +kernel

/-- A queue whose oldest entry is granted (SLOT_POWER, HEAVY, SPIN_UP at exactly the target), and one whose oldest is blocking. -/
def admitting (entry : AdmissionEntry) (target : Nat) (f : Slot → Slot) : State :=
  let s := slot0 f
  { s with power := ⟨[entry, ⟨1, .slotPower, .part, 0, false⟩], .normal, false, none, false⟩
           store := { s.store with target := target } }

theorem witness_PassRules :
    let a := admitting ⟨0, .slotPower, .part, 0, false⟩ 1000 id
    let b := admitting ⟨0, .heavy, .server, 3, true⟩ 1000 fun x => { x with power.allocation := 1000 }
    let c := admitting ⟨0, .spinUp, .part, 0, false⟩ 1800 fun x => { x with identity.peaks := [1800] }
    let d := { admitting ⟨0, .slotPower, .part, 4, true⟩ 1000 id with slots := State.reset.slots.set 1 { State.reset.slot 1 with power.allocation := 501 } }
    (a.power.supply = .normal ∧ allocationSum a ≤ a.store.target ∧ oversize a ⟨0, .slotPower, .part, 0, false⟩ = false
        ∧ offer a ⟨0, .slotPower, .part, 0, false⟩ = some (500, none) ∧ (a.slot 0).traffic.injections = [])
      ∧ (allocationSum b ≤ b.store.target ∧ oversize b ⟨0, .heavy, .server, 3, true⟩ = false
          ∧ offer b ⟨0, .heavy, .server, 3, true⟩ = some (1000, none))
      ∧ (oversize c ⟨0, .spinUp, .part, 0, false⟩ = false ∧ offer c ⟨0, .spinUp, .part, 0, false⟩ = some (1800, some 0))
      ∧ (allocationSum d ≤ d.store.target ∧ oversize d ⟨0, .slotPower, .part, 4, true⟩ = false
          ∧ offer d ⟨0, .slotPower, .part, 4, true⟩ = none)
      ∧ State.reset.power.supply ≠ .normal
      ∧ ({ b with store := { b.store with target := 999 } } : State).store.target < allocationSum b
      ∧ 1000 ≤ (b.slot 0).power.allocation ∧ (b.slot 0).power.allocation < 1001 := by
  decide +kernel

/-- An entry behind an older one: blocking, not blocking, oversize, with and without an offer. -/
theorem witness_PassRules_examines :
    let e : AdmissionEntry := ⟨0, .spinUp, .part, 3, false⟩
    let behind (o : AdmissionEntry) (peak target : Nat) : State :=
      let s := slot0 fun x => { x with identity.peaks := [peak] }
      { s with power.queue := [o, e], store := { s.store with target } }
    let o : AdmissionEntry := ⟨1, .heavy, .server, 0, false⟩
    let s := behind o 1001 1000
    entryOf s 0 = some e ∧ (s.power.queue.takeWhile fun o => o.slot ≠ 0) = [o] ∧ o.blocking = false
      ∧ grantFigure s e = some 1001 ∧ s.store.target = 1000
      ∧ ((behind { o with blocking := true } 1000 1000).power.queue.takeWhile fun o => o.slot ≠ 0) = [{ o with blocking := true }]
      ∧ oversize (behind o 1000 1000) e = false ∧ offer (behind o 1000 1000) e = some (1000, some 0)
      ∧ oversize (behind o 600 1000) e = false
      ∧ offer { behind o 600 1000 with slots := (behind o 600 1000).slots.set 1 { State.reset.slot 1 with power.allocation := 401 } } e
          = none := by
  decide +kernel

/-- The profile of 03, "capture and flags": the shortest that fits at each target, and none. -/
theorem witness_PassRules_profile :
    let at_ (target : Nat) : State :=
      let s := withModel (slot0 fun x => { x with identity := { x.identity with model := some 3, peaks := [1600, 1400, 1400] } })
      { s with store := { s.store with target } }
    modelOf (at_ 1600) ((at_ 1600).slot 0) = some model3
      ∧ [1600, 1599, 1399].map (fun t => chooseProfile (at_ t) 0) = [some 0, some 1, none]
      ∧ (offer (at_ 1600) ⟨0, .heavy, .server, 0, false⟩).isSome := by
  decide +kernel

/-- Each row of R66: power OFF, SPINNING_UP, a held grant, no model, STOPPED, SPINNING with and without a HEAVY. -/
theorem witness_PassRules_figure :
    let at_ (sp : Spindle) (held : Option Nat) (model : Option (Fin 16)) (table : List (Option InFlight)) : Nat :=
      let s := withModel (powered .ready table)
      stateFigure s
        { s.slot 0 with
          identity := { (s.slot 0).identity with model := model, peaks := [1600, 1200] }
          power := { (s.slot 0).power with reserveGranted := 500, spindle := sp, chosen := some 1, held := held } }
    stateFigure State.reset (State.reset.slot 0) = 0
      ∧ [at_ .spinningUp none (some 3) [], at_ .stopped (some 0) (some 3) [], at_ .stopped none none [],
          at_ .stopped none (some 3) [], at_ .spinning none (some 3) [some (flying .heavy)], at_ .spinningDown none (some 3) []]
        = [1200, 1600, 500, 350, 1050, 650] := by
  decide +kernel

/-- Slot 0 with a HEAVY or a SPIN_UP at its head, and with neither and the part's command in flight or not. -/
theorem witness_PassRules_grant :
    let s (queue : List QueuedCmd) (table : List (Option InFlight)) : State :=
      withModel (modSlot 0
        (fun x =>
          { x with identity := { x.identity with model := some 3, peaks := [1600, 1400, 1400] }
                   traffic.queue := queue, traffic.reserved := some 2 })
        (powered .ready table))
    let x := (s [waiting .heavy] []).slot 0
    x.lines.powered = true ∧ x.traffic.injections = [] ∧ modelOf (s [waiting .heavy] []) x = some model3
      ∧ model3.profiles[1]? = some ⟨1, 1200, 15⟩ ∧ x.traffic.reserved = some 2 ∧ x.traffic.queue = [waiting .heavy]
      ∧ 1400 = max 1 (x.identity.peaks.getD 1 0)
      ∧ ((s [waiting .spinUp] []).slot 0).traffic.queue = [waiting .spinUp]
      ∧ (((s [] []).slot 0).traffic.queue = [] ∧ ((s [] []).slot 0).partInFlight = false ∧ ((s [] []).slot 0).freeEntry.isSome)
      ∧ ((s [] [some ownIdentify]).slot 0).partInFlight = true := by
  decide +kernel

theorem witness_ResetIsPowerOn :
    State.reset.pending = [] ∧ State.reset.store.flash = none ∧ ∀ n, (State.reset.slot n).lines.line = false := by
  decide +kernel

/-- Station 3; load source SERVER; load source FLASH over a blank flash, and one that does not answer; a presence line asserted
and one that is not. -/
theorem witness_PowerOn :
    stationOf 3 < 4 ∧ loadsFlash 0x55 = false ∧ loadsFlash 0x15 = true
      ∧ readFlash true State.reset.store.flash (tickDefault 0x15) = none
      ∧ readFlash false (some (withCrc [])) (tickDefault 0x15) = none
      ∧ ((slot0 fun x => { x with lines.line := true }).slot 0).lines.line = true ∧ (State.reset.slot 0).lines.line = false := by
  decide +kernel

/-- R22: at a reset a slot whose presence line is asserted settles, with the settle time of 2000 ms of 11.2. -/
theorem test_reset_settles :
    (match exec (.powerOnReset Config.resetStraps false true) (slot0 fun x => { x with lines.line := true }) with
      | .next t => ((t.slot 0).state, (t.slot 0).lines.settle, (t.slot 1).state)
      | _ => (.parking, none, .parking))
      = (.settling, some (State.reset.store.settings.settleTime * 1000), .empty) := by
  decide +kernel

/-- The blank tables and default settings are storable. -/
theorem storable_of_defaults (s : State) (settings : s.store.settings = defaultSettings .s1) (target : s.store.target = 20000)
    (tables : s.tables = State.reset.tables) (bins : s.sort.bins = State.reset.sort.bins) : s.storable := by
  unfold State.storable State.bin
  rw [settings, target, tables, bins]
  refine ⟨by simp [Settings.inRange, defaultSettings], by decide, ?_, ?_, ?_, ?_, ?_⟩
  · intro i
    have : State.reset.tables.models[i] = blankModel := by simp [State.reset]
    rw [this]
    exact ⟨by simp [ModelEntry.storable, ThresholdSet.storable, blankModel, blankThresholds], by simp [blankModel]⟩
  · intro i
    have : State.reset.tables.classify[i] = blankClassify := by simp [State.reset]
    rw [this]
    exact ⟨by simp [ClassifyEntry.storable, blankClassify], by simp [blankClassify]⟩
  · decide +kernel
  · unfold Bin.inRange
    decide +kernel
  · decide +kernel

/-- A storable part whose image stands in the flash. -/
theorem witness_PowerOnRestoresImage :
    let saved : State := { State.reset with now := 7 }
    saved.storable ∧ loadsFlash 0x15 = true
      ∧ ({ State.reset with store.flash := some (imageBytes saved) } : State).store.flash = some (imageBytes saved) :=
  ⟨storable_of_defaults _ rfl rfl rfl rfl, rfl, rfl⟩

/-- Table entries at the ends of their ranges; an identity block's fields at theirs, a short payload and another version. -/
theorem witness_EntriesReadBack :
    ClassifyEntry.storable ⟨true, 255, 65535, 65535, 255, 255, 255, 0⟩ ∧ (⟨65535, true⟩ : DefectEntry).weight < 65536
      ∧ (⟨.ship, 10000, 255, 15, true, 7, 255, 0, 0⟩ : Bin).inRange
      ∧ ((block3.take 127).length < 128 ∧ (block3.set 0 2).head? ≠ some 1 ∧ (text 40 "VT-4000SX").length = 40
        ∧ (text 20 "ZK88").length = 20 ∧ (text 8 "FW0218").length = 8 ∧ 24 ≤ (List.replicate 24 (0 : Byte)).length
        ∧ 256 ^ 6 - 1 < 256 ^ 6 ∧ 32767 < 32768 ∧ 255 < 256 ∧ [1, 2, 0, 0, 0, 256 ^ 4 - 1].length = 6
        ∧ ∀ w ∈ [1, 2, 0, 0, 0, 256 ^ 4 - 1], w < 256 ^ 4)
      ∧ model3.storable := by
  refine ⟨by simp [ClassifyEntry.storable], by simp, by simp [Bin.inRange], by decide +kernel, ?_⟩
  refine ⟨by decide +kernel, by decide, by decide, by decide +kernel, ?_, ?_⟩
  · intro c h
    cases h
    decide
  · exact ⟨by decide, by decide, by decide, by decide, by decide, by decide, by decide, by decide, by decide, by decide,
      by decide, by unfold ThresholdSet.storable; decide, by unfold ThresholdSet.storable; decide,
      by unfold ThresholdSet.storable; decide, by unfold ThresholdSet.storable; decide⟩

theorem witness_SoftResets :
    Serves (asked 0x14 []) (request 0x14 []) [] 0x14 ∧ State.reset.port.resetAwaits ≠ some 0
      ∧ ({ State.reset with port.resetAwaits := some 0 } : State).port.resetAwaits = some 0 :=
  ⟨asked_serves .., by decide +kernel, rfl⟩

/-- At reset no timer of these runs, no report waits, nothing is saved and slot power is OFF. -/
theorem witness_StaleEventsChangeNothing :
    let x := State.reset.slot 0
    x.lines.settle = none ∧ x.lines.removal = none ∧ x.lines.park = none ∧ x.recovery.wait = none ∧ x.lines.powered = false
      ∧ ((3 : Byte).toNat, State.reset.now) ∉ x.lines.late ∧ (∀ k : Fin 4, x.traffic.inFlight[k] = none) ∧ State.reset.transit = ⟨[], [], []⟩ ∧ State.reset.store.save = none
      ∧ ((slot0 fun x => { x with lines.rundown := .expired }).slot 0).lines.rundown = .expired
      ∧ ({ State.reset with power.restore := none } : State).power.restore = none
      ∧ ({ State.reset with port.transmitting := none } : State).port.transmitting = none := by
  decide +kernel

/-- EMPTY, SETTLING with its timer, and another state; with and without an admission entry. -/
theorem witness_PresenceLine :
    let s := slot0 fun x => { x with state := .settling, lines.line := true, lines.settle := some 2000 }
    (State.reset.slot 47).state = .empty ∧ (s.slot 0).state = .settling ∧ (s.slot 0).lines.line = true
      ∧ (s.slot 0).lines.settle = some 2000 ∧ entryOf s 0 = none
      ∧ (entryOf { s with power.queue := [⟨0, .slotPower, .part, 0, false⟩] } 0).isSome
      ∧ ((powered .ready []).slot 0).state ≠ .empty ∧ ((powered .ready []).slot 0).state ≠ .settling := by
  decide +kernel

theorem witness_RemovalCheckEnd :
    let s := slot0 fun x => { x with state := .sorted, lines.removal := some 100 }
    (s.slot 0).state ≠ .empty ∧ (s.slot 0).state ≠ .settling ∧ (s.slot 0).lines.line = false
      ∧ (s.slot 0).lines.removal = some 100 := by
  decide +kernel

/-- R13: the model of index 3 has code 15, 30 s; with no model the rundown is that of the settings. -/
theorem witness_ParkingTimers_rundown :
    let s := withModel
    let x := (slot0 fun x => { x with identity.model := some 3 }).slot 0
    modelOf s x = some model3 ∧ rundownMs s x = 30000 ∧ modelOf s (s.slot 0) = none ∧ rundownMs s (s.slot 0) = 20000 := by
  decide +kernel

theorem witness_ParkingTimers :
    let s := slot0 fun x => { x with state := .parking, lines.park := some 30000, lines.rundown := .running 0, power.allocation := 1 }
    (s.slot 0).lines.rundown = .running 0 ∧ (s.slot 0).state = .parking ∧ (s.slot 0).lines.park = some 30000
      ∧ 0 < (s.slot 0).power.allocation ∧ (State.reset.slot 0).lines.rundown = .running 20000
      ∧ (State.reset.slot 0).state = .empty ∧ ((powered .ready []).slot 0).lines.rundown = .running 20000 := by
  decide +kernel

/-- The three supply states; a slot that is shed, and one that is not. -/
theorem witness_SupplyWarning :
    let s := { (slot0 fun x => { x with state := .burning, lines.powered := true, power.spindle := .spinning }) with
      power.supply := .warning }
    ({ State.reset with power.supply := .normal } : State).power.supply = .normal ∧ State.reset.power.supply = .restoring
      ∧ s.power.supply = .warning ∧ (s.slot 0).lines.powered = true ∧ (s.slot 0).state ≠ .recovering
      ∧ (s.slot 0).power.spindle = .spinning ∧ (s.slot 1).power.spindle ≠ .spinning := by
  decide +kernel

/-- A spinning slot whose injection list can be served at the onset. -/
theorem witness_SupplyWarning_served :
    let s := { modSlot 0 (fun x => { x with power.spindle := .spinning }) (powered .ready []) with power.supply := .normal }
    s.power.supply = .normal ∧ (s.slot 0).lines.powered = true ∧ (s.slot 0).state ≠ .recovering
      ∧ (s.slot 0).power.spindle = .spinning ∧ (s.slot 0).traffic.injections = [] ∧ (s.slot 0).partInFlight = false
      ∧ (s.slot 0).freeEntry = some 0 := by
  decide +kernel

/-- The delay of the reset state, and a marked slot that auto-resume takes up. -/
theorem witness_RestoreDelayExpiry :
    let s := slot0 fun x => { x with state := .burning, lines.powered := true, tallies.shedMark := true }
    s.power.supply = .restoring ∧ s.power.restore = some 5000 ∧ s.store.settings.autoResume = true
      ∧ (s.slot 0).tallies.shedMark = true ∧ (s.slot 0).state.inTest = true ∧ (s.slot 0).power.spindle = .stopped
      ∧ entryOf s 0 = none := by
  decide +kernel

/-- A marked slot whose held grant lapsed at the onset. -/
theorem witness_RestoreDelayExpiry_lapsed :
    let s := slot0 fun x =>
      { x with state := .burning, power.spindle := .spinningDown, tallies.shedMark := true, tallies.lapsed := true }
    s.power.supply = .restoring ∧ s.power.restore = some 5000 ∧ (s.slot 0).tallies.lapsed = true ∧ entryOf s 0 = none := by
  decide +kernel

/-- Auto-resume OFF; an entry of a server's; two part-origin entries; a SPIN_DOWN listed for the shed alone, for the shed and the
parking, in a slot whose list can be served and in one with the part's command in flight or power OFF. -/
theorem witness_RestoreDelayExpiry_others :
    let shed : Injection := ⟨.spinDown, false, false, false, true, false⟩
    let alone (i : Injection) : Bool := i.shed && !i.parking && !i.orphan && !i.recovery
    let off := { State.reset with store.settings := { State.reset.store.settings with autoResume := false } }
    let own := { State.reset with power.queue := [⟨0, .heavy, .server, 0, false⟩, ⟨1, .spinUp, .part, 0, false⟩] }
    let listing (i : Injection) (table : List (Option InFlight)) : State :=
      modSlot 0 (fun x => { x with power.spindle := .spinning, traffic.injections := [i] }) (powered .burning table)
    off.store.settings.autoResume = false ∧ entryOf off 0 = none
      ∧ entryOf own 0 = some ⟨0, .heavy, .server, 0, false⟩ ∧ (own.power.queue.map (·.slot)).Nodup
      ∧ ((listing shed []).slot 0).traffic.injections = [shed] ∧ alone shed = true
      ∧ alone { shed with parking := true } = false ∧ alone { shed with recovery := true } = false
      ∧ ((listing shed []).slot 0).freeEntry = some 0
      ∧ ((listing shed [some ownIdentify]).slot 0).partInFlight = true ∧ (State.reset.slot 0).lines.powered = false
      ∧ ((modSlot 0 (fun x => { x with traffic.reserved := some 3 })
            (listing shed [some (flying .light), some { flying .light with tag := 4 }, some { flying .light with tag := 5 }])).slot
          0).freeEntry = none := by
  decide +kernel

/-- R92: a SPIN_DOWN listed for the shed alone is not sent at the restoration; one listed for the parking too is. -/
theorem test_shed_dropped :
    ([false, true].map fun parking =>
        match exec .restoreDelayExpiry
            (modSlot 0 (fun x =>
                { x with power.spindle := .spinning, traffic.injections := [⟨.spinDown, parking, false, false, true, false⟩] })
              (powered .parking [])) with
        | .next t => ((t.slot 0).spinDownInFlight, (t.slot 0).traffic.injections)
        | _ => (true, []))
      = [(false, []), (true, [])] := by
  decide +kernel

/-- R80, R86: the spin-up of a grant that lapses at an onset is not asked for at the restoration, though R87 marks the slot. -/
theorem test_lapsed_grant_not_resumed :
    let held := modSlot 0
      (fun x =>
        { x with power := { x.power with spindle := .spinningDown, held := some 0 }
                 traffic.injections := [bareInjection .spinUp] })
      (powered .burning [some (flying .spinDown)])
    let x := (onset { held with power.supply := .normal }).slot 0
    (x.tallies.shedMark, resumes x, resumes { x with tallies.lapsed := false }) = (true, false, true) := by
  decide +kernel

/-- Off, idle and sampled slots; both report modes, the interval reached and not, 16 and 17 notices. -/
theorem witness_TickTaken :
    let off := State.reset.slot 0
    let idle := (slot0 fun x => { x with state := .burning, lines.powered := true, drift.idleCount := 6 }).slot 0
    let due := (powered .ready []).slot 0
    let stream := { State.reset with store.settings := { State.reset.store.settings with reportMode := .stream } }
    off.lines.powered = false ∧ idle.state.inTest = true ∧ idle.drift.lastForward + 60 * 1000 ≤ 60000 ∧ idle.drift.idleCount ≠ 7
      ∧ due.lines.powered = true ∧ due.state.inTest = false ∧ due.tallies.accumulator ≠ 65535
      ∧ State.reset.store.settings.reportMode = .event ∧ stream.store.settings.reportMode = .stream
      ∧ (8 : Nat) + 1 < stream.store.settings.streamInterval ∧ stream.store.settings.streamInterval ≤ (9 : Nat) + 1
      ∧ 16 < (List.replicate 17 Source.part).length ∧ (List.replicate 16 Source.part).length ≤ 16 := by
  decide +kernel

/-- A due slot: a reading missed for the 16th time, a metric with model and value while the test runs, spinning up, a current
over and at the margin, and the runs of 1 and 7. -/
theorem witness_TickTaken_samples :
    let sensors : Vector SensorReading 48 := (Vector.replicate 48 ⟨40, 801, 65535⟩).set 1 ⟨40, 800, 0⟩
    let s := withModel (modSlot 0
      (fun x =>
        { x with identity.model := some 3, drift.temp := steady, drift.vibe := { steady with misses := 15 }
                 power.allocation := 500, tallies.overdrawRun := 1 })
      (powered .burning []))
    let x := s.slot 0
    x.lines.powered = true ∧ x.testRunning = true ∧ (x.filter .vibe).misses = 15 ∧ sensors[0].vibe = 65535
      ∧ modelOf s x = some model3 ∧ (x.filter .temp).misses < 16 ∧ x.tallies.overdrawRun = 1
      ∧ s.store.settings.overdrawMargin = 300 ∧ 500 + 300 < sensors[0].curr.toNat ∧ ¬500 + 300 < sensors[1].curr.toNat
      ∧ ((powered .ready []).slot 0).testRunning = false
      ∧ ((slot0 fun x => { x with tallies.overdrawRun := 7 }).slot 0).tallies.overdrawRun = 7
      ∧ ((slot0 fun x => { x with power.spindle := .spinningUp }).slot 0).power.spindle = .spinningUp := by
  decide +kernel

/-- R182, R183: a stream report lists the slots due at its tick, with the reading of the tick and D as in sample 1 of 06,
"a chamber step on TEMP"; a metric without a reading is not evaluated, and an idle slot is not in the report. -/
theorem test_stream_records :
    let test (x : Slot) : Slot := { x with state := .burning, lines.powered := true, identity.model := some 3, drift.temp := steady }
    let s := modSlot 1 (fun x => { test x with drift.lastForward := 60000 }) (withModel (slot0 test))
    let s := { s with
      now := 60000
      power.supply := .normal
      store.settings := { s.store.settings with reportMode := .stream, streamInterval := 1 } }
    (match exec (.tick (Vector.replicate 48 ⟨440, 100, 65535⟩)) s with
      | .next t => t.port.stream.map fun r => (r.number, r.records.map fun v => (v.slot, v.temp, v.vibe.evaluated))
      | _ => none)
      = some (1, [(1, ⟨some 440, some 9, .clear, true⟩, false)]) := by
  decide +kernel

/-- Each metric state; an excursion of none, of the shock hold and one over it; the calibration count reached and not. -/
theorem witness_FilterSamples :
    steady.state = .clear ∧ { steady with state := .watch }.state ≠ .clear ∧ clearFilter.state = .calibrating
      ∧ 0 < ({ stepThresholds with ts := 200 } : ThresholdSet).ts ∧ { steady with l := 38400 }.l / 256 + 200 ≤ 350
      ∧ ¬{ steady with l := 38400 }.l / 256 + 200 ≤ 349 ∧ stepThresholds.ts = 0
      ∧ 0 < { steady with excursion := 3 }.excursion ∧ { steady with excursion := 3 }.excursion ≤ stepThresholds.shockHold
      ∧ stepThresholds.shockHold < { steady with excursion := 4 }.excursion ∧ steady.excursion = 0
      ∧ 16 ≤ min 255 ({ clearFilter with calReached := 15 }.calReached + 1)
      ∧ min 255 ({ clearFilter with calReached := 14 }.calReached + 1) < 16 := by
  decide +kernel

/-- D at and below each threshold; each counter one short of its limit and below; halt limit 0 and reached. -/
theorem witness_StateLogic :
    let t := stepThresholds
    let w : Filter := { steady with state := .watch }
    steady.state = .clear ∧ ((t.tw : Int) ≤ 15 ∧ t.nw ≤ { steady with enter := 2 }.enter + 1) ∧ steady.enter + 1 < t.nw
      ∧ (14 : Int) < t.tw ∧ w.state = .watch ∧ ((t.tf : Int) ≤ 40 ∧ t.nf ≤ { w with fault := 2 }.fault + 1)
      ∧ ((9 : Int) < (t.tw : Int) - t.h ∧ t.nx ≤ { w with exit := 3 }.exit + 1)
      ∧ (t.haltLimit ≠ 0 ∧ t.haltLimit ≤ min 65535 ({ w with halt := 599 }.halt + 1))
      ∧ ¬({ t with haltLimit := 0 }.haltLimit ≠ 0) ∧ { w with state := .fault }.state = .fault := by
  decide +kernel

theorem witness_TestStarts_calibration :
    let s := { powered .calibrating [] with transit.calibrations := [0] }
    let r := slot0 fun x => { x with state := .recovering, recovery.resume := some .calibrating }
    0 ∈ s.transit.calibrations ∧ (s.slot 0).state = .calibrating ∧ (r.slot 0).state = .recovering
      ∧ (r.slot 0).recovery.resume = some .calibrating ∧ ((powered .grading []).slot 0).state ≠ .calibrating
      ∧ ((powered .grading []).slot 0).state ≠ .recovering := by
  decide +kernel

theorem witness_PortFrames :
    4 ≤ stationOf 4 ∧ stationOf 3 < 4 ∧ ∃ f, State.reset.port.transmitting = some f := by
  refine ⟨by decide, by decide, ⟨_, rfl⟩⟩

/-- Slot 0 READY with tag 3 in flight. -/
def busySlot : State := powered .ready [some (flying .light)]

/-- Slots 47 and 48, tags 27 and 28, each refusal in the order of the checks. -/
theorem witness_SlotCmdRefused :
    let full := modSlot 0 (fun x => { x with traffic.queue := List.replicate 8 (waiting .light) }) busySlot
    4 ≤ stationOf busySlot.store.straps ∧ (21 : Byte).toNat = stationOf busySlot.store.straps
      ∧ (20 : Byte).toNat ≠ stationOf busySlot.store.straps ∧ ([0, 4] : Bytes).getD 0 0 = slotByte 0
      ∧ ([47, 4] : Bytes).getD 0 0 = slotByte 47 ∧ 48 ≤ (([48, 4] : Bytes).getD 0 0).toNat
      ∧ 27 < (([0, 28] : Bytes).getD 1 0).toNat ∧ (([0, 27] : Bytes).getD 1 0).toNat ≤ 27
      ∧ frameCommand [0, 27, 5, 1, 0, 0] = none ∧ frameCommand [0, 27, 0, 1, 0, 0] = some .light
      ∧ frameCommand [0, 27, 1, 1, 0, 0] = some .heavy
      ∧ (State.reset.slot 0).state.accepts .light = false ∧ (busySlot.slot 0).state.accepts .light = true
      ∧ (∃ k : Fin 4, ∃ e, (busySlot.slot 0).traffic.inFlight[k] = some e ∧ e.tag = 3)
      ∧ (busySlot.slot 0).power.spindle = .stopped ∧ 8 ≤ (full.slot 0).traffic.queue.length
      ∧ (∀ q ∈ (full.slot 0).traffic.queue, q.tag ≠ 27) := by
  refine ⟨by decide +kernel, by decide +kernel, by decide +kernel, by decide, by decide, by decide, by decide, by decide,
    by decide +kernel, by decide +kernel, by decide +kernel, by decide +kernel, by decide +kernel,
    ⟨0, flying .light, by decide +kernel, rfl⟩, by decide +kernel, by decide +kernel, by decide +kernel⟩

/-- Behind another frame, and as the head with a free entry. -/
theorem witness_SlotCmdAccepted :
    let behind := modSlot 0 (fun x => { x with traffic.queue := [waiting .heavy] }) busySlot
    4 ≤ stationOf busySlot.store.straps ∧ (21 : Byte).toNat = stationOf busySlot.store.straps
      ∧ checkCommand (busySlot.slot 0) 27 (frameCommand [0, 27, 0, 1, 0, 0]) = .ok .light
      ∧ checkCommand (behind.slot 0) 27 (frameCommand [0, 27, 4, 1, 0, 0x10]) = .ok .identify
      ∧ (behind.slot 0).traffic.queue ≠ [] ∧ (busySlot.slot 0).traffic.queue = [] ∧ (busySlot.slot 0).traffic.injections = []
      ∧ (busySlot.slot 0).freeEntry = some 1 := by
  decide +kernel

/-- An accepted head: with no entry free, waiting in SPINNING_UP, forwarded, asking with and without an admission entry, and
a HEAVY that meets the stopping spindle. -/
theorem witness_SlotCmdAccepted_head :
    let frame (cls : Byte) : Bytes := [0, 27, cls, 2, 0, 0x21, 0]
    let s (sp : Spindle) (table : List (Option InFlight)) : State := modSlot 0 (fun x => { x with power.spindle := sp }) (powered .ready table)
    let ok (t : State) (c : CmdClass) : Prop :=
      (checkCommand (t.slot 0) 27 (some c)).toOption = some c ∧ (t.slot 0).traffic.queue = [] ∧ (t.slot 0).traffic.injections = []
    let full := s .spinning (List.replicate 4 (some (flying .light)))
    [1, 2, 3].map (fun c => frameCommand (frame c)) = [some .heavy, some .spinUp, some .spinDown]
      ∧ ok full .spinDown ∧ (full.slot 0).freeEntry = none ∧ ok (s .spinningUp []) .spinDown
      ∧ ok (s .spinning []) .spinDown ∧ ok (s .spinning [some (flying .heavy)]) .heavy
      ∧ ((s .spinning [some (flying .heavy)]).slot 0).heavyInFlight = true
      ∧ ok (s .stopped []) .spinUp ∧ entryOf (s .stopped []) 0 = none ∧ ((s .stopped []).slot 0).power.held = none
      ∧ entryOf { s .stopped [] with power.queue := [⟨0, .spinUp, .part, 0, false⟩] } 0 ≠ none
      ∧ ok (s .spinning []) .heavy ∧ ((s .spinning []).slot 0).heavyInFlight = false ∧ ok (s .spinningDown []) .heavy := by
  decide +kernel

/-- To the station, a broadcast DISCOVER, another broadcast, another station; seven and eight requests queued; invalid straps. -/
theorem witness_RequestReceived :
    let full (k : Nat) : State := { State.reset with port.requests := List.replicate k (request 1 []) }
    4 ≤ stationOf State.reset.store.straps ∧ (21 : Byte).toNat = stationOf State.reset.store.straps
      ∧ (full 7).port.requests.length < 8 ∧ 8 ≤ (full 8).port.requests.length
      ∧ ([7, 1] : Bytes).getD 1 0 = 0x01 ∧ ([7, 2] : Bytes).getD 1 0 ≠ 0x01
      ∧ (20 : Byte).toNat ≠ stationOf State.reset.store.straps
      ∧ stationOf ({ State.reset with store.straps := 3 } : State).store.straps < 4 := by
  decide +kernel

/-- An empty queue, a head of another kind, a soft reset awaited; operands that do not fit; a save in flight; slot 48; the
wrong states. -/
theorem witness_RequestRefused :
    (State.reset.port.requests = [] ∧ (request 2 []).kind ≠ 0x01)
      ∧ ({ asked 1 [] with port.resetAwaits := some 1 } : State).port.resetAwaits.isSome = true
      ∧ Serves (asked 0x15 []) (request 0x15 []) [] 0x15 ∧ requestFits 0x15 [] = false ∧ requestFits 0x01 [] = true
      ∧ Serves (asked 0x14 [1]) (request 0x14 [1]) [] 0x14 ∧ requestFits 0x14 [1] = false
      ∧ requestFits 0x08 [] = true ∧ ({ State.reset with store.save := some ⟨.erase, [], 1⟩ } : State).store.save.isSome = true
      ∧ requestFits 0x06 (3 :: (putNum 1 0 ++ blankDefect.bytes)) = true
      ∧ requestFits 0x0B [48] = true ∧ 48 ≤ (([48] : Bytes).headD 0).toNat
      ∧ Serves (asked 0x0B [slotByte 0]) (request 0x0B [slotByte 0]) [] 0x0B ∧ (State.reset.slot 0).state ≠ .ready
      ∧ ((powered .ready []).slot 0).state = .ready
      ∧ ((modSlot 0 (fun x => { x with power.spindle := .spinning }) (powered .ready [])).slot 0).power.spindle ≠ .stopped := by
  refine ⟨by decide +kernel, by decide +kernel, asked_serves .., by decide +kernel, by decide +kernel, asked_serves ..,
    by decide +kernel, by decide +kernel, by decide +kernel, by decide +kernel, by decide +kernel, by decide, asked_serves ..,
    by decide +kernel, by decide +kernel, by decide +kernel⟩

theorem witness_PartAndTableReads :
    Serves (asked 0x01 []) (request 0x01 []) [] 0x01 ∧ 4 ≤ stationOf State.reset.store.straps
      ∧ stationOf ({ asked 0x01 [] with store.straps := 3 } : State).store.straps < 4
      ∧ Serves (asked 0x02 []) (request 0x02 []) [] 0x02 ∧ State.reset.notices.part.getLsbD 0 = true
      ∧ State.reset.power.restore = some 5000 ∧ ({ State.reset with power.restore := none } : State).power.restore = none
      ∧ Serves (asked 0x03 []) (request 0x03 []) [] 0x03 :=
  ⟨asked_serves .., by decide +kernel, by decide +kernel, asked_serves .., by decide +kernel, rfl, rfl, asked_serves ..⟩

/-- Lists with and without a mask and a report mode; every identifier at an end of its range in one list; a value one over
its range; a settle reserve below a standby current and at it. -/
theorem witness_SettingsAndBudget :
    let width (id : Nat) : Nat := [0, 1, 2, 1, 2, 2, 1, 1, 2, 2, 1, 1, 1, 2, 3, 1, 1, 1].getD id 0
    let whole : List (Nat × Nat) :=
      [(17, 63), (16, 255), (15, 1), (14, 16777215), (13, 600), (12, 3), (11, 0), (10, 60), (9, 2000), (8, 10), (7, 120), (6, 1),
        (5, 7200), (4, 600), (3, 120), (2, 2000), (1, 10)]
    let lists := [whole, [(14, 0), (15, 1)], [(1, 11)], [(1, 10)], [(2, 349)], [(2, 350)]]
    (∀ pairs ∈ lists,
        let operands := putNum 1 pairs.length ++ pairs.flatMap (fun p => putNum 1 p.1 ++ putNum (width p.1) p.2)
        (asked 4 operands withModel).port.requests = [request 4 operands] ∧ (asked 4 operands withModel).port.resetAwaits = none
          ∧ 1 ≤ pairs.length ∧ (pairs.map (·.1)).Nodup
          ∧ (∀ p ∈ pairs, 1 ≤ p.1 ∧ p.1 ≤ 17 ∧ p.2 < 256 ^ width p.1))
      ∧ withModel.store.save = none ∧ withModel.tables.models[3].valid = true ∧ 349 < withModel.tables.models[3].standby
      ∧ (∀ i : Fin 16, withModel.tables.models[i].valid = true → withModel.tables.models[i].standby ≤ 350) := by
  decide +kernel

/-- 11.2, 12.4: identifiers 4 and 5 are the light and the heavy timeout, each two bytes, the low one first. -/
theorem test_settings_written :
    (match exec .writeSettings (asked 4 [2, 4, 44, 1, 5, 176, 4]) with
      | .next t => (t.store.settings.lightTimeout, t.store.settings.heavyTimeout)
      | _ => (0, 0))
      = (300, 1200) := by
  decide +kernel

theorem witness_SettingsAndBudget_budget :
    Serves (asked 5 (putNum 2 1000)) (request 5 (putNum 2 1000)) [] 5 ∧ 1000 ≤ 1000 ∧ 60000 ≤ 60000 ∧ 999 < 1000
      ∧ 60000 < 60001 ∧ 60001 < 65536 :=
  ⟨asked_serves .., by decide, by decide, by decide, by decide, by decide⟩

/-- Index 15 and 16; an entry in use; an entry refused; an entry stored. -/
theorem witness_LoadTableModel :
    let ops := (1 : Byte) :: (putNum 1 15 ++ model3.bytes)
    let used := { State.reset with
      tables := { State.reset.tables with models := State.reset.tables.models.set 15 { blankModel with refCount := 1 } } }
    Serves (asked 6 ops) (request 6 ops) [] 6 ∧ used.tables.models[15].refCount ≠ 0
      ∧ State.reset.tables.models[15].refCount = 0 ∧ model3.valid = true ∧ modelCheck 500 model3 = .none
      ∧ modelCheck 349 model3 ≠ .none ∧ blankModel.valid = false ∧ State.reset.store.save = none := by
  refine ⟨asked_serves .., ?_⟩
  decide +kernel

/-- One entry for each of the checks of R61, each passing those before it. -/
theorem witness_LoadTableModel_checks :
    let t := model3.temp
    [{ model3 with pattern := text 40 "" }, { model3 with profileCount := 0 }, { model3 with profileCount := 5 },
        { model3 with standby := 2001 }, { model3 with temp := { t with kf := 8 } }, { model3 with standby := 501 },
        { model3 with temp := { t with kl := 1 } }, { model3 with defr := { t with tf := t.tw } },
        { model3 with curr := { t with h := t.tw } }, { model3 with standby := 500 }].map (modelCheck 500)
      = [.emptyPattern, .noProfile, .noProfile, .fieldRange, .fieldRange, .standbyAboveReserve, .thresholds, .thresholds,
          .thresholds, .none] := by
  decide +kernel

/-- Indexes 63 and 64; class 15, a field one over its range, and an entry stored; weights 1000 and 1001; position 7; a capacity at
and below the fill count. -/
theorem witness_LoadTableOthers :
    let e : ClassifyEntry := ⟨true, 6, 0, 0, 5, 14, 3, 0⟩
    let b : Bin := ⟨.ship, 0, 255, 15, false, 0, 3, 0, 0⟩
    let full := setBin 0 0 { b with fill := 3 } State.reset
    let ops := (2 : Byte) :: (putNum 1 63 ++ e.bytes)
    Serves (asked 6 ops) (request 6 ops) [] 6
      ∧ ((e.statusMatch ≤ 6 ∧ e.commandMatch ≤ 5 ∧ e.defectClass ≤ 14 ∧ e.action ≤ 3) ∧ { e with defectClass := 15 }.defectClass = 15
        ∧ 6 < { e with statusMatch := 7 }.statusMatch ∧ (⟨1000, true⟩ : DefectEntry).weight ≤ 1000
        ∧ 1000 < (⟨1001, true⟩ : DefectEntry).weight ∧ b.kind ≠ .reject ∧ (full.bin 0 0).fill ≤ b.capacity
        ∧ { b with capacity := 2 }.capacity < (full.bin 0 0).fill ∧ State.reset.sort.waiting = [])
      ∧ b.inRange := by
  refine ⟨asked_serves .., by decide +kernel, by simp [Bin.inRange]⟩

/-- R19: the first entry that matches wins; an inverted NONE matches in every case; with no match both lamps are OFF. -/
theorem witness_LoadTableOthers_lamps :
    let map := (State.reset.tables.indicators.set 2 ⟨.ready, .on, .slow, false⟩).set 5 ⟨.none, .fast, .off, true⟩
    let s := { powered .ready [] with tables := { State.reset.tables with indicators := map } }
    [lampsFor s (s.slot 0), lampsFor s (s.slot 1), lampsFor State.reset (State.reset.slot 0)]
      = [(.on, .slow), (.fast, .off), (.off, .off)] := by
  decide +kernel

/-- A bin of set 4, of position 8, of kind 4, and an indicator entry of index 16, of condition 14, of lamp pattern 4. -/
theorem witness_LoadTableOthers_refused :
    let bin (set p kind : Byte) : Bytes :=
      [0x04, set, p, kind] ++ putNum 2 10000 ++ [255, 15] ++ putFlag false ++ [7, 1, 0] ++ putNum 2 65535
    let indicator (i condition lamp : Byte) : Bytes := [0x05, i, condition, lamp, 3] ++ putFlag true
    [bin 4 0 0, bin 0 8 0, bin 3 7 4, indicator 16 0 0, indicator 15 14 0, indicator 15 13 4].map (requestFits 0x06)
      = List.replicate 6 true := by
  decide +kernel

theorem witness_PartAndTableReads_table :
    Serves (asked 7 [1, BitVec.ofNat 8 15]) (request 7 [1, BitVec.ofNat 8 15]) [] 7
      ∧ Serves (asked 7 [4, 3, 7]) (request 7 [4, BitVec.ofNat 8 (3 : Fin 4).val, BitVec.ofNat 8 (7 : Fin 8).val]) [] 7
      ∧ Serves (asked 7 [4, 4, 7]) (request 7 [4, 4, 7]) [] 7 ∧ Serves (asked 7 [4, 3, 8]) (request 7 [4, 3, 8]) [] 7
      ∧ 16 ≤ (16 : Byte).toNat ∧ 64 ≤ (64 : Byte).toNat ∧ 4 ≤ (4 : Byte).toNat ∧ 8 ≤ (8 : Byte).toNat :=
  ⟨asked_serves .., asked_serves .., asked_serves .., asked_serves .., by decide, by decide, by decide, by decide⟩

theorem witness_SaveStages :
    let saving (st : SaveStage) : State := { State.reset with store.save := some ⟨st, [1], 10000⟩ }
    Serves (asked 8 []) (request 8 []) [] 8 ∧ State.reset.store.save = none
      ∧ (saving .erase).store.save = some ⟨.erase, [1], 10000⟩ ∧ (saving .write).store.save = some ⟨.write, [1], 10000⟩
      ∧ (saving .verify).store.save = some ⟨.verify, [1], 10000⟩ :=
  ⟨asked_serves .., rfl, rfl, rfl, rfl⟩

theorem witness_SlotReads :
    Serves (asked 9 [slotByte 47, 0]) (request 9 [slotByte 47, 0]) [] 9
      ∧ Serves (asked 9 [slotByte 0, 1]) (request 9 [slotByte 0, 1]) [] 9
      ∧ Serves (asked 0x0A [slotByte 47]) (request 0x0A [slotByte 47]) [] 0x0A :=
  ⟨asked_serves .., asked_serves .., asked_serves ..⟩

theorem witness_TestStarts :
    let s := asked 0x0B [slotByte 0] (powered .ready [])
    Serves s (request 0x0B [slotByte 0]) [] 0x0B ∧ (s.slot 0).state = .ready :=
  ⟨⟨rfl, rfl, rfl⟩, by decide +kernel⟩

/-- Nothing recorded, with and without a server command in flight. -/
theorem witness_EndTest :
    let s := asked 0x0C [slotByte 0] (powered .burning [some (flying .light)])
    Serves s (request 0x0C [slotByte 0]) [] 0x0C
      ∧ ((s.slot 0).state = .burning ∧ (s.slot 0).grading.reason = none ∧ (s.slot 0).serverInFlight = true
        ∧ ((powered .calibrating []).slot 0).state = .calibrating ∧ ((powered .calibrating []).slot 0).serverInFlight = false) :=
  ⟨⟨rfl, rfl, rfl⟩, by decide +kernel⟩

theorem witness_EndTest_reason :
    let s := asked 0x0C [slotByte 0] (modSlot 0 (fun x => { x with grading.reason := some .requested }) (powered .burning []))
    Serves s (request 0x0C [slotByte 0]) [] 0x0C
      ∧ ((s.slot 0).state = .burning ∧ (s.slot 0).grading.reason ≠ none
        ∧ (∀ k : Fin 4, (s.slot 0).traffic.inFlight[k] = none) ∧ (s.slot 0).traffic.injections = []) :=
  ⟨⟨rfl, rfl, rfl⟩, by decide +kernel⟩

/-- Codes 0 and 4; a metric that reseeds and one that does not. -/
theorem witness_RebaseRequest :
    let s := asked 0x0D [slotByte 0, BitVec.ofNat 8 (4 : Fin 5).val]
      (modSlot 0 (fun x => { x with drift.temp := steady }) (powered .burning []))
    Serves s (request 0x0D [slotByte 0, BitVec.ofNat 8 (4 : Fin 5).val]) [] 0x0D
      ∧ ((s.slot 0).state = .burning ∧ ((s.slot 0).filter .temp).state = .clear
        ∧ ((s.slot 0).filter .curr).state = .calibrating) :=
  ⟨⟨rfl, rfl, rfl⟩, by decide +kernel⟩

/-- Discarded, and taken in each kind of state; the request; a request that waits. -/
theorem witness_QuarantineTaken :
    let s := asked 0x0E [slotByte 0] (powered .burning [])
    Serves s (request 0x0E [slotByte 0]) [] 0x0E
      ∧ ((State.reset.slot 0).state = .empty ∧ (s.slot 0).state ≠ .empty ∧ (s.slot 0).state ≠ .settling
        ∧ (s.slot 0).grading.reason = none
        ∧ ((slot0 fun x => { x with state := .sortWait, grading.reason := some .requested }).slot 0).grading.reason ≠ none
        ∧ ((powered .parking []).slot 0).state = .parking ∧ ((powered .sortWait []).slot 0).state = .sortWait
        ∧ ((powered .recovering []).slot 0).state = .recovering
        ∧ (0, .overdraw) ∈ ({ State.reset with transit.quarantines := [(0, .overdraw)] } : State).transit.quarantines) :=
  ⟨⟨rfl, rfl, rfl⟩, by decide +kernel⟩

/-- GRADING with an empty table and with a command in flight, before the hand-over and after it; power OFF; RECOVERING. -/
theorem witness_QuarantineTaken_gradePoint :
    let s := powered .grading []
    let b := powered .grading [some (flying .light)]
    (s.slot 0).grading.reason = none ∧ (s.slot 0).grading.handedOver = false ∧ (s.slot 0).traffic.injections = []
      ∧ (∀ k : Fin 4, (s.slot 0).traffic.inFlight[k] = none) ∧ (b.slot 0).traffic.inFlight[(0 : Fin 4)] ≠ none
      ∧ ((modSlot 0 (fun x => { x with grading.handedOver := true }) s).slot 0).grading.handedOver = true
      ∧ ((slot0 fun x => { x with state := .powerWait }).slot 0).lines.powered = false
      ∧ (((takeQuarantine 0 .requested b).slot 0).traffic.inFlight[(0 : Fin 4)]).isSome
      ∧ (∀ k : Fin 4, ((takeQuarantine 0 .requested s).slot 0).traffic.inFlight[k] = none) := by
  decide +kernel

/-- A slot that waits, with room at position 7, without, and with its serial in the manifest. -/
theorem witness_QuarantineTaken_waiting :
    let s := modSlot 0 (fun x => { x with state := .sortWait, identity.record := some record3 })
      { State.reset with sort.waiting := [⟨0, .binFull, ⟨6000, false, none, 0, 0, false, false, false, false⟩⟩] }
    let old : ManifestEntry := ⟨1, 5, some record3.serial, none, 0, 1, 0, 9000, false, false, false, false, false, none⟩
    (s.slot 0).state = .sortWait ∧ (s.slot 0).grading.reason = none ∧ (s.sort.waiting.find? (·.slot == 0)).isSome
      ∧ sortOutcome s 0 0 7 = .made false
      ∧ sortOutcome { s with sort := { s.sort with manifest := [old], next := 2 } } 0 0 7 = .made true
      ∧ sortOutcome (setBin 0 7 { s.bin 0 7 with fill := 255 } s) 0 0 7 = .waits .binFull := by
  decide +kernel

/-- Three and four episodes, and a state that allows none. -/
theorem witness_RecoveryEpisode :
    let s := asked 0x0F [slotByte 0] (modSlot 0 (fun x => { x with recovery.episodes := 3 }) (powered .ready []))
    Serves s (request 0x0F [slotByte 0]) [] 0x0F
      ∧ ((s.slot 0).state = .ready ∧ (s.slot 0).recovery.episodes < 4
        ∧ 4 ≤ ((slot0 fun x => { x with recovery.episodes := 4 }).slot 0).recovery.episodes
        ∧ (State.reset.slot 0).state ∉ [SlotState.identifying, .unmatched, .ready, .calibrating, .burning]) :=
  ⟨⟨rfl, rfl, rfl⟩, by decide +kernel⟩

/-- A slot with a held grant, peaks pending behind it, and one without. -/
theorem witness_RecoveryEpisode_identity :
    let s := modSlot 0 (fun x =>
        { x with power.held := some 0, identity := { x.identity with record := some record3, peaks := [1], pendingPeaks := some [2] } })
      (powered .burning [])
    (s.slot 0).state = .burning ∧ (s.slot 0).recovery.episodes < 4 ∧ (s.slot 0).power.held ≠ none
      ∧ (s.slot 0).identity.pendingPeaks = some [2] ∧ ((powered .burning []).slot 0).power.held = none := by
  decide +kernel

/-- UNMATCHED with and without a match, the smallest peak at the target and one above it; READY, bound to the entry that the
search finds. -/
theorem witness_Rematch :
    let s := asked 0x10 [slotByte 0]
      (modSlot 0 (fun x => { x with state := .unmatched, identity.record := some record3 }) withModel)
    let b := modSlot 0 (fun x => { x with state := .ready, identity.model := some 3 }) s
    let p := modSlot 0 (fun x => { x with lines.powered := true }) s
    Serves s (request 0x10 [slotByte 0]) [] 0x10
      ∧ ((s.slot 0).identity.record = some record3 ∧ (s.slot 0).state = .unmatched
        ∧ matchSearch s.tables.models record3.model = some 3 ∧ matchSearch State.reset.tables.models record3.model = none
        ∧ (b.slot 0).state = .ready ∧ (b.slot 0).power.spindle = .stopped ∧ (b.slot 0).heavyInFlight = false
        ∧ (b.slot 0).spinUpInFlight = false ∧ (b.slot 0).identity.model = some 3
        ∧ effectivePeaks record3 (some s.tables.models[3]) = [1600, 1400, 1400] ∧ (s.slot 0).grading.reason = none
        ∧ (∀ peak ∈ [1600, 1400, 1400], 1399 < peak) ∧ ¬(∀ peak ∈ [1600, 1400, 1400], 1400 < peak)
        ∧ (p.slot 0).lines.powered = true ∧ (p.slot 0).power.spindle = .stopped ∧ (p.slot 0).power.held = none
        ∧ (p.slot 0).traffic.injections = []) :=
  ⟨⟨rfl, rfl, rfl⟩, by decide +kernel⟩

/-- READY, bound to another entry than the search finds or to one where it finds none; the new allocation fitting and not. -/
theorem witness_Rematch_ready :
    let s (target : Nat) : State :=
      let s := withModel (slot0 fun x =>
        { x with state := .ready, power.allocation := 300, identity.record := some record3, identity.model := some 5 })
      { s with store := { s.store with target } }
    let none_ := modSlot 0 (fun x => { x with identity.record := some { record3 with model := text 40 "other" } }) (s 1000)
    ((s 1000).slot 0).state = .ready ∧ ((s 1000).slot 0).power.spindle = .stopped ∧ ((s 1000).slot 0).heavyInFlight = false
      ∧ ((s 1000).slot 0).spinUpInFlight = false ∧ matchSearch (s 1000).tables.models record3.model = some 3
      ∧ fits (s 350) 0 (max 1 (s 350).tables.models[3].standby) = true
      ∧ fits (s 349) 0 (max 1 (s 349).tables.models[3].standby) = false
      ∧ matchSearch none_.tables.models (text 40 "other") = none
      ∧ fits (s 500) 0 (s 500).store.settings.settleReserve = true
      ∧ fits (s 499) 0 (s 499).store.settings.settleReserve = false
      ∧ smallestPeak (effectivePeaks record3 (some model3)) = some 1400 := by
  decide +kernel

theorem witness_Score :
    (gradedCase.slot 0).grading.reason = none ∧ modelOf gradedCase (gradedCase.slot 0) = some model3
      ∧ modelOf State.reset (State.reset.slot 0) = none := by
  decide +kernel

/-- Forced; none eligible (the blank bins); several eligible. -/
theorem witness_BinSelected :
    let g := gradeInputs gradedCase (gradedCase.slot 0)
    let b := gradedCase.bin 0 1
    ({ g with forced := true } : GradeInputs).forced = true ∧ g.forced = false
      ∧ (∀ p : Fin 8, p ≠ 7 → (State.reset.bin 0 p).kind = .unused)
      ∧ ((1 : Fin 8) ≠ 7 ∧ b.kind ≠ .unused ∧ b.minScore ≤ g.score ∧ g.shocks ≤ b.maxShocks ∧ g.shed ≤ b.maxShed
        ∧ g.fwMismatch = false ∧ g.capLow = false ∧ g.secBlock = false ∧ g.finalIdMissing = false) := by
  decide +kernel

/-- A bin at its capacity, one below it; a sequence number left and none. -/
theorem witness_EntryAppended :
    let full := setBin 0 7 { State.reset.bin 0 7 with fill := 255 } State.reset
    (full.bin 0 7).capacity ≤ (full.bin 0 7).fill - 0 ∧ (State.reset.bin 0 7).fill - 0 < (State.reset.bin 0 7).capacity
      ∧ entryWithSerial State.reset none = none ∧ State.reset.sort.manifest.length < 64 ∧ State.reset.sort.next ≤ 4294967295
      ∧ ¬({ State.reset with sort.next := 4294967296 } : State).sort.next ≤ 4294967295 := by
  decide +kernel

/-- Into PARKING with slot power OFF, and with it ON in each spindle state; a SPIN_DOWN in flight, one listed, and neither; a
granted SPIN_UP in flight, and an ungranted one alone. -/
theorem witness_EntryAppended_parking :
    let at_ (sp : Spindle) (table : List (Option InFlight)) (list : List Injection) : Slot :=
      (modSlot 0 (fun x => { x with power := { x.power with spindle := sp, allocation := 1 }, traffic.injections := list })
        (powered .grading table)).slot 0
    let granted : InFlight := { flying .spinUp with granted := true }
    (State.reset.slot 0).lines.powered = false ∧ (at_ .stopped [] []).lines.powered = true
      ∧ (at_ .stopped [] []).power.spindle = .stopped ∧ 0 < (at_ .stopped [] []).power.allocation
      ∧ (at_ .spinning [] []).traffic.injections = [] ∧ (at_ .spinning [] []).partInFlight = false
      ∧ (at_ .spinning [] []).freeEntry = some 0
      ∧ (at_ .spinningDown [some (flying .spinDown)] []).spinDownInFlight = true
      ∧ (at_ .spinningDown [some ownIdentify] [bareInjection .spinDown]).listed .spinDown = true
      ∧ (at_ .spinningDown [] []).spinDownInFlight = false
      ∧ (at_ .spinningUp [some (flying .spinUp)] []).grantedSpinUpInFlight = false
      ∧ (at_ .spinningUp [some granted] []).grantedSpinUpInFlight = true := by
  decide +kernel

/-- Slot 0 handed over; with room, without room, with a regrade; no model; a reason recorded. -/
theorem witness_HandOver :
    let s := { modSlot 0 (fun x => { x with grading.handedOver := true, identity.record := some record3 }) gradedCase with
      transit.handOvers := [0] }
    let old : ManifestEntry := ⟨1, 5, some record3.serial, none, 0, 1, 0, 9000, false, false, false, false, false, none⟩
    0 ∈ s.transit.handOvers ∧ (s.slot 0).state = .grading ∧ (s.slot 0).grading.handedOver = true
      ∧ sortOutcome s 0 0 1 = .made false
      ∧ sortOutcome { s with sort := { s.sort with manifest := [old], next := 2 } } 0 0 1 = .made true
      ∧ sortOutcome { s with sort := { s.sort with next := 4294967296 } } 0 0 1 = .waits .manifestFull
      ∧ ((modSlot 0 (fun x => { x with state := .parking }) s).slot 0).state ≠ .grading ∧ (s.slot 0).grading.reason = none
      ∧ modelOf State.reset ((powered .grading []).slot 0) = none := by
  decide +kernel

/-- Counts 0, 1, 8 and 9; an entry found and none; a removal and none. -/
theorem witness_ManifestRequests :
    let old : ManifestEntry := ⟨440, 5, none, none, 0, 1, 0, 9000, false, false, false, false, false, none⟩
    let s := { asked 0x11 (putNum 4 440 ++ putNum 1 8) with sort.manifest := [old] }
    Serves s (request 0x11 (putNum 4 440 ++ putNum 1 8)) [] 0x11
      ∧ Serves (asked 0x12 (putNum 4 12)) (request 0x12 (putNum 4 12)) [] 0x12
      ∧ (8 < 9 ∧ (s.sort.manifest.filter fun e => 440 ≤ e.sequence) ≠ [] ∧ (s.sort.manifest.filter fun e => 441 ≤ e.sequence) = []
        ∧ (s.sort.manifest.filter fun e => e.sequence ≤ 440).length = 1
        ∧ (s.sort.manifest.filter fun e => e.sequence ≤ 439).length = 0) :=
  ⟨⟨rfl, rfl, rfl⟩, asked_serves .., by decide +kernel⟩

theorem witness_CartSwap :
    Serves (asked 0x13 [BitVec.ofNat 8 (3 : Fin 4).val, BitVec.ofNat 8 (7 : Fin 8).val])
        (request 0x13 [BitVec.ofNat 8 (3 : Fin 4).val, BitVec.ofNat 8 (7 : Fin 8).val]) [] 0x13
      ∧ 4 ≤ (4 : Byte).toNat ∧ 8 ≤ (8 : Byte).toNat :=
  ⟨asked_serves .., by decide, by decide⟩

/-- Slots 1 and 0 wait, in that order, with scores 0 and 6000, for the bins of `gradedCase`. -/
def waitingTwo (capacity : Nat) : State :=
  let g (score : Nat) : GradeInputs := ⟨score, false, none, 3, 0, false, false, false, false⟩
  let s := [(1, 0), (0, 6000)].foldl
    (fun s (v : SlotId × Nat) =>
      modSlot v.1 (fun x => { x with state := .sortWait, identity.record := some record3
                                     grading.grade := some ⟨v.2, 0, 7, false, none⟩ }) s) gradedCase
  let s := { s with sort.waiting := [⟨1, .binFull, g 0⟩, ⟨0, .binFull, g 6000⟩] }
  setBin 0 2 { s.bin 0 2 with minScore := 6000, capacity := capacity } (setBin 0 7 { s.bin 0 7 with fill := 255 } s)

/-- An entry of the list that waits, one that is appended, one whose slot is no longer there. -/
theorem witness_CartSwap_retryPass :
    let s := waitingTwo 1
    s.sort.waiting.length ≤ 48 ∧ (s.sort.waiting.find? (·.slot == 1)).isSome ∧ (s.sort.waiting.find? (·.slot == 0)).isSome
      ∧ s.sort.waiting.find? (·.slot == 2) = none
      ∧ sortOutcome s 1 0 7 = .waits .binFull ∧ sortOutcome s 0 0 2 = .made false := by
  decide +kernel

/-- R147: the pass leaves the first slot waiting for the full bin and serves the later one. -/
theorem test_retry_pass :
    let t := retryPass (waitingTwo 1)
    t.sort.waiting.map (·.slot) = [1] ∧ t.sort.manifest.map (fun e => (e.slot, e.position)) = [(0, 2)]
      ∧ (t.slot 0).state = .parking ∧ (t.slot 1).state = .sortWait := by
  decide +kernel

/-- A table with one entry that matches, one that ignores, and one that does not match; the four actions. -/
theorem witness_ResponseClassified :
    let table (a : Nat) : Vector ClassifyEntry 64 := (Vector.replicate 64 blankClassify).set 0 ⟨true, 6, 0, 0, 5, 14, a, 0⟩
    (table 0)[0].valid = true ∧ (table 0)[0].statusMatch = 6 ∧ (table 0)[0].commandMatch = 5
      ∧ (table 3)[0].defectClass < 16
      ∧ ([0, 1, 2, 3].map fun a => (classification (table a) .good 0 none).action) = [.ignore, .count, .countNote, .quarantine]
      ∧ (∀ i : Fin 64, State.reset.tables.classify[i].valid = false) := by
  decide +kernel

theorem witness_SpindleAfterResponse :
    let x := (slot0 fun x => { x with power.spindle := .spinningUp }).slot 0
    x.power.spindle = .spinningUp ∧ x.spinUpInFlight = false
      ∧ ((slot0 fun x => { x with power.spindle := .spinningDown }).slot 0).power.spindle = .spinningDown := by
  decide +kernel

/-- SPINNING_UP with the deferral mark: a granted SPIN_UP, and an orphan's SPIN_DOWN; the 16th miss. -/
theorem witness_SpindleAfterResponse_exec :
    let up : InFlight := { flying .spinUp with granted := true }
    let at_ (e : InFlight) := modSlot 0
      (fun x => { x with power.spindle := .spinningUp
                         drift := { x.drift with deferral := true, curr := { x.drift.curr with misses := 15 } } })
      { powered .burning [some e] with power.supply := .normal }
    let a := at_ up
    let b := at_ (flying .spinDown)
    (a.slot 0).lines.powered = true ∧ (a.slot 0).state ≠ .recovering ∧ (a.slot 0).state ≠ .parking
      ∧ a.power.supply = .normal ∧ (a.slot 0).traffic.queue = [] ∧ (a.slot 0).traffic.injections = []
      ∧ (a.slot 0).entryWithTag (3 : Byte).toNat = some 0 ∧ (a.slot 0).traffic.inFlight[(0 : Fin 4)] = some up
      ∧ up.cls = .spinUp ∧ up.granted = true ∧ (a.slot 0).power.spindle = .spinningUp ∧ (a.slot 0).drift.deferral = true
      ∧ ((a.slot 0).filter .curr).misses = 15 ∧ (65535#16).toNat = 65535 ∧ (65534#16).toNat ≠ 65535
      ∧ (b.slot 0).traffic.inFlight[(0 : Fin 4)] = some (flying .spinDown) ∧ (b.slot 0).entryWithTag (3 : Byte).toNat = some 0
      ∧ { b.slot 0 with traffic.inFlight := (b.slot 0).traffic.inFlight.set 0 none : Slot }.spinUpInFlight = false
      ∧ (a.slot 0).testRunning = true
      ∧ ((powered .ready [some up]).slot 0).drift.deferral = false ∧ ((powered .ready [some up]).slot 0).testRunning = false := by
  decide +kernel

/-- A server's IDENTIFY in flight in READY, with a record held; a block with its serial, and a payload that is no block. -/
theorem witness_ResponseForwarded_identify :
    let s := powered .ready [some (flying .identify)]
    (s.slot 0).lines.powered = true ∧ (s.slot 0).state ≠ .recovering ∧ (s.slot 0).state ≠ .identifying
      ∧ (s.slot 0).entryWithTag (3 : Byte).toNat = some 0 ∧ (s.slot 0).traffic.inFlight[(0 : Fin 4)] = some (flying .identify)
      ∧ (flying .identify).source = some 5 ∧ (flying .identify).cls = .identify ∧ (s.slot 0).traffic.queue = []
      ∧ (parseIdentity block3).isSome ∧ parseIdentity [1] = none
      ∧ ((slot0 fun x => { x with identity.record := parseIdentity block3 }).slot 0).identity.record.isSome := by
  decide +kernel

/-- Slots in GRADING, the supply NORMAL: the final IDENTIFY alone in flight, a LIGHT alone with nothing recorded, with a reason
recorded, and beside another command; the hand-over sent. -/
theorem witness_ResponseForwarded_grading :
    let normal (s : State) : State := { s with power.supply := .normal }
    let f := normal (powered .grading [some { ownIdentify with final := true }])
    let l := normal (powered .grading [some (flying .light)])
    let r := modSlot 0 (fun x => { x with grading.reason := some .overdraw }) l
    let two := normal (powered .grading [some (flying .light), some { flying .heavy with tag := 4 }])
    (f.slot 0).lines.powered = true ∧ (f.slot 0).state = .grading ∧ (f.slot 0).entryWithTag (31 : Byte).toNat = some 0
      ∧ (f.slot 0).traffic.inFlight[(0 : Fin 4)] = some { ownIdentify with final := true }
      ∧ (∀ j : Fin 4, j ≠ 0 → (f.slot 0).traffic.inFlight[j] = none) ∧ (f.slot 0).traffic.injections = []
      ∧ (f.slot 0).grading.handedOver = false ∧ f.power.supply = .normal
      ∧ (l.slot 0).grading.reason = none ∧ (l.slot 0).grading.finalIdentify = .notDue
      ∧ (l.slot 0).traffic.inFlight[(0 : Fin 4)] = some (flying .light) ∧ (r.slot 0).grading.reason ≠ none
      ∧ (two.slot 0).traffic.inFlight[(1 : Fin 4)] = some { flying .heavy with tag := 4 }
      ∧ ((modSlot 0 (fun x => { x with grading.handedOver := true }) f).slot 0).grading.handedOver = true := by
  decide +kernel

/-- R136: the answer to the final IDENTIFY brings the grade point, and the hand-over is sent. -/
theorem test_final_identify_hands_over :
    (match exec (.driveResponse 0 31 .hardware 0 [] ⟨0, 0, 0⟩) (powered .grading [some { ownIdentify with final := true }]) with
      | .next t => t.transit.handOvers
      | _ => [])
      = [0] := by
  decide +kernel

/-- A LIGHT and a SPIN_UP in flight; the good run at 62 and 63. -/
theorem witness_ResponseForwarded :
    let s := powered .burning [none, some (flying .light)]
    (s.slot 0).lines.powered = true ∧ (s.slot 0).state ≠ .recovering ∧ (s.slot 0).entryWithTag (3 : Byte).toNat = some 1
      ∧ (s.slot 0).traffic.inFlight[(1 : Fin 4)] = some (flying .light) ∧ (flying .light).source = some 5
      ∧ (flying .light).cls ≠ .identify ∧ (flying .spinUp).cls ≠ .identify ∧ (s.slot 0).traffic.queue = []
      ∧ (s.slot 0).traffic.injections = [] ∧ (s.slot 0).state ≠ .grading
      ∧ ((slot0 fun x => { x with tallies.goodRun := 62 }).slot 0).tallies.goodRun < 63
      ∧ ¬((slot0 fun x => { x with tallies.goodRun := 63 }).slot 0).tallies.goodRun < 63 := by
  decide +kernel

/-- IDENTIFYING with a payload that is no identity block; PARKING with SPIN_DOWN and with a granted SPIN_UP, a server's or the
part's, in flight. -/
theorem witness_ResponseForwarded_part :
    let up : InFlight := { flying .spinUp with granted := true }
    let down : InFlight := { flying .spinDown with tag := 31, origin := .part, source := none }
    let i := powered .identifying [some ownIdentify]
    let p := powered .parking [some up, some down]
    (i.slot 0).entryWithTag (31 : Byte).toNat = some 0 ∧ parseIdentity [1] = none ∧ (i.slot 0).identity.retryMark = false
      ∧ (i.slot 0).recovery.episodes < 4 ∧ (i.slot 0).grading.reason = none
      ∧ ((slot0 fun x => { x with identity.retryMark := true }).slot 0).identity.retryMark = true
      ∧ (p.slot 0).lines.powered = true ∧ (p.slot 0).state = .parking ∧ (p.slot 0).entryWithTag (3 : Byte).toNat = some 0
      ∧ (p.slot 0).traffic.inFlight[(0 : Fin 4)] = some up ∧ (p.slot 0).entryWithTag (31 : Byte).toNat = some 1
      ∧ (p.slot 0).traffic.inFlight[(1 : Fin 4)] = some down := by
  decide +kernel

/-- R18: in PARKING the end of a granted SPIN_UP of a server that is not GOOD is followed by the part's SPIN_DOWN. -/
theorem test_parking_response :
    (match exec (.driveResponse 0 3 .hardware 0 [] ⟨0, 0, 0⟩)
        (powered .parking [some { flying .spinUp with granted := true }]) with
      | .next t => ((t.slot 0).lines.powered, (t.slot 0).spinDownInFlight)
      | _ => (false, false))
      = (true, true) := by
  decide +kernel

/-- R69: with run current 0 and increment 1 the last HEAVY's retirement releases its 1 mA, though the figure of 0 then
counts as 1. -/
theorem test_last_heavy_released :
    let s := withModel (powered .burning [some (flying .heavy), some (flying .light)])
    let s := { s with tables.models := s.tables.models.set 3 { model3 with run := 0, heavyIncrement := 1 } }
    let s := modSlot 0
      (fun x => { x with identity.model := some 3, power := { x.power with allocation := 2, spindle := .spinning } }) s
    [((retireEntry 0 1 s).slot 0).power.allocation, ((retireEntry 0 0 s).slot 0).power.allocation] = [2, 1] := by
  decide +kernel

/-- R67: with run current 0 a granted HEAVY holds 1 mA above the state figure, and a LIGHT's retirement leaves it. -/
theorem test_unrelated_retirement :
    let s := withModel (powered .burning [some (flying .heavy), some (flying .light)])
    let s := { s with tables.models := s.tables.models.set 3 { model3 with run := 0 } }
    let s := modSlot 0
      (fun x => { x with identity.model := some 3, power := { x.power with allocation := 401, spindle := .spinning } }) s
    [((retireEntry 0 1 s).slot 0).power.allocation, ((retireEntry 0 0 s).slot 0).power.allocation] = [401, 1] := by
  decide +kernel

/-- Slot power OFF, with a SPIN_DOWN that the park timer retired and without. -/
theorem witness_ResponseUnexpected_late :
    let x := (slot0 fun x => { x with state := .parking, lines.late := [(31, 0)] }).slot 0
    x.lines.powered = false ∧ ((31 : Byte).toNat, State.reset.now) ∈ x.lines.late ∧ (State.reset.slot 0).lines.late = [] := by
  decide +kernel

/-- R18, R32: the SPIN_DOWN response that reached the entry together with the park timer is counted as unexpected, once; one
that comes when the clock has moved on, with slot power OFF, is discarded uncounted. -/
theorem test_late_response :
    (match exec (.parkTimerExpiry 0)
        (modSlot 0 (fun x => { x with lines.park := some 30000 }) (powered .parking [some (flying .spinDown)])) with
      | .next t =>
        let count : State → Nat × Option State := fun t =>
          match exec (.driveResponse 0 3 .good 0 [] ⟨0, 0, 0⟩) t with
          | .next u => ((u.slot 0).tallies.unexpected, some u)
          | _ => (99, none)
        ((count t).1, (count t).2.map fun u => (count u).1, (count { t with now := t.now + 1 }).1)
      | _ => (98, none, 98))
      = (1, some 1, 0) := by
  decide +kernel

theorem witness_ResponseUnexpected :
    ((powered .recovering []).slot 0).lines.powered = true ∧ ((powered .recovering []).slot 0).state = .recovering
      ∧ ((powered .ready []).slot 0).state ≠ .recovering ∧ ((powered .ready []).slot 0).entryWithTag (31 : Byte).toNat = none
      ∧ ((slot0 fun x => { x with tallies.unexpected := 1 }).slot 0).tallies.unexpected < 2
      ∧ 2 ≤ ((slot0 fun x => { x with tallies.unexpected := 2 }).slot 0).tallies.unexpected := by
  decide +kernel

theorem witness_LinkErrors :
    ((powered .ready []).slot 0).lines.powered = true ∧ ((powered .recovering []).slot 0).state = .recovering
      ∧ ((slot0 fun x => { x with tallies.badFrames := 6 }).slot 0).tallies.badFrames < 7
      ∧ 7 ≤ ((slot0 fun x => { x with tallies.badFrames := 7 }).slot 0).tallies.badFrames
      ∧ (State.reset.slot 0).recovery.breakLatch = false
      ∧ ((slot0 fun x => { x with recovery.breakLatch := true }).slot 0).recovery.breakLatch = true
      ∧ ((powered .grading []).slot 0).state ∉ [SlotState.identifying, .unmatched, .ready, .calibrating, .burning] := by
  decide +kernel

/-- The longest payload, and a frame that fails its check. -/
theorem witness_LinkErrors_frames :
    (List.replicate 512 (0 : Byte)).length < 65536 ∧ driveFramePasses [0x82] = false := by
  decide +kernel

/-- 12.1: a link-ready frame, kind byte 82h, with its CRC-32. -/
theorem test_link_ready_frame :
    driveFrameCommand 0 (withCrc [0x82, 0, 0, 0, 0, 0, 0]) ⟨0, 0, 0⟩ = some (.linkReady 0) := by
  decide +kernel

/-- An episode at its first, second and third attempt, a wait that began now and one that began 1 ms ago, and a wait that is not
running. -/
theorem witness_LinkReady :
    let r (k : Nat) := (slot0 fun x => { x with state := .recovering, lines.powered := true, recovery := { x.recovery with attempts := k, wait := some 10000, resume := some .burning } }).slot 0
    (r 2).lines.powered = true ∧ (r 2).state = .recovering ∧ (r 2).recovery.wait = some 10000 ∧ (r 2).recovery.attempts < 3
      ∧ (r 1).recovery.attempts ≤ 1 ∧ 2 ≤ (r 2).recovery.attempts ∧ State.reset.now + 10000 ≤ 10000
      ∧ 10000 < ({ State.reset with now := 1 } : State).now + 10000
      ∧ 3 ≤ (r 3).recovery.attempts ∧ ((powered .recovering []).slot 0).recovery.wait = none
      ∧ ((powered .ready []).slot 0).state ≠ .recovering := by
  decide +kernel

/-- Resumed into IDENTIFYING with the spindle SPINNING_DOWN, into READY with an orphan, a spindle that sheds, and nothing to
refill; each class at the queue head, with no grant held and none asked for. -/
theorem witness_LinkReady_refill :
    let back (st : SlotState) (sp : Spindle) (queue : List QueuedCmd) (supply : SupplyState) : State :=
      let s := slot0 fun x =>
        { x with state := .recovering, lines.powered := true, power.spindle := sp, traffic.queue := queue
                 recovery := { x.recovery with attempts := 1, wait := some 10000, resume := some st } }
      { s with power.supply := supply }
    let x := (back .identifying .spinningDown [] .normal).slot 0
    x.lines.powered = true ∧ x.state = .recovering ∧ x.recovery.wait = some 10000 ∧ x.recovery.attempts ≤ 1
      ∧ x.recovery.resume = some .identifying ∧ x.power.spindle = .spinningDown
      ∧ x.traffic.injections = [] ∧ x.traffic.reserved = none ∧ (∀ k : Fin 4, x.traffic.inFlight[k] = none)
      ∧ ((back .ready .spinningUp [] .normal).slot 0).power.spindle = .spinningUp
      ∧ (back .burning .spinning [] .warning).power.supply ≠ .normal
      ∧ ([CmdClass.light, .heavy, .spinUp, .identify].map fun c =>
          ((back .ready .spinning [waiting c] .normal).slot 0).traffic.queue.head?.map (·.cls))
          = [some .light, some .heavy, some .spinUp, some .identify]
      ∧ ((back .ready .spinning [] .normal).slot 0).power.spindle = .spinning
      ∧ ((back .ready .stopped [waiting .spinUp] .normal).slot 0).power.spindle = .stopped
      ∧ entryOf (back .ready .stopped [waiting .spinUp] .normal) 0 = none
      ∧ ((back .ready .stopped [waiting .spinUp] .normal).slot 0).power.held = none := by
  decide +kernel

/-- R45: resumed into IDENTIFYING with the spindle SPINNING_DOWN, IDENTIFY is sent and SPIN_DOWN waits behind it. -/
theorem test_refill_order :
    let s := slot0 fun x =>
      { x with state := .recovering, lines.powered := true, power.spindle := .spinningDown
               recovery := { x.recovery with attempts := 1, wait := some 10000, resume := some .identifying } }
    (match exec (.linkReady 0) s with
      | .next t => (t.sent, (t.slot 0).traffic.injections.map (·.cls))
      | _ => ([], []))
      = ([(0, .command 31 .identify [0x10])], [.spinDown]) := by
  decide +kernel

theorem witness_DriveReset :
    ((powered .ready []).slot 0).recovery.episodes < 4
      ∧ 4 ≤ ((modSlot 0 (fun x => { x with recovery.episodes := 4 }) (powered .ready [])).slot 0).recovery.episodes
      ∧ ((powered .recovering []).slot 0).state = .recovering ∧ ((powered .grading []).slot 0).state = .grading
      ∧ ((powered .parking []).slot 0).state = .parking ∧ ((powered .grading []).slot 0).grading.reason = none := by
  decide +kernel

/-- The part's final IDENTIFY, a SPIN_DOWN in PARKING, a granted SPIN_UP of an orphan, and a table with none of them; a reason
recorded, the final identify ended, and not yet due; the orphan at the episode limit. -/
theorem witness_DriveReset_part :
    let final : InFlight := { ownIdentify with final := true }
    let down : InFlight := ⟨31, .spinDown, .part, false, 0, 1000, none, false⟩
    let f := modSlot 0 (fun x => { x with identity.record := some record3 }) (powered .grading [some final])
    let p := powered .parking [some (flying .light), some down]
    let g := modSlot 0 (fun x => { x with power.spindle := .spinningUp })
      (powered .sortWait [some { flying .spinUp with granted := true }])
    let r := modSlot 0 (fun x => { x with grading.reason := some .overdraw }) (powered .grading [some (flying .light)])
    (f.slot 0).lines.powered = true ∧ (f.slot 0).state = .grading ∧ (f.slot 0).traffic.inFlight[(0 : Fin 4)] = some final
      ∧ (f.slot 0).identity.record = some record3 ∧ (f.slot 0).grading.handedOver = false
      ∧ (f.slot 0).traffic.injections = [] ∧ (f.slot 0).power.spindle ≠ .spinningUp
      ∧ (p.slot 0).state = .parking ∧ (p.slot 0).traffic.inFlight[(1 : Fin 4)] = some down
      ∧ (g.slot 0).state = .sortWait ∧ (g.slot 0).power.spindle = .spinningUp
      ∧ (g.slot 0).traffic.inFlight[(0 : Fin 4)] = some { flying .spinUp with granted := true }
      ∧ (r.slot 0).grading.reason ≠ none ∧ ((powered .grading [some (flying .light)]).slot 0).grading.finalIdentify = .notDue
      ∧ ((modSlot 0 (fun x => { x with grading.finalIdentify := .ended }) r).slot 0).grading.finalIdentify = .ended
      ∧ ((modSlot 0 (fun x => { x with recovery.episodes := 4, power.spindle := .spinningUp }) (powered .ready [])).slot 0).power.spindle
          = .spinningUp := by
  decide +kernel

/-- R41, R60: a drive reset in GRADING ends the final IDENTIFY without an answer. -/
theorem test_reset_ends_final :
    (match exec (.driveReset 0)
        (modSlot 0 (fun x => { x with identity.record := some record3, grading.finalIdentify := .due })
          (powered .grading [some { ownIdentify with final := true }])) with
      | .next t =>
        ((t.slot 0).identity.flags.finalIdMissing, (t.slot 0).identity.record.map (·.lastOutcome), (t.slot 0).grading.finalIdentify,
          t.transit.handOvers)
      | _ => (false, none, .notDue, []))
      = (true, some .noResponse, .ended, [0]) := by
  decide +kernel

theorem witness_ClassTimeoutExpiry :
    let s := powered .burning [some (flying .heavy)]
    (s.slot 0).traffic.inFlight[(0 : Fin 4)] = some (flying .heavy) ∧ (flying .heavy).source = some 5
      ∧ (flying .heavy).cls = .heavy ∧ (s.slot 0).recovery.episodes < 4
      ∧ ((powered .parking [some (flying .light)]).slot 0).state = .parking
      ∧ ((powered .parking [some (flying .light)]).slot 0).traffic.injections = [] := by
  decide +kernel

/-- A server's IDENTIFY, SPIN_UP and SPIN_DOWN: in READY, in IDENTIFYING, in GRADING, and in PARKING with slot power ON. -/
theorem witness_ClassTimeoutExpiry_server :
    let r := modSlot 0 (fun x => { x with identity.record := parseIdentity block3 }) (powered .ready [some (flying .identify)])
    let i := powered .identifying [some (flying .spinUp)]
    let g := powered .grading [some (flying .spinUp)]
    let p := powered .parking [some (flying .spinDown)]
    (r.slot 0).traffic.inFlight[(0 : Fin 4)] = some (flying .identify) ∧ (flying .identify).source = some 5
      ∧ (r.slot 0).recovery.episodes < 4 ∧ (r.slot 0).state ≠ .identifying ∧ (r.slot 0).identity.record.isSome
      ∧ (i.slot 0).state = .identifying ∧ (flying .spinUp).cls ≠ .identify ∧ (g.slot 0).state = .grading
      ∧ (p.slot 0).state = .parking ∧ (p.slot 0).lines.powered = true
      ∧ (p.slot 0).traffic.inFlight[(0 : Fin 4)] = some (flying .spinDown) := by
  decide +kernel

/-- The part's own commands: the first IDENTIFY with the retry mark clear and set, a final IDENTIFY, a granted SPIN_UP beside an
ungranted one, and a SPIN_DOWN in PARKING. -/
theorem witness_ClassTimeoutExpiry_part :
    let up : InFlight := ⟨31, .spinUp, .part, true, 0, 1000, none, false⟩
    let down : InFlight := ⟨31, .spinDown, .part, false, 0, 1000, none, false⟩
    let i := powered .identifying [some ownIdentify]
    let f := powered .grading [some { ownIdentify with final := true }]
    let g := modSlot 0 (fun x => { x with power.spindle := .spinningUp }) (powered .grading [some up, some (flying .spinUp)])
    let p := powered .parking [some down]
    (i.slot 0).traffic.inFlight[(0 : Fin 4)] = some ownIdentify ∧ (i.slot 0).recovery.episodes < 4
      ∧ (i.slot 0).identity.retryMark = false ∧ (i.slot 0).grading.reason = none
      ∧ (f.slot 0).traffic.inFlight[(0 : Fin 4)] = some { ownIdentify with final := true } ∧ (f.slot 0).state = .grading
      ∧ (g.slot 0).state = .grading ∧ (g.slot 0).traffic.inFlight[(0 : Fin 4)] = some up ∧ (g.slot 0).power.spindle = .spinningUp
      ∧ (∀ j : Fin 4, j ≠ 0 → ∀ e ∈ (g.slot 0).traffic.inFlight[j], e.cls = .spinUp → e.granted = false)
      ∧ (g.slot 0).traffic.injections = []
      ∧ (p.slot 0).traffic.inFlight[(0 : Fin 4)] = some down ∧ (p.slot 0).state = .parking ∧ (p.slot 0).lines.powered = true := by
  decide +kernel

/-- The final IDENTIFY, and a LIGHT with a reason recorded, alone in flight in GRADING. -/
theorem witness_ClassTimeoutExpiry_grading :
    let f := powered .grading [some { ownIdentify with final := true }]
    let l := modSlot 0 (fun x => { x with grading.reason := some .overdraw }) (powered .grading [some (flying .light)])
    (f.slot 0).traffic.inFlight[(0 : Fin 4)] = some { ownIdentify with final := true } ∧ (f.slot 0).state = .grading
      ∧ (f.slot 0).grading.handedOver = false ∧ (f.slot 0).traffic.injections = []
      ∧ (∀ j : Fin 4, j ≠ 0 → (f.slot 0).traffic.inFlight[j] = none) ∧ (f.slot 0).power.spindle ≠ .spinningUp
      ∧ (l.slot 0).traffic.inFlight[(0 : Fin 4)] = some (flying .light) ∧ (l.slot 0).grading.reason ≠ none := by
  decide +kernel

/-- A server's LIGHT in GRADING: beside another command, alone with the final IDENTIFY not yet due, and with a reason recorded. -/
theorem witness_ClassTimeoutExpiry_drain :
    let s (table : List (Option InFlight)) : State := powered .grading (some (flying .light) :: table)
    ((s []).slot 0).traffic.inFlight[(0 : Fin 4)] = some (flying .light) ∧ (flying .light).source = some 5
      ∧ ((s []).slot 0).state = .grading ∧ ((s []).slot 0).lines.powered = true
      ∧ ((s []).slot 0).grading.handedOver = false ∧ ((s []).slot 0).grading.reason = none
      ∧ ((s []).slot 0).grading.finalIdentify = .notDue ∧ ((s []).slot 0).traffic.injections = []
      ∧ ((s []).slot 0).traffic.reserved = none ∧ (∀ j : Fin 4, j ≠ 0 → ((s []).slot 0).traffic.inFlight[j] = none)
      ∧ ((s [some { flying .heavy with tag := 4 }]).slot 0).traffic.inFlight[(1 : Fin 4)] = some { flying .heavy with tag := 4 }
      ∧ ((s [some ownIdentify]).slot 0).traffic.inFlight[(1 : Fin 4)] = some ownIdentify
      ∧ ((modSlot 0 (fun x => { x with grading.reason := some .overdraw }) (s [])).slot 0).grading.reason ≠ none := by
  decide +kernel

/-- R38: in GRADING the end of a granted SPIN_UP is followed by SPIN_DOWN, an ungranted SPIN_UP still in flight. -/
theorem test_orphan_beside_ungranted :
    (match exec (.classTimeoutExpiry 0 0)
        (modSlot 0 (fun x => { x with power.spindle := .spinningUp })
          (powered .grading [some { flying .spinUp with granted := true }, some { flying .spinUp with tag := 4 }])) with
      | .next t => (t.slot 0).spinDownInFlight
      | _ => false)
      = true := by
  decide +kernel

/-- No match, and a match with the smallest peak at the target and one above it; nothing held back; a pattern with '*' and one
without. -/
theorem witness_FirstIdentify :
    let s := powered .identifying [some ownIdentify]
    (s.slot 0).lines.powered = true ∧ (s.slot 0).state = .identifying ∧ (s.slot 0).grading.reason = none
      ∧ (s.slot 0).entryWithTag (31 : Byte).toNat = some 0 ∧ (s.slot 0).traffic.inFlight[(0 : Fin 4)] = some ownIdentify
      ∧ ownIdentify.cls = .identify ∧ ownIdentify.source = none ∧ parseIdentity block3 = some record3
      ∧ matchSearch s.tables.models record3.model = none ∧ matchSearch withModel.tables.models record3.model = some 3
      ∧ effectivePeaks record3 (some withModel.tables.models[3]) = [1600, 1400, 1400]
      ∧ (∀ peak ∈ [1600, 1400, 1400], 1399 < peak) ∧ ¬(∀ peak ∈ [1600, 1400, 1400], 1400 < peak)
      ∧ (s.slot 0).power.spindle = .stopped ∧ (s.slot 0).power.held = none ∧ (s.slot 0).traffic.injections = []
      ∧ (text 8 "VT-4000*").getLast? ≠ some 0x20 ∧ text 8 "VT-4000*" = text 7 "VT-4000" ++ [0x2A]
      ∧ (text 7 "VT-4000").getLast? ≠ some 0x20 ∧ (text 7 "VT-4000").getLast? ≠ some 0x2A := by
  decide +kernel

/-- Another serial, the same with the firmware of the record and with another one; final and not; no valid block. -/
theorem witness_FirstIdentify_later :
    let e : InFlight := { flying .identify with tag := 3 }
    let s := withModel (modSlot 0 (fun x => { x with identity.record := some record3, identity.model := some 3 })
      (powered .ready [some e]))
    let f := powered .grading [some { ownIdentify with final := true }]
    (s.slot 0).lines.powered = true ∧ (s.slot 0).state = .ready ∧ (s.slot 0).entryWithTag (3 : Byte).toNat = some 0
      ∧ (s.slot 0).traffic.inFlight[(0 : Fin 4)] = some e ∧ e.cls = .identify ∧ (s.slot 0).identity.record = some record3
      ∧ parseIdentity block3 = some record3 ∧ parseIdentity [1] = none
      ∧ (parseIdentity (block3.set 60 0x58)).map (·.serial) ≠ some record3.serial
      ∧ (parseIdentity (block3.set 61 0x58)).map (·.serial) = some record3.serial
      ∧ (parseIdentity (block3.set 61 0x58)).map (·.firmware) ≠ some record3.firmware
      ∧ (s.slot 0).power.spindle = .stopped ∧ (s.slot 0).heavyInFlight = false ∧ (s.slot 0).spinUpInFlight = false
      ∧ matchSearch s.tables.models record3.model = some 3 ∧ (s.slot 0).identity.model = some 3
      ∧ (f.slot 0).state = .grading ∧ (f.slot 0).traffic.inFlight[(0 : Fin 4)] = some { ownIdentify with final := true } := by
  decide +kernel

/-- A re-capture in READY with another firmware: the search finds the entry bound, another one or none; the new allocation fits
and does not; the smallest peak is at the target and one above it. -/
theorem witness_FirstIdentify_rebinding :
    let new := record3.firmware.set 0 0x58
    let s (old : Fin 16) (allocation target : Nat) : State :=
      let s := withModel (modSlot 0 (fun x =>
          { x with identity.record := some { record3 with firmware := new }, identity.model := some old, power.allocation := allocation })
        (powered .ready [some (flying .identify)]))
      { s with store := { s.store with target } }
    let other := block3.set 1 0x58
    ((s 5 300 350).slot 0).state = .ready ∧ ((s 5 300 350).slot 0).lines.powered = true
      ∧ ((s 5 300 350).slot 0).entryWithTag (3 : Byte).toNat = some 0 ∧ ((s 5 300 350).slot 0).power.spindle = .stopped
      ∧ ((s 5 300 350).slot 0).heavyInFlight = false ∧ ((s 5 300 350).slot 0).spinUpInFlight = false
      ∧ ((s 5 300 350).slot 0).power.held = none ∧ ((s 5 300 350).slot 0).traffic.injections = []
      ∧ ((s 5 300 350).slot 0).grading.reason = none ∧ record3.firmware ≠ new
      ∧ matchSearch (s 5 300 350).tables.models record3.model = some 3 ∧ ((s 3 300 350).slot 0).identity.model = some 3
      ∧ fits (s 5 300 350) 0 (max 1 (s 5 300 350).tables.models[3].standby) = true
      ∧ fits (s 5 300 349) 0 (max 1 (s 5 300 349).tables.models[3].standby) = false
      ∧ effectivePeaks record3 (some (s 5 300 1399).tables.models[3]) = [1600, 1400, 1400] ∧ (s 5 300 1399).store.target < 1400
      ∧ ¬(s 5 300 1400).store.target < 1400
      ∧ (parseIdentity other).map (·.serial) = some record3.serial
      ∧ ((parseIdentity other).map fun r => matchSearch (s 5 300 500).tables.models r.model) = some none
      ∧ fits (s 5 300 500) 0 (s 5 300 500).store.settings.settleReserve = true
      ∧ fits (s 5 300 499) 0 (s 5 300 499).store.settings.settleReserve = false
      ∧ modelOf (s 3 300 499) ((s 3 300 499).slot 0) = some (s 3 300 499).tables.models[3]
      ∧ modelOf (s 3 300 1399) ((s 3 300 1399).slot 0) = some (s 3 300 1399).tables.models[3]
      ∧ fits (s 3 300 1399) 0 (s 3 300 1399).store.settings.settleReserve = true
      ∧ effectivePeaks record3 (some (s 3 300 1400).tables.models[3]) = [1600, 1400, 1400] := by
  decide +kernel

/-- R52, R56, R59: a re-capture in READY with another firmware, LOCKED, whose rebinding (no match, a settle reserve of 500 mA
under a target of 499 mA) does not fit. The flags and the peaks are those of the new block against the entry still bound. -/
theorem test_recapture_computes_where_rebinding_does_not_fit :
    (match exec (.driveResponse 0 3 .good 0 ((block3.set 1 0x58).set 75 4) ⟨0, 0, 0⟩)
        (let s := withModel (modSlot 0 (fun x =>
            { x with identity.record := some { record3 with firmware := text 8 "FW0219" }, identity.model := some 3,
                     power.allocation := 350 })
          (powered .ready [some (flying .identify)]))
        { s with store := { s.store with target := 499 } }) with
      | .next t => ((t.slot 0).identity.flags, (t.slot 0).identity.peaks, (t.slot 0).identity.model, (t.slot 0).state)
      | _ => (⟨false, false, false, false, false⟩, [], none, .empty))
      = (⟨true, false, true, true, false⟩, [1600, 1400, 1400], some 3, .grading) := by
  decide +kernel

/-- A server's IDENTIFY in BURNING while the spindle is SPINNING_UP, and while a grant is held; then the answer to the granted
SPIN_UP, and to a SPIN_DOWN of an orphan, with peaks pending. -/
theorem witness_FirstIdentify_held :
    let s (sp : Spindle) (held : Option Nat) (table : List (Option InFlight)) : State :=
      withModel (modSlot 0 (fun x =>
          { x with identity := { x.identity with record := some record3, model := some 3, peaks := [1], pendingPeaks := some [2] }
                   power := { x.power with spindle := sp, held := held } })
        (powered .burning table))
    let granted : InFlight := { flying .spinUp with granted := true }
    let h := s .spinningUp none [some (flying .identify)]
    let u := s .spinningUp none [some granted]
    let d := s .spinningUp none [some (flying .spinDown)]
    (h.slot 0).lines.powered = true ∧ (h.slot 0).state = .burning ∧ (h.slot 0).entryWithTag (3 : Byte).toNat = some 0
      ∧ (h.slot 0).traffic.inFlight[(0 : Fin 4)] = some (flying .identify) ∧ (h.slot 0).power.spindle = .spinningUp
      ∧ parseIdentity block3 = some record3 ∧ (h.slot 0).identity.record = some record3
      ∧ ((s .spinning (some 0) [some (flying .identify)]).slot 0).power.held ≠ none
      ∧ (u.slot 0).entryWithTag (3 : Byte).toNat = some 0 ∧ (u.slot 0).traffic.inFlight[(0 : Fin 4)] = some granted
      ∧ (u.slot 0).identity.pendingPeaks = some [2] ∧ (u.slot 0).power.spindle = .spinningUp
      ∧ (d.slot 0).traffic.inFlight[(0 : Fin 4)] = some (flying .spinDown) ∧ (d.slot 0).spinUpInFlight = false := by
  decide +kernel

/-- An unmasked set that is empty and one that is not; 31 and 32 notices; SUPPLY_WARN masked and not. -/
theorem witness_EventRaised :
    let queued (k : Nat) : State := { State.reset with notices.queue := (List.range k).map fun i => .slot (Fin.ofNat 48 i) }
    unmaskedSlot State.reset 0 = 0 ∧ unmaskedSlot (raiseSlot 0 .watch State.reset) 0 ≠ 0 ∧ unmaskedPart State.reset ≠ 0
      ∧ unmaskedPart { State.reset with notices.part := 0 } = 0 ∧ (queued 31).notices.queue.length < 32
      ∧ 32 ≤ (queued 32).notices.queue.length ∧ State.reset.store.settings.eventMask.part.getLsbD 1 = false
      ∧ ({ State.reset with store.settings := { State.reset.store.settings with eventMask := ⟨0, 2⟩ } } : State).store.settings.eventMask.part.getLsbD 1 = true := by
  decide +kernel

/-- A part with a command waiting, for the invariants: it has each, and its step answers a next state. -/
def busyPart : State := { State.reset with pending := [.presenceAssert 0] }

theorem witness_invariants :
    busyPart.storable ∧ busyPart.withinBudget ∧ busyPart.queuesWithin ∧ busyPart.sortAgrees ∧ busyPart.noticesAgree
      ∧ busyPart.admissionAgrees ∧ (∀ rest, busyPart.pending ≠ .setBudget :: rest) ∧ ∃ t, step busyPart = .next t := by
  refine ⟨storable_of_defaults _ rfl rfl rfl rfl, ?_, ?_, ?_, ?_, ?_, ?_, ⟨_, rfl⟩⟩
  · unfold State.withinBudget
    decide +kernel
  · unfold State.queuesWithin
    decide +kernel
  · unfold State.sortAgrees
    decide +kernel
  · refine ⟨by decide +kernel, by decide +kernel, ?_⟩
    intro src
    cases src with
    | part => exact ⟨by decide +kernel, by decide +kernel⟩
    | slot n => revert n; decide +kernel
  · unfold State.admissionAgrees
    decide +kernel
  · intro rest h
    simp [busyPart] at h

/-- A slot with a full table, the part's command in it and tags at the ends of their range, and with a queue. -/
def crowded : Slot :=
  (modSlot 0
    (fun x =>
      { x with traffic.queue := [{ waiting .light with tag := 27 }, { waiting .heavy with tag := 1 }], traffic.reserved := some 3 })
    (powered .ready [some { flying .light with tag := 0 }, some ownIdentify, some { flying .heavy with tag := 26 }])).slot 0

theorem witness_CommandsKept : crowded.commandsAgree := by
  refine ⟨fun j e h => ?_, fun j k e f hj hk => ?_, by decide +kernel, fun q hq => ?_, by decide +kernel⟩
  · exact (by decide +kernel : ∀ j : Fin 4, ∀ e ∈ crowded.traffic.inFlight[j],
      (e.origin = .server ∧ e.tag ≤ 27 ∧ e.source ≠ none) ∨ (e.origin = .part ∧ e.tag = 31 ∧ e.source = none)) j e h
  · exact (by decide +kernel : ∀ j k : Fin 4, ∀ e ∈ crowded.traffic.inFlight[j], ∀ f ∈ crowded.traffic.inFlight[k],
      (e.origin = .part ∧ f.origin = .part) ∨ e.tag = f.tag → j = k) j k e hj f hk
  · have table : ∀ q ∈ crowded.traffic.queue, q.tag ≤ 27 ∧ ∀ j : Fin 4, ∀ e ∈ crowded.traffic.inFlight[j], e.tag ≠ q.tag := by
      decide +kernel
    exact ⟨(table q hq).1, fun j e h => (table q hq).2 j e h⟩

/-- Slots at the ends of their lives: 0 SORTED with the latch open, 1 RECOVERING from UNMATCHED, 2 waiting to be sorted, 3 waiting
for power, 4 in its test, bound to the entry of index 3 and with a command waiting. -/
def variedPart : State :=
  let s := slot0 fun x =>
    { x with state := .sorted, lines := { x.lines with latch := .opened, rundown := .expired }, grading.reason := some .requested }
  let s := modSlot 1
    (fun x =>
      { x with state := .recovering, lines := { x.lines with powered := true, rundown := .stopped }
               recovery.resume := some .unmatched }) s
  let s := modSlot 2 (fun x => { x with state := .sortWait }) (modSlot 3 (fun x => { x with state := .powerWait }) s)
  let s := modSlot 4
    (fun x => { x with state := .burning, lines := { x.lines with powered := true, rundown := .stopped }, identity.model := some 3 }) s
  { s with
    pending := [.linkReady 1]
    power.queue := [⟨3, .slotPower, .part, 0, false⟩]
    sort.waiting := [⟨2, .binFull, ⟨6000, false, none, 0, 0, false, false, false, false⟩⟩]
    tables := { s.tables with models := s.tables.models.set 3 { model3 with refCount := 1 } } }

theorem witness_LivesKept : variedPart.livesAgree ∧ ∃ t, step variedPart = .next t := by
  have run : ∀ n, (match (variedPart.slot n).lines.rundown with
      | .running _ => !(variedPart.slot n).lines.powered
      | .stopped | .expired => true) = true := by decide +kernel
  refine ⟨⟨fun n => ⟨?_, fun t h => ?_, ?_, ?_, ?_⟩, by decide +kernel, by decide +kernel⟩, _, rfl⟩
  · revert n; decide +kernel
  · have := run n
    rw [h] at this
    simpa using this
  · revert n; decide +kernel
  · revert n; decide +kernel
  · revert n; decide +kernel

theorem witness_BindingsKept : variedPart.bindingsAgree := ⟨by decide +kernel, by decide +kernel⟩

end Sys2Proof.Tests
end

section
/-! SUPPORT and PROOF of O46. The search of the classification table, and what a classification does to its slot (chapter 7). -/

namespace Sys2Proof.Machine

/-! ### The search of the table -/

theorem xor_and_eq_zero_iff {w : Nat} (a b m : BitVec w) : (a ^^^ b) &&& m = 0#w ↔ a &&& m = b &&& m := by
  have distrib : (a ^^^ b) &&& m = (a &&& m) ^^^ (b &&& m) := by
    ext i; simp [Bool.and_xor_distrib_right]
  rw [distrib, BitVec.xor_eq_zero_iff]

/-- The three conditions of R121 on a valid entry. -/
theorem ClassifyEntry.accepts_iff (e : ClassifyEntry) (status : StatusClass) (code : BitVec 16) (cls : Option CmdClass) :
    e.accepts status code cls = true ↔
      e.valid = true
        ∧ (e.statusMatch = 6 ∨ e.statusMatch = codeIn StatusClass.names status)
        ∧ code &&& BitVec.ofNat 16 e.codeMask = BitVec.ofNat 16 e.codeValue &&& BitVec.ofNat 16 e.codeMask
        ∧ (e.commandMatch = 5 ∨ ∃ c, cls = some c ∧ e.commandMatch = codeIn CmdClass.names c) := by
  cases cls with
  | none => simp [ClassifyEntry.accepts, xor_and_eq_zero_iff, and_assoc]
  | some c => simp [ClassifyEntry.accepts, xor_and_eq_zero_iff, and_assoc]

theorem classification_of_first_match {table : Vector ClassifyEntry 64} {status : StatusClass} {code : BitVec 16}
    {cls : Option CmdClass} {i : Fin 64} (hit : table[i].accepts status code cls = true)
    (first : ∀ j, j < i → ¬table[j].accepts status code cls = true) :
    classification table status code cls
      = ⟨some i, some (classOf table[i].defectClass), actionOf table[i].action⟩ := by
  have search : classifySearch table status code cls = some i := by
    rw [classifySearch, ← Fin.find?_eq_find?_finRange, Fin.find?_eq_some_iff]
    exact ⟨hit, fun j hj => Bool.eq_false_iff.mpr (first j hj)⟩
  rw [classification, search]
  rfl

theorem classification_of_no_match {table : Vector ClassifyEntry 64} {status : StatusClass} {code : BitVec 16}
    {cls : Option CmdClass} (miss : ∀ i : Fin 64, ¬table[i].accepts status code cls = true) :
    classification table status code cls
      = if status = .good then ⟨none, none, .ignore⟩ else ⟨none, some 14, .countNote⟩ := by
  have search : classifySearch table status code cls = none := by
    rw [classifySearch, ← Fin.find?_eq_find?_finRange, Fin.find?_eq_none_iff]
    exact fun i => Bool.eq_false_iff.mpr (miss i)
  rw [classification, search]

theorem classOf_val {c : Nat} (h : c < 16) : (classOf c).val = c := Nat.mod_eq_of_lt h

theorem actionOf_of_name {c : Nat} {a : Action} (h : Action.names[c]? = some a) : actionOf c = a := by
  rw [actionOf, h, Option.getD_some]

/-! ### The match count -/

theorem countMatch_keeps (entry : Option (Fin 64)) (s : State) : KeepsBut [.classify] s (countMatch entry s) := by
  cases entry with
  | none => exact KeepsBut.refl ..
  | some i => refine ⟨fun g hg => ?_⟩; cases g <;> simp_all [sameIn, countMatch, State.slot]

theorem countMatch_tables_classify (entry : Option (Fin 64)) (s : State) (i : Fin 64) :
    (countMatch entry s).tables.classify[i] =
      if entry = some i then
        { s.tables.classify[i] with matchCount := min 65535 (s.tables.classify[i].matchCount + 1) }
      else s.tables.classify[i] := by
  cases entry with
  | none => rfl
  | some k =>
    by_cases h : k = i
    · subst h; simp [countMatch, saturate]
    · have hv : k.val ≠ i.val := fun e => h (Fin.ext e)
      simp [countMatch, h, Vector.getElem_set_ne, hv]

@[simp] theorem countMatch_slot (entry : Option (Fin 64)) (s : State) (n : SlotId) :
    (countMatch entry s).slot n = s.slot n := (countMatch_keeps entry s).slot_eq (by simp)

@[simp] theorem countMatch_transit (entry : Option (Fin 64)) (s : State) : (countMatch entry s).transit = s.transit :=
  (countMatch_keeps entry s).same .transit (by simp)

@[simp] theorem countMatch_defects (entry : Option (Fin 64)) (s : State) :
    (countMatch entry s).tables.defects = s.tables.defects := (countMatch_keeps entry s).same .defects (by simp)

/-! ### One count of a class, its notice and its action -/

theorem tally_keeps (n : SlotId) (d : Fin 16) (s : State) : KeepsBut [.slot n] s (tally n d s) := by
  unfold tally
  exact modSlot_keeps ..

theorem tally_slot (n : SlotId) (d : Fin 16) (s : State) :
    (tally n d s).slot n =
      { s.slot n with
        tallies := { (s.slot n).tallies with
          counters := (s.slot n).tallies.counters.set d (min 65535 ((s.slot n).tallies.counters[d] + 1))
          accumulator := min 65534 ((s.slot n).tallies.accumulator + s.tables.defects[d].weight) } } :=
  slot_modSlot_same ..

theorem tally_slot_keeps (n : SlotId) (d : Fin 16) (s : State) :
    SlotKeepsBut [.tallies] (s.slot n) ((tally n d s).slot n) := by
  rw [tally_slot]; refine ⟨fun g hg => ?_⟩; cases g <;> simp_all [slotSameIn]

theorem noteDefect_keeps (n : SlotId) (always : Bool) (d : Fin 16) (s : State) :
    KeepsBut [.slot n, .partSet, .noticeQueue] s (noteDefect n always d s) :=
  (raiseSlot_keeps n .defect s).ite (KeepsBut.refl ..)

theorem noteDefect_slot_keeps (n : SlotId) (always : Bool) (d : Fin 16) (s : State) :
    SlotKeepsBut [.events, .notice] (s.slot n) ((noteDefect n always d s).slot n) := by
  unfold noteDefect
  split
  · exact raiseSlot_slot_keeps ..
  · exact SlotKeepsBut.refl ..

theorem noteDefect_slot_events (n : SlotId) (always : Bool) (d : Fin 16) (s : State) :
    ((noteDefect n always d s).slot n).events =
      if always = true ∨ s.tables.defects[d].notice = true then (s.slot n).events ||| SlotEvent.defect.set
      else (s.slot n).events := by
  simp only [noteDefect, Bool.or_eq_true, apply_ite (fun t : State => (t.slot n).events), raiseSlot_slot_events]
  rfl

/-- The counting and its notice: what COUNT, COUNT_NOTE and QUARANTINE have in common (R124, R125). -/
def countNoted (n : SlotId) (d : Fin 16) (a : Action) (s : State) : State :=
  noteDefect n (decide (a = .countNote)) d (tally n d s)

theorem countNoted_keeps (n : SlotId) (d : Fin 16) (a : Action) (s : State) :
    KeepsBut [.slot n, .partSet, .noticeQueue] s (countNoted n d a s) :=
  ((tally_keeps n d s).mono (by simp)).trans (noteDefect_keeps ..)

theorem countNoted_slot_keeps (n : SlotId) (d : Fin 16) (a : Action) (s : State) :
    SlotKeepsBut [.tallies, .events, .notice] (s.slot n) ((countNoted n d a s).slot n) :=
  ((tally_slot_keeps n d s).mono (by simp)).trans ((noteDefect_slot_keeps ..).mono (by simp))

theorem countNoted_slot_tallies (n : SlotId) (d : Fin 16) (a : Action) (s : State) :
    ((countNoted n d a s).slot n).tallies =
      { (s.slot n).tallies with
        counters := (s.slot n).tallies.counters.set d (min 65535 ((s.slot n).tallies.counters[d] + 1))
        accumulator := min 65534 ((s.slot n).tallies.accumulator + s.tables.defects[d].weight) } := by
  have kept : ((countNoted n d a s).slot n).tallies = ((tally n d s).slot n).tallies :=
    (noteDefect_slot_keeps ..).same .tallies (by simp)
  rw [kept, tally_slot]

theorem countNoted_slot_events (n : SlotId) (d : Fin 16) (a : Action) (s : State) :
    ((countNoted n d a s).slot n).events =
      if a = .countNote ∨ s.tables.defects[d].notice = true then (s.slot n).events ||| SlotEvent.defect.set
      else (s.slot n).events := by
  rw [countNoted, noteDefect_slot_events, tally_slot]
  simp [tally]

/-- IGNORE and a classification without a class do nothing. -/
theorem applyAction_of_ignored {c : Classification} (h : c.cls = none ∨ c.action = .ignore) (n : SlotId) (s : State) :
    applyAction n c s = s := by
  obtain ⟨entry, cls, action⟩ := c
  rcases h with rfl | rfl
  · rfl
  · cases cls <;> rfl

/-- Every other action counts, and QUARANTINE sends its request after it (R124, R126). -/
theorem applyAction_of_counted {c : Classification} {d : Fin 16} (hd : c.cls = some d) (ha : c.action ≠ .ignore)
    (n : SlotId) (s : State) :
    applyAction n c s =
      if c.action = .quarantine then sendQuarantine n .classified (countNoted n d c.action s)
      else countNoted n d c.action s := by
  obtain ⟨entry, cls, action⟩ := c
  obtain rfl : cls = some d := hd
  cases action with
  | ignore => exact absurd rfl ha
  | count | countNote | quarantine => rfl

theorem Classification.ignored_or_counted (c : Classification) :
    (c.cls = none ∨ c.action = .ignore) ∨ ∃ d, c.cls = some d ∧ c.action ≠ .ignore := by
  by_cases ignored : c.cls = none ∨ c.action = .ignore
  · exact .inl ignored
  · obtain ⟨hcls, haction⟩ := not_or.mp ignored
    obtain ⟨d, hd⟩ := Option.ne_none_iff_exists'.mp hcls
    exact .inr ⟨d, hd, haction⟩

theorem applyAction_keeps (n : SlotId) (c : Classification) (s : State) :
    KeepsBut [.slot n, .partSet, .noticeQueue, .transit] s (applyAction n c s) := by
  rcases c.ignored_or_counted with ignored | ⟨d, hd, ha⟩
  · rw [applyAction_of_ignored ignored]
    exact KeepsBut.refl ..
  · rw [applyAction_of_counted hd ha]
    have counted : KeepsBut [.slot n, .partSet, .noticeQueue, .transit] s (countNoted n d c.action s) :=
      (countNoted_keeps ..).mono (by simp)
    exact (counted.trans ((sendQuarantine_keeps ..).mono (by simp))).ite counted

/-- The quarantine request touches no slot: a counting action leaves its slot as the counting and its notice do. -/
theorem applyAction_slot_of_counted {c : Classification} {d : Fin 16} (hd : c.cls = some d) (ha : c.action ≠ .ignore)
    (n : SlotId) (s : State) : (applyAction n c s).slot n = (countNoted n d c.action s).slot n := by
  rw [applyAction_of_counted hd ha]
  split
  · exact sendQuarantine_slot ..
  · rfl

theorem applyAction_quarantines_of_counted {c : Classification} {d : Fin 16} (hd : c.cls = some d)
    (ha : c.action ≠ .ignore) (n : SlotId) (s : State) :
    (applyAction n c s).transit.quarantines =
      if c.action = .quarantine then s.transit.quarantines ++ [(n, .classified)] else s.transit.quarantines := by
  have kept : (countNoted n d c.action s).transit = s.transit := (countNoted_keeps ..).same .transit (by simp)
  rw [applyAction_of_counted hd ha]
  split
  · rw [sendQuarantine_transit, kept]
  · rw [kept]

theorem applyAction_slot_keeps (n : SlotId) (c : Classification) (s : State) :
    SlotKeepsBut [.tallies, .events, .notice] (s.slot n) ((applyAction n c s).slot n) := by
  rcases c.ignored_or_counted with ignored | ⟨d, hd, ha⟩
  · rw [applyAction_of_ignored ignored]
    exact SlotKeepsBut.refl ..
  · rw [applyAction_slot_of_counted hd ha]
    exact countNoted_slot_keeps ..

/-! ### The match count and the action together -/

theorem classify_fst (n : SlotId) (status : StatusClass) (code : BitVec 16) (cls : Option CmdClass) (s : State) :
    (classify n status code cls s).1 =
      applyAction n (classification s.tables.classify status code cls)
        (countMatch (classification s.tables.classify status code cls).entry s) := rfl

theorem classify_keeps (n : SlotId) (status : StatusClass) (code : BitVec 16) (cls : Option CmdClass) (s : State) :
    KeepsBut [.slot n, .classify, .partSet, .noticeQueue, .transit] s (classify n status code cls s).1 :=
  ((countMatch_keeps ..).mono (by simp)).trans ((applyAction_keeps ..).mono (by simp))

theorem classify_slot_keeps (n : SlotId) (status : StatusClass) (code : BitVec 16) (cls : Option CmdClass) (s : State) :
    SlotKeepsBut [.tallies, .events, .notice] (s.slot n) ((classify n status code cls s).1.slot n) := by
  rw [classify_fst, ← countMatch_slot (classification s.tables.classify status code cls).entry s n]
  exact applyAction_slot_keeps ..

theorem classify_tables_classify (n : SlotId) (status : StatusClass) (code : BitVec 16) (cls : Option CmdClass) (s : State) :
    (classify n status code cls s).1.tables.classify =
      (countMatch (classification s.tables.classify status code cls).entry s).tables.classify :=
  (applyAction_keeps ..).same .classify (by simp)

/-! ### The obligation -/

/-- Settles O46: the search finds the entry of lowest index (R121, R122); the match count and the action touch
different parts of the state, so each clause on the slot is that of the action alone. -/
theorem responseClassified : Obligations.ResponseClassified := by
  simp only [Obligations.ResponseClassified, ← ClassifyEntry.accepts_iff]
  refine ⟨fun table status code cls => ⟨fun i hit first => ?found, fun miss good => ?good, fun miss bad => ?bad⟩,
    fun n status code cls s => ?classified⟩
  case found =>
    rw [classification_of_first_match hit first]
    exact ⟨rfl, fun small => ⟨_, rfl, classOf_val small⟩, fun _ name => actionOf_of_name name⟩
  case good => rw [classification_of_no_match miss, if_pos good]
  case bad => rw [classification_of_no_match miss, if_neg bad]
  case classified =>
    refine ⟨rfl, classify_keeps .., classify_slot_keeps .., fun i => ?matched, fun ignored => ?ignored,
      fun d hd ha => ⟨?tallies, ?events, ?quarantines⟩⟩
    case matched => rw [classify_tables_classify, countMatch_tables_classify]
    case ignored => simp [classify_fst, applyAction_of_ignored ignored]
    case tallies => simp [classify_fst, applyAction_slot_of_counted hd ha, countNoted_slot_tallies]
    case events => simp [classify_fst, applyAction_slot_of_counted hd ha, countNoted_slot_events]
    case quarantines => simp [classify_fst, applyAction_quarantines_of_counted hd ha]

end Sys2Proof.Machine

end

section
/-! SUPPORT and PROOF of O40. The four penalty sums written out over the four metrics, and the score they give (chapter 8). -/

namespace Sys2Proof.Machine

/-! ### The penalty sums -/

theorem sum_map_allMetrics (f : Metric → Nat) :
    (allMetrics.map f).sum = f .temp + f .curr + f .vibe + f .defr := by
  simp [allMetrics, Nat.add_assoc]

theorem totalShocks_eq (x : Slot) :
    totalShocks x = x.drift.temp.shocks + x.drift.curr.shocks + x.drift.vibe.shocks + x.drift.defr.shocks :=
  sum_map_allMetrics ..

theorem totalReseeds_eq (x : Slot) :
    totalReseeds x = x.drift.temp.reseeds + x.drift.curr.reseeds + x.drift.vibe.reseeds + x.drift.defr.reseeds :=
  sum_map_allMetrics ..

theorem watchPenalty_eq (m : ModelEntry) (x : Slot) :
    watchPenalty m x =
      m.temp.watchPenalty * (x.drift.temp.watchCount / 64) + m.curr.watchPenalty * (x.drift.curr.watchCount / 64)
        + m.vibe.watchPenalty * (x.drift.vibe.watchCount / 64) + m.defr.watchPenalty * (x.drift.defr.watchCount / 64) :=
  sum_map_allMetrics ..

theorem penaltySum_of_model {s : State} {x : Slot} {m : ModelEntry} (bound : modelOf s x = some m) :
    penaltySum s x =
      defectPenalty s x + watchPenalty m x + m.shockPenalty * totalShocks x + m.reseedPenalty * totalReseeds x := by
  simp only [penaltySum, bound, Nat.add_assoc]

/-! ### The score and the grade it enters -/

theorem score_le (s : State) (x : Slot) : score s x ≤ 10000 := Nat.sub_le ..

/-- The cap of R137 is that of subtraction on the natural numbers. -/
theorem score_eq_sub_penaltySum (s : State) (x : Slot) : score s x = 10000 - penaltySum s x := tsub_min

theorem gradeInputs_score_of_unforced {s : State} {x : Slot} (unforced : x.grading.reason = none) :
    (gradeInputs s x).score = score s x := by
  simp [gradeInputs, unforced]

/-! ### The obligation -/

/-- Settles O40: the score is 10000 less the penalty sum of the bound model, whose four parts are those of R137. -/
theorem score_holds : Obligations.Score := by
  intro s x
  refine ⟨score_le s x, gradeInputs_score_of_unforced, fun m bound => ?_⟩
  rw [score_eq_sub_penaltySum, penaltySum_of_model bound, watchPenalty_eq, totalShocks_eq, totalReseeds_eq]
  rfl

end Sys2Proof.Machine

end

section
/-! SUPPORT. What every command upholds: one relation between a state and the state that an operation leaves, which says of
each of the part's invariants that it holds after where it held before. It is shown once of each shared operation, and the
statements that every step keeps an invariant are read off it. -/

namespace Sys2Proof.Machine

/-! ### The relation -/

/-- The fields of a slot record that its life is told by (R3, R5, R12, R13, R14). -/
def Slot.life (x : Slot) : SlotState × Latch × Bool × Rundown × Option SlotState × Option QuarantineReason :=
  (x.state, x.lines.latch, x.lines.powered, x.lines.rundown, x.recovery.resume, x.grading.reason)

/-- The relations of a slot's lines, of `Slot.lifeAgrees`. -/
def Slot.linesAgree (x : Slot) : Prop :=
  (x.lines.latch = .opened →
      x.lines.powered = false ∧ x.lines.rundown = .expired ∧ (x.state = .empty ∨ x.state = .sorted))
    ∧ (∀ t, x.lines.rundown = .running t → x.lines.powered = false)
    ∧ (x.state ∈ [SlotState.empty, .settling, .powerWait, .sorted] → x.lines.powered = false)

/-- The relations of a slot's state with its resume state and its quarantine reason, of `Slot.lifeAgrees`. -/
def Slot.phaseAgrees (x : Slot) : Prop :=
  (x.state = .recovering →
      ∃ st ∈ [SlotState.identifying, .unmatched, .ready, .calibrating, .burning], x.recovery.resume = some st)
    ∧ (x.grading.reason ≠ none → x.state ∈ [SlotState.grading, .sortWait, .parking, .sorted])

/-- A slot that is not yet identified, UNMATCHED, or recovers from there, is bound to no entry. -/
def Slot.unboundAgrees (x : Slot) : Prop :=
  (x.state ∈ [SlotState.empty, .settling, .powerWait, .identifying, .unmatched] → x.identity.model = none)
    ∧ (x.state = .recovering → x.recovery.resume = some .identifying ∨ x.recovery.resume = some .unmatched →
        x.identity.model = none)

/-- The reference count of every model entry is the number of slots bound to it (R51). -/
def State.countsAgree (s : State) : Prop :=
  ∀ i : Fin 16, s.tables.models[i].refCount = (allSlots.filter fun n => (s.slot n).identity.model = some i).length

/-- What a part of a command may leave unfinished: a slot whose reason or resume state has been written and whose state has
not followed yet; a slot that has been bound and whose state has not followed yet; whether the budget target may fall; and
whether the slots' lives are followed at all. -/
structure InHand where
  life : Option SlotId
  binding : Option SlotId
  target : Bool
  followed : Bool

/-- Nothing is left unfinished. -/
def InHand.nothing : InHand := ⟨none, none, false, true⟩

/-- `State.livesAgree`, but for the phase of a slot that is in hand. -/
structure State.LivesBut (h : InHand) (s : State) : Prop where
  followed : h.followed = true
  lines : ∀ n, (s.slot n).linesAgree
  phases : ∀ n, h.life ≠ some n → (s.slot n).phaseAgrees
  admission : ∀ e ∈ s.power.queue, e.kind = .slotPower → (s.slot e.slot).state = .powerWait
  waiting : ∀ w ∈ s.sort.waiting, (s.slot w.slot).state = .sortWait

/-- `State.bindingsAgree`, but for a slot whose binding is in hand. -/
structure State.BindingsBut (h : InHand) (s : State) : Prop where
  counts : s.countsAgree
  unbound : ∀ n, h.binding ≠ some n → (s.slot n).unboundAgrees

/-- Every invariant that holds of s holds of t, and the commands that wait are the same. -/
structure Upholds (h : InHand) (s t : State) : Prop where
  pending : t.pending = s.pending
  queues : s.queuesWithin → t.queuesWithin
  notices : s.noticesAgree → t.noticesAgree
  admission : s.admissionAgrees → t.admissionAgrees
  commands : ∀ n, (s.slot n).commandsAgree → (t.slot n).commandsAgree
  sort : s.sortAgrees → t.sortAgrees
  store : s.storable → t.storable
  budget : h.target = false → s.withinBudget → t.withinBudget
  lives : s.LivesBut h → t.LivesBut h
  bindings : s.LivesBut h → s.BindingsBut h → t.BindingsBut h

theorem Slot.lifeAgrees_iff (x : Slot) : x.lifeAgrees ↔ x.linesAgree ∧ x.phaseAgrees := by
  simp only [Slot.lifeAgrees, Slot.linesAgree, Slot.phaseAgrees, and_assoc]

theorem State.livesAgree_iff (s : State) : s.livesAgree ↔ s.LivesBut .nothing := by
  simp only [State.livesAgree, Slot.lifeAgrees_iff, forall_and]
  exact ⟨fun h => ⟨rfl, h.1.1, fun n _ => h.1.2 n, h.2.1, h.2.2⟩,
    fun h => ⟨⟨h.lines, fun n => h.phases n nofun⟩, h.admission, h.waiting⟩⟩

theorem State.bindingsAgree_iff (s : State) : s.bindingsAgree ↔ s.BindingsBut .nothing :=
  ⟨fun h => ⟨h.1, fun n _ => h.2 n⟩, fun h => ⟨h.counts, fun n => h.unbound n nofun⟩⟩

theorem Upholds.refl (h : InHand) (s : State) : Upholds h s s :=
  ⟨rfl, id, id, id, fun _ => id, id, id, fun _ => id, id, fun _ => id⟩

theorem Upholds.trans {h : InHand} {s t u : State} (a : Upholds h s t) (b : Upholds h t u) : Upholds h s u where
  pending := b.pending.trans a.pending
  queues := b.queues ∘ a.queues
  notices := b.notices ∘ a.notices
  admission := b.admission ∘ a.admission
  commands n := b.commands n ∘ a.commands n
  sort := b.sort ∘ a.sort
  store := b.store ∘ a.store
  budget ht := b.budget ht ∘ a.budget ht
  lives := b.lives ∘ a.lives
  bindings hl hb := b.bindings (a.lives hl) (a.bindings hl hb)

theorem Upholds.ite {h : InHand} {c : Prop} [Decidable c] {s t u : State} (a : c → Upholds h s t) (b : ¬c → Upholds h s u) :
    Upholds h s (if c then t else u) := by
  split
  · next hc => exact a hc
  · next hc => exact b hc

theorem Upholds.foldl {h : InHand} {α : Type} {f : State → α → State} (hf : ∀ s a, Upholds h s (f s a)) (l : List α) (s : State) :
    Upholds h s (l.foldl f s) := by
  induction l generalizing s with
  | nil => exact Upholds.refl ..
  | cons a l ih => exact (hf s a).trans (ih _)

/-- A slot taken in hand whose phase is right again in the end. -/
theorem Upholds.closeLife {h : InHand} {s t : State} {n : SlotId} (hh : h.life = none)
    (a : Upholds { h with life := some n } s t) (hn : s.LivesBut h → (t.slot n).phaseAgrees) : Upholds h s t := by
  have hw : s.LivesBut h → s.LivesBut { h with life := some n } := fun hl =>
    { hl with phases := fun m _ => hl.phases m (by simp [hh]) }
  refine { a with
    lives := fun hl => { a.lives (hw hl) with phases := fun m _ => ?_ }
    bindings := fun hl hb => { a.bindings (hw hl) { hb with } with } }
  by_cases hm : m = n
  · exact hm ▸ hn hl
  · exact (a.lives (hw hl)).phases m (by simpa using Ne.symm hm)

/-- A slot whose binding was taken in hand and is right again in the end. -/
theorem Upholds.closeBinding {h : InHand} {s t : State} {n : SlotId} (hh : h.binding = none)
    (a : Upholds { h with binding := some n } s t) (hn : s.LivesBut h → (t.slot n).unboundAgrees) : Upholds h s t := by
  refine { a with
    lives := fun hl => { a.lives { hl with } with }
    bindings := fun hl hb => ?_ }
  have hb' : t.BindingsBut { h with binding := some n } :=
    a.bindings { hl with } { hb with unbound := fun m _ => hb.unbound m (by simp [hh]) }
  refine { hb' with unbound := fun m _ => ?_ }
  by_cases hm : m = n
  · exact hm ▸ hn hl
  · exact hb'.unbound m (by simpa using Ne.symm hm)

/-- A fact that the slots' lives give may be used in following them: where they do not agree to begin with, they need not be
followed. -/
theorem Upholds.given {h : InHand} {s t : State} {p : Prop} (hp : s.LivesBut h → p)
    (a : ∀ f : Bool, (f = true → p) → Upholds { h with followed := f } s t) : Upholds h s t := by
  by_cases hs : s.LivesBut h
  · have hf : h = { h with followed := true } := by cases h; simpa using hs.followed
    rw [hf]
    exact a true fun _ => hp hs
  · exact { a false nofun with lives := fun hl => absurd hl hs, bindings := fun hl => absurd hl hs }

/-! ### Changes that no invariant reads -/

theorem bin_congr {s t : State} (h : t.sort.bins = s.sort.bins) (set : Fin 4) (p : Fin 8) : t.bin set p = s.bin set p := by
  simp [State.bin, h]

/-- What the invariants read of a state. -/
def State.read (s : State) :=
  (s.pending, s.port.requests, s.slots, (s.notices.queue, s.notices.partState, s.notices.part),
    (s.store.settings, s.store.target), s.power.queue, s.sort, s.tables.models, s.tables.classify, s.tables.defects)

/-- A state that differs in fields that no invariant reads. -/
theorem Upholds.of_read {h : InHand} {s t : State} (e : t.read = s.read) : Upholds h s t := by
  simp only [State.read, Prod.mk.injEq] at e
  obtain ⟨hp, hr, hs, ⟨hnq, hnst, hnp⟩, ⟨hset, htgt⟩, hq, hso, hm, hc, hd⟩ := e
  have hsl : ∀ n, t.slot n = s.slot n := fun n => by simp [State.slot, hs]
  have hns : ∀ src, noticeStateOf t src = noticeStateOf s src := fun src => by
    cases src <;> simp [noticeStateOf, hsl, hnst]
  have hse : ∀ src, sourceEmpty t src = sourceEmpty s src := fun src => by
    cases src <;> simp [sourceEmpty, unmaskedPart, unmaskedSlot, hsl, hnp, hset]
  have hb := bin_congr (s := s) (t := t) (by rw [hso])
  constructor
  case pending => exact hp
  case queues => intro a; simpa [State.queuesWithin, hr, hsl] using a
  case notices => intro a; simpa [State.noticesAgree, hnq, hns, hse] using a
  case admission => intro a; simpa [State.admissionAgrees, hq] using a
  case commands => intro n a; rwa [hsl]
  case sort => intro a; simpa [State.sortAgrees, hso, hb] using a
  case store => intro a; simpa [State.storable, hset, htgt, hm, hc, hd, hb] using a
  case budget => intro _ a; simpa [State.withinBudget, allocationSum, hs, htgt] using a
  case lives => exact fun a => ⟨a.followed, by simpa [hsl] using a.lines, by simpa [hsl] using a.phases,
    by simpa [hsl, hq] using a.admission, by simpa [hsl, hso] using a.waiting⟩
  case bindings => exact fun _ a => ⟨by simpa [State.countsAgree, hsl, hm] using a.counts, by simpa [hsl] using a.unbound⟩

theorem reach_upholds (h : InHand) (k : Nat) (s : State) : Upholds h s (reach k s) := .of_read rfl

theorem pushReply_upholds (h : InHand) (r : Reply) (s : State) : Upholds h s (pushReply r s) := .of_read rfl

theorem pushResponse_upholds (h : InHand) (r : SlotResponse) (s : State) : Upholds h s (pushResponse r s) := .of_read rfl

theorem answerPart_upholds (h : InHand) (d : Byte) (n : SlotId) (k : Nat) (c : PartCode) (s : State) :
    Upholds h s (answerPart d n k c s) := .of_read rfl

theorem sendLink_upholds (h : InHand) (n : SlotId) (f : LinkFrame) (s : State) : Upholds h s (sendLink n f s) := .of_read rfl

theorem sendQuarantine_upholds (h : InHand) (n : SlotId) (r : QuarantineReason) (s : State) :
    Upholds h s (sendQuarantine n r s) := .of_read rfl

/-! ### Changes of one slot record -/

/-- What an update of a slot record has to respect for every invariant but those of the slots' lives and bindings. -/
structure Slot.Sound (x y : Slot) : Prop where
  queue : x.traffic.queue.length ≤ Config.slotQueueDepth → y.traffic.queue.length ≤ Config.slotQueueDepth
  commands : x.commandsAgree → y.commandsAgree
  events : y.events = x.events
  notice : y.notice = x.notice

/-- An update that leaves the slot's life, its binding and its notices, and its allocation or less. -/
structure Slot.Still (x y : Slot) : Prop extends Slot.Sound x y where
  life : y.life = x.life
  model : y.identity.model = x.identity.model
  allocation : y.power.allocation ≤ x.power.allocation

theorem Slot.Still.refl (x : Slot) : x.Still x := ⟨⟨id, id, rfl, rfl⟩, rfl, rfl, le_rfl⟩

theorem Slot.Still.trans {x y z : Slot} (a : x.Still y) (b : y.Still z) : x.Still z :=
  ⟨⟨b.queue ∘ a.queue, b.commands ∘ a.commands, b.events.trans a.events, b.notice.trans a.notice⟩,
    b.life.trans a.life, b.model.trans a.model, b.allocation.trans a.allocation⟩

/-- An update that leaves the traffic too. -/
theorem Slot.Still.of_eq {x y : Slot} (ht : (y.traffic.queue, y.traffic.reserved, y.traffic.inFlight)
      = (x.traffic.queue, x.traffic.reserved, x.traffic.inFlight))
    (he : (y.events, y.notice) = (x.events, x.notice)) (hl : y.life = x.life)
    (hm : y.identity.model = x.identity.model) (ha : y.power.allocation ≤ x.power.allocation) : x.Still y := by
  simp only [Prod.mk.injEq] at ht he
  obtain ⟨hq, hr, hf⟩ := ht
  exact ⟨⟨by rw [hq]; exact id, by simp only [Slot.commandsAgree, hq, hr, hf]; exact id, he.1, he.2⟩, hl, hm, ha⟩

theorem sum_set_add {l : List Nat} {i : Nat} (hi : i < l.length) (a : Nat) : (l.set i a).sum + l[i] = l.sum + a := by
  induction l generalizing i with
  | nil => simp at hi
  | cons b l ih =>
    cases i with
    | zero => simp; omega
    | succ i =>
      have := ih (i := i) (by simpa using hi)
      simp only [List.set_cons_succ, List.sum_cons, List.getElem_cons_succ]
      omega

theorem allocationSum_modSlot (n : SlotId) (f : Slot → Slot) (s : State) :
    allocationSum (modSlot n f s) + (s.slot n).power.allocation = allocationSum s + (f (s.slot n)).power.allocation := by
  have h := sum_set_add (l := s.slots.toList.map fun x => x.power.allocation) (i := n.val) (by simp)
    (f (s.slot n)).power.allocation
  simp only [allocationSum, modSlot, State.setSlot, Vector.toList_set, List.map_set]
  simpa [State.slot] using h

/-- How a change of slot n's record upholds the invariants: what it respects of the commands and notices, how its allocation
fits, and what becomes of its life and its binding. -/
theorem Upholds.of_slot {h : InHand} {n : SlotId} {f : Slot → Slot} {s : State} (hs : (s.slot n).Sound (f (s.slot n)))
    (hb : h.target = false → s.withinBudget →
      allocationSum s + (f (s.slot n)).power.allocation ≤ s.store.target + (s.slot n).power.allocation)
    (hl : s.LivesBut h → (f (s.slot n)).linesAgree ∧ (h.life ≠ some n → (f (s.slot n)).phaseAgrees)
      ∧ ((f (s.slot n)).state = (s.slot n).state
        ∨ (∀ e ∈ s.power.queue, e.kind = .slotPower → e.slot = n → (f (s.slot n)).state = .powerWait)
          ∧ ∀ w ∈ s.sort.waiting, w.slot = n → (f (s.slot n)).state = .sortWait))
    (hm : s.LivesBut h → s.BindingsBut h → (f (s.slot n)).identity.model = (s.slot n).identity.model
      ∧ (h.binding ≠ some n → (f (s.slot n)).unboundAgrees)) : Upholds h s (modSlot n f s) := by
  have hsl : ∀ m, (modSlot n f s).slot m = if m = n then f (s.slot n) else s.slot m := fun m => slot_setSlot ..
  constructor
  case pending => rfl
  case queues =>
    intro a
    refine ⟨a.1, fun m => ?_⟩
    rw [hsl]; split
    · exact hs.queue (a.2 n)
    · exact a.2 m
  case notices =>
    intro a
    have hn : ∀ src, noticeStateOf (modSlot n f s) src = noticeStateOf s src := fun src => by
      cases src with
      | part => rfl
      | slot m => simp only [noticeStateOf, hsl]; split <;> simp_all [hs.notice]
    have he : ∀ src, sourceEmpty (modSlot n f s) src = sourceEmpty s src := fun src => by
      cases src with
      | part => rfl
      | slot m => simp only [sourceEmpty, unmaskedSlot, hsl, modSlot_store]; split <;> simp_all [hs.events]
    simpa only [State.noticesAgree, hn, he, modSlot_notices] using a
  case admission => exact id
  case commands =>
    intro m a
    rw [hsl]; split
    · next e => exact hs.commands (e ▸ a)
    · exact a
  case sort => exact id
  case store => exact id
  case budget =>
    intro ht a
    have := hb ht a
    have := allocationSum_modSlot n f s
    simp only [State.withinBudget, modSlot_store] at *
    omega
  case lives =>
    intro a
    obtain ⟨h1, h2, h3⟩ := hl a
    refine ⟨a.followed, fun m => ?_, fun m hm' => ?_, fun e he hk => ?_, fun w hw => ?_⟩
    · rw [hsl]; split
      · exact h1
      · exact a.lines m
    · rw [hsl]; split
      · next e => exact h2 (e ▸ hm')
      · exact a.phases m hm'
    · have := a.admission e he hk
      rw [hsl]; split
      · next e' =>
        obtain h3 | h3 := h3
        · rw [h3, ← e']; exact this
        · exact h3.1 e he hk e'
      · exact this
    · have := a.waiting w hw
      rw [hsl]; split
      · next e' =>
        obtain h3 | h3 := h3
        · rw [h3, ← e']; exact this
        · exact h3.2 w hw e'
      · exact this
  case bindings =>
    intro a b
    obtain ⟨h1, h2⟩ := hm a b
    refine ⟨fun i => ?_, fun m hm' => ?_⟩
    · have he : ∀ m, ((modSlot n f s).slot m).identity.model = (s.slot m).identity.model := fun m => by
        rw [hsl]; split
        · next e => rw [h1, e]
        · rfl
      show s.tables.models[i].refCount = _
      simpa only [he] using b.counts i
    · rw [hsl]; split
      · next e => exact h2 (e ▸ hm')
      · exact b.unbound m hm'

theorem Slot.Still.linesAgree {x y : Slot} (a : x.Still y) (b : x.linesAgree) : y.linesAgree := by
  have h := a.life
  simp only [Slot.life, Prod.mk.injEq] at h
  obtain ⟨h1, h2, h3, h4, -, -⟩ := h
  simpa only [Slot.linesAgree, h1, h2, h3, h4] using b

theorem Slot.Still.phaseAgrees {x y : Slot} (a : x.Still y) (b : x.phaseAgrees) : y.phaseAgrees := by
  have h := a.life
  simp only [Slot.life, Prod.mk.injEq] at h
  obtain ⟨h1, -, -, -, h5, h6⟩ := h
  simpa only [Slot.phaseAgrees, h1, h5, h6] using b

theorem Slot.Still.unboundAgrees {x y : Slot} (a : x.Still y) (b : x.unboundAgrees) : y.unboundAgrees := by
  have h := a.life
  simp only [Slot.life, Prod.mk.injEq] at h
  obtain ⟨h1, -, -, -, h5, -⟩ := h
  simpa only [Slot.unboundAgrees, h1, h5, a.model] using b

/-- A still update upholds every invariant. -/
theorem Upholds.of_still {h : InHand} {n : SlotId} {f : Slot → Slot} {s : State} (a : (s.slot n).Still (f (s.slot n))) :
    Upholds h s (modSlot n f s) := by
  refine .of_slot a.toSound (fun _ hb => ?_) (fun hl => ⟨a.linesAgree (hl.lines n), fun hn => a.phaseAgrees (hl.phases n hn), .inl ?_⟩)
    fun _ hb => ⟨a.model, fun hn => a.unboundAgrees (hb.unbound n hn)⟩
  · have := a.allocation
    simp only [State.withinBudget] at hb
    omega
  · have h := a.life
    simp only [Slot.life, Prod.mk.injEq] at h
    exact h.1

/-- An update of a slot record that leaves what the invariants read of it. -/
theorem modSlot_upholds {h : InHand} {n : SlotId} {f : Slot → Slot} {s : State}
    (ht : ((f (s.slot n)).traffic.queue, (f (s.slot n)).traffic.reserved, (f (s.slot n)).traffic.inFlight)
      = ((s.slot n).traffic.queue, (s.slot n).traffic.reserved, (s.slot n).traffic.inFlight) := by rfl)
    (he : ((f (s.slot n)).events, (f (s.slot n)).notice) = ((s.slot n).events, (s.slot n).notice) := by rfl)
    (hl : (f (s.slot n)).life = (s.slot n).life := by rfl)
    (hm : (f (s.slot n)).identity.model = (s.slot n).identity.model := by rfl)
    (ha : (f (s.slot n)).power.allocation ≤ (s.slot n).power.allocation := by exact le_rfl) : Upholds h s (modSlot n f s) :=
  .of_still (.of_eq ht he hl hm ha)

theorem relamp_upholds (h : InHand) (n : SlotId) (s : State) : Upholds h s (relamp n s) := modSlot_upholds

theorem inject_upholds (h : InHand) (n : SlotId) (i : Injection) (s : State) : Upholds h s (inject n i s) := modSlot_upholds

theorem unlist_upholds (h : InHand) (n : SlotId) (c : CmdClass) (s : State) : Upholds h s (unlist n c s) := modSlot_upholds

end Sys2Proof.Machine
end

section
/-! SUPPORT. The operations of the Power Admission Unit and of the Slot Engine uphold the invariants. -/

namespace Sys2Proof.Machine

/-! ### Allocations and the admission queue -/

theorem setAllocation_upholds {h : InHand} {n : SlotId} {a : Nat} {s : State}
    (hb : h.target = false → s.withinBudget → allocationSum s + a ≤ s.store.target + (s.slot n).power.allocation) :
    Upholds h s (setAllocation n a s) := by
  refine Upholds.trans (t := modSlot n (fun x => { x with power.allocation := a }) s)
    (.of_slot ⟨id, id, rfl, rfl⟩ hb (fun hl => ⟨hl.lines n, hl.phases n, .inl rfl⟩) fun _ hm => ⟨rfl, hm.unbound n⟩) (.of_read rfl)

/-- A fall of an allocation stays within the budget. -/
theorem setAllocation_upholds_of_le {h : InHand} {n : SlotId} {a : Nat} {s : State} (ha : a ≤ (s.slot n).power.allocation) :
    Upholds h s (setAllocation n a s) :=
  setAllocation_upholds fun _ hb => by simp only [State.withinBudget] at hb; omega

theorem lowerAllocation_upholds (h : InHand) (n : SlotId) (s : State) : Upholds h s (lowerAllocation n s) :=
  setAllocation_upholds_of_le (Nat.min_le_right ..)

theorem followFigure_upholds {h : InHand} {n : SlotId} {f : Slot → Slot} {s : State} (a : (s.slot n).Still (f (s.slot n))) :
    Upholds h s (followFigure n f s) :=
  Upholds.ite (fun _ => .of_still a) fun _ => (Upholds.of_still a).trans (lowerAllocation_upholds ..)

/-- Entries that leave the admission queue, or change in their skip counts alone. -/
theorem Upholds.of_admission {h : InHand} {s : State} {l : List AdmissionEntry}
    (hn : s.admissionAgrees → (l.map (·.slot)).Nodup)
    (hk : s.LivesBut h → ∀ e ∈ l, e.kind = .slotPower → (s.slot e.slot).state = .powerWait) (due : Bool) :
    Upholds h s { s with power := { s.power with queue := l, passDue := due } } where
  pending := rfl
  queues := id
  notices := id
  admission := hn
  commands _ := id
  sort := id
  store := id
  budget _ := id
  lives a := { a with admission := hk a }
  bindings _ a := { a with }

theorem leaveQueue_upholds (h : InHand) (p : AdmissionEntry → Bool) (due : Bool) (s : State) :
    Upholds h s { s with power := { s.power with queue := s.power.queue.filter p, passDue := due } } :=
  .of_admission (fun a => a.sublist (List.filter_sublist.map _)) (fun a e he => a.admission e (List.mem_of_mem_filter he)) due

theorem mapQueue_upholds (h : InHand) {f : AdmissionEntry → AdmissionEntry} (hf : ∀ e, (f e).slot = e.slot ∧ (f e).kind = e.kind)
    (s : State) : Upholds h s { s with power := { s.power with queue := s.power.queue.map f } } := by
  refine .of_admission (fun a => ?_) (fun a e he => ?_) s.power.passDue
  · simpa [State.admissionAgrees, Function.comp_def, (hf _).1] using a
  · obtain ⟨e', he', rfl⟩ := List.mem_map.1 he
    rw [(hf e').1, (hf e').2]
    exact a.admission e' he'

theorem entryOf_eq_none {s : State} {n : SlotId} : entryOf s n = none ↔ ∀ e ∈ s.power.queue, e.slot ≠ n := by
  simp [entryOf]

theorem joinAdmission_upholds {h : InHand} {n : SlotId} {k : AdmissionKind} {s : State} (o : Origin)
    (hk : s.LivesBut h → k = .slotPower → (s.slot n).state = .powerWait) : Upholds h s (joinAdmission n k o s) := by
  refine Upholds.ite (fun _ => .refl ..) fun hn => .of_admission (fun a => ?_) (fun a e he hp => ?_) true
  · have hn' : ∀ e ∈ s.power.queue, e.slot ≠ n := entryOf_eq_none.1 (by simpa using hn)
    simpa [State.admissionAgrees, List.nodup_append] using ⟨a, hn'⟩
  · obtain he | he := List.mem_append.1 he
    · exact a.admission e he hp
    · obtain rfl : e = _ := by simpa using he
      exact hk a hp

theorem leaveAdmission_upholds (h : InHand) (n : SlotId) (s : State) : Upholds h s (leaveAdmission n s) := by
  unfold leaveAdmission
  split
  · exact .refl ..
  · exact leaveQueue_upholds ..

theorem commandsAgree_of_reserved_none {x y : Slot} (hq : y.traffic.queue = x.traffic.queue)
    (hf : y.traffic.inFlight = x.traffic.inFlight) (hr : y.traffic.reserved = none) (a : x.commandsAgree) : y.commandsAgree := by
  simp only [Slot.commandsAgree, hq, hf, hr] at a ⊢
  exact ⟨a.1, a.2.1, a.2.2.1, a.2.2.2.1, by simp⟩

theorem releaseReserved_upholds (h : InHand) (n : SlotId) (s : State) : Upholds h s (releaseReserved n s) :=
  .of_still ⟨⟨id, commandsAgree_of_reserved_none rfl rfl rfl, rfl, rfl⟩, rfl, rfl, le_rfl⟩

theorem withdrawHead_upholds (h : InHand) (n : SlotId) (s : State) : Upholds h s (withdrawHead n s) :=
  (Upholds.ite (fun _ => leaveAdmission_upholds ..) fun _ => .refl ..).trans (releaseReserved_upholds ..)

theorem dropAdmission_upholds (h : InHand) (n : SlotId) (s : State) : Upholds h s (dropAdmission n s) :=
  (leaveAdmission_upholds ..).trans (releaseReserved_upholds ..)

/-! ### The in-flight table -/

/-- Entries that leave the table. -/
theorem commandsAgree_of_fewer {x y : Slot} (hq : y.traffic.queue = x.traffic.queue) (hr : y.traffic.reserved = x.traffic.reserved)
    (hf : ∀ j : Fin 4, y.traffic.inFlight[j] = none ∨ y.traffic.inFlight[j] = x.traffic.inFlight[j]) (a : x.commandsAgree) :
    y.commandsAgree := by
  have hs : ∀ (j : Fin 4) (e : InFlight), y.traffic.inFlight[j] = some e → x.traffic.inFlight[j] = some e := by
    intro j e he
    obtain h | h := hf j
    · rw [h] at he; cases he
    · rw [← h]; exact he
  obtain ⟨h1, h2, h3, h4, h5⟩ := a
  refine ⟨fun j e he => h1 j e (hs j e he), fun j k e f he hf => h2 j k e f (hs j e he) (hs k f hf), hq ▸ h3,
    fun q hq' => ⟨(h4 q (hq ▸ hq')).1, fun j e he => (h4 q (hq ▸ hq')).2 j e (hs j e he)⟩, fun k hk => ?_⟩
  obtain h | h := hf k
  · exact h
  · rw [h]; exact h5 k (hr ▸ hk)

theorem inFlight_set (v : Vector (Option InFlight) 4) (j k : Fin 4) (e : Option InFlight) :
    (v.set k.val e k.isLt)[j] = if j = k then e else v[j] := by
  simp only [Fin.getElem_fin, Vector.getElem_set, Fin.ext_iff, eq_comm]

theorem retireEntry_upholds (h : InHand) (n : SlotId) (k : Fin 4) (s : State) : Upholds h s (retireEntry n k s) := by
  refine followFigure_upholds ⟨⟨id, commandsAgree_of_fewer rfl rfl fun j => ?_, rfl, rfl⟩, rfl, rfl, le_rfl⟩
  dsimp only
  rw [inFlight_set]
  split
  · exact .inl rfl
  · exact .inr rfl

theorem clearTable_upholds (h : InHand) (n : SlotId) (s : State) : Upholds h s (clearTable n s) :=
  followFigure_upholds ⟨⟨id, commandsAgree_of_fewer rfl rfl fun j => .inl (by simp), rfl, rfl⟩, rfl, rfl, le_rfl⟩

/-- A command joins the table at an entry that is not reserved: one with the tag and the station of a server, held by no
command queued or in flight, or the only one of the part's own. -/
theorem commandsAgree_of_filled {x y : Slot} {k : Fin 4} {e : InFlight}
    (hq : y.traffic.queue.Sublist x.traffic.queue) (hr : y.traffic.reserved = x.traffic.reserved)
    (hf : y.traffic.inFlight = x.traffic.inFlight.set k.val (some e) k.isLt) (hk : x.traffic.reserved ≠ some k)
    (he : (e.origin = .server ∧ e.tag ≤ 27 ∧ e.source ≠ none) ∨ (e.origin = .part ∧ e.tag = 31 ∧ e.source = none))
    (hnew : ∀ (j : Fin 4) (f : InFlight), x.traffic.inFlight[j] = some f →
      ¬((e.origin = .part ∧ f.origin = .part) ∨ e.tag = f.tag))
    (hqt : ∀ q ∈ y.traffic.queue, e.tag ≠ q.tag) (a : x.commandsAgree) : y.commandsAgree := by
  have hs : ∀ j : Fin 4, y.traffic.inFlight[j] = if j = k then some e else x.traffic.inFlight[j] := fun j => by
    rw [hf, inFlight_set]
  obtain ⟨h1, h2, h3, h4, h5⟩ := a
  refine ⟨fun j f hj => ?_, fun i j f g hi hj ho => ?_, h3.sublist (hq.map _), fun q hq' => ⟨(h4 q (hq.subset hq')).1, fun j f hj => ?_⟩,
    fun j hj => ?_⟩
  · rw [hs] at hj
    split at hj
    · cases hj; exact he
    · exact h1 j f hj
  · rw [hs] at hi hj
    split at hi <;> split at hj
    · next e1 e2 => rw [e1, e2]
    · cases hi; exact absurd ho (hnew j g hj)
    · cases hj
      refine absurd ?_ (hnew i f hi)
      obtain ho | ho := ho
      · exact .inl ho.symm
      · exact .inr ho.symm
    · exact h2 i j f g hi hj ho
  · rw [hs] at hj
    split at hj
    · cases hj; exact hqt q hq'
    · exact (h4 q (hq.subset hq')).2 j f hj
  · rw [hs, if_neg]
    · exact h5 j (hr ▸ hj)
    · rintro rfl; exact hk (hr ▸ hj)

/-! ### The spindle -/

theorem applyPending_still (x : Slot) : x.Still (applyPending x) := by
  unfold applyPending
  split
  · exact .refl x
  · exact .of_eq rfl rfl rfl rfl le_rfl

theorem setSpindle_upholds (h : InHand) (n : SlotId) (sp : Spindle) (s : State) : Upholds h s (setSpindle n sp s) := by
  refine followFigure_upholds ?_
  have hs : (s.slot n).Still { s.slot n with power := { (s.slot n).power with
      spindle := sp, chosen := if sp = .stopped then none else (s.slot n).power.chosen } } := .of_eq rfl rfl rfl rfl le_rfl
  dsimp only
  split
  · exact hs.trans (applyPending_still _)
  · exact hs

theorem lapseHeld_upholds (h : InHand) (n : SlotId) (s : State) : Upholds h s (lapseHeld n s) := by
  refine Upholds.ite (fun _ => .refl ..) fun _ => (unlist_upholds ..).trans (followFigure_upholds ?_)
  exact Slot.Still.trans (y := { (unlist n .spinUp s).slot n with power.held := none }) (.of_eq rfl rfl rfl rfl le_rfl)
    (applyPending_still _)

/-! ### The injection list -/

theorem anyInFlight_eq_false {x : Slot} {p : InFlight → Bool} :
    x.anyInFlight p = false ↔ ∀ (j : Fin 4) (e : InFlight), x.traffic.inFlight[j] = some e → p e = false := by
  unfold Slot.anyInFlight
  rw [List.any_eq_false]
  constructor
  · intro h j e he
    have := h (some e) (by rw [← he]; exact Array.getElem_mem_toList _)
    simpa using this
  · intro h o ho
    obtain ⟨i, hi, rfl⟩ := List.getElem_of_mem ho
    have hi' : i < 4 := by simpa using hi
    cases he : x.traffic.inFlight[i] with
    | none => simp [he]
    | some e => simpa [he] using h ⟨i, hi'⟩ e he

theorem freeEntry_eq_some {x : Slot} {k : Fin 4} (h : x.freeEntry = some k) :
    x.traffic.inFlight[k] = none ∧ x.traffic.reserved ≠ some k := by
  have := List.find?_some h
  simpa using this

theorem commandsAgree_congr {x y : Slot} (h : y.traffic = x.traffic) : y.commandsAgree ↔ x.commandsAgree := by
  simp only [Slot.commandsAgree, h]

theorem fillEntry_upholds {h : InHand} {n : SlotId} {k : Fin 4} {e : InFlight} {s : State}
    (hc : (s.slot n).commandsAgree →
      Slot.commandsAgree { s.slot n with traffic.inFlight := (s.slot n).traffic.inFlight.set k.val (some e) k.isLt }) :
    Upholds h s (fillEntry n k e s) :=
  .of_still ⟨⟨id, hc, rfl, rfl⟩, rfl, rfl, le_rfl⟩

/-- A command of the part's own joins a table that holds none. -/
theorem commandsAgree_part {x : Slot} {k : Fin 4} {e : InFlight} (hp : x.partInFlight = false) (hk : x.traffic.reserved ≠ some k)
    (ho : e.origin = .part) (ht : e.tag = 31) (hs : e.source = none) (a : x.commandsAgree) :
    Slot.commandsAgree { x with traffic.inFlight := x.traffic.inFlight.set k.val (some e) k.isLt } := by
  refine commandsAgree_of_filled (List.Sublist.refl x.traffic.queue) rfl rfl hk (.inr ⟨ho, ht, hs⟩) (fun j f hf => ?_)
    (fun q hq => ?_) a
  · have hf' : f.origin ≠ .part := by simpa using anyInFlight_eq_false.1 hp j f hf
    obtain hc | hc := a.1 j f hf
    · rintro (hh | hh)
      · exact hf' hh.2
      · omega
    · exact absurd hc.1 hf'
  · have := (a.2.2.2.1 q hq).1
    omega

/-- A listed command is sent only where the part has none in flight, into an entry that is not reserved (R28). -/
theorem sendInjection_upholds {h : InHand} {n : SlotId} {k : Fin 4} {i : Injection} {s : State}
    (hp : (s.slot n).partInFlight = false) (hk : (s.slot n).freeEntry = some k) : Upholds h s (sendInjection n k i s) := by
  have h1 : Upholds h s (unlist n i.cls s) := unlist_upholds ..
  have h2 : Upholds h (unlist n i.cls s) (if i.cls = .spinUp then modSlot n takeHeld (unlist n i.cls s) else unlist n i.cls s) :=
    Upholds.ite (fun _ => modSlot_upholds) fun _ => .refl ..
  have ht : ((if i.cls = .spinUp then modSlot n takeHeld (unlist n i.cls s) else unlist n i.cls s).slot n).traffic
      = { (s.slot n).traffic with injections := (s.slot n).traffic.injections.filter (·.cls != i.cls) } := by
    split <;> simp [unlist, takeHeld]
  unfold sendInjection
  dsimp only
  generalize (if i.cls = .spinUp then modSlot n takeHeld (unlist n i.cls s) else unlist n i.cls s) = t at *
  have hp' : (t.slot n).partInFlight = false := by
    simpa [Slot.partInFlight, Slot.anyInFlight, ht] using hp
  have h3 : ∀ c g tm mk, Upholds h t (fillEntry n k ⟨Config.partTag, c, .part, g, t.now, tm, none, mk⟩ t) := fun c g tm mk =>
    fillEntry_upholds (commandsAgree_part hp' (by rw [ht]; exact (freeEntry_eq_some hk).2) rfl rfl rfl)
  have h4 := fun c g tm mk f => ((h1.trans h2).trans (h3 c g tm mk)).trans (sendLink_upholds h n f _)
  cases i.cls <;> dsimp only
  case spinUp => exact (h4 ..).trans (setSpindle_upholds ..)
  case spinDown =>
    split
    · exact (h4 ..).trans (setSpindle_upholds ..)
    · exact h4 ..
  all_goals exact h4 ..

theorem serveInjections_upholds (h : InHand) (n : SlotId) (s : State) : Upholds h s (serveInjections n s) := by
  obtain ⟨e, -⟩ | ⟨i, rest, k, -, -, hp, hk, e⟩ := serveInjections_cases n s <;> rw [e]
  · exact .refl ..
  · exact sendInjection_upholds hp hk

theorem injectOrphan_upholds (h : InHand) (n : SlotId) (s : State) : Upholds h s (injectOrphan n s) := inject_upholds ..

/-! ### The queue head -/

/-- The queue head moves from the queue into the table. -/
theorem commandsAgree_forwarded {x y : Slot} {k : Fin 4} {q : QueuedCmd} {rest : List QueuedCmd} {e : InFlight}
    (hq : x.traffic.queue = q :: rest) (hk : x.traffic.reserved ≠ some k) (ho : e.origin = .server) (ht : e.tag = q.tag)
    (hs : e.source ≠ none)
    (hy : y.traffic = { x.traffic with queue := rest, inFlight := x.traffic.inFlight.set k.val (some e) k.isLt })
    (a : x.commandsAgree) : y.commandsAgree := by
  have hqm : q ∈ x.traffic.queue := by simp [hq]
  have hnd := a.2.2.1
  rw [hq, List.map_cons, List.nodup_cons] at hnd
  refine commandsAgree_of_filled (k := k) (e := e) (by rw [hy, hq]; exact List.sublist_cons_self ..) (by rw [hy]) (by rw [hy]) hk
    (.inl ⟨ho, ht ▸ (a.2.2.2.1 q hqm).1, hs⟩) (fun j f hf => ?_) (fun q' hq' he => ?_) a
  · rintro (hh | hh)
    · rw [ho] at hh; cases hh.1
    · exact (a.2.2.2.1 q hqm).2 j f hf (hh.symm.trans ht)
  · rw [hy] at hq'
    exact hnd.1 (List.mem_map.2 ⟨q', hq', he.symm.trans ht⟩)

theorem forwardHead_upholds {h : InHand} {n : SlotId} {k : Fin 4} {s : State} (g : Bool)
    (hk : (s.slot n).traffic.reserved ≠ some k) : Upholds h s (forwardHead n k g s) := by
  unfold forwardHead
  dsimp only
  split
  · exact .refl ..
  · next q rest hq =>
    have h1 : ∀ c tm, Upholds h s (fillEntry n k ⟨q.tag, c, .server, g, s.now, tm, some q.source, false⟩
        (modSlot n (fun x => { x with traffic.queue := rest, drift.lastForward := s.now }) s)) := by
      intro c tm
      unfold fillEntry
      rw [modSlot_modSlot]
      refine .of_still ⟨⟨fun a => ?_, ?_, rfl, rfl⟩, rfl, rfl, le_rfl⟩
      · rw [hq] at a; exact Nat.le_of_succ_le a
      · exact commandsAgree_forwarded (e := ⟨q.tag, c, .server, g, s.now, tm, some q.source, false⟩) hq hk rfl rfl
          (Option.some_ne_none _) rfl
    have h2 := fun c tm f => (h1 c tm).trans (sendLink_upholds h n f _)
    cases q.cls <;> dsimp only
    case spinUp =>
      split
      · exact (h2 ..).trans (setSpindle_upholds ..)
      · exact h2 ..
    case spinDown =>
      split
      · exact (h2 ..).trans (setSpindle_upholds ..)
      · exact h2 ..
    all_goals exact h2 ..

/-- Frames that leave the slot command queue. -/
theorem commandsAgree_of_queue {x y : Slot} (hq : y.traffic.queue.Sublist x.traffic.queue)
    (hr : y.traffic.reserved = x.traffic.reserved) (hf : y.traffic.inFlight = x.traffic.inFlight) (a : x.commandsAgree) :
    y.commandsAgree := by
  simp only [Slot.commandsAgree, hr, hf] at a ⊢
  exact ⟨a.1, a.2.1, a.2.2.1.sublist (hq.map _), fun q hq' => a.2.2.2.1 q (hq.subset hq'), a.2.2.2.2⟩

theorem leaveSlotQueue_upholds {h : InHand} {n : SlotId} {f : Slot → List QueuedCmd} {s : State}
    (hf : (f (s.slot n)).Sublist (s.slot n).traffic.queue) :
    Upholds h s (modSlot n (fun x => { x with traffic.queue := f x }) s) :=
  .of_still ⟨⟨fun a => hf.length_le.trans a, commandsAgree_of_queue hf rfl rfl, rfl, rfl⟩, rfl, rfl, le_rfl⟩

theorem refuseHead_upholds (h : InHand) (n : SlotId) (s : State) : Upholds h s (refuseHead n s) := by
  unfold refuseHead
  split
  · exact .refl ..
  · next q rest hq =>
    have h1 : Upholds h s (modSlot n (fun x => { x with traffic.queue := rest }) s) :=
      leaveSlotQueue_upholds (f := fun _ => rest) (by rw [hq]; exact List.sublist_cons_self ..)
    exact (h1.trans (answerPart_upholds ..)).trans (withdrawHead_upholds ..)

theorem requestHead_upholds {h : InHand} {n : SlotId} {k : Fin 4} {s : State} (c : CmdClass)
    (hk : (s.slot n).traffic.inFlight[k] = none) : Upholds h s (requestHead n k c s) := by
  refine Upholds.ite (fun _ => .refl ..) fun _ => ?_
  have h1 : Upholds h s (modSlot n (fun x => { x with traffic.reserved := some k }) s) :=
    .of_still ⟨⟨id, fun a => ⟨a.1, a.2.1, a.2.2.1, a.2.2.2.1, fun j hj => by cases hj; exact hk⟩, rfl, rfl⟩, rfl, rfl, le_rfl⟩
  exact h1.trans (joinAdmission_upholds _ fun _ hc => by split at hc <;> cases hc)

theorem considerHead_upholds (h : InHand) (fuel : Nat) (n : SlotId) (s : State) : Upholds h s (considerHead fuel n s) := by
  induction fuel generalizing s with
  | zero => exact .refl ..
  | succ fuel ih =>
    unfold considerHead
    dsimp only
    split
    · exact .refl ..
    · split
      · exact .refl ..
      · split
        · exact .refl ..
        · exact (refuseHead_upholds ..).trans (ih _)
        · next hf => exact (forwardHead_upholds _ (freeEntry_eq_some hf).2).trans (ih _)
        · next hf => exact requestHead_upholds _ (freeEntry_eq_some hf).1
        · exact .refl ..
        · exact .refl ..

theorem serveSlot_upholds (h : InHand) (n : SlotId) (s : State) : Upholds h s (serveSlot n s) :=
  (serveInjections_upholds ..).trans (considerHead_upholds ..)

theorem answerQueue_upholds (h : InHand) (n : SlotId) (c : PartCode) (s : State) : Upholds h s (answerQueue n c s) :=
  (Upholds.foldl (fun _ _ => answerPart_upholds ..) ..).trans (leaveSlotQueue_upholds (f := fun _ => []) (List.nil_sublist _))

theorem answerInFlight_upholds (h : InHand) (n : SlotId) (c : PartCode) (s : State) : Upholds h s (answerInFlight n c s) := by
  refine Upholds.foldl (fun s e => ?_) ..
  split
  · exact .refl ..
  · exact answerPart_upholds ..

/-! ### Slot states, power and parking -/

/-- A slot moves to a state: its lines and, where it is not in hand, its phase and its binding agree with the new state; no
SLOT_POWER entry and no entry of the sort-wait list is left without the state that it is of. -/
theorem setState_upholds {h : InHand} {n : SlotId} {st : SlotState} {s : State}
    (hl : s.LivesBut h → Slot.linesAgree { s.slot n with state := st }
      ∧ (h.life ≠ some n → Slot.phaseAgrees { s.slot n with state := st })
      ∧ ((∀ e ∈ s.power.queue, e.kind = .slotPower → e.slot = n → st = .powerWait)
        ∧ ∀ w ∈ s.sort.waiting, w.slot = n → st = .sortWait))
    (hm : s.LivesBut h → s.BindingsBut h → h.binding ≠ some n → Slot.unboundAgrees { s.slot n with state := st }) :
    Upholds h s (setState n st s) := by
  refine Upholds.trans (t := modSlot n (fun x => { x with state := st }) s) (.of_slot ⟨id, id, rfl, rfl⟩
    (fun _ hb => Nat.add_le_add_right hb _) (fun a => ⟨(hl a).1, (hl a).2.1, .inr (hl a).2.2⟩) fun a b => ⟨rfl, hm a b⟩)
    (relamp_upholds ..)

/-- Slot power goes off: the lines agree with any state. -/
theorem linesAgree_powerOff {x y : Slot} (hs : y.state = x.state) (hl : y.lines.latch = x.lines.latch)
    (hr : y.lines.rundown = x.lines.rundown) (hp : y.lines.powered = false) (a : x.linesAgree) : y.linesAgree := by
  simp only [Slot.linesAgree, hs, hl, hr, hp, implies_true, and_true] at a ⊢
  exact fun h => ⟨trivial, (a.1 h).2⟩

theorem powerOff_upholds (h : InHand) (n : SlotId) (s : State) : Upholds h s (powerOff n s) := by
  refine Upholds.trans (Upholds.of_slot ?_ ?_ ?_ ?_) (setAllocation_upholds_of_le (Nat.zero_le _))
  all_goals
    unfold applyPending
    dsimp only
  · split <;> exact ⟨id, id, rfl, rfl⟩
  · intro _ hb
    split <;> exact Nat.add_le_add_right hb _
  · intro a
    have hp := a.phases n
    split <;> exact ⟨linesAgree_powerOff (x := s.slot n) rfl rfl rfl rfl (a.lines n), hp, .inl rfl⟩
  · intro _ b
    have hu := b.unbound n
    split <;> exact ⟨rfl, hu⟩

/-- The rundown runs only with slot power OFF, and with the latch LOCKED (R13). -/
theorem startRundown_upholds {h : InHand} {n : SlotId} {s : State} (hp : (s.slot n).lines.powered = false)
    (hl : s.LivesBut h → (s.slot n).lines.latch = .locked) : Upholds h s (startRundown n s) := by
  refine .of_slot ⟨id, id, rfl, rfl⟩ (fun _ hb => Nat.add_le_add_right hb _)
    (fun a => ⟨⟨fun ho => ?_, fun _ _ => hp, fun _ => hp⟩, a.phases n, .inl rfl⟩) fun _ b => ⟨rfl, b.unbound n⟩
  rw [show (s.slot n).lines.latch = .opened from ho] at hl
  cases hl a

theorem powerOff_lines (n : SlotId) (s : State) :
    ((powerOff n s).slot n).lines = { (s.slot n).lines with powered := false } := by
  unfold powerOff applyPending
  simp only [setAllocation_slot_same, slot_modSlot_same]
  split <;> rfl

/-- A slot that is neither EMPTY nor SORTED has its latch LOCKED. -/
theorem State.LivesBut.locked {h : InHand} {s : State} {n : SlotId} (a : s.LivesBut h) (he : (s.slot n).state ≠ .empty)
    (hs : (s.slot n).state ≠ .sorted) : (s.slot n).lines.latch = .locked := by
  cases hl : (s.slot n).lines.latch with
  | locked => rfl
  | opened => exact absurd ((a.lines n).1 hl).2.2 (by simp [he, hs])

theorem powerOff_slot (n : SlotId) (s : State) :
    SlotKeepsBut [.power, .allocation, .spindle, .injections, .identity, .tallies, .idle] (s.slot n) ((powerOff n s).slot n) := by
  unfold powerOff applyPending
  simp only [setAllocation_slot_same, slot_modSlot_same]
  split <;> (refine ⟨fun g hg => ?_⟩; cases g <;> simp_all [slotSameIn])

/-- The parking spin-down of a slot with its latch LOCKED ends. -/
theorem spinDownEnd_upholds {h : InHand} {n : SlotId} {s : State} (hl : s.LivesBut h → (s.slot n).lines.latch = .locked) :
    Upholds h s (spinDownEnd n s) := by
  refine .given hl fun f hf => ?_
  have h1 : Upholds { h with followed := f } s (modSlot n (fun x => { x with lines.park := none }) s) := modSlot_upholds
  refine (h1.trans (powerOff_upholds ..)).trans (startRundown_upholds (by rw [powerOff_lines]) fun a => ?_)
  rw [powerOff_lines, slot_modSlot_same]
  exact hf a.followed

theorem injectParking_upholds (h : InHand) (n : SlotId) (s : State) : Upholds h s (injectParking n s) :=
  Upholds.ite (fun _ => .refl ..) fun _ => inject_upholds ..

/-- A slot in GRADING or SORT_WAIT enters PARKING, off the sort-wait list. -/
theorem enterParking_upholds {h : InHand} {n : SlotId} {s : State}
    (hl : s.LivesBut h → (s.slot n).state = .grading ∨ (s.slot n).state = .sortWait)
    (hw : ∀ w ∈ s.sort.waiting, w.slot ≠ n) : Upholds h s (enterParking n s) := by
  refine .given (p := ((s.slot n).state = .grading ∨ (s.slot n).state = .sortWait) ∧ (s.slot n).lines.latch = .locked)
    (fun a => ⟨hl a, a.locked (by obtain e | e := hl a <;> simp [e]) (by obtain e | e := hl a <;> simp [e])⟩) fun f hf => ?_
  have h0 : Upholds { h with followed := f } s (setState n .parking s) := by
    refine setState_upholds (fun a => ⟨⟨fun ho => ?_, (a.lines n).2.1, by simp⟩, fun _ => ⟨by simp, by simp⟩, ⟨fun e he hk hn => ?_,
      fun w hw' hn => absurd hn (hw w hw')⟩⟩) fun a b _ => ⟨by simp, by simp⟩
    · rw [show (s.slot n).lines.latch = .opened from ho] at hf
      cases (hf a.followed).2
    · have hs := a.admission e he hk
      rw [hn] at hs
      obtain hst | hst := (hf a.followed).1 <;> rw [hst] at hs <;> cases hs
  have hlatch : ((setState n .parking s).slot n).lines.latch = (s.slot n).lines.latch :=
    (setState_slot n .parking s).same .latch (by simp)
  unfold enterParking
  dsimp only
  split
  · next hp => exact h0.trans (startRundown_upholds hp fun a => by rw [hlatch]; exact (hf a.followed).2)
  · have h1 : Upholds { h with followed := f } s
        (modSlot n (fun x => { x with lines.park := some ((setState n .parking s).now + Config.parkMs) }) (setState n .parking s)) :=
      h0.trans modSlot_upholds
    have h2 := (h1.trans (injectParking_upholds _ n _)).trans (serveInjections_upholds _ n _)
    split
    · refine h1.trans (spinDownEnd_upholds fun a => ?_)
      rw [slot_modSlot_same]
      exact hlatch.trans (hf a.followed).2
    · exact h2
    · exact h2
    · exact Upholds.ite (fun _ => h1) fun _ => h2

theorem shedCheck_upholds (h : InHand) (n : SlotId) (s : State) : Upholds h s (shedCheck n s) := by
  obtain ⟨-, -, -, -, e⟩ | ⟨-, e⟩ := shedCheck_cases n s <;> rw [e]
  · exact inject_upholds ..
  · exact .refl ..

end Sys2Proof.Machine
end

section
/-! SUPPORT. Raising, withdrawing and sending notices uphold the invariants (chapter 10). -/

namespace Sys2Proof.Machine

/-! ### Changes of events and notices -/

/-- A slot record with its events and its notice taken away. -/
def Slot.unraised (x : Slot) : Slot := { x with events := 0, notice := .quiet }

/-- A state with its events, notices and event mask taken away. -/
def State.unraised (s : State) : State :=
  { s with slots := s.slots.map Slot.unraised
           notices := { s.notices with queue := [], part := 0, partState := .quiet }
           store.settings.eventMask := ⟨0, 0⟩ }

@[simp] theorem modSlot_unraised (n : SlotId) (f : Slot → Slot) (s : State) (hf : (f (s.slot n)).unraised = (s.slot n).unraised) :
    (modSlot n f s).unraised = s.unraised := by
  have : (s.slots.set n.val (f (s.slot n)) n.isLt).map Slot.unraised = s.slots.map Slot.unraised := by
    ext i hi
    simp only [Vector.getElem_map, Vector.getElem_set]
    split
    · next h => subst h; exact hf
    · rfl
  simp only [State.unraised, modSlot, State.setSlot, this]

theorem unraised_slot {s t : State} (e : t.unraised = s.unraised) (n : SlotId) : (t.slot n).unraised = (s.slot n).unraised := by
  have h := congrArg (fun u : State => u.slots[n.val]) e
  simpa [State.unraised, State.slot] using h

/-- A change of events and notices alone that keeps the relations of the notices. -/
theorem Upholds.of_notices {h : InHand} {s t : State} (e : t.unraised = s.unraised) (hn : s.noticesAgree → t.noticesAgree) :
    Upholds h s t := by
  have hsl := fun n => unraised_slot e n
  have hlines : ∀ n, (t.slot n).lines = (s.slot n).lines := fun n => (congrArg Slot.lines (hsl n) :)
  have htraffic : ∀ n, (t.slot n).traffic = (s.slot n).traffic := fun n => (congrArg Slot.traffic (hsl n) :)
  have hstate : ∀ n, (t.slot n).state = (s.slot n).state := fun n => (congrArg Slot.state (hsl n) :)
  have hrec : ∀ n, (t.slot n).recovery = (s.slot n).recovery := fun n => (congrArg Slot.recovery (hsl n) :)
  have hgr : ∀ n, (t.slot n).grading = (s.slot n).grading := fun n => (congrArg Slot.grading (hsl n) :)
  have hid : ∀ n, (t.slot n).identity = (s.slot n).identity := fun n => (congrArg Slot.identity (hsl n) :)
  have hsort : t.sort = s.sort := (congrArg State.sort e :)
  have htab : t.tables = s.tables := (congrArg State.tables e :)
  have hport : t.port = s.port := (congrArg State.port e :)
  have hpow : t.power = s.power := (congrArg State.power e :)
  have hset : { t.store.settings with eventMask := ⟨0, 0⟩ } = { s.store.settings with eventMask := ⟨0, 0⟩ } :=
    (congrArg (fun u : State => u.store.settings) e :)
  have htarget : t.store.target = s.store.target := (congrArg (fun u : State => u.store.target) e :)
  have hreserve : t.store.settings.settleReserve = s.store.settings.settleReserve := (congrArg Settings.settleReserve hset :)
  have hrange : s.store.settings.inRange → t.store.settings.inRange := fun hr =>
    show Settings.inRange { t.store.settings with eventMask := ⟨0, 0⟩ } by rw [hset]; exact hr
  have hbin := bin_congr (congrArg SortUnit.bins hsort)
  have hsum : allocationSum t = allocationSum s := by
    have h := congrArg (fun u : State => (u.slots.toList.map fun x => x.power.allocation).sum) e
    simpa [State.unraised, allocationSum, Vector.toList_map, Function.comp_def, Slot.unraised] using h
  constructor
  case pending => exact (congrArg State.pending e :)
  case queues => intro a; simpa only [State.queuesWithin, hport, htraffic] using a
  case notices => exact hn
  case admission => intro a; simpa only [State.admissionAgrees, hpow] using a
  case commands => intro n a; rwa [commandsAgree_congr (htraffic n)]
  case sort => intro a; simpa only [State.sortAgrees, hsort, hbin] using a
  case store =>
    rintro ⟨h1, h2⟩
    exact ⟨hrange h1, by simpa only [htarget, hreserve, htab, hbin] using h2⟩
  case budget => intro _ a; simpa only [State.withinBudget, hsum, htarget] using a
  case lives =>
    exact fun a => ⟨a.followed, by simpa only [Slot.linesAgree, hlines, hstate] using a.lines,
      by simpa only [Slot.phaseAgrees, hstate, hrec, hgr] using a.phases, by simpa only [hstate, hpow] using a.admission,
      by simpa only [hstate, hsort] using a.waiting⟩
  case bindings =>
    exact fun _ a => ⟨by simpa only [State.countsAgree, htab, hid] using a.counts,
      by simpa only [Slot.unboundAgrees, hstate, hid, hrec] using a.unbound⟩

/-! ### The relations of the notices, but for some sources -/

/-- `State.noticesAgree`, but that the notices of some sources have not yet followed their sets. -/
structure State.NoticesBut (l : List Source) (s : State) : Prop where
  length : s.notices.queue.length ≤ Config.noticeQueueDepth
  nodup : s.notices.queue.Nodup
  member : ∀ o, o ∈ s.notices.queue ↔ noticeStateOf s o = .queued
  empty : ∀ o ∉ l, sourceEmpty s o = true ↔ noticeStateOf s o = .quiet

theorem noticesAgree_iff (s : State) : s.noticesAgree ↔ s.NoticesBut [] :=
  ⟨fun a => ⟨a.1, a.2.1, fun o => (a.2.2 o).1, fun o _ => (a.2.2 o).2⟩,
    fun a => ⟨a.length, a.nodup, fun o => ⟨a.member o, a.empty o (by simp)⟩⟩⟩

@[simp] theorem noticeStateOf_setNoticeState (src o : Source) (st : NoticeState) (s : State) :
    noticeStateOf (setNoticeState src st s) o = if o = src then st else noticeStateOf s o := by
  cases src <;> cases o <;> simp only [setNoticeState, noticeStateOf, reduceCtorEq, Source.slot.injEq, if_true, if_false]
  · rfl
  · rfl
  · rw [modSlot, slot_setSlot]
    split <;> simp_all

@[simp] theorem sourceEmpty_setNoticeState (src o : Source) (st : NoticeState) (s : State) :
    sourceEmpty (setNoticeState src st s) o = sourceEmpty s o := by
  cases src <;> cases o <;> simp only [setNoticeState, sourceEmpty]
  · rfl
  · rfl
  · rfl
  · simp only [unmaskedSlot, modSlot, slot_setSlot, setSlot_store]
    split <;> simp_all

@[simp] theorem setNoticeState_queue (src : Source) (st : NoticeState) (s : State) :
    (setNoticeState src st s).notices.queue = s.notices.queue := by cases src <;> rfl

@[simp] theorem setNoticeState_unraised (src : Source) (st : NoticeState) (s : State) :
    (setNoticeState src st s).unraised = s.unraised := by
  cases src
  · rfl
  · exact modSlot_unraised _ _ _ rfl

/-- A change of the queue alone. -/
@[simp] theorem noticeStateOf_withQueue (q : List Source) (s : State) (o : Source) :
    noticeStateOf { s with notices.queue := q } o = noticeStateOf s o := by cases o <;> rfl

@[simp] theorem sourceEmpty_withQueue (q : List Source) (s : State) (o : Source) :
    sourceEmpty { s with notices.queue := q } o = sourceEmpty s o := by cases o <;> rfl

/-- A source leaves the queue, or stays out of it, and takes a notice state other than QUEUED. -/
theorem State.NoticesBut.leave {s : State} {src : Source} {l : List Source} (a : s.NoticesBut (src :: l)) {st : NoticeState}
    (hq : st ≠ .queued) (he : sourceEmpty s src = true ↔ st = .quiet) :
    (setNoticeState src st { s with notices.queue := s.notices.queue.filter (· != src) }).NoticesBut l where
  length := by simpa using (List.length_filter_le ..).trans a.length
  nodup := by simpa using a.nodup.filter _
  member o := by
    by_cases h : o = src
    · simp [h, hq]
    · simp [h, a.member]
  empty o ho := by
    by_cases h : o = src
    · simpa [h] using he
    · simpa [h] using a.empty o (by simp [h, ho])

theorem filter_ne_of_not_mem {q : List Source} {src : Source} (h : src ∉ q) : q.filter (· != src) = q :=
  List.filter_eq_self.2 fun o ho => by simpa using fun e : o = src => h (e ▸ ho)

/-- A source that is not queued takes a notice state other than QUEUED. -/
theorem State.NoticesBut.set {s : State} {src : Source} {l : List Source} (a : s.NoticesBut (src :: l)) {st : NoticeState}
    (hs : noticeStateOf s src ≠ .queued) (hq : st ≠ .queued) (he : sourceEmpty s src = true ↔ st = .quiet) :
    (setNoticeState src st s).NoticesBut l := by
  have h := a.leave hq he
  rwa [filter_ne_of_not_mem (by rwa [a.member])] at h

/-- A source that is not queued joins the tail of the queue. -/
theorem State.NoticesBut.join {s : State} {src : Source} {l : List Source} (a : s.NoticesBut (src :: l))
    (hs : noticeStateOf s src ≠ .queued) (hl : s.notices.queue.length < Config.noticeQueueDepth)
    (he : sourceEmpty s src = false) :
    (setNoticeState src .queued { s with notices.queue := s.notices.queue ++ [src] }).NoticesBut l where
  length := by simpa using hl
  nodup := by
    have hn : src ∉ s.notices.queue := by rwa [a.member]
    simpa [List.nodup_append] using ⟨a.nodup, fun o ho (e : o = src) => hn (e ▸ ho)⟩
  member o := by
    by_cases h : o = src
    · simp [h]
    · simp [h, a.member]
  empty o ho := by
    by_cases h : o = src
    · simp [h, he]
    · simpa [h] using a.empty o (by simp [h, ho])

/-! ### Raising -/

theorem or_and_eq_zero {w : Nat} (p q m : BitVec w) : (p ||| q) &&& m = 0#w ↔ p &&& m = 0#w ∧ q &&& m = 0#w := by
  rw [show (p ||| q) &&& m = (p &&& m) ||| (q &&& m) from by ext i; simp [Bool.and_or_distrib_right], BitVec.or_eq_zero_iff]

/-- The part set grows. -/
theorem sourceEmpty_partOr (s : State) (p : BitVec 8) (o : Source) :
    sourceEmpty { s with notices.part := s.notices.part ||| p } o
      = (sourceEmpty s o && (decide (o ≠ .part) || p &&& ~~~ s.store.settings.eventMask.part == 0)) := by
  cases o with
  | slot n => simp; rfl
  | part =>
    rw [Bool.eq_iff_iff]
    simpa [sourceEmpty, unmaskedPart] using or_and_eq_zero ..

theorem noticeStateOf_withPart (s : State) (p : BitVec 8) (o : Source) :
    noticeStateOf { s with notices.part := p } o = noticeStateOf s o := by cases o <;> rfl

/-- The part set grows where it stays empty or was not empty, or where its notice has yet to follow. -/
theorem State.NoticesBut.partOr {s : State} {l : List Source} (a : s.NoticesBut l) {p : BitVec 8}
    (h : .part ∉ l → sourceEmpty s .part = true → p &&& ~~~ s.store.settings.eventMask.part = 0) :
    State.NoticesBut l { s with notices.part := s.notices.part ||| p } where
  length := a.length
  nodup := a.nodup
  member o := by rw [noticeStateOf_withPart]; exact a.member o
  empty o ho := by
    rw [noticeStateOf_withPart, sourceEmpty_partOr, ← a.empty o ho]
    by_cases hp : o = .part
    · subst hp; simpa using h ho
    · simp [hp]

theorem State.NoticesBut.mono {s : State} {l l' : List Source} (a : s.NoticesBut l) (h : ∀ o ∈ l, o ∈ l') : s.NoticesBut l' :=
  { a with empty := fun o ho => a.empty o fun hm => ho (h o hm) }

theorem State.NoticesBut.joinPart {s : State} {l : List Source} (a : s.NoticesBut (.part :: l))
    (hs : noticeStateOf s .part ≠ .queued) (he : sourceEmpty s .part = false) : (joinPart s).NoticesBut l := by
  unfold Machine.joinPart
  split
  · next hl => exact a.join hs hl he
  · exact (a.set hs (st := .lost) (by decide) (by simp [he])).partOr (by simp [he])

theorem joinPart_unraised (s : State) : (joinPart s).unraised = s.unraised := by
  unfold joinPart
  split <;> rfl

theorem State.NoticesBut.raisePart {s : State} {l : List Source} (a : s.NoticesBut l) (hl : .part ∉ l) (e : PartEvent) :
    (raisePart e s).NoticesBut l := by
  unfold Machine.raisePart
  dsimp only
  split
  · next h =>
    obtain ⟨hwas, hnow⟩ := h
    have hq : noticeStateOf s .part = .quiet := (a.empty .part hl).1 (by simpa [sourceEmpty] using hwas)
    refine State.NoticesBut.joinPart ((a.mono (l' := .part :: l) (by simp +contextual)).partOr (by simp)) ?_ ?_
    · rw [noticeStateOf_withPart, hq]; decide
    · simpa [sourceEmpty] using hnow
  · next h =>
    refine a.partOr fun _ he => ?_
    have hwas : unmaskedPart s = 0 := by simpa [sourceEmpty] using he
    have hnow : unmaskedPart { s with notices.part := s.notices.part ||| e.set } = 0 := by simpa [hwas] using h
    exact ((or_and_eq_zero ..).1 hnow).2

theorem raisePart_unraised (e : PartEvent) (s : State) : (raisePart e s).unraised = s.unraised := by
  unfold raisePart
  dsimp only
  split
  · rw [joinPart_unraised]; rfl
  · rfl

theorem State.NoticesBut.joinSlot {s : State} {l : List Source} {n : SlotId} (a : s.NoticesBut (.slot n :: l)) (hl : .part ∉ l)
    (hs : noticeStateOf s (.slot n) ≠ .queued) (he : sourceEmpty s (.slot n) = false) : (joinSlot n s).NoticesBut l := by
  unfold Machine.joinSlot
  split
  · next hl => exact a.join hs hl he
  · exact (a.set hs (st := .lost) (by decide) (by simp [he])).raisePart hl _

theorem joinSlot_unraised (n : SlotId) (s : State) : (joinSlot n s).unraised = s.unraised := by
  unfold joinSlot
  split
  · rw [setNoticeState_unraised]; rfl
  · rw [raisePart_unraised, setNoticeState_unraised]

theorem raisePart_upholds (h : InHand) (e : PartEvent) (s : State) : Upholds h s (raisePart e s) :=
  .of_notices (raisePart_unraised e s) fun a => (noticesAgree_iff _).2 (((noticesAgree_iff s).1 a).raisePart (by simp) e)

/-- A slot's set grows. -/
theorem sourceEmpty_slotOr (s : State) (n : SlotId) (p : BitVec 16) (o : Source) :
    sourceEmpty (modSlot n (fun x => { x with events := x.events ||| p }) s) o
      = (sourceEmpty s o && (decide (o ≠ .slot n) || p &&& ~~~ s.store.settings.eventMask.slot == 0)) := by
  cases o with
  | part => simp; rfl
  | slot m =>
    rw [Bool.eq_iff_iff]
    simp only [sourceEmpty, unmaskedSlot, modSlot, slot_setSlot, setSlot_store, decide_eq_true_eq, ne_eq, Source.slot.injEq,
      Bool.and_eq_true, Bool.or_eq_true, beq_iff_eq]
    split
    · next h => subst h; simpa using or_and_eq_zero ..
    · next h => simp [h]

theorem noticeStateOf_slotOr (s : State) (n : SlotId) (p : BitVec 16) (o : Source) :
    noticeStateOf (modSlot n (fun x => { x with events := x.events ||| p }) s) o = noticeStateOf s o := by
  cases o with
  | part => rfl
  | slot m => simp only [noticeStateOf, modSlot, slot_setSlot]; split <;> simp_all

theorem State.NoticesBut.slotOr {s : State} {n : SlotId} {l : List Source} (a : s.NoticesBut l) {p : BitVec 16}
    (h : .slot n ∉ l → sourceEmpty s (.slot n) = true → p &&& ~~~ s.store.settings.eventMask.slot = 0) :
    State.NoticesBut l (modSlot n (fun x => { x with events := x.events ||| p }) s) where
  length := a.length
  nodup := a.nodup
  member o := by rw [noticeStateOf_slotOr]; exact a.member o
  empty o ho := by
    rw [noticeStateOf_slotOr, sourceEmpty_slotOr, ← a.empty o ho]
    by_cases hp : o = .slot n
    · subst hp; simpa using h ho
    · simp [hp]

theorem State.NoticesBut.raiseSlot {s : State} {n : SlotId} {l : List Source} (a : s.NoticesBut l) (hl : .part ∉ l)
    (hn : .slot n ∉ l) (e : SlotEvent) : (raiseSlot n e s).NoticesBut l := by
  unfold Machine.raiseSlot
  dsimp only
  split
  · next h =>
    obtain ⟨hwas, hnow⟩ := h
    have hq : noticeStateOf s (.slot n) = .quiet := (a.empty _ hn).1 (by simpa [sourceEmpty] using hwas)
    refine State.NoticesBut.joinSlot ((a.mono (l' := .slot n :: l) (by simp +contextual)).slotOr (by simp)) hl ?_ ?_
    · rw [noticeStateOf_slotOr, hq]; decide
    · simpa [sourceEmpty] using hnow
  · next h =>
    refine a.slotOr fun _ he => ?_
    have hwas : unmaskedSlot s n = 0 := by simpa [sourceEmpty] using he
    have hnow : unmaskedSlot (modSlot n (fun x => { x with events := x.events ||| e.set }) s) n = 0 := by simpa [hwas] using h
    simp only [unmaskedSlot, slot_modSlot_same] at hnow
    exact ((or_and_eq_zero ..).1 hnow).2

theorem raiseSlot_unraised (n : SlotId) (e : SlotEvent) (s : State) : (raiseSlot n e s).unraised = s.unraised := by
  unfold raiseSlot
  dsimp only
  split
  · rw [joinSlot_unraised, modSlot_unraised _ _ _ rfl]
  · rw [modSlot_unraised _ _ _ rfl]

theorem raiseSlot_upholds (h : InHand) (n : SlotId) (e : SlotEvent) (s : State) : Upholds h s (raiseSlot n e s) :=
  .of_notices (raiseSlot_unraised n e s) fun a =>
    (noticesAgree_iff _).2 (((noticesAgree_iff s).1 a).raiseSlot (by simp) (by simp) e)

/-! ### Notices that leave the queue -/

/-- A LOST part source takes a place freed; its set is not empty. -/
theorem State.NoticesBut.noticeLeft {s : State} {l : List Source} (a : s.NoticesBut l)
    (hl : s.notices.partState = .lost → .part ∉ l) : (noticeLeft s).NoticesBut l := by
  unfold Machine.noticeLeft
  split
  · next h =>
    have hs : noticeStateOf s .part = .lost := h
    refine (a.mono (l' := .part :: l) (by simp +contextual)).joinPart (by simp [hs]) ?_
    have := a.empty .part (hl h)
    simpa [hs] using this
  · exact a

theorem noticeLeft_unraised (s : State) : (noticeLeft s).unraised = s.unraised := by
  unfold noticeLeft
  split
  · exact joinPart_unraised s
  · rfl

theorem State.NoticesBut.withdrawNotice {s : State} {src : Source} {l : List Source} (a : s.NoticesBut (src :: l))
    (he : sourceEmpty s src = true) (hl : src ≠ .part → s.notices.partState = .lost → .part ∉ l) :
    (withdrawNotice src s).NoticesBut l := by
  have h := a.leave (st := .quiet) (by decide) (by simp [he])
  unfold Machine.withdrawNotice
  dsimp only
  split
  · refine h.noticeLeft fun hp => hl ?_ ?_
    · rintro rfl; cases hp
    · cases src
      · cases hp
      · exact hp
  · exact h

theorem withdrawNotice_unraised (src : Source) (s : State) : (withdrawNotice src s).unraised = s.unraised := by
  unfold withdrawNotice
  dsimp only
  split
  · rw [noticeLeft_unraised, setNoticeState_unraised]; rfl
  · rw [setNoticeState_unraised]; rfl

theorem transmit_upholds (h : InHand) (f : RackFrame) (s : State) : Upholds h s (transmit f s) := .of_read rfl

/-- The notice at the head is sent: its source is ANNOUNCED. -/
theorem sendNotice_upholds {h : InHand} {s : State} {src : Source} {rest : List Source} (hq : s.notices.queue = src :: rest) :
    Upholds h s (sendNotice src rest s) := by
  have hframe : sendNotice src rest s
      = noticeLeft (transmit (noticeFrame { s with notices.queue := rest } src)
          (setNoticeState src .announced { s with notices.queue := rest })) := by cases src <;> rfl
  have hsend : Upholds h s (setNoticeState src .announced { s with notices.queue := rest }) := by
    refine .of_notices (by rw [setNoticeState_unraised]; rfl) fun a => ?_
    rw [noticesAgree_iff] at a ⊢
    have hn := a.nodup
    rw [hq, List.nodup_cons] at hn
    have hs : noticeStateOf s src = .queued := (a.member src).1 (by simp [hq])
    have hl := (a.mono (l' := [src]) (by simp)).leave (st := .announced) (by decide)
      (by rw [a.empty src (by simp), hs]; decide)
    rwa [hq, List.filter_cons_of_neg (by simp), filter_ne_of_not_mem hn.1] at hl
  rw [hframe]
  refine (hsend.trans (transmit_upholds ..)).trans (.of_notices (noticeLeft_unraised _) fun a => ?_)
  exact (noticesAgree_iff _).2 (((noticesAgree_iff _).1 a).noticeLeft (by simp))

/-- A source's set is emptied, and its notice withdrawn (R181). -/
theorem settleNotice_upholds {h : InHand} {src : Source} {s t : State} (e : t.unraised = s.unraised)
    (hq : t.notices.queue = s.notices.queue) (hst : ∀ o, noticeStateOf t o = noticeStateOf s o)
    (hse : ∀ o ≠ src, sourceEmpty t o = sourceEmpty s o) (he : sourceEmpty t src = true) :
    Upholds h s (settleNotice src t) := by
  unfold settleNotice
  rw [if_pos he]
  refine .of_notices ((withdrawNotice_unraised ..).trans e) fun a => ?_
  rw [noticesAgree_iff] at a ⊢
  refine State.NoticesBut.withdrawNotice ⟨hq ▸ a.length, hq ▸ a.nodup, fun o => ?_, fun o ho => ?_⟩ he (by simp)
  · rw [hq, hst]; exact a.member o
  · rw [hst, hse o (by simpa using ho)]; exact a.empty o (by simp)

/-! ### SUPPLY_WARN -/

theorem dropOldestSlot_eq_none {q : List Source} (h : dropOldestSlot q = none) : ∀ o ∈ q, o = .part := by
  induction q with
  | nil => simp
  | cons o q ih =>
    cases o with
    | slot n => simp [dropOldestSlot] at h
    | part =>
      unfold dropOldestSlot at h
      split at h
      · next hn => simpa using ih hn
      · cases h

theorem dropOldestSlot_eq_some {q left : List Source} {n : SlotId} (h : dropOldestSlot q = some (n, left)) :
    q.Perm (.slot n :: left) := by
  induction q generalizing left with
  | nil => simp [dropOldestSlot] at h
  | cons o q ih =>
    cases o with
    | slot m =>
      obtain ⟨rfl, rfl⟩ : m = n ∧ q = left := by simpa [dropOldestSlot] using h
      exact .refl _
    | part =>
      unfold dropOldestSlot at h
      split at h
      · cases h
      · next m l hl =>
        obtain ⟨rfl, rfl⟩ : m = n ∧ Source.part :: l = left := by simpa using h
        exact ((ih hl).cons _).trans (.swap ..)

/-- The part notice takes the head of a queue that it is not in. -/
theorem State.NoticesBut.head {s : State} {q : List Source} (hl : q.length < Config.noticeQueueDepth) (hn : q.Nodup)
    (hp : .part ∉ q) (hm : ∀ n, .slot n ∈ q ↔ noticeStateOf s (.slot n) = .queued)
    (he : ∀ n, sourceEmpty s (.slot n) = true ↔ noticeStateOf s (.slot n) = .quiet) (hs : sourceEmpty s .part = false) :
    (setNoticeState .part .queued { s with notices.queue := .part :: q }).NoticesBut [] where
  length := hl
  nodup := List.nodup_cons.2 ⟨hp, hn⟩
  member o := by
    cases o with
    | part => simp
    | slot n => simp [hm]
  empty o _ := by
    cases o with
    | part => simp [hs]
    | slot n => simpa using he n

/-- SUPPLY_WARN unmasked puts the part notice at the head of the queue; with the queue full the oldest slot notice is
lost. -/
theorem raiseSupplyWarn_upholds (h : InHand) (s : State) : Upholds h s (raiseSupplyWarn s) := by
  unfold raiseSupplyWarn
  refine Upholds.ite (fun _ => raisePart_upholds ..) fun hmask => ?_
  dsimp only
  have hset : PartEvent.supplyWarn.set &&& ~~~ s.store.settings.eventMask.part ≠ 0#8 := by
    intro h0
    have := congrArg (·.getLsbD 1) h0
    simp [PartEvent.set, PartEvent.bit] at this
    exact hmask this
  have hout : .part ∉ s.notices.queue.filter (· != .part) := by simp
  have hin : ∀ n, .slot n ∈ s.notices.queue.filter (· != .part) ↔ .slot n ∈ s.notices.queue := fun n => by simp
  have hlen : s.notices.queue.length ≤ Config.noticeQueueDepth →
      (s.notices.queue.filter (· != .part)).length ≤ Config.noticeQueueDepth := (List.length_filter_le ..).trans
  have hnodup : s.notices.queue.Nodup → (s.notices.queue.filter (· != .part)).Nodup := fun a => a.filter _
  generalize hq : s.notices.queue.filter (· != .part) = q at *
  have hpart : ∀ p, sourceEmpty { s with notices.part := s.notices.part ||| PartEvent.supplyWarn.set ||| p } .part = false := by
    intro p
    rw [Bool.eq_false_iff]
    simp only [sourceEmpty, unmaskedPart, ne_eq, beq_iff_eq]
    exact fun e => hset ((or_and_eq_zero ..).1 ((or_and_eq_zero ..).1 e).1).2
  split
  · next hl =>
    refine .of_notices (by rw [setNoticeState_unraised]; rfl) fun a => (noticesAgree_iff _).2 ?_
    rw [noticesAgree_iff] at a
    refine State.NoticesBut.head (s := { s with notices.part := s.notices.part ||| PartEvent.supplyWarn.set }) hl (hnodup a.nodup)
      hout (fun n => (hin n).trans (a.member _)) (fun n => a.empty (.slot n) (by simp)) (by simpa using hpart 0)
  · next hl =>
    split
    · next hd =>
      exact absurd (by rw [List.eq_nil_iff_forall_not_mem.2 fun o ho => hout (dropOldestSlot_eq_none hd o ho ▸ ho)]; decide) hl
    · next n left hd =>
      have hperm := dropOldestSlot_eq_some hd
      refine .of_notices (by rw [setNoticeState_unraised, setNoticeState_unraised]; rfl) fun a => (noticesAgree_iff _).2 ?_
      rw [noticesAgree_iff] at a
      have hnd := hperm.nodup_iff.1 (hnodup a.nodup)
      rw [List.nodup_cons] at hnd
      have hlength := hperm.length_eq
      have hbound := hlen a.length
      rw [List.length_cons] at hlength
      refine State.NoticesBut.head
        (s := setNoticeState (.slot n) .lost
          { s with notices.part := s.notices.part ||| PartEvent.supplyWarn.set ||| PartEvent.noticeLost.set })
        (by omega) hnd.2 (fun hp => hout (hperm.mem_iff.2 (.tail _ hp))) (fun m => ?_) (fun m => ?_) ?_
      · have hm := (hin m).symm.trans hperm.mem_iff
        rw [a.member, List.mem_cons] at hm
        rw [noticeStateOf_setNoticeState]
        split
        · next e => rw [e]; simp [hnd.1]
        · next e => rw [or_iff_right e] at hm; exact hm.symm
      · rw [noticeStateOf_setNoticeState, sourceEmpty_setNoticeState]
        split
        · next e =>
          have hm := (hin m).symm.trans hperm.mem_iff
          rw [a.member, List.mem_cons] at hm
          have hqd := hm.2 (.inl e)
          have := a.empty (.slot m) (by simp)
          rw [hqd] at this
          exact this.trans (by decide)
        · exact a.empty (.slot m) (by simp)
      · rw [sourceEmpty_setNoticeState]
        exact hpart _

/-! ### The event mask -/

/-- Every source but the part keeps its notice state and its set while the part's notice joins. -/
theorem joinPart_same {o : Source} (s : State) (ho : o ≠ .part) :
    noticeStateOf (joinPart s) o = noticeStateOf s o ∧ sourceEmpty (joinPart s) o = sourceEmpty s o := by
  cases o with
  | part => exact absurd rfl ho
  | slot n => unfold joinPart; split <;> exact ⟨rfl, rfl⟩

theorem raisePart_same {o : Source} (e : PartEvent) (s : State) (ho : o ≠ .part) :
    noticeStateOf (raisePart e s) o = noticeStateOf s o ∧ sourceEmpty (raisePart e s) o = sourceEmpty s o := by
  have hset : ∀ p, noticeStateOf { s with notices.part := p } o = noticeStateOf s o
      ∧ sourceEmpty { s with notices.part := p } o = sourceEmpty s o := fun p => by
    cases o with
    | part => exact absurd rfl ho
    | slot n => exact ⟨rfl, rfl⟩
  unfold raisePart
  dsimp only
  split
  · obtain ⟨h1, h2⟩ := joinPart_same { s with notices.part := s.notices.part ||| e.set } ho
    rw [h1, h2]
    exact hset _
  · exact hset _

theorem joinNotice_same {src o : Source} (s : State) (hs : o ≠ src) (ho : o ≠ .part) :
    noticeStateOf (joinNotice src s) o = noticeStateOf s o ∧ sourceEmpty (joinNotice src s) o = sourceEmpty s o := by
  cases src with
  | part => exact joinPart_same s ho
  | slot n =>
    unfold joinNotice joinSlot
    dsimp only
    split
    · simp [hs]
    · obtain ⟨h1, h2⟩ := raisePart_same .noticeLost (setNoticeState (.slot n) .lost s) ho
      rw [h1, h2]
      simp [hs]

theorem withdrawNotice_same {src o : Source} (s : State) (hs : o ≠ src) (ho : o = .part → s.notices.partState ≠ .lost) :
    noticeStateOf (withdrawNotice src s) o = noticeStateOf s o ∧ sourceEmpty (withdrawNotice src s) o = sourceEmpty s o := by
  have hset : ∀ t, t = setNoticeState src .quiet { s with notices.queue := s.notices.queue.filter (· != src) } →
      noticeStateOf t o = noticeStateOf s o ∧ sourceEmpty t o = sourceEmpty s o := by
    rintro t rfl; simp [hs]
  unfold withdrawNotice noticeLeft
  dsimp only
  split
  · split
    · next hl =>
      by_cases hp : o = .part
      · refine absurd hl ?_
        have := (hset _ rfl).1
        rw [hp] at this
        exact fun h => ho hp (this.symm.trans h)
      · obtain ⟨h1, h2⟩ := joinPart_same
          (setNoticeState src .quiet { s with notices.queue := s.notices.queue.filter (· != src) }) hp
        rw [h1, h2]
        exact hset _ rfl
    · exact hset _ rfl
  · exact hset _ rfl

/-- The sources whose sets a new mask makes non-empty: their notices have yet to ask to join. -/
def State.asksToJoin (s : State) (o : Source) : Prop := sourceEmpty s o = false ∧ noticeStateOf s o = .quiet

/-- The sets newly empty are withdrawn; the part stands first among the sources. -/
theorem State.NoticesBut.withdrawAll {l : List Source} (w : List Source) {s : State} (a : s.NoticesBut (w ++ l)) (hn : w.Nodup)
    (hp : .part ∉ w.tail) (hd : ∀ o ∈ w, o ∉ l) (he : ∀ o ∈ w, sourceEmpty s o = true) (hl : ∀ o ∈ l, s.asksToJoin o) :
    (w.foldl (fun s o => Machine.withdrawNotice o s) s).NoticesBut l
      ∧ ∀ o ∈ l, (w.foldl (fun s o => Machine.withdrawNotice o s) s).asksToJoin o := by
  induction w generalizing s with
  | nil => exact ⟨a, hl⟩
  | cons src w ih =>
    rw [List.nodup_cons] at hn
    have hlost : .part ∈ l → s.notices.partState ≠ .lost := fun hm h => by
      have : s.notices.partState = .quiet := (hl _ hm).2
      rw [h] at this
      cases this
    refine ih (a.withdrawNotice (he src (by simp)) fun _ h => ?_) hn.2 (fun h => hp (List.mem_of_mem_tail h))
      (fun o ho => hd o (by simp [ho])) (fun o ho => ?_) fun o ho => ?_
    · simpa using ⟨hp, fun hm => hlost hm h⟩
    · have hop : o ≠ .part := fun e => hp (e ▸ ho)
      rw [(withdrawNotice_same s (fun e => hn.1 (e ▸ ho) : o ≠ src) fun e => absurd e hop).2]
      exact he o (by simp [ho])
    · obtain ⟨h1, h2⟩ := withdrawNotice_same s (fun e => hd src (by simp) (e ▸ ho) : o ≠ src) fun e => hlost (e ▸ ho)
      unfold State.asksToJoin
      rw [h1, h2]
      exact hl o ho

/-- The sets newly non-empty ask for their notices, the part first. -/
theorem State.NoticesBut.joinAll (l : List Source) {s : State} (a : s.NoticesBut l) (hn : l.Nodup) (hp : .part ∉ l.tail)
    (hl : ∀ o ∈ l, s.asksToJoin o) : (l.foldl (fun s o => joinNotice o s) s).NoticesBut [] := by
  induction l generalizing s with
  | nil => exact a
  | cons src l ih =>
    rw [List.nodup_cons] at hn
    have hs := hl src (by simp)
    have hq : noticeStateOf s src ≠ .queued := by rw [hs.2]; decide
    refine ih ?_ hn.2 (fun h => hp (List.mem_of_mem_tail h)) fun o ho => ?_
    · cases src with
      | part => exact a.joinPart hq hs.1
      | slot n => exact a.joinSlot hp hq hs.1
    · obtain ⟨h1, h2⟩ := joinNotice_same s (fun e => hn.1 (e ▸ ho) : o ≠ src) fun e => hp (e ▸ ho)
      unfold State.asksToJoin
      rw [h1, h2]
      exact hl o (by simp [ho])

theorem foldl_withdrawNotice_unraised (w : List Source) (s : State) :
    (w.foldl (fun s o => withdrawNotice o s) s).unraised = s.unraised := by
  induction w generalizing s with
  | nil => rfl
  | cons o w ih => exact (ih _).trans (withdrawNotice_unraised ..)

theorem joinNotice_unraised (src : Source) (s : State) : (joinNotice src s).unraised = s.unraised := by
  cases src
  · exact joinPart_unraised s
  · exact joinSlot_unraised _ s

theorem foldl_joinNotice_unraised (l : List Source) (s : State) :
    (l.foldl (fun s o => joinNotice o s) s).unraised = s.unraised := by
  induction l generalizing s with
  | nil => rfl
  | cons o l ih => exact (ih _).trans (joinNotice_unraised ..)

/-- The part and the slots. -/
def allSources : List Source := .part :: allSlots.map .slot

theorem mem_allSources (o : Source) : o ∈ allSources := by
  cases o <;> simp [allSources, allSlots]

theorem allSources_nodup : allSources.Nodup := by
  simp only [allSources, List.nodup_cons]
  exact ⟨by simp, (List.nodup_finRange 48).map fun _ _ h => Source.slot.inj h⟩

theorem part_not_mem_tail {p : Source → Bool} : .part ∉ (allSources.filter p).tail := by
  have h : Source.part ∉ (allSlots.map .slot).filter p := by simp
  rw [allSources, List.filter_cons]
  split
  · exact h
  · exact fun hm => h (List.mem_of_mem_tail hm)

/-- `changeMask` over the sources themselves. -/
theorem changeMask_eq (mask : EventMask) (s : State) :
    changeMask mask s =
      let t := { s with store.settings := { s.store.settings with eventMask := mask } }
      (allSources.filter fun o => sourceEmpty s o && !sourceEmpty t o).foldl (fun s o => joinNotice o s)
        ((allSources.filter fun o => !sourceEmpty s o && sourceEmpty t o).foldl (fun s o => withdrawNotice o s) t) := by
  have hz : ∀ (f g : Source → Bool), allSources.zip ((allSources.map f).zip (allSources.map g))
      = allSources.map fun o => (o, f o, g o) := fun f g => by
    rw [List.zip_map']
    simpa using List.zip_map' (l := allSources) (f := id) (g := fun o => (f o, g o))
  unfold changeMask
  dsimp only
  rw [show (Source.part :: allSlots.map Source.slot) = allSources from rfl, hz]
  simp only [List.filter_map, List.foldl_map, Function.comp_def]

theorem changeMask_upholds (h : InHand) (mask : EventMask) (s : State) : Upholds h s (changeMask mask s) := by
  rw [changeMask_eq]
  dsimp only
  refine .of_notices ?_ fun a => (noticesAgree_iff _).2 ?_
  · rw [foldl_joinNotice_unraised, foldl_withdrawNotice_unraised]; rfl
  · rw [noticesAgree_iff] at a
    have hst : ∀ o, noticeStateOf { s with store.settings := { s.store.settings with eventMask := mask } } o
        = noticeStateOf s o := fun o => by cases o <;> rfl
    have hqueue : ∀ t, t = { s with store.settings := { s.store.settings with eventMask := mask } } →
        t.notices.queue = s.notices.queue := by rintro t rfl; rfl
    generalize { s with store.settings := { s.store.settings with eventMask := mask } } = t at *
    have hq := hqueue t rfl
    have hquiet : ∀ o, sourceEmpty s o = true ↔ noticeStateOf s o = .quiet := fun o => a.empty o (by simp)
    have hw := State.NoticesBut.withdrawAll (s := t) (l := allSources.filter fun o => sourceEmpty s o && !sourceEmpty t o)
      (allSources.filter fun o => !sourceEmpty s o && sourceEmpty t o)
      ⟨hq ▸ a.length, hq ▸ a.nodup, fun o => by rw [hq, hst]; exact a.member o, fun o ho => ?_⟩
      (allSources_nodup.filter _) part_not_mem_tail (fun o ho => ?_) (fun o ho => ?_) fun o ho => ⟨?_, ?_⟩
    · exact State.NoticesBut.joinAll _ hw.1 (allSources_nodup.filter _) part_not_mem_tail hw.2
    · rw [hst, ← hquiet]
      simp only [List.mem_append, List.mem_filter, mem_allSources, true_and] at ho
      cases h1 : sourceEmpty s o <;> cases h2 : sourceEmpty t o <;> simp_all
    · simp only [List.mem_filter, mem_allSources, true_and] at ho ⊢
      cases h1 : sourceEmpty s o <;> simp_all
    · simp only [List.mem_filter] at ho; simp_all
    · simp only [List.mem_filter] at ho; simp_all
    · simp only [List.mem_filter] at ho
      rw [hst, ← hquiet]; simp_all

end Sys2Proof.Machine
end

section
/-! SUPPORT. The admission pass, the transmit arbiter and the end of a step uphold the invariants. -/

namespace Sys2Proof.Machine

/-- A slot in POWER_WAIT with no admission entry takes its SLOT_POWER grant (R5). -/
theorem takeSlotPower_upholds {h : InHand} {n : SlotId} {r : Nat} {s : State}
    (hs : s.LivesBut h → (s.slot n).state = .powerWait) (hq : ∀ e ∈ s.power.queue, e.slot ≠ n) :
    Upholds h s (takeSlotPower n r s) := by
  unfold takeSlotPower setState inject
  rw [modSlot_modSlot, modSlot_modSlot]
  refine Upholds.trans (Upholds.trans ?_ (relamp_upholds h n _)) (serveInjections_upholds ..)
  refine .of_slot ⟨id, id, rfl, rfl⟩ (fun _ hb => Nat.add_le_add_right hb _) (fun a => ?_) fun a b => ?_
  · have hst := hs a
    have hlatch : (s.slot n).lines.latch = .locked := a.locked (by simp [hst]) (by simp [hst])
    refine ⟨⟨fun ho => ?_, nofun, by simp⟩, fun hn => ⟨nofun, fun hr => ?_⟩, .inr ⟨fun e he _ hn => absurd hn (hq e he),
      fun w hw hn => ?_⟩⟩
    · rw [show (s.slot n).lines.latch = .opened from ho] at hlatch
      cases hlatch
    · have := (a.phases n hn).2 hr
      simp [hst] at this
    · have := a.waiting w hw
      rw [hn, hst] at this
      cases this
  · exact ⟨rfl, fun hn => ⟨fun _ => (b.unbound n hn).1 (by simp [hs a]), nofun⟩⟩

theorem takeHeadGrant_upholds (h : InHand) (n : SlotId) (p : Option Nat) (s : State) : Upholds h s (takeHeadGrant n p s) := by
  unfold takeHeadGrant
  split
  · exact .refl ..
  · next k _ =>
    have h1 := releaseReserved_upholds h n s
    have hr : ((releaseReserved n s).slot n).traffic.reserved = none := by simp [releaseReserved]
    dsimp only
    cases p with
    | none =>
      exact (h1.trans (forwardHead_upholds true (by simp [hr]))).trans (serveSlot_upholds ..)
    | some p =>
      refine ((h1.trans (modSlot_upholds (f := fun x => { x with power.chosen := some p }))).trans
        (forwardHead_upholds true ?_)).trans (serveSlot_upholds ..)
      simp [hr]

theorem takeHeldGrant_upholds (h : InHand) (n : SlotId) (p : Option Nat) (s : State) : Upholds h s (takeHeldGrant n p s) :=
  ((modSlot_upholds (f := fun x => { x with power.held := p })).trans (inject_upholds ..)).trans (serveSlot_upholds ..)

/-- A grant that fits under the target (R79). -/
theorem grant_upholds {h : InHand} {e : AdmissionEntry} {a : Nat} (p : Option Nat) {s : State}
    (hk : s.LivesBut h → e.kind = .slotPower → (s.slot e.slot).state = .powerWait) (hr : roomFor s e.slot a = true) :
    Upholds h s (grant e a p s) := by
  refine .given hk fun f hf => ?_
  have hroom : allocationSum s + a ≤ s.store.target + (s.slot e.slot).power.allocation := by simpa [roomFor] using hr
  unfold grant
  dsimp only
  have h1 : Upholds { h with followed := f } s (setAllocation e.slot a
      { s with power.queue := s.power.queue.filter (·.slot != e.slot) }) :=
    (leaveQueue_upholds _ (·.slot != e.slot) s.power.passDue s).trans (setAllocation_upholds fun _ _ => hroom)
  have hq : ∀ e' ∈ (setAllocation e.slot a { s with power.queue := s.power.queue.filter (·.slot != e.slot) }).power.queue,
      e'.slot ≠ e.slot := by
    intro e' he'
    have : e' ∈ s.power.queue.filter (·.slot != e.slot) := he'
    simpa using (List.mem_filter.1 this).2
  have hst : ((setAllocation e.slot a { s with power.queue := s.power.queue.filter (·.slot != e.slot) }).slot e.slot).state
      = (s.slot e.slot).state := by rw [setAllocation_slot_same]; rfl
  generalize setAllocation e.slot a { s with power.queue := s.power.queue.filter (·.slot != e.slot) } = t at *
  split
  · next hkind => exact h1.trans (takeSlotPower_upholds (fun al => by rw [hst]; exact hf al.followed hkind) hq)
  · exact h1.trans (takeHeadGrant_upholds ..)
  · exact h1.trans (takeHeadGrant_upholds ..)
  · exact h1.trans (takeHeldGrant_upholds ..)

theorem bumpSkips_upholds (h : InHand) (missed : List SlotId) (s : State) : Upholds h s (bumpSkips missed s) :=
  mapQueue_upholds h (fun e => by split <;> exact ⟨rfl, rfl⟩) s

theorem resetSkips_upholds (h : InHand) (n : SlotId) (s : State) : Upholds h s (resetSkips n s) :=
  mapQueue_upholds h (fun e => by split <;> exact ⟨rfl, rfl⟩) s

/-- A profile chosen fits at this pass (R78). -/
theorem roomFor_of_chooseProfile {s : State} {n : SlotId} {p : Nat} (h : chooseProfile s n = some p) :
    roomFor s n (figureOf ((s.slot n).identity.peaks.getD p 0)) = true := by
  have key : ∀ (times peaks : List Nat) (l : List Nat) (best : Option Nat),
      (l.foldl (fun best p => match best with
        | none => some p
        | some q => if profileBefore times peaks p q then some p else some q) best) = some p → best = some p ∨ p ∈ l := by
    intro times peaks l
    induction l with
    | nil => intro best hb; exact .inl hb
    | cons q l ih =>
      intro best hb
      obtain hb | hb := ih _ hb
      · cases best with
        | none => obtain rfl : q = p := by simpa using hb
                  simp
        | some r =>
          dsimp only at hb
          split at hb
          · obtain rfl : q = p := by simpa using hb
            simp
          · exact .inl hb
      · simp [hb]
  obtain hp | hp := key _ _ _ _ h
  · cases hp
  · exact (List.mem_filter.1 hp).2

/-- What a pass offers fits under the target (R75). -/
theorem roomFor_of_offer {s : State} {e : AdmissionEntry} {a : Nat} {p : Option Nat} (h : offer s e = some (a, p)) :
    roomFor s e.slot a = true := by
  unfold offer at h
  split at h
  · cases hc : chooseProfile s e.slot with
    | none => simp [hc] at h
    | some q =>
      have hr := roomFor_of_chooseProfile hc
      simp only [hc, Option.map_some, Option.some.injEq, Prod.mk.injEq] at h
      exact h.1 ▸ hr
  all_goals
    split at h
    · cases h
    · split at h
      · next hr => cases h; exact hr
      · cases h

theorem mem_of_entryOf {s : State} {n : SlotId} {e : AdmissionEntry} (h : entryOf s n = some e) :
    e ∈ s.power.queue ∧ e.slot = n :=
  ⟨List.mem_of_find?_eq_some h, by simpa using List.find?_some h⟩

theorem passLoop_upholds (h : InHand) (l missed : List SlotId) (s : State) : Upholds h s (passLoop l missed s) := by
  induction l generalizing missed s with
  | nil => exact .refl ..
  | cons n l ih =>
    unfold passLoop
    split
    · exact ih ..
    · next e he =>
      refine Upholds.ite (fun _ => .refl ..) fun _ => Upholds.ite (fun _ => (resetSkips_upholds ..).trans (ih ..)) fun _ => ?_
      split
      · next a p ho =>
        have hg : Upholds h s (grant e a p (bumpSkips missed s)) :=
          .given (p := e.kind = .slotPower → (s.slot e.slot).state = .powerWait)
            (fun al => al.admission e (mem_of_entryOf he).1) fun f hf =>
            (bumpSkips_upholds ..).trans (grant_upholds p (fun al => hf al.followed) (roomFor_of_offer ho))
        exact hg.trans (ih ..)
      · exact ih ..

theorem runPass_upholds (h : InHand) (s : State) : Upholds h s (runPass s) :=
  Upholds.ite (fun _ => .refl ..) fun _ => passLoop_upholds ..

theorem runPasses_upholds (h : InHand) (fuel : Nat) (s : State) : Upholds h s (runPasses fuel s) := by
  induction fuel generalizing s with
  | zero => exact .refl ..
  | succ fuel ih =>
    exact Upholds.ite (fun _ => Upholds.trans (t := { s with power.passDue := false }) (.of_read rfl)
      ((runPass_upholds ..).trans (ih _))) fun _ => .refl ..

theorem settlePasses_upholds (h : InHand) (s : State) : Upholds h s (settlePasses s) := runPasses_upholds ..

theorem arbitrate_upholds (h : InHand) (s : State) : Upholds h s (arbitrate s) := by
  unfold arbitrate
  refine Upholds.ite (fun _ => .refl ..) fun _ => ?_
  split
  · exact .of_read rfl
  · refine Upholds.ite (fun _ => .refl ..) fun _ => ?_
    split
    · next hq => exact sendNotice_upholds hq
    · split
      · exact .of_read rfl
      · split
        · exact .of_read rfl
        · exact .refl ..

theorem finish_upholds (h : InHand) (s : State) : Upholds h s (finish s) :=
  (settlePasses_upholds ..).trans (arbitrate_upholds ..)

end Sys2Proof.Machine
end

section
/-! SUPPORT. The bindings of the slots and the Classifier uphold the invariants (chapters 3 and 7). -/

namespace Sys2Proof.Machine

/-! ### Bindings -/

/-- The number of slots of which a fact holds, where the fact changes for slot n alone. -/
theorem length_filter_congr_but {l : List SlotId} (hl : l.Nodup) {n : SlotId} (hn : n ∈ l) {p q : SlotId → Bool}
    (h : ∀ m ≠ n, q m = p m) :
    (l.filter q).length + (if p n then 1 else 0) = (l.filter p).length + (if q n then 1 else 0) := by
  obtain ⟨a, b, rfl⟩ := List.append_of_mem hn
  have hab : n ∉ a ∧ n ∉ b := by
    have := hl
    simp only [List.nodup_append, List.nodup_cons] at this
    exact ⟨fun hm => this.2.2 n hm n (by simp) rfl, this.2.1.1⟩
  have ha : a.filter q = a.filter p := List.filter_congr fun m hm => h m fun e => hab.1 (e ▸ hm)
  have hb : b.filter q = b.filter p := List.filter_congr fun m hm => h m fun e => hab.2 (e ▸ hm)
  simp only [List.filter_append, List.filter_cons, ha, hb, List.length_append]
  cases p n <;> cases q n <;> simp <;> omega

theorem allSlots_nodup : allSlots.Nodup := List.nodup_finRange 48

theorem mem_allSlots (n : SlotId) : n ∈ allSlots := List.mem_finRange n

/-- A model entry takes another reference count: it fits its bytes as before. -/
theorem modelCheck_refCount (r k : Nat) (m : ModelEntry) : modelCheck r { m with refCount := k } = modelCheck r m := rfl

/-- A change under which the slots' lives and the bindings are followed apart from the rest. -/
theorem Upholds.of_unfollowed {h : InHand} {s t : State} (a : Upholds { h with followed := false } s t)
    (hl : s.LivesBut h → t.LivesBut h) (hb : s.LivesBut h → s.BindingsBut h → t.BindingsBut h) : Upholds h s t :=
  { a with lives := hl, bindings := hb }

theorem not_livesBut_unfollowed {h : InHand} {s : State} : ¬s.LivesBut { h with followed := false } := fun a => by
  cases a.followed

theorem countReference_models (i : Fin 16) (f : Nat → Nat) (s : State) (j : Fin 16) :
    (countReference i f s).tables.models[j]
      = if j = i then { s.tables.models[i] with refCount := f s.tables.models[i].refCount } else s.tables.models[j] := by
  simp only [countReference, Fin.getElem_fin, Vector.getElem_set, Fin.ext_iff, eq_comm]

theorem countReference_storable {i : Fin 16} {f : Nat → Nat} {s : State} (a : s.storable) : (countReference i f s).storable := by
  refine ⟨a.1, a.2.1, fun j => ?_, a.2.2.2⟩
  rw [countReference_models]
  split
  · exact a.2.2.1 i
  · exact a.2.2.1 j

theorem countReference_upholds_unfollowed (h : InHand) (i : Fin 16) (f : Nat → Nat) (s : State) :
    Upholds { h with followed := false } s (countReference i f s) where
  pending := rfl
  queues := id
  notices := id
  admission := id
  commands _ := id
  sort := id
  store := countReference_storable
  budget _ := id
  lives a := absurd a not_livesBut_unfollowed
  bindings a := absurd a not_livesBut_unfollowed

/-- The binding of slot n and the reference counts change together. -/
theorem Upholds.of_binding {h : InHand} {n : SlotId} {b : Option (Fin 16)} {i : Fin 16} {f : Nat → Nat} {s : State}
    (hc : s.LivesBut h → s.BindingsBut h → ∀ j : Fin 16,
      (if j = i then f s.tables.models[i].refCount else s.tables.models[j].refCount)
          + (if (s.slot n).identity.model = some j then 1 else 0)
        = s.tables.models[j].refCount + (if b = some j then 1 else 0))
    (hu : s.LivesBut h → s.BindingsBut h → h.binding ≠ some n → Slot.unboundAgrees { s.slot n with identity.model := b }) :
    Upholds h s (modSlot n (fun x => { x with identity.model := b }) (countReference i f s)) := by
  have hsl : ∀ m, (modSlot n (fun x => { x with identity.model := b }) (countReference i f s)).slot m
      = if m = n then { s.slot n with identity.model := b } else s.slot m := fun m => slot_setSlot ..
  have hmodels : ∀ j : Fin 16, (modSlot n (fun x => { x with identity.model := b }) (countReference i f s)).tables.models[j].refCount
      = if j = i then f s.tables.models[i].refCount else s.tables.models[j].refCount := fun j => by
    rw [modSlot_tables, countReference_models]; split <;> rfl
  have hrest : Upholds { h with followed := false } s
      (modSlot n (fun x => { x with identity.model := b }) (countReference i f s)) :=
    (countReference_upholds_unfollowed ..).trans (.of_slot ⟨id, id, rfl, rfl⟩ (fun _ hb => Nat.add_le_add_right hb _)
      (fun a => absurd a not_livesBut_unfollowed) fun a => absurd a not_livesBut_unfollowed)
  have hqueue : (modSlot n (fun x => { x with identity.model := b }) (countReference i f s)).power = s.power := rfl
  have hsort : (modSlot n (fun x => { x with identity.model := b }) (countReference i f s)).sort = s.sort := rfl
  generalize modSlot n (fun x => { x with identity.model := b }) (countReference i f s) = t at *
  refine .of_unfollowed hrest (fun a => ?_) fun a hb => ⟨fun j => ?_, fun m hm => ?_⟩
  · have hsame : ∀ m, (t.slot m).lines = (s.slot m).lines ∧ (t.slot m).state = (s.slot m).state
        ∧ (t.slot m).recovery = (s.slot m).recovery ∧ (t.slot m).grading = (s.slot m).grading := by
      intro m
      rw [hsl]
      split
      · next e => subst e; exact ⟨rfl, rfl, rfl, rfl⟩
      · exact ⟨rfl, rfl, rfl, rfl⟩
    simp only [forall_and] at hsame
    obtain ⟨hlines, hstate, hrec, hgr⟩ := hsame
    exact ⟨a.followed, by simpa only [Slot.linesAgree, hlines, hstate] using a.lines,
      by simpa only [Slot.phaseAgrees, hstate, hrec, hgr] using a.phases, by simpa only [hstate, hqueue] using a.admission,
      by simpa only [hstate, hsort] using a.waiting⟩
  · have hcount := length_filter_congr_but allSlots_nodup (mem_allSlots n)
      (p := fun m => (s.slot m).identity.model = some j) (q := fun m => (t.slot m).identity.model = some j)
      fun m hm => by rw [hsl, if_neg hm]
    rw [hsl, if_pos rfl] at hcount
    have hj := hc a hb j
    have hold := hb.counts j
    rw [hmodels]
    simp only [decide_eq_true_eq] at hcount
    omega
  · rw [hsl]
    split
    · next e => subst e; exact hu a hb hm
    · exact hb.unbound m hm

theorem unbindSlot_upholds (h : InHand) (n : SlotId) (s : State) : Upholds h s (unbindSlot n s) := by
  unfold unbindSlot
  split
  · exact .refl ..
  · next i hi =>
    refine .of_binding (fun _ hb j => ?_) fun _ hb hm => ⟨fun _ => rfl, fun _ _ => rfl⟩
    have hpos : 0 < s.tables.models[i].refCount := by
      rw [hb.counts i]
      exact List.length_pos_of_mem (List.mem_filter.2 ⟨mem_allSlots n, by simpa using hi⟩)
    rw [hi]
    by_cases hj : j = i
    · subst hj; simpa using Nat.sub_add_cancel hpos
    · simp [hj, Ne.symm hj]

/-- A slot bound to no entry is bound (R51); its state, where not in hand, is one that may be bound. -/
theorem bindSlot_upholds {h : InHand} {n : SlotId} (i : Fin 16) {s : State}
    (hm : s.LivesBut h → s.BindingsBut h → (s.slot n).identity.model = none)
    (hu : s.LivesBut h → s.BindingsBut h → h.binding ≠ some n → Slot.unboundAgrees { s.slot n with identity.model := some i }) :
    Upholds h s (bindSlot n i s) := by
  refine .of_binding (fun a hb j => ?_) hu
  rw [hm a hb]
  by_cases hj : j = i
  · simp [hj]
  · simp [hj, Ne.symm hj]

theorem computeIdentity_upholds (h : InHand) (n : SlotId) (s : State) : Upholds h s (computeIdentity n s) := by
  refine .of_still ?_
  split
  · exact .refl _
  · dsimp only
    split <;> exact .of_eq rfl rfl rfl rfl le_rfl

/-! ### The Classifier -/

theorem countMatch_storable {e : Option (Fin 64)} {s : State} (a : s.storable) : (countMatch e s).storable := by
  cases e with
  | none => exact a
  | some i =>
    obtain ⟨h1, h2, h3, h4, h5⟩ := a
    refine ⟨h1, h2, h3, fun j => ?_, h5⟩
    have hj := h4 i
    simp only [countMatch, Fin.getElem_fin, Vector.getElem_set]
    split
    · exact hj
    · exact h4 j

theorem countMatch_upholds (h : InHand) (e : Option (Fin 64)) (s : State) : Upholds h s (countMatch e s) := by
  have hs : (countMatch e s).storable ∨ ¬s.storable := by by_cases a : s.storable; exacts [.inl (countMatch_storable a), .inr a]
  have ht : countMatch e s = { s with tables.classify := (countMatch e s).tables.classify } := by cases e <;> rfl
  rw [ht] at hs ⊢
  exact
    { pending := rfl, queues := id, notices := id, admission := id, commands := fun _ => id, sort := id
      store := fun a => hs.resolve_right (not_not.2 a)
      budget := fun _ => id, lives := fun a => ⟨a.1, a.2, a.3, a.4, a.5⟩, bindings := fun _ a => ⟨a.1, a.2⟩ }

theorem tally_upholds (h : InHand) (n : SlotId) (c : Fin 16) (s : State) : Upholds h s (tally n c s) := by
  unfold tally; exact modSlot_upholds

theorem noteDefect_upholds (h : InHand) (n : SlotId) (always : Bool) (c : Fin 16) (s : State) :
    Upholds h s (noteDefect n always c s) :=
  Upholds.ite (fun _ => raiseSlot_upholds ..) fun _ => .refl ..

theorem partCount_upholds (h : InHand) (n : SlotId) (c : Fin 16) (s : State) : Upholds h s (partCount n c s) :=
  (tally_upholds ..).trans (noteDefect_upholds ..)

theorem applyAction_upholds (h : InHand) (n : SlotId) (c : Classification) (s : State) : Upholds h s (applyAction n c s) := by
  unfold applyAction
  split
  · exact .refl ..
  · exact .refl ..
  · exact (tally_upholds ..).trans (noteDefect_upholds ..)
  · exact (tally_upholds ..).trans (noteDefect_upholds ..)
  · exact ((tally_upholds ..).trans (noteDefect_upholds ..)).trans (sendQuarantine_upholds ..)

theorem classify_upholds (h : InHand) (n : SlotId) (status : StatusClass) (code : BitVec 16) (cls : Option CmdClass) (s : State) :
    Upholds h s (classify n status code cls s).1 :=
  (countMatch_upholds ..).trans (applyAction_upholds ..)

end Sys2Proof.Machine
end

section
/-! SUPPORT. The Sort Unit upholds the invariants (chapter 8). -/

namespace Sys2Proof.Machine

/-! ### Bins -/

theorem binIndex_inj {a b : Fin 4} {p q : Fin 8} : (binIndex a p).val = (binIndex b q).val ↔ b = a ∧ q = p := by
  simp only [binIndex, Fin.ext_iff]
  omega

theorem bin_setBin (a b : Fin 4) (p q : Fin 8) (x : Bin) (s : State) :
    (setBin a p x s).bin b q = if b = a ∧ q = p then x else s.bin b q := by
  simp only [State.bin, setBin, Vector.getElem_set, binIndex_inj]

theorem bin_setFill (a b : Fin 4) (p q : Fin 8) (f : Nat → Nat) (s : State) :
    (setFill a p f s).bin b q = if b = a ∧ q = p then { s.bin b q with fill := f (s.bin b q).fill } else s.bin b q := by
  rw [setFill, bin_setBin]
  split
  · next h => rw [h.1, h.2]
  · rfl

/-! ### Changes of the Sort Unit -/

/-- A change of the manifest, the bins and the sort-wait list. -/
theorem Upholds.of_sort {h : InHand} {s : State} {u : SortUnit} (hs : s.sortAgrees → State.sortAgrees { s with sort := u })
    (hb : ∀ set p, (p = 7 → (s.bin set p).kind = .reject → (State.bin { s with sort := u } set p).kind = .reject)
      ∧ ((s.bin set p).inRange → (State.bin { s with sort := u } set p).inRange))
    (hw : s.LivesBut h → ∀ w ∈ u.waiting, (s.slot w.slot).state = .sortWait) : Upholds h s { s with sort := u } where
  pending := rfl
  queues := id
  notices := id
  admission := id
  commands _ := id
  sort := hs
  store a := ⟨a.1, a.2.1, a.2.2.1, a.2.2.2.1, a.2.2.2.2.1, fun set p => (hb set p).2 (a.2.2.2.2.2.1 set p),
    fun set => (hb set 7).1 rfl (a.2.2.2.2.2.2 set)⟩
  budget _ := id
  lives a := { a with waiting := hw a }
  bindings _ a := { a with }

/-- A change of the sort-wait list alone. -/
theorem Upholds.of_waiting {h : InHand} {s : State} {l : List WaitEntry}
    (hw : s.LivesBut h → ∀ w ∈ l, (s.slot w.slot).state = .sortWait) :
    Upholds h s { s with sort := { s.sort with waiting := l } } :=
  .of_sort id (fun _ _ => ⟨fun _ => id, id⟩) hw

/-! ### The append -/

/-- The Sort Unit after an append, before the slot follows (R142..R145). -/
def appended (n : SlotId) (g : GradeInputs) (set : Fin 4) (p : Fin 8) (old : Option ManifestEntry) (s : State) : State :=
  let t :=
    match old with
    | none => s
    | some o => removeOld o s
  let e := newEntry t n g set p old.isSome
  let u := setFill set p (· + 1) t
  { u with sort := { u.sort with manifest := u.sort.manifest ++ [e], next := u.sort.next + 1
                                 waiting := u.sort.waiting.filter (·.slot != n) } }

theorem appendEntry_eq (n : SlotId) (g : GradeInputs) (set : Fin 4) (p : Fin 8) (old : Option ManifestEntry) (s : State) :
    ∃ q, appendEntry n g set p old s = enterParking n (raiseSlot n .graded (setGrade n g set p q (appended n g set p old s))) :=
  ⟨_, rfl⟩

/-- What the removal of an old entry leaves. -/
theorem removeOld_eq (o : ManifestEntry) (s : State) :
    ∃ bins, removeOld o s
      = { s with sort := { s.sort with bins := bins, manifest := s.sort.manifest.filter (·.sequence != o.sequence) } } := by
  unfold removeOld
  dsimp only
  split
  · exact ⟨_, rfl⟩
  · exact ⟨s.sort.bins, rfl⟩

theorem bin_removeOld (o : ManifestEntry) (s : State) (b : Fin 4) (q : Fin 8) :
    (removeOld o s).bin b q =
      if o.binSet = b ∧ o.position = q ∧ givesBack s o = true then { s.bin b q with fill := (s.bin b q).fill - 1 }
      else s.bin b q := by
  unfold removeOld
  dsimp only
  have hs : ∀ b q, State.bin { s with sort.manifest := s.sort.manifest.filter (·.sequence != o.sequence) } b q = s.bin b q :=
    fun _ _ => rfl
  cases hg : givesBack s o
  · simp [hs]
  · rw [if_pos rfl, bin_setFill, hs]
    simp only [and_true, eq_comm]

/-- The manifest without the old entry of a regrade: nothing in it has its serial, and it is shorter. -/
theorem serial_not_mem_without {l : List ManifestEntry} (hl : (l.filterMap (·.serial)).Nodup) {o : ManifestEntry} (ho : o ∈ l)
    {t : Bytes} (ht : o.serial = some t) :
    t ∉ (l.filter (·.sequence != o.sequence)).filterMap (·.serial) ∧ (l.filter (·.sequence != o.sequence)).length < l.length := by
  obtain ⟨a, b, rfl⟩ := List.append_of_mem ho
  simp only [List.filterMap_append, List.filterMap_cons, ht, List.nodup_append, List.nodup_cons] at hl
  have hsub : ((a ++ o :: b).filter (·.sequence != o.sequence)).Sublist (a ++ b) := by
    rw [List.filter_append, List.filter_cons_of_neg (by simp)]
    exact List.filter_sublist.append List.filter_sublist
  refine ⟨fun hm => ?_, by have := hsub.length_le; simp only [List.length_append, List.length_cons] at this ⊢; omega⟩
  have hm' := (hsub.filterMap (·.serial)).subset hm
  rw [List.filterMap_append, List.mem_append] at hm'
  obtain hm' | hm' := hm'
  · exact hl.2.2 t hm' t (by simp) rfl
  · exact hl.2.1.1 hm'

/-- The room tests pass: the place in the bin, given back by the regrade or free, and the place in the manifest. -/
theorem room_of_made {s : State} {n : SlotId} {set : Fin 4} {p : Fin 8} {r : Bool} (h : sortOutcome s n set p = .made r) :
    binRoom s set p (entryWithSerial s (serialOf (s.slot n))) = true
      ∧ manifestRoom s (entryWithSerial s (serialOf (s.slot n))) = true := by
  unfold sortOutcome at h
  dsimp only at h
  split at h
  · cases h
  · split at h
    · cases h
    · simp_all

theorem entryWithSerial_some {s : State} {t : Option Bytes} {o : ManifestEntry} (h : entryWithSerial s t = some o) :
    o ∈ s.sort.manifest ∧ o.serial = t ∧ t ≠ none := by
  cases t with
  | none => cases h
  | some t => exact ⟨List.mem_of_find?_eq_some h, by simpa using List.find?_some h, nofun⟩

theorem entryWithSerial_none {s : State} {t : Bytes} (h : entryWithSerial s (some t) = none) :
    t ∉ s.sort.manifest.filterMap (·.serial) := by
  simpa [entryWithSerial] using h

/-- The bins after an append. -/
theorem bin_appended (n : SlotId) (g : GradeInputs) (set : Fin 4) (p : Fin 8) (old : Option ManifestEntry) (s : State)
    (b : Fin 4) (q : Fin 8) :
    ∃ k, (appended n g set p old s).bin b q = { s.bin b q with fill := k }
      ∧ (k ≤ (s.bin b q).fill ∨ (b = set ∧ q = p ∧ (binRoom s set p old = true → k ≤ (s.bin b q).capacity))) := by
  have hb : ∀ (t : State) e, State.bin { setFill set p (· + 1) t with
        sort := { (setFill set p (· + 1) t).sort with
          manifest := (setFill set p (· + 1) t).sort.manifest ++ [e], next := (setFill set p (· + 1) t).sort.next + 1
          waiting := (setFill set p (· + 1) t).sort.waiting.filter (·.slot != n) } } b q
      = if b = set ∧ q = p then { t.bin b q with fill := (t.bin b q).fill + 1 } else t.bin b q := fun t e => bin_setFill ..
  cases old with
  | none =>
    refine ⟨_, (hb s _).trans (?_ : _ = { s.bin b q with fill := if b = set ∧ q = p then (s.bin b q).fill + 1 else (s.bin b q).fill }), ?_⟩
    · split <;> rfl
    · by_cases h : b = set ∧ q = p
      · rw [if_pos h]
        obtain ⟨rfl, rfl⟩ := h
        exact .inr ⟨rfl, rfl, fun hr => by simpa [binRoom] using hr⟩
      · rw [if_neg h]; exact .inl le_rfl
  | some o =>
    have ho := bin_removeOld o s b q
    refine ⟨_, (hb (removeOld o s) _).trans (?_ : _ = { s.bin b q with
      fill := ((removeOld o s).bin b q).fill + if b = set ∧ q = p then 1 else 0 }), ?_⟩
    · rw [ho]
      split <;> split <;> rfl
    · rw [ho]
      by_cases h : b = set ∧ q = p
      · rw [if_pos h]
        obtain ⟨rfl, rfl⟩ := h
        refine .inr ⟨rfl, rfl, fun hr => ?_⟩
        simp only [binRoom, decide_eq_true_eq] at hr
        split at hr <;> split <;> simp_all
      · rw [if_neg h]
        refine .inl ?_
        split
        · exact Nat.sub_le _ 1
        · exact le_rfl

theorem appended_sort (n : SlotId) (g : GradeInputs) (set : Fin 4) (p : Fin 8) (old : Option ManifestEntry) (s : State) :
    ∃ bins e, appended n g set p old s =
        { s with sort :=
            { bins := bins
              manifest := (match old with
                | none => s.sort.manifest
                | some o => s.sort.manifest.filter (·.sequence != o.sequence)) ++ [e]
              next := s.sort.next + 1
              waiting := s.sort.waiting.filter (·.slot != n) } }
      ∧ e.sequence = s.sort.next ∧ e.serial = serialOf (s.slot n) := by
  cases old with
  | none => exact ⟨_, _, rfl, rfl, rfl⟩
  | some o =>
    obtain ⟨bins, h⟩ := removeOld_eq o s
    unfold appended
    dsimp only
    rw [h]
    exact ⟨_, _, rfl, rfl, rfl⟩

/-- An append that passed the room tests keeps the relations of the Sort Unit. -/
theorem appended_sortAgrees {n : SlotId} (g : GradeInputs) {set : Fin 4} {p : Fin 8} {s : State} {r : Bool}
    (hr : sortOutcome s n set p = .made r) (a : s.sortAgrees) :
    (appended n g set p (entryWithSerial s (serialOf (s.slot n))) s).sortAgrees := by
  obtain ⟨hbin, hman⟩ := room_of_made hr
  obtain ⟨hlen, hpair, hnext, hser, hfill, hrej⟩ := a
  obtain ⟨bins, e, he, hseq, hes⟩ := appended_sort n g set p (entryWithSerial s (serialOf (s.slot n))) s
  have hbins := bin_appended n g set p (entryWithSerial s (serialOf (s.slot n))) s
  obtain ⟨l, hl, hsub, hroom, hnew⟩ : ∃ l, l = (match entryWithSerial s (serialOf (s.slot n)) with
      | none => s.sort.manifest
      | some o => s.sort.manifest.filter (·.sequence != o.sequence)) ∧ l.Sublist s.sort.manifest
      ∧ l.length < Config.manifestDepth ∧ ∀ t, serialOf (s.slot n) = some t → t ∉ l.filterMap (·.serial) := by
    refine ⟨_, rfl, ?_⟩
    split
    · next h0 =>
      have hman' : s.sort.manifest.length < Config.manifestDepth ∧ s.sort.next ≤ Config.lastSequence := by
        simpa [manifestRoom, h0] using hman
      refine ⟨.refl _, hman'.1, fun t ht => ?_⟩
      rw [ht] at h0
      exact entryWithSerial_none h0
    · next o h0 =>
      obtain ⟨hmem, hos, hnone⟩ := entryWithSerial_some h0
      obtain ⟨t, ht⟩ := Option.ne_none_iff_exists'.1 hnone
      obtain ⟨h1, h2⟩ := serial_not_mem_without hser hmem (hos.trans ht)
      refine ⟨List.filter_sublist, by omega, fun t' ht' => ?_⟩
      obtain rfl : t = t' := Option.some.inj (ht.symm.trans ht')
      exact h1
  rw [← hl] at he
  have hm : (appended n g set p (entryWithSerial s (serialOf (s.slot n))) s).sort.manifest = l ++ [e] := by rw [he]
  have hn : (appended n g set p (entryWithSerial s (serialOf (s.slot n))) s).sort.next = s.sort.next + 1 := by rw [he]
  generalize appended n g set p (entryWithSerial s (serialOf (s.slot n))) s = t at *
  refine ⟨by rw [hm]; simpa using hroom, ?_, fun e' he' => ?_, ?_, fun b q => ?_, fun b => ?_⟩
  · rw [hm, List.map_append, List.pairwise_append]
    refine ⟨hpair.sublist (hsub.map _), by simp, fun x hx y hy => ?_⟩
    obtain ⟨e', he', rfl⟩ := List.mem_map.1 hx
    obtain rfl : y = e.sequence := by simpa using hy
    rw [hseq]
    exact hnext e' (hsub.subset he')
  · rw [hm, List.mem_append] at he'
    rw [hn]
    obtain he' | he' := he'
    · exact Nat.lt_succ_of_lt (hnext e' (hsub.subset he'))
    · obtain rfl : e' = e := by simpa using he'
      omega
  · rw [hm, List.filterMap_append]
    have hl' := hser.sublist (hsub.filterMap (·.serial))
    cases ht : serialOf (s.slot n) with
    | none => simpa [hes, ht] using hl'
    | some b => simpa [hes, ht, List.nodup_append] using
        ⟨hl', fun x y hy hys hb => hnew b ht (List.mem_filterMap.2 ⟨y, hy, hb ▸ hys⟩)⟩
  · obtain ⟨k, hk, h⟩ := hbins b q
    rw [hk]
    obtain h | ⟨-, -, h⟩ := h
    · exact h.trans (hfill b q)
    · exact h hbin
  · obtain ⟨k, hk, -⟩ := hbins b 7
    rw [hk]
    exact hrej b

theorem setGrade_keeps (n : SlotId) (g : GradeInputs) (set : Fin 4) (p : Fin 8) (q : Option Nat) (s : State) :
    KeepsBut [.slot n] s (setGrade n g set p q s) := modSlot_keeps ..

theorem setGrade_slot (n : SlotId) (g : GradeInputs) (set : Fin 4) (p : Fin 8) (q : Option Nat) (s : State) :
    (setGrade n g set p q s).slot n = { s.slot n with grading.grade := some ⟨g.score, set, p, g.forced, q⟩ } :=
  slot_modSlot_same ..

theorem setGrade_upholds (h : InHand) (n : SlotId) (g : GradeInputs) (set : Fin 4) (p : Fin 8) (q : Option Nat) (s : State) :
    Upholds h s (setGrade n g set p q s) := by
  unfold setGrade; exact modSlot_upholds

/-- The states that the Sort Unit gives a slot: the one it had, or PARKING. -/
def sortedOn (x y : Slot) : Prop := y.state = x.state ∨ y.state = .parking

theorem sortedOn.trans {x y z : Slot} (a : sortedOn x y) (b : sortedOn y z) : sortedOn x z := by
  obtain b | b := b
  · rw [sortedOn, b]; exact a
  · exact .inr b

theorem spinDownEnd_state (n : SlotId) (s : State) : ((spinDownEnd n s).slot n).state = (s.slot n).state := by
  have h : (powerOff n (modSlot n (fun x => { x with lines.park := none }) s) |>.slot n).state = _ :=
    (powerOff_slot n (modSlot n (fun x => { x with lines.park := none }) s)).same .state (by simp)
  simpa [spinDownEnd, startRundown] using h

theorem enterParking_state (n : SlotId) (s : State) : ((enterParking n s).slot n).state = .parking := by
  have hi : ∀ t : State, ((serveInjections n (injectParking n t)).slot n).state = (t.slot n).state := fun t => by
    have h1 : ((serveInjections n (injectParking n t)).slot n).state = ((injectParking n t).slot n).state :=
      (serveInjections_slot n _).same .state (by simp)
    rw [h1]
    unfold injectParking
    split
    · rfl
    · exact (inject_slot ..).same .state (by simp)
  unfold enterParking
  dsimp only
  split
  · rw [(startRundown_slot n _).same .state (by simp)]; simp
  · split
    · rw [spinDownEnd_state]; simp
    · rw [hi]; simp
    · rw [hi]; simp
    · split
      · simp
      · rw [hi]; simp

theorem appendEntry_sortedOn (n : SlotId) (g : GradeInputs) (set : Fin 4) (p : Fin 8) (old : Option ManifestEntry) (s : State)
    (m : SlotId) : sortedOn (s.slot m) ((appendEntry n g set p old s).slot m) := by
  obtain ⟨q, hq⟩ := appendEntry_eq n g set p old s
  obtain ⟨bins, e, he, -⟩ := appended_sort n g set p old s
  rw [hq]
  by_cases hm : m = n
  · subst hm; exact .inr (enterParking_state ..)
  · refine .inl ?_
    rw [(enterParking_keeps n _).slot_eq (by simpa using hm), (raiseSlot_keeps n _ _).slot_eq (by simpa using hm),
      (setGrade_keeps n ..).slot_eq (by simpa using hm), he]
    rfl

/-- A slot in GRADING or SORT_WAIT whose room tests have passed is appended. -/
theorem appendEntry_upholds {h : InHand} {n : SlotId} (g : GradeInputs) {set : Fin 4} {p : Fin 8} {s : State} {r : Bool}
    (hr : sortOutcome s n set p = .made r)
    (hl : s.LivesBut h → (s.slot n).state = .grading ∨ (s.slot n).state = .sortWait) :
    Upholds h s (appendEntry n g set p (entryWithSerial s (serialOf (s.slot n))) s) := by
  refine .given hl fun f hf => ?_
  obtain ⟨q, hq⟩ := appendEntry_eq n g set p (entryWithSerial s (serialOf (s.slot n))) s
  obtain ⟨bins, e, he, -⟩ := appended_sort n g set p (entryWithSerial s (serialOf (s.slot n))) s
  have hs := appended_sortAgrees g hr
  have hb := bin_appended n g set p (entryWithSerial s (serialOf (s.slot n))) s
  have hr' := (room_of_made hr).1
  rw [hq]
  generalize appended n g set p (entryWithSerial s (serialOf (s.slot n))) s = t at *
  have h1 : Upholds { h with followed := f } s t := by
    rw [he] at hs hb ⊢
    refine .of_sort hs (fun b q => ?_) fun a w hw => a.waiting w (List.mem_of_mem_filter hw)
    obtain ⟨k, hk, -⟩ := hb b q
    rw [hk]
    exact ⟨fun _ => id, id⟩
  have hst : ((raiseSlot n .graded (setGrade n g set p q t)).slot n).state = (s.slot n).state := by
    rw [(raiseSlot_slot_keeps ..).same .state (by simp), setGrade_slot, he]
    rfl
  have hw : (raiseSlot n .graded (setGrade n g set p q t)).sort.waiting = t.sort.waiting :=
    ((raiseSlot_keeps n .graded (setGrade n g set p q t)).same .waiting (by simp) : _)
  refine ((h1.trans ?_).trans (raiseSlot_upholds _ n .graded _)).trans (enterParking_upholds (fun a => ?_) fun w hw' => ?_)
  · exact setGrade_upholds ..
  · rw [hst]; exact hf a.followed
  · rw [hw, he] at hw'
    simpa using (List.mem_filter.1 hw').2

/-! ### The retry passes -/

theorem keepWaiting_upholds {h : InHand} {n : SlotId} {w : WaitEntry} (p : Fin 8) (r : WaitReason) {s : State}
    (hn : s.LivesBut h → w.slot = n ∧ (s.slot n).state = .sortWait) : Upholds h s (keepWaiting n w p r s) := by
  unfold keepWaiting
  refine Upholds.trans (t := { s with sort.waiting := s.sort.waiting.map fun v => if v.slot = n then { w with reason := r } else v })
    (.of_waiting fun a v hv => ?_) (setGrade_upholds ..)
  obtain ⟨v', hv', rfl⟩ := List.mem_map.1 hv
  split
  · obtain ⟨h1, h2⟩ := hn a
    exact h1 ▸ h2
  · exact a.waiting v' hv'

theorem serveWaiting_upholds {h : InHand} {n : SlotId} {w : WaitEntry} {s : State}
    (hn : s.LivesBut h → w.slot = n ∧ (s.slot n).state = .sortWait) : Upholds h s (serveWaiting n w s).2 := by
  unfold serveWaiting
  dsimp only
  split
  · next hr => exact appendEntry_upholds _ hr fun a => .inr (hn a).2
  · exact keepWaiting_upholds _ _ hn

theorem serveWaiting_sortedOn (n : SlotId) (w : WaitEntry) (s : State) (m : SlotId) :
    sortedOn (s.slot m) ((serveWaiting n w s).2.slot m) := by
  unfold serveWaiting
  dsimp only
  split
  · exact appendEntry_sortedOn ..
  · refine .inl ?_
    unfold keepWaiting setGrade
    simp only [modSlot, slot_setSlot]
    split
    · next e => rw [e]; rfl
    · rfl

theorem mem_of_waiting {s : State} {n : SlotId} {w : WaitEntry} (h : s.sort.waiting.find? (·.slot == n) = some w) :
    w ∈ s.sort.waiting ∧ w.slot = n :=
  ⟨List.mem_of_find?_eq_some h, by simpa using List.find?_some h⟩

theorem retryWalk_upholds (h : InHand) (l : List SlotId) (again : Bool) (s : State) : Upholds h s (retryWalk l again s).2 := by
  induction l generalizing again s with
  | nil => exact .refl ..
  | cons n l ih =>
    unfold retryWalk
    split
    · exact ih ..
    · next w hw =>
      obtain ⟨hm, hn⟩ := mem_of_waiting hw
      exact (serveWaiting_upholds fun a => ⟨hn, hn ▸ a.waiting w hm⟩).trans (ih ..)

theorem retryWalk_sortedOn (l : List SlotId) (again : Bool) (s : State) (m : SlotId) :
    sortedOn (s.slot m) ((retryWalk l again s).2.slot m) := by
  induction l generalizing again s with
  | nil => exact .inl rfl
  | cons n l ih =>
    unfold retryWalk
    split
    · exact ih ..
    · exact (serveWaiting_sortedOn ..).trans (ih ..)

theorem retryPasses_upholds (h : InHand) (fuel : Nat) (s : State) : Upholds h s (retryPasses fuel s) := by
  induction fuel generalizing s with
  | zero => exact .refl ..
  | succ fuel ih =>
    unfold retryPasses
    dsimp only
    split
    · exact (retryWalk_upholds ..).trans (ih _)
    · exact retryWalk_upholds ..

theorem retryPasses_sortedOn (fuel : Nat) (s : State) (m : SlotId) : sortedOn (s.slot m) ((retryPasses fuel s).slot m) := by
  induction fuel generalizing s with
  | zero => exact .inl rfl
  | succ fuel ih =>
    unfold retryPasses
    dsimp only
    split
    · exact (retryWalk_sortedOn ..).trans (ih _)
    · exact retryWalk_sortedOn ..

theorem retryPass_upholds (h : InHand) (s : State) : Upholds h s (retryPass s) := retryPasses_upholds ..

theorem retryPass_sortedOn (s : State) (m : SlotId) : sortedOn (s.slot m) ((retryPass s).slot m) := retryPasses_sortedOn ..

/-- The forced replacement of a slot in SORT_WAIT. -/
theorem replaceForced_upholds (h : InHand) (n : SlotId) (s : State) : Upholds h s (replaceForced n s) := by
  unfold replaceForced
  split
  · exact .refl ..
  · next w hw =>
    obtain ⟨hm, hn⟩ := mem_of_waiting hw
    have h1 : Upholds h s (serveWaiting n
        { w with inputs := { w.inputs with score := 0, forced := true, reason := (s.slot n).grading.reason } } s).2 :=
      serveWaiting_upholds fun a => ⟨hn, hn ▸ a.waiting w hm⟩
    exact Upholds.ite (fun _ => h1.trans (retryPass_upholds ..)) fun _ => h1

theorem replaceForced_sortedOn (n : SlotId) (s : State) : sortedOn (s.slot n) ((replaceForced n s).slot n) := by
  unfold replaceForced
  split
  · exact .inl rfl
  · dsimp only
    split
    · exact (serveWaiting_sortedOn ..).trans (retryPass_sortedOn ..)
    · exact serveWaiting_sortedOn ..

/-! ### The hand-over -/

/-- A state with another Sort Unit. -/
def State.withSort (u : SortUnit) (s : State) : State := { s with sort := u }

theorem joinPart_withSort (s : State) (u : SortUnit) : joinPart (s.withSort u) = (joinPart s).withSort u := by
  unfold joinPart
  rw [apply_ite (State.withSort u)]
  rfl

theorem raisePart_withSort (e : PartEvent) (s : State) (u : SortUnit) : raisePart e (s.withSort u) = (raisePart e s).withSort u := by
  unfold raisePart
  dsimp only
  rw [apply_ite (State.withSort u), ← joinPart_withSort]
  rfl

theorem joinSlot_withSort (n : SlotId) (s : State) (u : SortUnit) : joinSlot n (s.withSort u) = (joinSlot n s).withSort u := by
  unfold joinSlot
  rw [apply_ite (State.withSort u), ← raisePart_withSort]
  rfl

/-- Raising an event does not look at the Sort Unit. -/
theorem raiseSlot_withSort (n : SlotId) (e : SlotEvent) (s : State) (u : SortUnit) :
    raiseSlot n e (s.withSort u) = (raiseSlot n e s).withSort u := by
  unfold raiseSlot
  dsimp only
  rw [apply_ite (State.withSort u), ← joinSlot_withSort]
  rfl

theorem raiseSlot_sort (n : SlotId) (e : SlotEvent) (s : State) : (raiseSlot n e s).sort = s.sort :=
  (congrArg State.sort (raiseSlot_withSort n e s s.sort) :)

/-- A slot in GRADING joins the sort-wait list and enters SORT_WAIT. -/
theorem joinWaiting_upholds {h : InHand} {n : SlotId} {s : State} (r : WaitReason) (g : GradeInputs)
    (hl : s.LivesBut h → (s.slot n).state = .grading) :
    Upholds h s (setState n .sortWait { s with sort := { s.sort with waiting := s.sort.waiting ++ [⟨n, r, g⟩] } }) := by
  have h1 : Upholds h s (modSlot n (fun x => { x with state := .sortWait }) s) := by
    refine .of_slot ⟨id, id, rfl, rfl⟩ (fun _ hb => Nat.add_le_add_right hb _) (fun a => ?_) fun a b => ⟨rfl, fun _ => ⟨by simp, by simp⟩⟩
    have hst := hl a
    have hlatch := a.locked (n := n) (by simp [hst]) (by simp [hst])
    refine ⟨⟨fun ho => ?_, (a.lines n).2.1, by simp⟩, fun _ => ⟨by simp, by simp⟩, .inr ⟨fun e he hk hn => ?_, fun _ _ _ => rfl⟩⟩
    · rw [show (s.slot n).lines.latch = .opened from ho] at hlatch
      cases hlatch
    · have := a.admission e he hk
      rw [hn, hst] at this
      cases this
  refine (h1.trans (.of_waiting (l := s.sort.waiting ++ [⟨n, r, g⟩]) fun a w hw => ?_)).trans (relamp_upholds ..)
  rw [List.mem_append] at hw
  obtain hw | hw := hw
  · exact a.waiting w hw
  · obtain rfl : w = _ := by simpa using hw
    simp

/-- The Sort Unit takes the hand-over of a slot in GRADING. -/
theorem sortSlot_upholds {h : InHand} {n : SlotId} {s : State} (hl : (s.slot n).state = .grading) :
    Upholds h s (sortSlot n s) := by
  unfold sortSlot
  dsimp only
  split
  · next hr =>
    have h1 := appendEntry_upholds (h := h) (gradeInputs s (s.slot n)) hr fun _ => .inl hl
    exact Upholds.ite (fun _ => h1.trans (retryPass_upholds ..)) fun _ => h1
  · next r _ =>
    have hsort := fun t => raiseSlot_withSort n .sortWait t
      { s.sort with waiting := s.sort.waiting ++ [⟨n, r, gradeInputs s (s.slot n)⟩] }
    have h1 := setGrade_upholds h n (gradeInputs s (s.slot n)) (binSetOf s (s.slot n))
      (selectBin s (binSetOf s (s.slot n)) (gradeInputs s (s.slot n))) none s
    have hst : ((setGrade n (gradeInputs s (s.slot n)) (binSetOf s (s.slot n))
        (selectBin s (binSetOf s (s.slot n)) (gradeInputs s (s.slot n))) none s).slot n).state = .grading := by
      rw [setGrade_slot]; exact hl
    have hu : (setGrade n (gradeInputs s (s.slot n)) (binSetOf s (s.slot n))
        (selectBin s (binSetOf s (s.slot n)) (gradeInputs s (s.slot n))) none s).sort = s.sort := rfl
    generalize setGrade n (gradeInputs s (s.slot n)) (binSetOf s (s.slot n))
        (selectBin s (binSetOf s (s.slot n)) (gradeInputs s (s.slot n))) none s = t at *
    have h2 := joinWaiting_upholds (h := h) (n := n) (s := raiseSlot n .sortWait t) r (gradeInputs s (s.slot n)) fun _ => by
      rw [(raiseSlot_slot_keeps ..).same .state (by simp)]; exact hst
    have h3 := (h1.trans (raiseSlot_upholds h n .sortWait t)).trans h2
    rw [raiseSlot_sort, hu] at h3
    have h4 := hsort t
    simp only [State.withSort] at h4
    rw [hu, h4]
    exact h3

end Sys2Proof.Machine
end

section
/-! SUPPORT. Grading, quarantines, the slot lines and their timers uphold the invariants (chapters 1 and 8). -/

namespace Sys2Proof.Machine

/-! ### What the slots' lives say of a state -/

/-- Only a slot in POWER_WAIT holds a SLOT_POWER entry. -/
theorem State.LivesBut.no_entry {h : InHand} {s : State} {n : SlotId} (a : s.LivesBut h) (hs : (s.slot n).state ≠ .powerWait) :
    ∀ e ∈ s.power.queue, e.kind = .slotPower → e.slot ≠ n := by
  rintro e he hk rfl
  exact hs (a.admission e he hk)

/-- Only a slot in SORT_WAIT stands in the sort-wait list. -/
theorem State.LivesBut.not_waiting {h : InHand} {s : State} {n : SlotId} (a : s.LivesBut h) (hs : (s.slot n).state ≠ .sortWait) :
    ∀ w ∈ s.sort.waiting, w.slot ≠ n := by
  rintro w hw rfl
  exact hs (a.waiting w hw)

/-- The states in which a quarantine reason may be recorded (R15, R16). -/
def SlotState.pastTest : SlotState → Bool
  | .grading | .sortWait | .parking | .sorted => true
  | _ => false

theorem SlotState.pastTest_iff (st : SlotState) : st.pastTest = true ↔ st ∈ [SlotState.grading, .sortWait, .parking, .sorted] := by
  cases st <;> decide

theorem State.LivesBut.reason_none {h : InHand} {s : State} {n : SlotId} (a : s.LivesBut h) (hn : h.life ≠ some n)
    (hs : (s.slot n).state.pastTest = false) : (s.slot n).grading.reason = none := by
  by_contra hr
  have := (SlotState.pastTest_iff _).2 ((a.phases n hn).2 hr)
  rw [hs] at this
  cases this

theorem phaseAgrees_of_pastTest {x : Slot} (h : x.state.pastTest = true) : x.phaseAgrees :=
  ⟨fun hr => (by rw [hr] at h; cases h), fun _ => (SlotState.pastTest_iff _).1 h⟩

theorem unboundAgrees_of_pastTest {x : Slot} (h : x.state.pastTest = true) : x.unboundAgrees := by
  refine ⟨fun hm => ?_, fun hr => ?_⟩
  · have := (SlotState.pastTest_iff _).1 h
    simp only [List.mem_cons, List.not_mem_nil, or_false] at hm this
    obtain e | e | e | e := this <;> simp [e] at hm
  · rw [hr] at h; cases h

/-- The lines of a slot with its latch LOCKED agree with a state that does not want slot power OFF. -/
theorem linesAgree_locked {x y : Slot} (hl : y.lines.latch = .locked) (hr : y.lines.rundown = x.lines.rundown)
    (hp : y.lines.powered = x.lines.powered) (hs : y.state ∈ [SlotState.empty, .settling, .powerWait, .sorted] → y.lines.powered = false)
    (a : x.linesAgree) : y.linesAgree :=
  ⟨fun ho => (by rw [hl] at ho; cases ho), by rw [hr, hp]; exact a.2.1, hs⟩

/-! ### The drain and the grade point -/

theorem injectFinal_upholds (h : InHand) (n : SlotId) (s : State) : Upholds h s (injectFinal n s) :=
  (modSlot_upholds (f := fun x => { x with grading.finalIdentify := .due })).trans (inject_upholds ..)

theorem sendHandOver_upholds (h : InHand) (n : SlotId) (s : State) : Upholds h s (sendHandOver n s) :=
  Upholds.trans (t := modSlot n (fun x => { x with grading.handedOver := true }) s) modSlot_upholds (.of_read rfl)

theorem gradingProgress_upholds (h : InHand) (n : SlotId) (s : State) : Upholds h s (gradingProgress n s) := by
  refine Upholds.ite (fun _ => .refl ..) fun _ => ?_
  have h1 := (Upholds.ite (h := h) (s := s) (c := finalIdentifyDue (s.slot n) = true) (fun _ => injectFinal_upholds _ n s)
    fun _ => .refl ..).trans (serveInjections_upholds _ n _)
  exact Upholds.ite (fun _ => h1.trans (sendHandOver_upholds ..)) fun _ => h1

theorem gradingProgress_slot (n : SlotId) (s : State) :
    SlotKeepsBut [.grading, .injections, .spindle, .inFlight, .allocation] (s.slot n) ((gradingProgress n s).slot n) := by
  have hdue : ∀ x : Slot, SlotKeepsBut [.grading] x { x with grading.finalIdentify := .due } := fun x =>
    ⟨fun g hg => by cases g <;> simp_all [slotSameIn]⟩
  have hover : ∀ x : Slot, SlotKeepsBut [.grading] x { x with grading.handedOver := true } := fun x =>
    ⟨fun g hg => by cases g <;> simp_all [slotSameIn]⟩
  have h1 : ∀ t : State, SlotKeepsBut [.grading, .injections] (t.slot n) ((injectFinal n t).slot n) := fun t =>
    (modSlot_slot ((hdue _).mono (by simp))).trans ((inject_slot ..).mono (by simp))
  have h2 : ∀ t : State, SlotKeepsBut [.grading] (t.slot n) ((sendHandOver n t).slot n) := fun t =>
    modSlot_slot (f := fun x => { x with grading.handedOver := true }) (hover _)
  unfold gradingProgress
  split
  · exact .refl ..
  · dsimp only
    have h3 : SlotKeepsBut [.grading, .injections, .spindle, .inFlight, .allocation] (s.slot n)
        ((if finalIdentifyDue (s.slot n) = true then injectFinal n s else s).slot n) := by
      split
      · exact (h1 s).mono (by simp)
      · exact .refl ..
    have h4 : ∀ t : State, SlotKeepsBut [.grading, .injections, .spindle, .inFlight, .allocation] (t.slot n)
        ((if gradePoint (t.slot n) = true then sendHandOver n t else t).slot n) := fun t => by
      split
      · exact (h2 t).mono (by simp)
      · exact .refl ..
    exact (h3.trans ((serveInjections_slot n _).mono (by simp))).trans (h4 _)

theorem gradingProgress_state (n : SlotId) (s : State) : ((gradingProgress n s).slot n).state = (s.slot n).state :=
  (gradingProgress_slot n s).same .state (by simp)

/-! ### Entering GRADING -/

/-- Every entry of a slot leaves the admission queue. -/
theorem dropAdmission_queue (n : SlotId) (s : State) : ∀ e ∈ (dropAdmission n s).power.queue, e.slot ≠ n := by
  intro e he
  have he' : e ∈ (leaveAdmission n s).power.queue := he
  unfold leaveAdmission at he'
  split at he'
  · next h => exact entryOf_eq_none.1 h e he'
  · simpa using (List.mem_filter.1 he').2

/-- The states that enter GRADING: those with a drive record before it (R15, R133). -/
def SlotState.beforeGrading : SlotState → Bool
  | .powerWait | .identifying | .unmatched | .ready | .calibrating | .burning | .recovering => true
  | _ => false

/-- What `enterGrading` does before the slot moves to GRADING. -/
def leaveTest (n : SlotId) (s : State) : State :=
  let recovering := (s.slot n).state == .recovering
  let s := answerQueue n .endOfTest s
  let s := unlist n .identify (lapseHeld n (dropAdmission n s))
  let s := if recovering then endEpisode n s else s
  let s := if recovering && (s.slot n).orphaned then injectOrphan n s else s
  modSlot n (fun x => { x with grading := ⟨x.grading.reason, .notDue, false, none⟩ }) s

theorem enterGrading_eq (n : SlotId) (s : State) : enterGrading n s = gradingProgress n (setState n .grading (leaveTest n s)) := rfl

theorem endEpisode_slot (n : SlotId) (s : State) : SlotKeepsBut [.recovery] (s.slot n) ((endEpisode n s).slot n) := by
  refine modSlot_slot ⟨fun g hg => ?_⟩; cases g <;> simp_all [slotSameIn]

/-- The episode of a slot whose life is in hand ends. -/
theorem endEpisode_upholds {h : InHand} {n : SlotId} (hn : h.life = some n) (s : State) : Upholds h s (endEpisode n s) :=
  .of_slot ⟨id, id, rfl, rfl⟩ (fun _ hb => Nat.add_le_add_right hb _) (fun a => ⟨a.lines n, fun hc => absurd hn hc, .inl rfl⟩)
    fun _ b => ⟨rfl, fun hb => ⟨(b.unbound n hb).1, fun _ => by simp⟩⟩

theorem leaveTest_upholds {h : InHand} {n : SlotId} (hn : h.life = some n) (s : State) : Upholds h s (leaveTest n s) := by
  have h1 := (((answerQueue_upholds h n .endOfTest s).trans (dropAdmission_upholds _ n _)).trans (lapseHeld_upholds _ n _)).trans
    (unlist_upholds _ n .identify _)
  have h2 := h1.trans (Upholds.ite (c := ((s.slot n).state == .recovering) = true) (fun _ => endEpisode_upholds hn _) fun _ => .refl ..)
  unfold leaveTest
  dsimp only
  refine Upholds.trans (h2.trans (Upholds.ite (fun _ => injectOrphan_upholds ..) fun _ => .refl ..)) modSlot_upholds

theorem leaveTest_keeps (n : SlotId) (s : State) : ∃ t, KeepsBut [.slot n, .responses] s t
    ∧ KeepsBut [.slot n, .passDue] (dropAdmission n t) (leaveTest n s) := by
  refine ⟨_, answerQueue_keeps n .endOfTest s, ?_⟩
  have h1 : ∀ t : State, KeepsBut [.slot n, .passDue] t (unlist n .identify (lapseHeld n t)) := fun t =>
    (lapseHeld_keeps ..).trans ((unlist_keeps ..).mono (by simp))
  have h2 : ∀ (c : Prop) [Decidable c] (t : State), KeepsBut [.slot n, .passDue] t (if c then endEpisode n t else t) := fun c _ t =>
    KeepsBut.ite ((modSlot_keeps ..).mono (by simp)) (.refl ..)
  have h3 : ∀ (c : Prop) [Decidable c] (t : State), KeepsBut [.slot n, .passDue] t (if c then injectOrphan n t else t) := fun c _ t =>
    KeepsBut.ite ((inject_keeps ..).mono (by simp)) (.refl ..)
  unfold leaveTest
  dsimp only
  exact (((h1 _).trans (h2 _ _)).trans (h3 _ _)).trans ((modSlot_keeps ..).mono (by simp))

theorem lapseHeld_state (n : SlotId) (s : State) :
    SlotKeepsBut [.injections, .spindle, .allocation, .identity] (s.slot n) ((lapseHeld n s).slot n) :=
  lapseHeld_slot n s

theorem leaveTest_slot (n : SlotId) (s : State) :
    SlotKeepsBut [.queue, .reserved, .injections, .spindle, .allocation, .identity, .recovery, .grading] (s.slot n)
      ((leaveTest n s).slot n) := by
  have h0 : SlotKeepsBut [.queue, .reserved, .injections, .spindle, .allocation, .identity, .recovery, .grading] (s.slot n)
      ((answerQueue n .endOfTest s).slot n) := by
    have hf := foldl_keeps (ch := [.responses]) (fun s (q : QueuedCmd) => answerPart q.source n q.tag .endOfTest s)
      (fun _ _ => answerPart_keeps ..) (s.slot n).traffic.queue s
    unfold answerQueue
    rw [slot_modSlot_same, hf.slot_eq (m := n) (by simp)]
    exact ⟨fun g hg => by cases g <;> simp_all [slotSameIn]⟩
  have h1 := h0.trans ((dropAdmission_slot n _).mono (by simp))
  have h2 := h1.trans ((lapseHeld_slot n _).mono (by simp))
  have h3 := h2.trans ((unlist_slot n .identify _).mono (by simp))
  have h4 : ∀ (c : Prop) [Decidable c] (t : State),
      SlotKeepsBut [.queue, .reserved, .injections, .spindle, .allocation, .identity, .recovery, .grading] (t.slot n)
        ((if c then endEpisode n t else t).slot n) := fun c _ t => by
    split
    · exact (endEpisode_slot ..).mono (by simp)
    · exact .refl ..
  have h5 : ∀ (c : Prop) [Decidable c] (t : State),
      SlotKeepsBut [.queue, .reserved, .injections, .spindle, .allocation, .identity, .recovery, .grading] (t.slot n)
        ((if c then injectOrphan n t else t).slot n) := fun c _ t => by
    split
    · exact (inject_slot ..).mono (by simp)
    · exact .refl ..
  unfold leaveTest
  dsimp only
  refine ((h3.trans (h4 _ _)).trans (h5 _ _)).trans (modSlot_slot ⟨fun g hg => ?_⟩)
  cases g <;> simp_all [slotSameIn]

theorem enterGrading_state (n : SlotId) (s : State) : ((enterGrading n s).slot n).state = .grading := by
  rw [enterGrading_eq, gradingProgress_state, setState_slot_state]

/-- A slot whose life is in hand enters GRADING. -/
theorem enterGrading_upholds_inHand {h : InHand} {n : SlotId} {s : State} (hn : h.life = some n)
    (hs : s.LivesBut h → (s.slot n).state.beforeGrading = true) : Upholds h s (enterGrading n s) := by
  refine .given hs fun f hf => ?_
  have hst : ((leaveTest n s).slot n).state = (s.slot n).state := (leaveTest_slot n s).same .state (by simp)
  obtain ⟨t, -, hk⟩ := leaveTest_keeps n s
  have hq : (leaveTest n s).power.queue = (dropAdmission n t).power.queue := hk.same .admission (by simp)
  rw [enterGrading_eq]
  refine ((leaveTest_upholds (h := { h with followed := f }) hn s).trans (setState_upholds (fun a => ?_) fun a b _ => ?_)).trans
    (gradingProgress_upholds ..)
  · have hb := hf a.followed
    rw [← hst] at hb
    have hlatch : ((leaveTest n s).slot n).lines.latch = .locked :=
      a.locked (by intro e; rw [e] at hb; cases hb) (by intro e; rw [e] at hb; cases hb)
    refine ⟨linesAgree_locked (x := (leaveTest n s).slot n) hlatch rfl rfl (by simp) (a.lines n),
      fun _ => phaseAgrees_of_pastTest rfl, ⟨fun e he _ hen => ?_, fun w hw hwn => ?_⟩⟩
    · rw [hq] at he
      exact absurd hen (dropAdmission_queue n t e he)
    · exact absurd hwn (a.not_waiting (by intro e; rw [e] at hb; cases hb) w hw)
  · exact unboundAgrees_of_pastTest rfl

theorem enterGrading_upholds {h : InHand} {n : SlotId} {s : State} (hh : h.life = none)
    (hs : s.LivesBut h → (s.slot n).state.beforeGrading = true) : Upholds h s (enterGrading n s) := by
  refine .given hs fun f hf => .closeLife (n := n) hh (enterGrading_upholds_inHand rfl fun a => hf a.followed) fun _ => ?_
  exact phaseAgrees_of_pastTest (by rw [enterGrading_state]; rfl)

/-! ### Quarantines -/

theorem quarantineGrading_upholds (h : InHand) (n : SlotId) (s : State) : Upholds h s (quarantineGrading n s) :=
  (Upholds.ite (fun _ => .refl ..) fun _ => unlist_upholds ..).trans (gradingProgress_upholds ..)

theorem quarantineGrading_state (n : SlotId) (s : State) : ((quarantineGrading n s).slot n).state = (s.slot n).state := by
  unfold quarantineGrading
  rw [gradingProgress_state]
  split
  · rfl
  · exact (unlist_slot ..).same .state (by simp)

/-- A quarantine reason recorded: what `takeQuarantine` does before it looks at the state. -/
def recordReason (n : SlotId) (r : QuarantineReason) (s : State) : State :=
  relamp n (raiseSlot n .quarantine (modSlot n (fun x => { x with grading.reason := some r }) s))

theorem recordReason_upholds {h : InHand} {n : SlotId} (hn : h.life = some n) (r : QuarantineReason) (s : State) :
    Upholds h s (recordReason n r s) :=
  ((Upholds.of_slot (f := fun x => { x with grading.reason := some r }) ⟨id, id, rfl, rfl⟩ (fun _ hb => Nat.add_le_add_right hb _)
    (fun a => ⟨a.lines n, fun hc => absurd hn hc, .inl rfl⟩) fun _ b => ⟨rfl, b.unbound n⟩).trans
      (raiseSlot_upholds _ n .quarantine _)).trans (relamp_upholds ..)

theorem recordReason_state (n : SlotId) (r : QuarantineReason) (s : State) :
    ((recordReason n r s).slot n).state = (s.slot n).state := by
  unfold recordReason
  rw [(relamp_slot n _).same .state (by simp), (raiseSlot_slot_keeps n _ _).same .state (by simp), slot_modSlot_same]

theorem takeQuarantine_upholds {h : InHand} (hh : h.life = none) (n : SlotId) (r : QuarantineReason) (s : State) :
    Upholds h s (takeQuarantine n r s) := by
  refine Upholds.ite (fun _ => .refl ..) fun hd => ?_
  have hd' : (s.slot n).state ≠ .empty ∧ (s.slot n).state ≠ .settling := by
    simp only [quarantineDiscarded, Bool.or_eq_true, beq_iff_eq, not_or] at hd
    exact hd.1
  have h1 := recordReason_upholds (h := { h with life := some n }) (n := n) rfl r s
  have hst := recordReason_state n r s
  change Upholds h s (match ((recordReason n r s).slot n).state with
    | .powerWait | .identifying | .unmatched | .ready | .calibrating | .burning | .recovering =>
      enterGrading n (recordReason n r s)
    | .grading => quarantineGrading n (recordReason n r s)
    | .sortWait => replaceForced n (recordReason n r s)
    | .parking | .sorted | .empty | .settling => recordReason n r s)
  generalize recordReason n r s = t at *
  have hg : (t.slot n).state.beforeGrading = true → Upholds h s (enterGrading n t) := fun hb =>
    .closeLife hh (h1.trans (enterGrading_upholds_inHand rfl fun _ => hb)) fun _ =>
      phaseAgrees_of_pastTest (by rw [enterGrading_state]; rfl)
  split
  case h_8 e =>
    exact .closeLife hh (h1.trans (quarantineGrading_upholds ..)) fun _ =>
      phaseAgrees_of_pastTest (by rw [quarantineGrading_state, e]; rfl)
  case h_9 e =>
    refine .closeLife hh (h1.trans (replaceForced_upholds ..)) fun _ => phaseAgrees_of_pastTest ?_
    obtain hs | hs := replaceForced_sortedOn n t
    · rw [hs, e]; rfl
    · rw [hs]; rfl
  case h_10 e => exact .closeLife hh h1 fun _ => phaseAgrees_of_pastTest (by rw [e]; rfl)
  case h_11 e => exact .closeLife hh h1 fun _ => phaseAgrees_of_pastTest (by rw [e]; rfl)
  case h_12 e => exact absurd (hst.symm.trans e) hd'.1
  case h_13 e => exact absurd (hst.symm.trans e) hd'.2
  all_goals
    next e => exact hg (by rw [e]; rfl)

/-! ### Presence -/

theorem setState_modSlot (n : SlotId) (st : SlotState) (f : Slot → Slot) (s : State) :
    setState n st (modSlot n f s) = relamp n (modSlot n (fun x => { f x with state := st }) s) := by
  unfold setState
  rw [modSlot_modSlot]
  rfl

/-- A slot's lines and its state move together. -/
theorem setState_modLines_upholds {h : InHand} {n : SlotId} {st : SlotState} {f : SlotLines → SlotLines} {s : State}
    (hl : s.LivesBut h → Slot.linesAgree { s.slot n with state := st, lines := f (s.slot n).lines }
      ∧ (h.life ≠ some n → Slot.phaseAgrees { s.slot n with state := st })
      ∧ ((∀ e ∈ s.power.queue, e.kind = .slotPower → e.slot = n → st = .powerWait)
        ∧ ∀ w ∈ s.sort.waiting, w.slot = n → st = .sortWait))
    (hm : s.LivesBut h → s.BindingsBut h → h.binding ≠ some n → Slot.unboundAgrees { s.slot n with state := st }) :
    Upholds h s (setState n st (modLines n f s)) := by
  unfold modLines
  rw [setState_modSlot]
  refine Upholds.trans (.of_slot ⟨id, id, rfl, rfl⟩ (fun _ hb => Nat.add_le_add_right hb _)
    (fun a => ⟨(hl a).1, (hl a).2.1, .inr (hl a).2.2⟩) fun a b => ⟨rfl, hm a b⟩) (relamp_upholds ..)

/-- A change of lines that leaves latch, power and rundown. -/
theorem modLines_upholds {h : InHand} {n : SlotId} {f : SlotLines → SlotLines} {s : State}
    (hf : ((f (s.slot n).lines).latch, (f (s.slot n).lines).powered, (f (s.slot n).lines).rundown)
      = ((s.slot n).lines.latch, (s.slot n).lines.powered, (s.slot n).lines.rundown) := by rfl) :
    Upholds h s (modLines n f s) := by
  simp only [Prod.mk.injEq] at hf
  obtain ⟨h1, h2, h3⟩ := hf
  exact modSlot_upholds (hl := by simp only [Slot.life, h1, h2, h3])

theorem modLines_slot (n : SlotId) (f : SlotLines → SlotLines) (s : State) :
    (modLines n f s).slot n = { s.slot n with lines := f (s.slot n).lines } := slot_modSlot_same ..

theorem phaseAgrees_of_reason {x : Slot} (hr : x.grading.reason = none) (hs : x.state ≠ .recovering) : x.phaseAgrees :=
  ⟨fun h => absurd h hs, fun h => absurd hr h⟩

/-- A slot that goes between EMPTY, SETTLING and POWER_WAIT is bound to nothing. -/
theorem State.BindingsBut.unbound_early {h : InHand} {s : State} {n : SlotId} (b : s.BindingsBut h) (hn : h.binding ≠ some n)
    (hs : (s.slot n).state ∈ [SlotState.empty, .settling, .powerWait, .identifying, .unmatched]) :
    (s.slot n).identity.model = none := (b.unbound n hn).1 hs

theorem startSettling_upholds {h : InHand} {n : SlotId} {s : State} (hs : (s.slot n).state = .empty) :
    Upholds h s (startSettling n s) := by
  refine setState_modLines_upholds (fun a => ⟨?_, fun hn => phaseAgrees_of_reason ?_ (by simp), ⟨fun e he hk hn => ?_,
    fun w hw hn => ?_⟩⟩) fun a b hn => ⟨fun _ => b.unbound_early hn (by simp [hs]), nofun⟩
  · exact linesAgree_locked (x := s.slot n) rfl rfl rfl (fun _ => (a.lines n).2.2 (by simp [hs])) (a.lines n)
  · exact a.reason_none hn (by rw [hs]; rfl)
  · exact absurd hn (a.no_entry (by simp [hs]) e he hk)
  · exact absurd hn (a.not_waiting (by simp [hs]) w hw)

theorem assertPresence_upholds (h : InHand) (n : SlotId) (s : State) : Upholds h s (assertPresence n s) := by
  unfold assertPresence
  dsimp only
  have h1 : Upholds h s (modLines n (fun l => { l with line := true }) s) := modLines_upholds
  split
  · next e => exact h1.trans (startSettling_upholds e)
  · exact h1
  · exact h1.trans modLines_upholds

theorem abandonSettling_upholds {h : InHand} {n : SlotId} {s : State} (hs : (s.slot n).state = .settling) :
    Upholds h s (abandonSettling n s) := by
  refine setState_modLines_upholds (fun a => ⟨?_, fun hn => phaseAgrees_of_reason ?_ (by simp), ⟨fun e he hk hn => ?_,
    fun w hw hn => ?_⟩⟩) fun a b hn => ⟨fun _ => b.unbound_early hn (by simp [hs]), nofun⟩
  · have hlatch : (s.slot n).lines.latch = .locked := a.locked (by simp [hs]) (by simp [hs])
    have hp := (a.lines n).2.2 (by simp [hs])
    refine ⟨fun ho => ⟨hp, ?_, .inl rfl⟩, (a.lines n).2.1, fun _ => hp⟩
    dsimp only at ho ⊢
    split at ho
    · assumption
    · rw [hlatch] at ho; cases ho
  · exact a.reason_none hn (by rw [hs]; rfl)
  · exact absurd hn (a.no_entry (by simp [hs]) e he hk)
  · exact absurd hn (a.not_waiting (by simp [hs]) w hw)

theorem deassertPresence_upholds (h : InHand) (n : SlotId) (s : State) : Upholds h s (deassertPresence n s) := by
  unfold deassertPresence
  dsimp only
  have h1 : Upholds h s (modLines n (fun l => { l with line := false }) s) := modLines_upholds
  split
  · exact h1
  · next e => exact h1.trans (abandonSettling_upholds e)
  · exact h1.trans modLines_upholds

theorem endSettling_upholds {h : InHand} {n : SlotId} {s : State} (hs : (s.slot n).state = .settling) :
    Upholds h s (endSettling n s) := by
  unfold endSettling
  dsimp only
  have h1 : Upholds h s (raiseSlot n .inserted (modLines n (fun l => { l with presence := .present, change := true, settle := none }) s)) :=
    Upholds.trans modLines_upholds (raiseSlot_upholds ..)
  have hst : ((raiseSlot n .inserted (modLines n (fun l => { l with presence := .present, change := true, settle := none }) s)).slot n).state
      = .settling := by
    rw [(raiseSlot_slot_keeps ..).same .state (by simp), modLines_slot]; exact hs
  generalize raiseSlot n .inserted (modLines n (fun l => { l with presence := .present, change := true, settle := none }) s) = t at *
  refine (h1.trans (setState_upholds (fun a => ⟨?_, fun hn => phaseAgrees_of_reason ?_ (by simp), ⟨fun _ _ _ _ => rfl,
    fun w hw hn => ?_⟩⟩) fun a b hn => ⟨fun _ => b.unbound_early hn (by simp [hst]), nofun⟩)).trans
    (joinAdmission_upholds _ fun _ _ => setState_slot_state ..)
  · exact linesAgree_locked (x := t.slot n) (a.locked (n := n) (by simp [hst]) (by simp [hst])) rfl rfl
      (fun _ => (a.lines n).2.2 (by simp [hst])) (a.lines n)
  · exact a.reason_none hn (by rw [hst]; rfl)
  · exact absurd hn (a.not_waiting (by simp [hst]) w hw)

/-! ### Removal -/

theorem unbindSlot_model (n : SlotId) (s : State) : ((unbindSlot n s).slot n).identity.model = none := by
  unfold unbindSlot
  split
  · assumption
  · simp

theorem commandsAgree_empty {x : Slot} (hq : x.traffic.queue = []) (hr : x.traffic.reserved = none)
    (hf : x.traffic.inFlight = Vector.replicate 4 none) : x.commandsAgree := by
  simp [Slot.commandsAgree, hq, hr, hf]

theorem unbindSlot_keeps (n : SlotId) (s : State) : KeepsBut [.slot n, .models] s (unbindSlot n s) := by
  unfold unbindSlot
  split
  · exact .refl ..
  · refine KeepsBut.trans ⟨fun g hg => ?_⟩ ((modSlot_keeps ..).mono (by simp))
    cases g <;> (simp_all [sameIn, countReference]; try rfl)

/-- A slot with no admission entry, not waiting for room, and bound to nothing is cleared. -/
theorem removedSlot_upholds {h : InHand} {n : SlotId} {k : Nat} {s : State} (hq : ∀ e ∈ s.power.queue, e.slot ≠ n)
    (hw : ∀ w ∈ s.sort.waiting, w.slot ≠ n) (hm : (s.slot n).identity.model = none) :
    Upholds h s (modSlot n (removedSlot k) s) := by
  refine .of_slot ⟨fun _ => Nat.zero_le _, fun _ => commandsAgree_empty rfl rfl rfl, rfl, rfl⟩ (fun _ hb => ?_) (fun a => ?_)
    fun a b => ⟨hm.symm, fun _ => ⟨fun _ => rfl, fun _ _ => rfl⟩⟩
  · exact Nat.add_le_add hb (Nat.zero_le _)
  · exact ⟨⟨fun _ => ⟨rfl, rfl, .inl rfl⟩, nofun, fun _ => rfl⟩, fun _ => ⟨nofun, fun hr => absurd rfl hr⟩,
      .inr ⟨fun e he _ hn => absurd hn (hq e he), fun w hw' hn => absurd hn (hw w hw')⟩⟩

theorem takeRemoval_upholds (h : InHand) (n : SlotId) (s : State) : Upholds h s (takeRemoval n s) := by
  unfold takeRemoval
  dsimp only
  have h1 := (((answerQueue_upholds h n .removed s).trans (answerInFlight_upholds _ n .removed _)).trans
    (clearTable_upholds _ n _)).trans (dropAdmission_upholds _ n _)
  have hq := dropAdmission_queue n (clearTable n (answerInFlight n .removed (answerQueue n .removed s)))
  generalize dropAdmission n (clearTable n (answerInFlight n .removed (answerQueue n .removed s))) = t at *
  have h2 : Upholds h t { t with sort := { t.sort with waiting := t.sort.waiting.filter (·.slot != n) } } :=
    .of_waiting fun a w hw => a.waiting w (List.mem_of_mem_filter hw)
  generalize (if (s.slot n).state == .sorted then SlotEvent.removed else .pulledEarly) = ev
  have h3 : ∀ u, u = { t with sort := { t.sort with waiting := t.sort.waiting.filter (·.slot != n) } } →
      u.power.queue = t.power.queue ∧ ∀ w ∈ u.sort.waiting, w.slot ≠ n := by
    rintro u rfl
    exact ⟨rfl, fun w hw => by simpa using (List.mem_filter.1 hw).2⟩
  generalize { t with sort := { t.sort with waiting := t.sort.waiting.filter (·.slot != n) } } = u at *
  obtain ⟨huq, huw⟩ := h3 u rfl
  have h4 := ((powerOff_upholds h n u).trans (unbindSlot_upholds _ n _)).trans (raiseSlot_upholds _ n ev _)
  have hk : KeepsBut [.slot n, .passDue, .models, .partSet, .noticeQueue] u (raiseSlot n ev (unbindSlot n (powerOff n u))) :=
    (((powerOff_keeps ..).mono (by simp)).trans ((unbindSlot_keeps ..).mono (by simp))).trans ((raiseSlot_keeps ..).mono (by simp))
  have hkq : (raiseSlot n ev (unbindSlot n (powerOff n u))).power.queue = u.power.queue := hk.same .admission (by simp)
  have hkw : (raiseSlot n ev (unbindSlot n (powerOff n u))).sort.waiting = u.sort.waiting := hk.same .waiting (by simp)
  have hm : ((raiseSlot n ev (unbindSlot n (powerOff n u))).slot n).identity.model = none := by
    obtain ⟨st, hst⟩ := raiseSlot_slot n ev (unbindSlot n (powerOff n u))
    rw [hst]
    exact unbindSlot_model ..
  generalize raiseSlot n ev (unbindSlot n (powerOff n u)) = v at *
  have h5 : Upholds h v (dropTransit n v) := .of_read rfl
  refine ((((h1.trans h2).trans h4).trans h5).trans (removedSlot_upholds ?_ ?_ hm)).trans (relamp_upholds ..)
  · intro e he
    exact hq e (huq ▸ hkq ▸ he)
  · intro w hw
    exact huw w (hkw ▸ hw)

/-! ### Rundown and parking -/

theorem endRundown_upholds {h : InHand} {n : SlotId} {s : State} {t : Nat} (hr : (s.slot n).lines.rundown = .running t) :
    Upholds h s (endRundown n s) := by
  have hp : s.LivesBut h → (s.slot n).lines.powered = false := fun a => (a.lines n).2.1 t hr
  have hold : s.LivesBut h → ∀ y : Slot, y.lines.latch = (s.slot n).lines.latch → y.lines.powered = (s.slot n).lines.powered →
      y.lines.rundown = .expired → y.state = (s.slot n).state → y.linesAgree := fun a y h1 h2 h3 h4 => by
    have hl := a.lines n
    refine ⟨fun ho => ?_, fun t' e => absurd (h3.symm.trans e) (by simp), by rw [h4, h2]; exact hl.2.2⟩
    rw [h2, h3, h4]
    exact ⟨hp a, rfl, (hl.1 (h1 ▸ ho)).2.2⟩
  unfold endRundown
  dsimp only
  have hlines : ∀ f, modLines n f (modLines n (fun l => { l with rundown := .expired }) s)
      = modLines n (fun l => f { l with rundown := .expired }) s := fun f => by
    unfold modLines; rw [modSlot_modSlot]; rfl
  have hst : ((modLines n (fun l => { l with rundown := .expired }) s).slot n).state = (s.slot n).state := by rw [modLines_slot]
  rw [hst]
  split
  · next e =>
    rw [hlines]
    refine Upholds.trans (setState_modLines_upholds (fun a => ⟨⟨fun _ => ⟨hp a, rfl, .inr rfl⟩, fun _ e' => (by cases e'), fun _ => hp a⟩,
      fun _ => phaseAgrees_of_pastTest rfl, ⟨fun e' he hk hn => ?_, fun w hw hn => ?_⟩⟩) fun a b hn => unboundAgrees_of_pastTest rfl)
      (raiseSlot_upholds ..)
    · exact absurd hn (a.no_entry (by simp [e]) e' he hk)
    · exact absurd hn (a.not_waiting (by simp [e]) w hw)
  · next e =>
    rw [hlines]
    exact .of_slot ⟨id, id, rfl, rfl⟩ (fun _ hb => Nat.add_le_add_right hb _)
      (fun a => ⟨⟨fun _ => ⟨hp a, rfl, .inl e⟩, fun _ e' => (by cases e'), fun _ => hp a⟩, a.phases n, .inl rfl⟩) fun _ b => ⟨rfl, b.unbound n⟩
  · exact .of_slot ⟨id, id, rfl, rfl⟩ (fun _ hb => Nat.add_le_add_right hb _)
      (fun a => ⟨hold a _ rfl rfl rfl rfl, a.phases n, .inl rfl⟩) fun _ b => ⟨rfl, b.unbound n⟩

theorem retireSpinDowns_upholds (h : InHand) (n : SlotId) (s : State) : Upholds h s (retireSpinDowns n s) :=
  Upholds.foldl (fun _ _ => Upholds.ite (fun _ => retireEntry_upholds ..) fun _ => .refl ..) ..

theorem retireSpinDowns_slot (n : SlotId) (s : State) :
    SlotKeepsBut [.inFlight, .allocation] (s.slot n) ((retireSpinDowns n s).slot n) := by
  unfold retireSpinDowns
  generalize List.finRange 4 = l
  induction l generalizing s with
  | nil => exact .refl ..
  | cons k l ih =>
    refine SlotKeepsBut.trans ?_ (ih _)
    dsimp only
    split
    · exact retireEntry_slot ..
    · exact .refl ..

end Sys2Proof.Machine
end

section
/-! SUPPORT. The rack link and the samples uphold the invariants (chapters 6 and 9). -/

namespace Sys2Proof.Machine

/-! ### SLOT_CMD -/

theorem entryWithTag_eq_none {x : Slot} {tag : Nat} :
    x.entryWithTag tag = none ↔ ∀ (j : Fin 4) (e : InFlight), x.traffic.inFlight[j] = some e → e.tag ≠ tag := by
  unfold Slot.entryWithTag
  rw [List.find?_eq_none]
  constructor
  · intro h j e he
    have := h j (List.mem_finRange j)
    rw [show x.traffic.inFlight[j.val] = some e from he] at this
    simpa using this
  · intro h j _
    cases he : x.traffic.inFlight[j.val] with
    | none => simp
    | some e => simpa using h j e he

theorem holdsTag_eq_false {x : Slot} {tag : Nat} :
    x.holdsTag tag = false ↔ (∀ q ∈ x.traffic.queue, q.tag ≠ tag)
      ∧ ∀ (j : Fin 4) (e : InFlight), x.traffic.inFlight[j] = some e → e.tag ≠ tag := by
  rw [← entryWithTag_eq_none]
  simp [Slot.holdsTag]

/-- What a frame that passes every check of R25 has. -/
theorem checkCommand_ok {x : Slot} {tag : Nat} {cls : Option CmdClass} {c : CmdClass} (h : checkCommand x tag cls = .ok c) :
    tag ≤ 27 ∧ cls = some c ∧ x.state.accepts c = true ∧ x.holdsTag tag = false ∧ ¬(c = .heavy ∧ x.power.spindle = .stopped)
      ∧ x.traffic.queue.length < Config.slotQueueDepth := by
  unfold checkCommand at h
  split at h
  · cases h
  · split at h
    · cases h
    · next htag _ c' =>
      split at h
      · cases h
      · split at h
        · cases h
        · split at h
          · cases h
          · split at h
            · cases h
            · cases h
              simp_all

/-- A frame with a tag of a server's that the slot does not hold joins a queue that is not full. -/
theorem queueCommand_upholds {h : InHand} {n : SlotId} {q : QueuedCmd} {s : State} (ht : q.tag ≤ 27)
    (hh : (s.slot n).holdsTag q.tag = false) (hl : (s.slot n).traffic.queue.length < Config.slotQueueDepth) :
    Upholds h s (queueCommand n q s) := by
  rw [holdsTag_eq_false] at hh
  refine .of_still ⟨⟨fun _ => by simpa using hl, fun a => ⟨a.1, a.2.1, ?_, fun q' hq' => ?_, a.2.2.2.2⟩, rfl, rfl⟩, rfl, rfl, le_rfl⟩
  · simpa [List.nodup_append] using ⟨a.2.2.1, hh.1⟩
  · rw [List.mem_append] at hq'
    obtain hq' | hq' := hq'
    · exact a.2.2.2.1 q' hq'
    · obtain rfl : q' = q := by simpa using hq'
      exact ⟨ht, hh.2⟩

theorem takeSlotCmd_upholds (h : InHand) (n : SlotId) (source : Byte) (payload : Bytes) (s : State) :
    Upholds h s (takeSlotCmd n source payload s) := by
  unfold takeSlotCmd
  dsimp only
  split
  · exact answerPart_upholds ..
  · next c hc =>
    obtain ⟨htag, -, -, hh, -, hl⟩ := checkCommand_ok hc
    have h1 := queueCommand_upholds (h := h) (n := n) (s := s) (q := ⟨(payload.getD 1 0).toNat, c, frameData payload, source⟩) htag hh hl
    exact Upholds.ite (fun _ => h1.trans (serveSlot_upholds ..)) fun _ => h1

theorem portSlotCmd_upholds (h : InHand) (source : Byte) (payload : Bytes) (s : State) :
    Upholds h s (portSlotCmd source payload s) := by
  unfold portSlotCmd
  split
  · exact takeSlotCmd_upholds ..
  · exact pushResponse_upholds ..

/-! ### Requests -/

/-- The request queue changes within its depth. -/
theorem Upholds.of_requests {h : InHand} {s : State} {l : List QueuedRequest}
    (hl : s.port.requests.length ≤ Config.requestQueueDepth → l.length ≤ Config.requestQueueDepth) :
    Upholds h s { s with port := { s.port with requests := l } } where
  pending := rfl
  queues a := ⟨hl a.1, a.2⟩
  notices := id
  admission := id
  commands _ := id
  sort := id
  store := id
  budget _ := id
  lives a := { a with }
  bindings _ a := { a with }

theorem placeRequest_upholds (h : InHand) (source tag kind : Byte) (operands : Bytes) (s : State) :
    Upholds h s (placeRequest source tag kind operands s) :=
  Upholds.ite (fun hl => .of_requests fun _ => by simpa using hl) fun _ => .of_read rfl

theorem countReply_upholds (h : InHand) (f : RackFrame) (s : State) : Upholds h s (countReply f s) :=
  Upholds.ite (fun _ => .of_read rfl) fun _ => .refl ..

/-! ### Samples -/

theorem setFilter_still (x : Slot) (m : Metric) (f : Filter) : x.Still (x.setFilter m f) := by
  cases m <;> exact .of_eq rfl rfl rfl rfl le_rfl

theorem setFilter_upholds (h : InHand) (n : SlotId) (m : Metric) (f : Slot → Filter) (s : State) :
    Upholds h s (modSlot n (fun x => x.setFilter m (f x)) s) :=
  .of_still (setFilter_still ..)

theorem raiseAll_upholds (h : InHand) (n : SlotId) (es : List SlotEvent) (s : State) : Upholds h s (raiseAll n es s) :=
  Upholds.foldl (fun _ _ => raiseSlot_upholds ..) ..

theorem evaluateMetric_upholds (h : InHand) (n : SlotId) (m : Metric) (s : State) : Upholds h s (evaluateMetric n m s) := by
  unfold evaluateMetric
  dsimp only
  split
  · next entry v _ _ =>
    have h1 := fun r : StageResult => (setFilter_upholds h n m (fun _ => r.record) s).trans (raiseAll_upholds _ n r.raised _)
    exact Upholds.ite (fun _ => (h1 _).trans (sendQuarantine_upholds ..)) fun _ => h1 _
  · exact .refl ..

theorem compareOverdraw_upholds (h : InHand) (n : SlotId) (v : Nat) (s : State) : Upholds h s (compareOverdraw n v s) := by
  unfold compareOverdraw
  dsimp only
  have h1 : ∀ k, Upholds h s (modSlot n (fun x => { x with tallies.overdrawRun := k }) s) := fun k => modSlot_upholds
  exact Upholds.ite (fun _ => ((h1 _).trans (raiseSlot_upholds ..)).trans (partCount_upholds ..)) fun _ =>
    Upholds.ite (fun _ => (h1 _).trans (sendQuarantine_upholds ..)) fun _ => h1 _

theorem sampleMetric_upholds (h : InHand) (n : SlotId) (m : Metric) (r : Nat) (s : State) : Upholds h s (sampleMetric n m r s) := by
  unfold sampleMetric
  dsimp only
  have h1 := setFilter_upholds h n m (fun x => takeReading r (x.filter m)) s
  have h2 := h1.trans (Upholds.ite (h := h) (c := losesNow r ((s.slot n).filter m) = true)
    (fun _ => raiseSlot_upholds _ n .sensorLost _) fun _ => .refl ..)
  have h3 : ∀ t : State, Upholds h t (if runsStages (t.slot n) ((t.slot n).filter m) = true then evaluateMetric n m t else t) :=
    fun t => Upholds.ite (fun _ => evaluateMetric_upholds ..) fun _ => .refl ..
  refine Upholds.ite (fun _ => ((h2.trans (h3 _)).trans ?_).trans (compareOverdraw_upholds ..)) fun _ => h2.trans (h3 _)
  exact modSlot_upholds

theorem afterSample_upholds (h : InHand) (n : SlotId) (x : Slot) (s : State) : Upholds h s (afterSample n x s) := by
  unfold afterSample
  dsimp only
  have h1 : Upholds h s (if (s.slot n).metricStates = x.metricStates then s else relamp n s) :=
    Upholds.ite (fun _ => .refl ..) fun _ => relamp_upholds ..
  exact Upholds.ite (fun _ => h1.trans (.of_read rfl)) fun _ => h1

theorem sampleMetrics_upholds (h : InHand) (n : SlotId) (ms : List Metric) (v : SensorReading) (s : State) :
    Upholds h s (sampleMetrics n ms v s) := by
  unfold sampleMetrics
  dsimp only
  have h1 : Upholds h s (if .defr ∈ ms then modSlot n (fun x => { x with tallies.accumulator := 0 }) s else s) :=
    Upholds.ite (fun _ => modSlot_upholds) fun _ => .refl ..
  exact (h1.trans (Upholds.foldl (fun _ _ => sampleMetric_upholds ..) ..)).trans (afterSample_upholds ..)

theorem deferredSample_upholds (h : InHand) (n : SlotId) (v : SensorReading) (s : State) : Upholds h s (deferredSample n v s) :=
  Upholds.ite (fun _ => Upholds.trans (t := modSlot n (fun x => { x with drift.deferral := false }) s) modSlot_upholds
    (sampleMetrics_upholds ..)) fun _ => .refl ..

theorem sampleSlot_upholds (h : InHand) (n : SlotId) (v : SensorReading) (s : State) : Upholds h s (sampleSlot n v s) := by
  unfold sampleSlot
  dsimp only
  have h1 : Upholds h s (if (s.slot n).power.spindle = .spinningUp then modSlot n (fun x => { x with drift.deferral := true }) s else s) :=
    Upholds.ite (fun _ => modSlot_upholds) fun _ => .refl ..
  exact h1.trans (sampleMetrics_upholds ..)

theorem tickSlot_upholds (h : InHand) (n : SlotId) (v : SensorReading) (s : State) : Upholds h s (tickSlot n v s).2 := by
  have h1 : ∀ (k i : Nat), Upholds h s (modSlot n (fun y => { y with drift := { y.drift with testTicks := k, idleCount := i } }) s) :=
    fun k i => modSlot_upholds
  unfold tickSlot
  extract_lets x ticks t
  have h2 : Upholds h s t := h1 ticks (idleAfter s x)
  split
  · exact h2.trans (sampleSlot_upholds ..)
  · exact h2

end Sys2Proof.Machine
end

section
/-! SUPPORT. What the readers of the stored image and of the table writes give fits its bytes, and the image gives what the
Configuration Store keeps (chapters 11 and 12). -/

namespace Sys2Proof.Machine

/-! ### What a reader gives -/

/-- Whatever a reader answers has a property. -/
def Yields {α : Type} (o : Option α) (p : α → Prop) : Prop := ∀ y, o = some y → p y

theorem Yields.bind {α β : Type} {o : Option α} {f : α → Option β} {p : α → Prop} {q : β → Prop} (h : Yields o p)
    (hf : ∀ y, p y → Yields (f y) q) : Yields (o >>= f) q := by
  intro z hz
  obtain ⟨y, hy, hz⟩ := Option.bind_eq_some_iff.1 hz
  exact hf y (h y hy) z hz

theorem Yields.some {α : Type} {y : α} {p : α → Prop} (h : p y) : Yields (some y) p := fun _ e => Option.some.inj e ▸ h

theorem leNat_lt (bs : Bytes) : leNat bs < 256 ^ bs.length := by
  induction bs with
  | nil => simp [leNat]
  | cons b bs ih =>
    have := b.isLt
    simp only [leNat, List.length_cons, Nat.pow_succ]
    omega

theorem getBytes_yields (k : Nat) (bs : Bytes) : Yields (getBytes k bs) fun y => y.1.length = k := by
  intro y hy
  unfold getBytes at hy
  split at hy
  · cases hy
  · next h => cases hy; simpa using Nat.le_of_not_lt h

theorem getNum_yields (k : Nat) (bs : Bytes) : Yields (getNum k bs) fun y => y.1 < 256 ^ k := by
  intro y hy
  unfold getNum at hy
  split at hy
  · cases hy
  · next b rest hb =>
    cases hy
    have := leNat_lt b
    rwa [getBytes_yields k bs _ hb] at this

theorem getFlag_yields (bs : Bytes) : Yields (getFlag bs) fun _ => True := fun _ _ => trivial

theorem getMany_yields {α : Type} {read : Bytes → Option (α × Bytes)} {p : α → Prop} (h : ∀ bs, Yields (read bs) fun y => p y.1)
    (k : Nat) (bs : Bytes) : Yields (getMany read k bs) fun y => y.1.length = k ∧ ∀ x ∈ y.1, p x := by
  induction k generalizing bs with
  | zero => exact .some ⟨rfl, by simp⟩
  | succ k ih =>
    intro y hy
    unfold getMany at hy
    split at hy
    · cases hy
    · next x rest hx =>
      split at hy
      · cases hy
      · next xs rest' hxs =>
        cases hy
        obtain ⟨h1, h2⟩ := ih _ _ hxs
        exact ⟨by simpa using h1, by simpa using ⟨h _ _ hx, h2⟩⟩

theorem getOpt_yields (k : Nat) (bs : Bytes) : Yields (getOpt k bs) fun y => ∀ c, y.1 = some c → c < 256 ^ k := by
  refine .bind (getFlag_yields _) fun ⟨f, bs⟩ _ => .bind (getNum_yields k bs) fun ⟨x, bs⟩ hx => .some fun c hc => ?_
  dsimp only at hc
  split at hc
  · cases hc; exact hx
  · cases hc

theorem getThresholds_yields (bs : Bytes) : Yields (getThresholds bs) fun y => y.1.storable := by
  refine .bind (getNum_yields 1 bs) fun ⟨kf, bs⟩ h1 => .bind (getNum_yields 1 bs) fun ⟨kl, bs⟩ h2 => ?_
  refine .bind (getNum_yields 2 bs) fun ⟨tw, bs⟩ h3 => .bind (getNum_yields 2 bs) fun ⟨tf, bs⟩ h4 => ?_
  refine .bind (getNum_yields 2 bs) fun ⟨h, bs⟩ h5 => .bind (getNum_yields 1 bs) fun ⟨nw, bs⟩ h6 => ?_
  refine .bind (getNum_yields 1 bs) fun ⟨nx, bs⟩ h7 => .bind (getNum_yields 1 bs) fun ⟨nf, bs⟩ h8 => ?_
  refine .bind (getNum_yields 2 bs) fun ⟨hl, bs⟩ h9 => .bind (getNum_yields 2 bs) fun ⟨ts, bs⟩ h10 => ?_
  refine .bind (getNum_yields 1 bs) fun ⟨sh, bs⟩ h11 => .bind (getNum_yields 2 bs) fun ⟨wp, bs⟩ h12 => ?_
  exact .bind (getNum_yields 1 bs) fun ⟨fa, bs⟩ h13 => .some ⟨h1, h2, h3, h4, h5, h6, h7, h8, h9, h10, h11, h12, h13⟩

theorem getProfile_yields (bs : Bytes) :
    Yields (getProfile bs) fun y => y.1.mode < 256 ∧ y.1.peak < 65536 ∧ y.1.spinTime < 256 :=
  .bind (getNum_yields 1 bs) fun ⟨_, bs⟩ h1 => .bind (getNum_yields 2 bs) fun ⟨_, bs⟩ h2 =>
    .bind (getNum_yields 1 bs) fun ⟨_, _⟩ h3 => .some ⟨h1, h2, h3⟩

/-- What is read of a model entry fits its bytes, with reference count 0. -/
theorem getModel_yields (bs : Bytes) : Yields (getModel bs) fun y => y.1.storable ∧ y.1.refCount = 0 := by
  refine .bind (getFlag_yields bs) fun ⟨va, bs⟩ _ => .bind (getBytes_yields 40 bs) fun ⟨pa, bs⟩ h1 => ?_
  refine .bind (getNum_yields 1 bs) fun ⟨fc, bs⟩ h2 => .bind (getMany_yields (p := fun b => b.length = 8) (getBytes_yields 8) 2 bs) fun ⟨fp, bs⟩ h3 => ?_
  refine .bind (getOpt_yields 6 bs) fun ⟨mc, bs⟩ h4 => .bind (getNum_yields 2 bs) fun ⟨st, bs⟩ h5 => ?_
  refine .bind (getNum_yields 2 bs) fun ⟨ru, bs⟩ h6 => .bind (getNum_yields 2 bs) fun ⟨hi, bs⟩ h7 => ?_
  refine .bind (getNum_yields 1 bs) fun ⟨pc, bs⟩ h8 => .bind (getMany_yields (p := fun q => q.mode < 256 ∧ q.peak < 65536 ∧ q.spinTime < 256)
      getProfile_yields 4 bs) fun ⟨pp, bs⟩ h9 => ?_
  refine .bind (getNum_yields 1 bs) fun ⟨rc, bs⟩ h10 => .bind (getNum_yields 1 bs) fun ⟨cc, bs⟩ h11 => ?_
  refine .bind (getNum_yields 2 bs) fun ⟨sp, bs⟩ h12 => .bind (getNum_yields 2 bs) fun ⟨rp, bs⟩ h13 => ?_
  refine .bind (getNum_yields 1 bs) fun ⟨b, bs⟩ h14 => .bind (getThresholds_yields bs) fun ⟨te, bs⟩ h15 => ?_
  refine .bind (getThresholds_yields bs) fun ⟨cu, bs⟩ h16 => .bind (getThresholds_yields bs) fun ⟨vi, bs⟩ h17 => ?_
  exact .bind (getThresholds_yields bs) fun ⟨de, bs⟩ h18 => .bind (getNum_yields 1 bs) fun ⟨_, bs⟩ _ =>
    .some ⟨⟨h1, h2, h3.1, h3.2, h4, h5, h6, h7, h8, h9.1, h9.2, h10, h11, h12, h13, h14, h15, h16, h17, h18⟩, rfl⟩

theorem getClassify_yields (bs : Bytes) : Yields (getClassify bs) fun y => y.1.storable := by
  refine .bind (getFlag_yields bs) fun ⟨va, bs⟩ _ => .bind (getNum_yields 1 bs) fun ⟨sm, bs⟩ h1 => ?_
  refine .bind (getNum_yields 2 bs) fun ⟨cv, bs⟩ h2 => .bind (getNum_yields 2 bs) fun ⟨cm, bs⟩ h3 => ?_
  refine .bind (getNum_yields 1 bs) fun ⟨co, bs⟩ h4 => .bind (getNum_yields 1 bs) fun ⟨dc, bs⟩ h5 => ?_
  exact .bind (getNum_yields 1 bs) fun ⟨ac, bs⟩ h6 => .bind (getNum_yields 2 bs) fun ⟨_, bs⟩ _ =>
    .some ⟨h1, h2, h3, h4, h5, h6⟩

theorem readAll_yields {α : Type} {read : Bytes → Option (α × Bytes)} {p : α → Prop} (h : ∀ bs, Yields (read bs) fun y => p y.1)
    (bs : Bytes) : Yields (readAll read bs) p := by
  intro y hy
  unfold readAll at hy
  split at hy
  · next x hx => cases hy; exact h _ _ hx
  · cases hy

theorem getIndexed_yields {α : Type} {read : Bytes → Option (α × Bytes)} {p : α → Prop} (h : ∀ bs, Yields (read bs) fun y => p y.1)
    (bs : Bytes) : Yields (getIndexed read bs) fun y => p y.1.2 :=
  .bind (getNum_yields 1 bs) fun ⟨_, bs⟩ _ => .bind (h bs) fun ⟨_, _⟩ hx => .some hx

/-! ### Settings -/

theorem within_iff {lo hi x : Nat} : within lo hi x = true ↔ lo ≤ x ∧ x ≤ hi := by simp [within]

/-- A value in its range keeps the settings in theirs. -/
theorem writeSetting_inRange {v : Settings} {p : Nat × Nat} (hp : settingOk p = true) (hv : v.inRange) :
    (writeSetting v p).inRange := by
  unfold settingOk at hp
  rw [within_iff] at hp
  unfold writeSetting
  split <;> simp_all [Settings.inRange, settingRange]

theorem foldl_writeSetting_inRange {l : List (Nat × Nat)} {v : Settings} (hl : ∀ p ∈ l, settingOk p = true) (hv : v.inRange) :
    (l.foldl writeSetting v).inRange := by
  induction l generalizing v with
  | nil => exact hv
  | cons p l ih => exact ih (fun q hq => hl q (by simp [hq])) (writeSetting_inRange (hl p (by simp)) hv)

theorem defaultSettings_inRange (tick : TickPeriod) : (defaultSettings tick).inRange := by
  simp [Settings.inRange, defaultSettings]

/-! ### The checks of a write -/

/-- A valid entry that has passed its checks passes them under another settle reserve that is not below its standby. -/
theorem modelCheck_of_reserve {r r' : Nat} {m : ModelEntry} (h : modelCheck r m = .none) (hr : m.standby ≤ r') :
    modelCheck r' m = .none := by
  unfold modelCheck at h ⊢
  split at h
  · cases h
  · next h1 =>
    split at h
    · cases h
    · next h2 =>
      split at h
      · cases h
      · next h3 =>
        split at h
        · cases h
        · split at h
          · cases h
          · next h5 => rw [if_neg h1, if_neg h2, if_neg h3, if_neg (by omega), if_neg h5]

theorem standby_le_of_modelCheck {r : Nat} {m : ModelEntry} (h : modelCheck r m = .none) : m.standby ≤ r := by
  unfold modelCheck at h
  split at h
  · cases h
  · split at h
    · cases h
    · split at h
      · cases h
      · split at h
        · cases h
        · omega

theorem toBin_inRange {f : BinFields} {k g : Nat} {b : Bin} (h : f.toBin k g = some b) :
    b.inRange ∧ b.fill = k ∧ b.generation = g := by
  unfold BinFields.toBin at h
  split at h
  · cases h
  · split at h
    · next hw =>
      cases h
      simp only [Bool.and_eq_true, within_iff] at hw
      obtain ⟨⟨⟨⟨h1, h2⟩, h3⟩, h4⟩, h5⟩ := hw
      exact ⟨⟨h1.2, h2.2, h3.2, h4.2, h5.1, h5.2⟩, rfl, rfl⟩
    · cases h

theorem blankBin_inRange (i : Nat) : (blankBin i).inRange := by simp [Bin.inRange, blankBin]

theorem loadBin_inRange (i : Nat) (f : BinFields) : (loadBin i f).inRange ∧ (loadBin i f).fill = 0 := by
  unfold loadBin
  split
  · exact ⟨blankBin_inRange i, rfl⟩
  · next b hb =>
    obtain ⟨h1, h2, -⟩ := toBin_inRange hb
    split
    · exact ⟨h1, h2⟩
    · exact ⟨h1, h2⟩

theorem loadBin_kind {i : Nat} (hi : i % 8 = 7) (f : BinFields) : (loadBin i f).kind = .reject := by
  unfold loadBin
  split
  · simp [blankBin, hi]
  · simp [hi]

/-! ### The image -/

/-- What an image gives is what the Configuration Store keeps, with every count at 0 (R191). -/
structure Image.Sound (m : Image) : Prop where
  settings : m.settings.inRange
  target : 1000 ≤ m.target ∧ m.target ≤ 60000
  models : ∀ i : Fin 16, m.tables.models[i].storable
    ∧ (m.tables.models[i].valid = true → modelCheck m.settings.settleReserve m.tables.models[i] = .none)
  counts : ∀ i : Fin 16, m.tables.models[i].refCount = 0
  classify : ∀ i : Fin 64, m.tables.classify[i].storable
    ∧ (m.tables.classify[i].valid = true → classifyCheck m.tables.classify[i] = .none)
  defects : ∀ i : Fin 16, m.tables.defects[i].weight ≤ 1000
  bins : ∀ i : Fin 32, m.bins[i].inRange ∧ m.bins[i].fill = 0 ∧ (i.val % 8 = 7 → m.bins[i].kind = .reject)

theorem blankThresholds_storable : blankThresholds.storable := by simp [ThresholdSet.storable, blankThresholds]

theorem blankModel_storable : blankModel.storable := by
  simp [ModelEntry.storable, blankModel, blankThresholds_storable]

theorem blankImage_sound (tick : TickPeriod) : (blankImage tick).Sound where
  settings := defaultSettings_inRange tick
  target := by simp [blankImage, defaultTarget]
  models i := by simpa [blankImage] using ⟨blankModel_storable, by simp [blankModel]⟩
  counts i := by simp [blankImage, blankModel]
  classify i := by simp [blankImage, blankClassify, ClassifyEntry.storable]
  defects i := by simp [blankImage, blankDefect]
  bins i := by simpa [blankImage] using ⟨blankBin_inRange i, rfl, fun h => by simp [blankBin, h]⟩

theorem loadModel_sound {r : Nat} {m : ModelEntry} (h : m.storable) :
    (loadModel r m).storable ∧ ((loadModel r m).valid = true → modelCheck r (loadModel r m) = .none) := by
  refine ⟨h, fun hv => ?_⟩
  have hv' : m.valid = true ∧ modelCheck r m = .none := by simpa [loadModel] using hv
  exact hv'.2

theorem loadClassify_sound {e : ClassifyEntry} (h : e.storable) :
    (loadClassify e).storable ∧ ((loadClassify e).valid = true → classifyCheck (loadClassify e) = .none) := by
  refine ⟨h, fun hv => ?_⟩
  have hv' : e.valid = true ∧ classifyCheck e = .none := by simpa [loadClassify] using hv
  exact hv'.2

theorem loadDefect_weight (e : DefectEntry) : (loadDefect e).weight ≤ 1000 := by
  unfold loadDefect
  split
  · next h => exact (within_iff.1 h).2
  · exact Nat.zero_le _

/-- A place of a table that is read from a list of entries. -/
theorem getD_map_of_mem {α β : Type} {p : β → Prop} {l : List α} {f : α → β} {d : β} (k : Nat) (hl : ∀ x ∈ l, p (f x)) (hd : p d) :
    p ((l[k]?.map f).getD d) := by
  cases h : l[k]? with
  | none => exact hd
  | some x => exact hl x (List.mem_of_getElem? h)

theorem decodeImage_yields (tick : TickPeriod) (bs : Bytes) : Yields (decodeImage tick bs) Image.Sound := by
  refine .bind (p := fun _ => True) (fun _ _ => trivial) fun ⟨pairs, bs⟩ _ => .bind (getNum_yields 2 bs) fun ⟨target, bs⟩ _ => ?_
  refine .bind (getMany_yields (p := fun m => m.storable ∧ m.refCount = 0) getModel_yields 16 bs) fun ⟨models, bs⟩ hm => ?_
  refine .bind (getMany_yields (p := ClassifyEntry.storable) getClassify_yields 64 bs) fun ⟨classify, bs⟩ hc => ?_
  refine .bind (p := fun _ => True) (fun _ _ => trivial) fun ⟨defects, bs⟩ _ => ?_
  refine .bind (p := fun _ => True) (fun _ _ => trivial) fun ⟨bins, bs⟩ _ => ?_
  refine .bind (p := fun _ => True) (fun _ _ => trivial) fun ⟨indicators, bs⟩ _ => ?_
  intro y hy
  dsimp only at hy
  split at hy
  · cases hy
    constructor
    case settings =>
      exact foldl_writeSetting_inRange (fun p hp => (List.mem_filter.1 hp).2) (defaultSettings_inRange tick)
    case target =>
      dsimp only
      split
      · next h => exact within_iff.1 h
      · simp [defaultTarget]
    case models =>
      intro i
      simp only [Fin.getElem_fin, Vector.getElem_ofFn]
      exact getD_map_of_mem (p := fun m : ModelEntry => m.storable ∧ (m.valid = true → modelCheck _ m = .none)) i.val
        (fun m hm' => loadModel_sound (hm.2 m hm').1) ⟨blankModel_storable, by simp [blankModel]⟩
    case counts =>
      intro i
      simp only [Fin.getElem_fin, Vector.getElem_ofFn]
      exact getD_map_of_mem (p := fun m : ModelEntry => m.refCount = 0) i.val (fun m hm' => (hm.2 m hm').2) rfl
    case classify =>
      intro i
      simp only [Fin.getElem_fin, Vector.getElem_ofFn]
      exact getD_map_of_mem (p := fun m : ClassifyEntry => m.storable ∧ (m.valid = true → classifyCheck m = .none)) i.val
        (fun m hm' => loadClassify_sound (hc.2 m hm')) (show _ ∧ (blankClassify.valid = true → _) by
          simp [blankClassify, ClassifyEntry.storable])
    case defects =>
      intro i
      simp only [Fin.getElem_fin, Vector.getElem_ofFn]
      exact getD_map_of_mem (p := fun m : DefectEntry => m.weight ≤ 1000) i.val (fun m _ => loadDefect_weight m) (Nat.zero_le _)
    case bins =>
      intro i
      simp only [Fin.getElem_fin, Vector.getElem_ofFn]
      exact getD_map_of_mem (p := fun b : Bin => b.inRange ∧ b.fill = 0 ∧ (i.val % 8 = 7 → b.kind = .reject)) i.val
        (fun f _ => ⟨(loadBin_inRange i f).1, (loadBin_inRange i f).2, fun h => loadBin_kind h f⟩)
        ⟨blankBin_inRange i, rfl, fun h => by simp [blankBin, h]⟩
  · cases hy

theorem readFlash_yields (answers : Bool) (flash : Option Bytes) (tick : TickPeriod) :
    Yields (readFlash answers flash tick) Image.Sound := by
  intro y hy
  unfold readFlash at hy
  split at hy
  · cases hy
  · split at hy
    · exact decodeImage_yields _ _ y hy
    · cases hy

end Sys2Proof.Machine
end

section
/-! SUPPORT. The resets, the save and the part requests uphold the invariants (chapters 9 and 11). -/

namespace Sys2Proof.Machine

/-! ### The resets -/

/-- The blocks as a reset starts them, before their lamps and events follow. -/
def clearedBlocks (cause : RestartCause) (warning : Bool) (now : Nat) (store : Store) (tables : Tables)
    (sort : SortUnit) (port : Port) (s : State) : State :=
  { s with now := now
           lampStart := now
           tickAt := now + tickMs store.settings.tickPeriod
           slots := s.slots.map (resetSlot now store.settings.resetRundown store.settings.settleTime)
           port := port
           tables := tables
           power := resetPower warning now store.settings.restoreDelay
           sort := sort
           notices := resetNotices cause
           store := store
           transit := { quarantines := [], calibrations := [], handOvers := [] } }

theorem startBlocks_eq (cause : RestartCause) (warning : Bool) (now : Nat) (store : Store) (tables : Tables)
    (sort : SortUnit) (port : Port) (s : State) :
    startBlocks cause warning now store tables sort port s =
      let t := raisePart .restarted (forSlots relamp (clearedBlocks cause warning now store tables sort port s))
      if warning then raiseSupplyWarn t else t := rfl

theorem clearedBlocks_slot (cause : RestartCause) (warning : Bool) (now : Nat) (store : Store) (tables : Tables)
    (sort : SortUnit) (port : Port) (s : State) (n : SlotId) :
    (clearedBlocks cause warning now store tables sort port s).slot n
      = resetSlot now store.settings.resetRundown store.settings.settleTime (s.slot n) := by
  simp [clearedBlocks, State.slot]

/-- A slot after a reset: nothing is recorded of it, and it is EMPTY or SETTLING with the latch LOCKED and power OFF. -/
theorem resetSlot_agrees (now r k : Nat) (x : Slot) :
    (resetSlot now r k x).linesAgree ∧ (resetSlot now r k x).phaseAgrees ∧ (resetSlot now r k x).unboundAgrees
      ∧ (resetSlot now r k x).commandsAgree := by
  refine ⟨⟨nofun, fun _ _ => rfl, fun _ => rfl⟩, phaseAgrees_of_reason rfl ?_, ⟨fun _ => rfl, fun _ _ => rfl⟩,
    commandsAgree_empty rfl rfl rfl⟩
  simp only [resetSlot]
  split <;> simp

theorem clearedBlocks_upholds (h : InHand) (cause : RestartCause) (warning : Bool) (now : Nat) {store : Store} {tables : Tables}
    {sort : SortUnit} {port : Port} {s : State} (hport : port.requests = []) (hwait : sort.waiting = [])
    (hcount : ∀ i : Fin 16, tables.models[i].refCount = 0) (hsort : s.sortAgrees → State.sortAgrees { s with sort := sort })
    (hstore : s.storable → State.storable { s with store := store, tables := tables, sort := sort }) :
    Upholds h s (clearedBlocks cause warning now store tables sort port s) := by
  have hsl := clearedBlocks_slot cause warning now store tables sort port s
  have hr := fun n => resetSlot_agrees now store.settings.resetRundown store.settings.settleTime (s.slot n)
  constructor
  case pending => rfl
  case queues => exact fun _ => ⟨by simp [clearedBlocks, hport], fun n => by rw [hsl]; exact Nat.zero_le _⟩
  case notices =>
    refine fun _ => ⟨Nat.zero_le _, List.nodup_nil, fun o => ?_⟩
    cases o with
    | part => simp [noticeStateOf, sourceEmpty, unmaskedPart, clearedBlocks, resetNotices]
    | slot n => simp [noticeStateOf, sourceEmpty, unmaskedSlot, hsl, resetSlot, clearedSlot]; simp [clearedBlocks, resetNotices]
  case admission => exact fun _ => List.nodup_nil
  case commands => exact fun n _ => by rw [hsl]; exact (hr n).2.2.2
  case sort => exact hsort
  case store => exact hstore
  case budget =>
    intro _ _
    have : allocationSum (clearedBlocks cause warning now store tables sort port s) = 0 := by
      simp [allocationSum, clearedBlocks, Vector.toList_map, Function.comp_def, resetSlot, clearedSlot]
    simp [State.withinBudget, this]
  case lives =>
    refine fun a => ⟨a.followed, fun n => ?_, fun n _ => ?_, fun e he => ?_, fun w hw => ?_⟩
    · rw [hsl]; exact (hr n).1
    · rw [hsl]; exact (hr n).2.1
    · cases he
    · rw [show (clearedBlocks cause warning now store tables sort port s).sort.waiting = [] from hwait] at hw
      cases hw
  case bindings =>
    refine fun _ _ => ⟨fun i => ?_, fun n _ => ?_⟩
    · refine (hcount i).trans (Eq.symm ?_)
      simp [hsl, resetSlot, clearedSlot]
    · rw [hsl]; exact (hr n).2.2.1

theorem forSlots_upholds {h : InHand} {f : SlotId → State → State} (hf : ∀ n s, Upholds h s (f n s)) (s : State) :
    Upholds h s (forSlots f s) :=
  Upholds.foldl (fun s n => hf n s) ..

theorem startBlocks_upholds (h : InHand) (cause : RestartCause) (warning : Bool) (now : Nat) {store : Store} {tables : Tables}
    {sort : SortUnit} {port : Port} {s : State} (hport : port.requests = []) (hwait : sort.waiting = [])
    (hcount : ∀ i : Fin 16, tables.models[i].refCount = 0) (hsort : s.sortAgrees → State.sortAgrees { s with sort := sort })
    (hstore : s.storable → State.storable { s with store := store, tables := tables, sort := sort }) :
    Upholds h s (startBlocks cause warning now store tables sort port s) := by
  have h1 := ((clearedBlocks_upholds h cause warning now hport hwait hcount hsort hstore).trans
    (forSlots_upholds (relamp_upholds _) _)).trans (raisePart_upholds _ .restarted _)
  rw [startBlocks_eq]
  exact Upholds.ite (fun _ => h1.trans (raiseSupplyWarn_upholds ..)) fun _ => h1

theorem Image.Sound.bin {m : Image} (a : m.Sound) (s : State) (set : Fin 4) (p : Fin 8) :
    (State.bin { s with sort.bins := m.bins } set p).inRange ∧ (State.bin { s with sort.bins := m.bins } set p).fill = 0
      ∧ (p = 7 → (State.bin { s with sort.bins := m.bins } set p).kind = .reject) := by
  obtain ⟨h1, h2, h3⟩ := a.bins (binIndex set p)
  refine ⟨h1, h2, ?_⟩
  rintro rfl
  exact h3 (by simp only [binIndex]; omega)

theorem powerOn_upholds (h : InHand) (straps : BitVec 8) (warning answers : Bool) (s : State) :
    Upholds h s (powerOn straps warning answers s) := by
  have himage := readFlash_yields answers s.store.flash (tickDefault straps)
  unfold powerOn
  extract_lets image chosen store sort t
  have hchosen : chosen.Sound := by
    show Image.Sound (if _ then _ else _)
    split
    · cases hi : image with
      | none => exact blankImage_sound _
      | some m => exact himage m hi
    · exact blankImage_sound _
  have hbin := hchosen.bin s
  have ht : Upholds h s t := by
    refine Upholds.trans (t := { s with sent := [] }) (.of_read rfl) (startBlocks_upholds h .powerOn warning 0 rfl rfl hchosen.counts
      (fun _ => ?_) fun _ => ?_)
    · exact ⟨Nat.zero_le _, List.Pairwise.nil, nofun, List.nodup_nil, fun set p => (hbin set p).2.1 ▸ Nat.zero_le _,
        fun set => (hbin set 7).2.2 rfl⟩
    · exact ⟨hchosen.settings, hchosen.target, hchosen.models, hchosen.classify, hchosen.defects, fun set p => (hbin set p).1,
        fun set => (hbin set 7).2.2 rfl⟩
  have h1 := ht.trans (Upholds.ite (h := h) (c := strapsInvalid straps = true) (fun _ => raisePart_upholds h .strapInvalid _)
    fun _ => .refl ..)
  exact (h1.trans (Upholds.ite (fun _ => raisePart_upholds ..) fun _ => .refl ..)).trans (arbitrate_upholds ..)

theorem softReset_upholds (h : InHand) (s : State) : Upholds h s (softReset s) := by
  unfold softReset
  extract_lets _ port
  refine Upholds.trans ?_ (arbitrate_upholds ..)
  have hport : port.requests = [] := rfl
  refine startBlocks_upholds h .requested s.power.warning s.now hport rfl (fun i => ?_) (fun a => ⟨a.1, a.2⟩) fun a => ?_
  · simp [resetCounts]
  · refine ⟨a.1, a.2.1, fun i => ?_, fun i => ?_, a.2.2.2.2⟩
    · simp only [resetCounts, Fin.getElem_fin, Vector.getElem_map]; exact a.2.2.1 i
    · simp only [resetCounts, Fin.getElem_fin, Vector.getElem_map]; exact a.2.2.2.1 i

/-! ### The save -/

theorem beginSave_upholds (h : InHand) (s : State) : Upholds h s (beginSave s) := .of_read rfl

theorem saveStage_upholds (h : InHand) (a b : SaveStage) (s : State) : Upholds h s (saveStage a b s) := by
  unfold saveStage
  split
  · exact Upholds.ite (fun _ => .of_read rfl) fun _ => .refl ..
  · exact .refl ..

theorem saveGood_upholds (h : InHand) (v : Save) (s : State) : Upholds h s (saveGood v s) :=
  Upholds.trans (t := { s with store := { s.store with image := .good, flash := some v.image, save := none } })
    (.of_read rfl) (raisePart_upholds ..)

theorem saveBad_upholds (h : InHand) (s : State) : Upholds h s (saveBad s) :=
  Upholds.trans (t := { s with store := { s.store with image := .bad, flash := none, save := none } })
    (.of_read rfl) (raisePart_upholds ..)

/-! ### Taking and answering a request -/

theorem answer_upholds (h : InHand) (q : QueuedRequest) (st : ReplyStatus) (r : RefusalReason) (v : Results) (s : State) :
    Upholds h s (answer q st r v s) := pushReply_upholds ..

theorem answerOk_upholds (h : InHand) (q : QueuedRequest) (v : Results) (s : State) : Upholds h s (answerOk q v s) :=
  answer_upholds ..

theorem refuse_upholds (h : InHand) (q : QueuedRequest) (st : ReplyStatus) (s : State) : Upholds h s (refuse q st s) :=
  answer_upholds ..

theorem refuseTable_upholds (h : InHand) (q : QueuedRequest) (r : RefusalReason) (s : State) : Upholds h s (refuseTable q r s) :=
  answer_upholds ..

theorem refuseState_upholds (h : InHand) (q : QueuedRequest) (a b : Nat) (x : Slot) (s : State) :
    Upholds h s (refuseState q a b x s) := answer_upholds ..

theorem serveHead_upholds {h : InHand} {mine : QueuedRequest → Bool} {f : QueuedRequest → State → State}
    (hf : ∀ q s, Upholds h s (f q s)) (s : State) : Upholds h s (serveHead mine f s) := by
  unfold serveHead
  split
  · next q rest _ hq =>
    refine Upholds.ite (fun _ => ((Upholds.of_requests fun hl => ?_).trans (hf q _)).trans (finish_upholds ..)) fun _ => .refl ..
    rw [hq, List.length_cons] at hl
    omega
  · exact .refl ..

theorem withOperands_upholds {h : InHand} {α : Type} {read : Bytes → Option α} {q : QueuedRequest} {f : α → State → State}
    {s : State} (hf : ∀ v, read q.operands = some v → Upholds h s (f v s)) : Upholds h s (withOperands read q f s) := by
  unfold withOperands
  split
  · exact refuse_upholds ..
  · next v hv => exact hf v hv

theorem unlessSaving_upholds {h : InHand} {q : QueuedRequest} {f : State → State} {s : State} (hf : Upholds h s (f s)) :
    Upholds h s (unlessSaving q f s) := Upholds.ite (fun _ => refuse_upholds ..) fun _ => hf

theorem withSlot_upholds {h : InHand} {n : Nat} {q : QueuedRequest} {f : SlotId → State → State} {s : State}
    (hf : ∀ m, Upholds h s (f m s)) : Upholds h s (withSlot n q f s) := by
  unfold withSlot
  split
  · exact hf _
  · exact refuse_upholds ..

theorem withIndex_upholds {h : InHand} {b i : Nat} {q : QueuedRequest} {f : Fin b → State → State} {s : State}
    (hf : ∀ m, Upholds h s (f m s)) : Upholds h s (withIndex b i q f s) := by
  unfold withIndex
  split
  · exact hf _
  · exact refuse_upholds ..

/-! ### The part requests -/

theorem discover_upholds (h : InHand) (q : QueuedRequest) (s : State) : Upholds h s (discover q s) :=
  Upholds.ite (fun _ => answer_upholds ..) fun _ => answerOk_upholds ..

theorem readPart_upholds (h : InHand) (q : QueuedRequest) (s : State) : Upholds h s (readPart q s) := by
  refine Upholds.trans (answerOk_upholds h q (.partStatus (partStatus s)) s)
    (settleNotice_upholds (src := .part) rfl rfl (fun o => ?_) (fun o ho => ?_) ?_)
  · cases o <;> rfl
  · cases o
    · exact absurd rfl ho
    · rfl
  · simp [sourceEmpty, unmaskedPart]

theorem resetPart_upholds (h : InHand) (q : QueuedRequest) (s : State) : Upholds h s (resetPart q s) :=
  Upholds.trans (answerOk_upholds h q .empty s) (.of_read rfl)

/-! ### Settings and budget -/

/-- A change of the settings that leaves the event mask. -/
theorem Upholds.of_settings {h : InHand} {s : State} {v : Settings} (hm : v.eventMask = s.store.settings.eventMask)
    (hv : s.storable → v.inRange ∧ ∀ i : Fin 16, s.tables.models[i].valid = true → s.tables.models[i].standby ≤ v.settleReserve) :
    Upholds h s { s with store := { s.store with settings := v } } where
  pending := rfl
  queues := id
  notices a := by
    have hs : ∀ o, sourceEmpty { s with store := { s.store with settings := v } } o = sourceEmpty s o := fun o => by
      cases o <;> simp only [sourceEmpty, unmaskedPart, unmaskedSlot, hm] <;> rfl
    have hn : ∀ o, noticeStateOf { s with store := { s.store with settings := v } } o = noticeStateOf s o := fun o => by
      cases o <;> rfl
    simpa only [State.noticesAgree, hs, hn] using a
  admission := id
  commands _ := id
  sort := id
  store a := ⟨(hv a).1, a.2.1, fun i => ⟨(a.2.2.1 i).1, fun hi => modelCheck_of_reserve ((a.2.2.1 i).2 hi) ((hv a).2 i hi)⟩, a.2.2.2⟩
  budget _ := id
  lives a := { a with }
  bindings _ a := { a with }

/-- The settle reserve that a list of writes leaves is the old one or one of the list. -/
theorem foldl_writeSetting_reserve (l : List (Nat × Nat)) (v : Settings) :
    (l.foldl writeSetting v).settleReserve = v.settleReserve ∨ ∃ p ∈ l, p.1 = 2 ∧ (l.foldl writeSetting v).settleReserve = p.2 := by
  induction l generalizing v with
  | nil => exact .inl rfl
  | cons p l ih =>
    obtain h | ⟨q, hq, h⟩ := ih (writeSetting v p)
    · by_cases h2 : p.1 = 2
      · refine .inr ⟨p, by simp, h2, h.trans ?_⟩
        simp [writeSetting, h2]
      · refine .inl (h.trans ?_)
        unfold writeSetting
        split
        case h_2 e => exact absurd e h2
        all_goals rfl
    · exact .inr ⟨q, by simp [hq], h⟩

theorem settingsCheck_none {s : State} {pairs : List (Nat × Nat)} (h : settingsCheck s pairs = .none) :
    (∀ p ∈ pairs, settingOk p = true) ∧ ∀ p ∈ pairs, p.1 = 2 → ∀ i : Fin 16, s.tables.models[i].valid = true →
      s.tables.models[i].standby ≤ p.2 := by
  unfold settingsCheck at h
  split at h
  · cases h
  · next h1 =>
    split at h
    · cases h
    · next h2 =>
      refine ⟨by simpa using h1, fun p hp hp2 i hi => ?_⟩
      have h3 : belowStandby s p.2 = false := by
        rw [Bool.eq_false_iff]
        exact fun hb => h2 (List.any_eq_true.2 ⟨p, hp, by simp [hp2, hb]⟩)
      unfold belowStandby at h3
      rw [List.any_eq_false] at h3
      have := h3 s.tables.models[i] (Array.getElem_mem_toList _)
      simp only [Bool.and_eq_true, decide_eq_true_eq, not_and, not_lt] at this
      exact this hi

theorem putSettings_upholds {h : InHand} {pairs : List (Nat × Nat)} {s : State} (hc : settingsCheck s pairs = .none) :
    Upholds h s (putSettings pairs s) := by
  obtain ⟨hok, hres⟩ := settingsCheck_none hc
  unfold putSettings
  extract_lets new _ s1 s2
  have h1 : Upholds h s s1 := by
    refine .of_settings rfl fun a => ⟨foldl_writeSetting_inRange hok a.1, fun i hi => ?_⟩
    obtain e | ⟨p, hp, hp2, e⟩ := foldl_writeSetting_reserve pairs s.store.settings
    · exact e ▸ standby_le_of_modelCheck ((a.2.2.1 i).2 hi)
    · exact e ▸ hres p hp hp2 i hi
  have h2 : Upholds h s s2 := h1.trans (changeMask_upholds ..)
  exact Upholds.ite (fun _ => h2.trans (.of_read rfl)) fun _ => h2

theorem writeList_upholds (h : InHand) (q : QueuedRequest) (pairs : List (Nat × Nat)) (s : State) :
    Upholds h s (writeList q pairs s) := by
  unfold writeList
  split
  · next hc => exact (putSettings_upholds hc).trans (answerOk_upholds ..)
  · exact refuseTable_upholds ..

/-- A target in range replaces the target; it may fall below the sum of the allocations. -/
theorem putTarget_upholds {h : InHand} (hh : h.target = true) (q : QueuedRequest) (target : Nat) (s : State) :
    Upholds h s (putTarget q target s) := by
  refine Upholds.ite (fun ht => Upholds.trans ?_ (answerOk_upholds ..)) fun _ => refuseTable_upholds ..
  exact
    { pending := rfl, queues := id, notices := id, admission := id, commands := fun _ => id, sort := id
      store := fun a => ⟨a.1, within_iff.1 ht, a.2.2⟩
      budget := fun hf => by rw [hh] at hf; cases hf
      lives := fun a => { a with }, bindings := fun _ a => { a with } }

end Sys2Proof.Machine
end

section
/-! SUPPORT. Recovery episodes and captures uphold the invariants (chapters 2 and 3). -/

namespace Sys2Proof.Machine

/-! ### Recovery episodes -/

theorem SlotKeepsBut.state_eq {ch : List SlotGroup} {x y : Slot} (h : SlotKeepsBut ch x y) (hc : .state ∉ ch) :
    y.state = x.state := h.same .state hc

theorem SlotKeepsBut.recovery_eq {ch : List SlotGroup} {x y : Slot} (h : SlotKeepsBut ch x y) (hc : .recovery ∉ ch) :
    y.recovery = x.recovery := h.same .recovery hc

theorem SlotKeepsBut.reason_eq {ch : List SlotGroup} {x y : Slot} (h : SlotKeepsBut ch x y) (hc : .reason ∉ ch) :
    y.grading.reason = x.grading.reason := h.same .reason hc

theorem SlotKeepsBut.model_eq {ch : List SlotGroup} {x y : Slot} (h : SlotKeepsBut ch x y) (hc : .identity ∉ ch) :
    y.identity.model = x.identity.model := (h.same .identity hc).2.1

theorem partCount_slot (n : SlotId) (c : Fin 16) (s : State) :
    SlotKeepsBut [.tallies, .events, .notice] (s.slot n) ((partCount n c s).slot n) :=
  ((tally_slot_keeps n c s).mono (by simp)).trans ((noteDefect_slot_keeps ..).mono (by simp))

theorem beginAttempt_upholds (h : InHand) (n : SlotId) (s : State) : Upholds h s (beginAttempt n s) :=
  (modSlot_upholds (f := fun x => { x with recovery := { x.recovery with
    attempts := x.recovery.attempts + 1, wait := some (s.now + Config.linkReadyWaitMs) } })).trans (sendLink_upholds ..)

theorem emptyInjections_upholds (h : InHand) (n : SlotId) (s : State) : Upholds h s (emptyInjections n s) :=
  (lapseHeld_upholds h n s).trans modSlot_upholds

theorem emptyInjections_slot (n : SlotId) (s : State) :
    SlotKeepsBut [.injections, .spindle, .allocation, .identity] (s.slot n) ((emptyInjections n s).slot n) := by
  refine SlotKeepsBut.trans ((lapseHeld_slot n s).mono (by simp)) (modSlot_slot ⟨fun g hg => ?_⟩)
  cases g <;> simp_all [slotSameIn]

/-- A slot in a state that allows a recovery has its latch LOCKED, holds no SLOT_POWER entry and waits for no room. -/
theorem allowsRecovery_iff (st : SlotState) :
    st.allowsRecovery = true ↔ st ∈ [SlotState.identifying, .unmatched, .ready, .calibrating, .burning] := by
  cases st <;> decide

/-- What `beginEpisode` does before the slot moves to RECOVERING. -/
def leaveForRecovery (n : SlotId) (r : RecoveryReason) (s : State) : State :=
  let from_ := (s.slot n).state
  let s := modSlot n (fun x =>
    { x with recovery := { x.recovery with lastReason := some r, resume := some from_, attempts := 0 } }) s
  let s := clearTable n (answerInFlight n .recovery s)
  raiseSlot n .recovery (dropAdmission n (emptyInjections n s))

theorem beginEpisode_eq (n : SlotId) (r : RecoveryReason) (s : State) :
    beginEpisode n r s = beginAttempt n (setState n .recovering (leaveForRecovery n r s)) := rfl

theorem lapseHeld_model (n : SlotId) (s : State) : ((lapseHeld n s).slot n).identity.model = (s.slot n).identity.model := by
  unfold lapseHeld
  split
  · rfl
  · rw [followFigure_slot_same]
    have hm : ∀ x : Slot, (applyPending x).identity.model = x.identity.model := fun x => (applyPending_still x).model
    split <;> simp [hm, unlist]

theorem emptyInjections_model (n : SlotId) (s : State) :
    ((emptyInjections n s).slot n).identity.model = (s.slot n).identity.model := by
  rw [emptyInjections, slot_modSlot_same, ← lapseHeld_model n s]

theorem leaveForRecovery_slot (n : SlotId) (r : RecoveryReason) (s : State) :
    ((leaveForRecovery n r s).slot n).state = (s.slot n).state
      ∧ ((leaveForRecovery n r s).slot n).recovery.resume = some (s.slot n).state
      ∧ ((leaveForRecovery n r s).slot n).identity.model = (s.slot n).identity.model := by
  unfold leaveForRecovery
  extract_lets st t u
  have h1 : (t.slot n).state = (s.slot n).state ∧ (t.slot n).recovery.resume = some (s.slot n).state
      ∧ (t.slot n).identity.model = (s.slot n).identity.model := by
    simp only [t, slot_modSlot_same]; exact ⟨trivial, rfl, trivial⟩
  have ha : (answerInFlight n .recovery t).slot n = t.slot n := (answerInFlight_keeps n .recovery t).slot_eq (by simp)
  have h2 : (u.slot n).state = (t.slot n).state ∧ (u.slot n).recovery = (t.slot n).recovery
      ∧ (u.slot n).identity.model = (t.slot n).identity.model := by
    have hc := clearTable_slot n (answerInFlight n .recovery t)
    rw [ha] at hc
    exact ⟨hc.state_eq (by simp), hc.recovery_eq (by simp), hc.model_eq (by simp)⟩
  have he := emptyInjections_slot n u
  have hm := emptyInjections_model n u
  have hd : SlotKeepsBut [.reserved, .events, .notice] _ _ := ((dropAdmission_slot n (emptyInjections n u)).mono (by simp)).trans
    ((raiseSlot_slot_keeps n .recovery (dropAdmission n (emptyInjections n u))).mono (by simp))
  generalize raiseSlot n .recovery (dropAdmission n (emptyInjections n u)) = w at *
  refine ⟨?_, ?_, ?_⟩
  · rw [hd.state_eq (by simp), he.state_eq (by simp), h2.1, h1.1]
  · rw [hd.recovery_eq (by simp), he.recovery_eq (by simp), h2.2.1, h1.2.1]
  · rw [hd.model_eq (by simp), hm, h2.2.2, h1.2.2]

theorem leaveForRecovery_upholds {h : InHand} {n : SlotId} {s : State} (r : RecoveryReason)
    (hs : (s.slot n).state.allowsRecovery = true) : Upholds h s (leaveForRecovery n r s) := by
  have hr : (s.slot n).state ≠ .recovering := by intro e; rw [e] at hs; cases hs
  unfold leaveForRecovery
  extract_lets st t u
  have h1 : Upholds h s t := .of_slot ⟨id, id, rfl, rfl⟩ (fun _ hb => Nat.add_le_add_right hb _)
    (fun a => ⟨a.lines n, fun hn => ⟨fun e => absurd e hr, (a.phases n hn).2⟩, .inl rfl⟩)
    fun _ b => ⟨rfl, fun hn => ⟨(b.unbound n hn).1, fun e => absurd e hr⟩⟩
  have h2 : Upholds h s u := (h1.trans (answerInFlight_upholds ..)).trans (clearTable_upholds ..)
  exact ((h2.trans (emptyInjections_upholds ..)).trans (dropAdmission_upholds ..)).trans (raiseSlot_upholds ..)

theorem beginEpisode_upholds {h : InHand} {n : SlotId} {s : State} (r : RecoveryReason)
    (hs : (s.slot n).state.allowsRecovery = true) : Upholds h s (beginEpisode n r s) := by
  obtain ⟨hst, hres, hmod⟩ := leaveForRecovery_slot n r s
  rw [beginEpisode_eq]
  refine ((leaveForRecovery_upholds r hs).trans (setState_upholds (fun a => ?_) fun a b hn => ⟨by simp, fun _ hr => ?_⟩)).trans
    (beginAttempt_upholds ..)
  · have hs' := hs
    rw [← hst] at hs'
    generalize leaveForRecovery n r s = t at *
    refine ⟨linesAgree_locked (x := t.slot n) (a.locked (n := n) ?_ ?_) rfl rfl (by simp) (a.lines n), fun hn =>
      ⟨fun _ => ⟨_, (allowsRecovery_iff _).1 hs, hres⟩, fun hr => absurd (a.reason_none hn ?_) hr⟩,
      ⟨fun e he hk hen => absurd hen (a.no_entry ?_ e he hk), fun w hw hwn => absurd hwn (a.not_waiting ?_ w hw)⟩⟩
    · intro e; rw [e] at hs'; cases hs'
    · intro e; rw [e] at hs'; cases hs'
    · obtain ⟨e, he⟩ : ∃ e, e = (t.slot n).state := ⟨_, rfl⟩
      rw [← he] at hs' ⊢
      cases e <;> simp_all [SlotState.allowsRecovery, SlotState.pastTest]
    · intro e; rw [e] at hs'; cases hs'
    · intro e; rw [e] at hs'; cases hs'
  · have hu := b.unbound n hn
    refine hu.1 ?_
    rw [hst]
    rw [show (leaveForRecovery n r s |>.slot n).recovery.resume = _ from hres] at hr
    obtain e | e := hr <;> rw [Option.some.inj e] <;> simp

theorem startRecovery_upholds {h : InHand} (hh : h.life = none) (n : SlotId) (r : RecoveryReason) (s : State) :
    Upholds h s (startRecovery n r s) := by
  refine Upholds.ite (fun _ => .refl ..) fun hs => Upholds.ite (fun _ => takeQuarantine_upholds hh ..) fun _ =>
    beginEpisode_upholds r (by simpa using hs)

theorem refillInjections_upholds (h : InHand) (n : SlotId) (s : State) : Upholds h s (refillInjections n s) := by
  unfold refillInjections
  dsimp only
  have h1 : Upholds h s (if (s.slot n).state = .identifying then inject n (bareInjection .identify) s else s) :=
    Upholds.ite (fun _ => inject_upholds ..) fun _ => .refl ..
  split
  · exact h1.trans (inject_upholds ..)
  · exact h1.trans (injectOrphan_upholds ..)
  · exact h1
  · exact h1

/-- A slot in RECOVERING goes back to its resume state. -/
theorem resume_upholds {h : InHand} {n : SlotId} {s : State} (hh : h.life = none) (hs : (s.slot n).state = .recovering) :
    Upholds h s (setState n (((s.slot n).recovery.resume).getD .ready) (endEpisode n s)) := by
  unfold endEpisode
  rw [setState_modSlot]
  refine Upholds.trans (.of_slot ⟨id, id, rfl, rfl⟩ (fun _ hb => Nat.add_le_add_right hb _) (fun a => ?_) fun a b => ⟨rfl, fun hn => ?_⟩)
    (relamp_upholds ..)
  · have hn : h.life ≠ some n := by simp [hh]
    obtain ⟨st, hm, hst⟩ := (a.phases n hn).1 hs
    have hr := a.reason_none hn (by rw [hs]; rfl)
    have hallow := (allowsRecovery_iff st).2 hm
    rw [hst]
    refine ⟨linesAgree_locked (x := s.slot n) (a.locked (n := n) (by simp [hs]) (by simp [hs])) rfl rfl ?_ (a.lines n),
      fun _ => phaseAgrees_of_reason hr ?_, .inr ⟨fun e he hk hn => absurd hn (a.no_entry (by simp [hs]) e he hk),
        fun w hw hn => absurd hn (a.not_waiting (by simp [hs]) w hw)⟩⟩
    · intro hmem
      simp only [Option.getD_some, List.mem_cons, List.not_mem_nil, or_false] at hmem
      obtain e | e | e | e := hmem <;> rw [e] at hallow <;> cases hallow
    · intro e
      simp only [Option.getD_some] at e
      rw [e] at hallow; cases hallow
  · obtain ⟨st, hm, hst⟩ := (a.phases n (by simp [hh])).1 hs
    rw [hst]
    refine ⟨fun hmem => ?_, fun e => ?_⟩
    · refine (b.unbound n hn).2 hs ?_
      rw [hst]
      simp only [Option.getD_some, List.mem_cons, List.not_mem_nil, or_false] at hmem hm
      obtain e | e | e | e | e := hmem <;> simp [e] at hm ⊢
    · simp

theorem recoverySuccess_upholds {h : InHand} {n : SlotId} {s : State} (hh : h.life = none) (hs : (s.slot n).state = .recovering) :
    Upholds h s (recoverySuccess n s) := by
  have hc : ∀ x : Slot, SlotKeepsBut [.tallies, .recovery] x (countEpisode x) := fun x =>
    ⟨fun g hg => by cases g <;> simp_all [slotSameIn, countEpisode]⟩
  have hk := partCount_slot n 15 (modSlot n countEpisode s)
  have hst : ((partCount n 15 (modSlot n countEpisode s)).slot n).state = .recovering := by
    rw [hk.same .state (by simp), slot_modSlot_same]; exact hs
  have hres : ((partCount n 15 (modSlot n countEpisode s)).slot n).recovery.resume = (s.slot n).recovery.resume := by
    rw [hk.recovery_eq (by simp), slot_modSlot_same]; rfl
  have h1 : Upholds h s (partCount n 15 (modSlot n countEpisode s)) :=
    Upholds.trans (t := modSlot n countEpisode s) modSlot_upholds (partCount_upholds ..)
  unfold recoverySuccess
  dsimp only
  rw [← hres]
  exact (((h1.trans (resume_upholds hh hst)).trans (refillInjections_upholds ..)).trans (shedCheck_upholds ..)).trans
    (serveSlot_upholds ..)

theorem identifyFailed_upholds {h : InHand} (hh : h.life = none) (n : SlotId) (r : RecoveryReason)
    (s : State) : Upholds h s (identifyFailed n r s) :=
  Upholds.ite (fun _ => takeQuarantine_upholds hh ..) fun _ =>
    Upholds.trans (t := modSlot n (fun x => { x with identity.retryMark := true }) s) modSlot_upholds (startRecovery_upholds hh ..)

/-! ### Captures -/

theorem keepRecord_upholds (h : InHand) (n : SlotId) (r : IdentityRecord) (s : State) : Upholds h s (keepRecord n r s) :=
  modSlot_upholds

theorem noteOutcome_upholds (h : InHand) (n : SlotId) (o : IdentifyOutcome) (s : State) : Upholds h s (noteOutcome n o s) :=
  modSlot_upholds

theorem captureQuarantine_upholds {h : InHand} (hh : h.life = none) (n : SlotId) (r : QuarantineReason) (s : State) :
    Upholds h s (captureQuarantine n r s) :=
  Upholds.ite (fun _ => takeQuarantine_upholds hh ..) fun _ => sendQuarantine_upholds ..

theorem checkMismatch_upholds {h : InHand} (hh : h.life = none) (n : SlotId) (s : State) : Upholds h s (checkMismatch n s) :=
  Upholds.ite (fun _ => captureQuarantine_upholds hh ..) fun _ => .refl ..

theorem computeAndCheck_upholds {h : InHand} (hh : h.life = none) (n : SlotId) (s : State) : Upholds h s (computeAndCheck n s) :=
  (computeIdentity_upholds ..).trans (checkMismatch_upholds hh ..)

/-- A quarantine taken before GRADING brings the slot there. -/
theorem takeQuarantine_state {n : SlotId} {s : State} (r : QuarantineReason) (hs : (s.slot n).state.beforeGrading = true)
    (hr : (s.slot n).grading.reason = none) : ((takeQuarantine n r s).slot n).state = .grading := by
  have hd : quarantineDiscarded (s.slot n) = false := by
    cases e : (s.slot n).state <;> simp_all [quarantineDiscarded, SlotState.beforeGrading]
  unfold takeQuarantine
  rw [if_neg (by simp [hd])]
  have hst := recordReason_state n r s
  change ((match ((recordReason n r s).slot n).state with
    | .powerWait | .identifying | .unmatched | .ready | .calibrating | .burning | .recovering =>
      enterGrading n (recordReason n r s)
    | .grading => quarantineGrading n (recordReason n r s)
    | .sortWait => replaceForced n (recordReason n r s)
    | .parking | .sorted | .empty | .settling => recordReason n r s).slot n).state = .grading
  rw [hst]
  cases e : (s.slot n).state
  case empty | settling | grading | sortWait | parking | sorted => rw [e] at hs; cases hs
  all_goals exact enterGrading_state (n := n) (s := recordReason n r s)

/-- The rest of a first binding, once the slot is bound. -/
def followBinding (n : SlotId) (s : State) : State :=
  let s := lowerAllocation n (computeIdentity n s)
  let s := raiseSlot n .identified s
  if powerMismatch s (s.slot n) then takeQuarantine n .powerMismatch s else setState n .ready s

theorem followBinding_mid_slot (n : SlotId) (s : State) :
    SlotKeepsBut [.identity, .allocation, .events, .notice] (s.slot n)
      ((raiseSlot n .identified (lowerAllocation n (computeIdentity n s))).slot n) := by
  have h1 := computeIdentity_slot n s
  generalize computeIdentity n s = t at *
  have h2 := lowerAllocation_slot n t
  generalize lowerAllocation n t = u at *
  exact ((h1.mono (by simp)).trans (h2.mono (by simp))).trans ((raiseSlot_slot_keeps n .identified u).mono (by simp))

theorem followBinding_upholds {h : InHand} {n : SlotId} {s : State} (hh : h.life = none)
    (hs : (s.slot n).state = .identifying ∨ (s.slot n).state = .unmatched) : Upholds h s (followBinding n s) := by
  have hk := followBinding_mid_slot n s
  have h1 := ((computeIdentity_upholds h n s).trans (lowerAllocation_upholds h n _)).trans (raiseSlot_upholds h n .identified _)
  have hst : ((raiseSlot n .identified (lowerAllocation n (computeIdentity n s))).slot n).state = .identifying
      ∨ ((raiseSlot n .identified (lowerAllocation n (computeIdentity n s))).slot n).state = .unmatched := by
    rw [hk.state_eq (by simp)]; exact hs
  unfold followBinding
  dsimp only
  generalize raiseSlot n .identified (lowerAllocation n (computeIdentity n s)) = t at *
  refine Upholds.ite (fun _ => h1.trans (takeQuarantine_upholds hh ..)) fun _ => h1.trans (setState_upholds (fun a => ?_)
    fun a b hn => ⟨by simp, by simp⟩)
  refine ⟨linesAgree_locked (x := t.slot n) (a.locked (n := n) ?_ ?_) rfl rfl (by simp) (a.lines n), fun hn =>
      phaseAgrees_of_reason (a.reason_none hn ?_) (by simp),
      ⟨fun e he hk hen => absurd hen (a.no_entry ?_ e he hk), fun w hw hwn => absurd hwn (a.not_waiting ?_ w hw)⟩⟩
  all_goals obtain e | e := hst <;> simp [e, SlotState.pastTest]

theorem followBinding_state {n : SlotId} {s : State} (hs : (s.slot n).state = .identifying ∨ (s.slot n).state = .unmatched)
    (hr : (s.slot n).grading.reason = none) :
    ((followBinding n s).slot n).state = .ready ∨ ((followBinding n s).slot n).state = .grading := by
  have hk := followBinding_mid_slot n s
  unfold followBinding
  dsimp only
  split
  · refine .inr (takeQuarantine_state _ ?_ ?_)
    · rw [hk.state_eq (by simp)]
      obtain e | e := hs <;> rw [e] <;> rfl
    · rw [hk.reason_eq (by simp)]; exact hr
  · exact .inl (setState_slot_state ..)

theorem bindSlot_slot (n : SlotId) (i : Fin 16) (s : State) :
    (bindSlot n i s).slot n = { s.slot n with identity.model := some i } := slot_modSlot_same ..

theorem bindFirst_upholds {h : InHand} {n : SlotId} {s : State} (hh : h.life = none) (hb : h.binding = none) (i : Fin 16)
    (hs : (s.slot n).state = .identifying ∨ (s.slot n).state = .unmatched) : Upholds h s (bindFirst n i s) := by
  have hs' : ((bindSlot n i s).slot n).state = .identifying ∨ ((bindSlot n i s).slot n).state = .unmatched := by
    rw [bindSlot_slot]; exact hs
  have he : bindFirst n i s = followBinding n (bindSlot n i s) := rfl
  rw [he]
  by_cases hm : (s.slot n).identity.model = none
  · refine .closeBinding (n := n) hb ((bindSlot_upholds i (fun _ _ => hm) fun _ _ hn => absurd rfl hn).trans
      (followBinding_upholds hh hs')) fun a => ?_
    have hr := a.reason_none (n := n) (by simp [hh]) (by obtain e | e := hs <;> rw [e] <;> rfl)
    have hst := followBinding_state hs' (by rw [bindSlot_slot]; exact hr)
    constructor
    · obtain e | e := hst <;> rw [e] <;> simp
    · obtain e | e := hst <;> rw [e] <;> simp
  · have hu : s.LivesBut h → s.BindingsBut h → (s.slot n).identity.model = none := fun _ b =>
      (b.unbound n (by simp [hb])).1 (by obtain e | e := hs <;> simp [e])
    exact (bindSlot_upholds i hu fun a b => absurd (hu a b) hm).trans (followBinding_upholds hh hs')

theorem setState_unmatched_upholds {h : InHand} {n : SlotId} {s : State} (hs : (s.slot n).state = .identifying ∨ (s.slot n).state = .ready)
    (hm : s.LivesBut h → s.BindingsBut h → h.binding ≠ some n → (s.slot n).identity.model = none) :
    Upholds h s (setState n .unmatched s) := by
  refine setState_upholds (fun a => ?_) fun a b hn => ⟨fun _ => hm a b hn, by simp⟩
  refine ⟨linesAgree_locked (x := s.slot n) (a.locked (n := n) ?_ ?_) rfl rfl (by simp) (a.lines n), fun hn =>
      phaseAgrees_of_reason (a.reason_none hn ?_) (by simp),
      ⟨fun e he hk hen => absurd hen (a.no_entry ?_ e he hk), fun w hw hwn => absurd hwn (a.not_waiting ?_ w hw)⟩⟩
  all_goals obtain e | e := hs <;> simp [e, SlotState.pastTest]

theorem firstCapture_upholds {h : InHand} {n : SlotId} {s : State} (hh : h.life = none) (hb : h.binding = none) (r : IdentityRecord)
    (hs : (s.slot n).state = .identifying) : Upholds h s (firstCapture n r s) := by
  have h1 := keepRecord_upholds h n r s
  have hs1 : ((keepRecord n r s).slot n).state = .identifying := by simpa [keepRecord] using hs
  unfold firstCapture
  dsimp only
  split
  · exact h1.trans (bindFirst_upholds hh hb _ (.inl hs1))
  · have h2 := (h1.trans (computeIdentity_upholds h n _)).trans (raiseSlot_upholds h n .unmatched _)
    have hst : ((raiseSlot n .unmatched (computeIdentity n (keepRecord n r s))).slot n).state = .identifying := by
      rw [(raiseSlot_slot_keeps ..).same .state (by simp), (computeIdentity_slot ..).same .state (by simp)]; exact hs1
    exact h2.trans (setState_unmatched_upholds (.inl hst) fun _ b hn => b.unbound_early hn (by simp [hst]))

/-! ### Rebinding -/

theorem shedQueue_upholds (h : InHand) (n : SlotId) (s : State) : Upholds h s (shedQueue n s) :=
  (Upholds.foldl (fun _ _ => answerPart_upholds ..) ..).trans 
    (leaveSlotQueue_upholds (f := fun x => x.traffic.queue.filter fun q => SlotState.accepts .unmatched q.cls)
      List.filter_sublist)

/-- Binding and unbinding leave every allocation. -/
theorem allocationSum_modSlot_of_eq {n : SlotId} {f : Slot → Slot} {s : State}
    (hf : (f (s.slot n)).power.allocation = (s.slot n).power.allocation) : allocationSum (modSlot n f s) = allocationSum s := by
  have := allocationSum_modSlot n f s
  omega

theorem unbindSlot_allocations (n : SlotId) (s : State) :
    allocationSum (unbindSlot n s) = allocationSum s ∧ ((unbindSlot n s).slot n).power = (s.slot n).power
      ∧ (unbindSlot n s).store = s.store ∧ ((unbindSlot n s).slot n).state = (s.slot n).state := by
  unfold unbindSlot
  split
  · exact ⟨rfl, rfl, rfl, rfl⟩
  · refine ⟨?_, ?_, rfl, ?_⟩
    · rw [allocationSum_modSlot_of_eq rfl]; rfl
    · rw [slot_modSlot_same]; rfl
    · rw [slot_modSlot_same]; rfl

theorem bindSlot_allocations (n : SlotId) (i : Fin 16) (s : State) :
    allocationSum (bindSlot n i s) = allocationSum s ∧ ((bindSlot n i s).slot n).power = (s.slot n).power
      ∧ (bindSlot n i s).store = s.store := by
  refine ⟨?_, ?_, rfl⟩
  · unfold bindSlot
    rw [allocationSum_modSlot_of_eq rfl]; rfl
  · rw [bindSlot_slot]

/-- A change of an allocation that passes the fit test stays within the target (R70). -/
theorem budget_of_fits {s : State} {n : SlotId} {a : Nat} (hf : fits s n a = true) (hb : s.withinBudget) :
    allocationSum s + a ≤ s.store.target + (s.slot n).power.allocation := by
  simp only [fits, Bool.or_eq_true, decide_eq_true_eq] at hf
  simp only [State.withinBudget] at hb
  omega

theorem unbindSlot_bindSlot_fits {s : State} {n : SlotId} {a : Nat} (hf : fits s n a = true) (i : Fin 16) :
    fits (unbindSlot n s) n a = true ∧ fits (bindSlot n i (unbindSlot n s)) n a = true := by
  obtain ⟨h1, h2, h3, -⟩ := unbindSlot_allocations n s
  obtain ⟨h4, h5, h6⟩ := bindSlot_allocations n i (unbindSlot n s)
  unfold fits at hf ⊢
  rw [h4, h5, h6, h1, h2, h3]
  exact ⟨hf, hf⟩

theorem unboundAgrees_of_ready {x : Slot} (hs : x.state = .ready) : x.unboundAgrees := ⟨by simp [hs], by simp [hs]⟩

theorem rebindTo_upholds {h : InHand} {n : SlotId} {i : Fin 16} {a : Nat} {s : State} (hh : h.life = none)
    (hs : (s.slot n).state = .ready) (hf : fits s n a = true) : Upholds h s (rebindTo n i a s) := by
  unfold rebindTo
  dsimp only
  have h1 : Upholds h s (bindSlot n i (unbindSlot n s)) := (unbindSlot_upholds h n s).trans
    (bindSlot_upholds i (fun _ _ => unbindSlot_model n s) fun _ _ _ => unboundAgrees_of_ready
      ((unbindSlot_allocations n s).2.2.2.trans hs))
  have h2 := h1.trans (setAllocation_upholds fun _ hb => budget_of_fits (unbindSlot_bindSlot_fits hf i).2 hb)
  exact (h2.trans (computeAndCheck_upholds hh ..)).trans (raiseSlot_upholds ..)

theorem computeIdentity_model (n : SlotId) (s : State) :
    ((computeIdentity n s).slot n).identity.model = (s.slot n).identity.model := by
  unfold computeIdentity
  rw [slot_modSlot_same]
  split
  · rfl
  · dsimp only
    split <;> rfl

/-- What `rebindNone` does before the slot moves to UNMATCHED. -/
def leaveBinding (n : SlotId) (a : Nat) (s : State) : State :=
  let s := modSlot n (fun x => { x with power.reserveGranted := a }) (setAllocation n a (unbindSlot n s))
  raiseSlot n .unmatched (shedQueue n (withdrawHead n (computeIdentity n s)))

theorem rebindNone_eq (n : SlotId) (a : Nat) (s : State) : rebindNone n a s = setState n .unmatched (leaveBinding n a s) := rfl

theorem shedQueue_slot (n : SlotId) (s : State) : SlotKeepsBut [.queue] (s.slot n) ((shedQueue n s).slot n) := by
  have hf := foldl_keeps (ch := [.responses]) (fun s (q : QueuedCmd) => answerPart q.source n q.tag .notAccepting s)
    (fun _ _ => answerPart_keeps ..) ((s.slot n).traffic.queue.filter fun q => !SlotState.accepts .unmatched q.cls) s
  unfold shedQueue
  dsimp only
  rw [slot_modSlot_same, hf.slot_eq (m := n) (by simp)]
  exact ⟨fun g hg => by cases g <;> simp_all [slotSameIn]⟩

theorem leaveBinding_slot (n : SlotId) (a : Nat) (s : State) :
    ((leaveBinding n a s).slot n).state = (s.slot n).state ∧ ((leaveBinding n a s).slot n).identity.model = none := by
  unfold leaveBinding
  extract_lets t
  have h1 : (t.slot n).state = (s.slot n).state ∧ (t.slot n).identity.model = none := by
    simp only [t, slot_modSlot_same, setAllocation_slot_same]
    exact ⟨(unbindSlot_allocations n s).2.2.2, unbindSlot_model n s⟩
  have hc := computeIdentity_slot n t
  have hw := (withdrawHead_slot n (computeIdentity n t)).mono (ch' := [.queue, .reserved, .events, .notice]) (by simp)
  have hq := (shedQueue_slot n (withdrawHead n (computeIdentity n t))).mono (ch' := [.queue, .reserved, .events, .notice]) (by simp)
  have hr := (raiseSlot_slot_keeps n .unmatched (shedQueue n (withdrawHead n (computeIdentity n t)))).mono
    (ch' := [.queue, .reserved, .events, .notice]) (by simp)
  have hall := (hw.trans hq).trans hr
  exact ⟨(hall.same .state (by simp)).trans ((hc.same .state (by simp)).trans h1.1),
    (hall.same .identity (by simp)).2.1.trans ((computeIdentity_model n t).trans h1.2)⟩

theorem rebindNone_upholds {h : InHand} {n : SlotId} {a : Nat} {s : State} (hs : (s.slot n).state = .ready)
    (hf : fits s n a = true) : Upholds h s (rebindNone n a s) := by
  obtain ⟨hst, hmod⟩ := leaveBinding_slot n a s
  rw [rebindNone_eq]
  have h1 : Upholds h s (setAllocation n a (unbindSlot n s)) := (unbindSlot_upholds h n s).trans
    (setAllocation_upholds fun _ hb => budget_of_fits (unbindSlot_bindSlot_fits hf 0).1 hb)
  have h2 : Upholds h s (leaveBinding n a s) :=
    (((h1.trans (t := _) (modSlot_upholds (f := fun x => { x with power.reserveGranted := a }))).trans
      (computeIdentity_upholds ..)).trans (withdrawHead_upholds ..)).trans (shedQueue_upholds ..) |>.trans (raiseSlot_upholds ..)
  exact h2.trans (setState_unmatched_upholds (.inr (hst.trans hs)) fun _ _ _ => hmod)

theorem rebind_upholds {h : InHand} {n : SlotId} {s : State} (hh : h.life = none) (hs : (s.slot n).state = .ready) :
    Upholds h s (rebind n s) := by
  unfold rebind
  split
  · exact .refl ..
  · split
    · exact Upholds.ite (fun hf => rebindNone_upholds hs hf) fun _ => takeQuarantine_upholds hh ..
    · refine Upholds.ite (fun _ => (computeAndCheck_upholds hh ..).trans (raiseSlot_upholds ..)) fun _ => ?_
      exact Upholds.ite (fun hf => rebindTo_upholds hh hs hf) fun _ => takeQuarantine_upholds hh ..

theorem reCapture_upholds {h : InHand} (hh : h.life = none) (n : SlotId) (old new : IdentityRecord) (s : State) :
    Upholds h s (reCapture n old new s) := by
  refine Upholds.ite (fun _ => (noteOutcome_upholds ..).trans (captureQuarantine_upholds hh ..)) fun _ => ?_
  have h1 := (keepRecord_upholds h n new s).trans (computeAndCheck_upholds hh n _)
  refine Upholds.ite (fun hr => h1.trans (rebind_upholds hh ?_)) fun _ => h1
  have := hr.2
  simp only [Slot.rebindable, Bool.and_eq_true, beq_iff_eq] at this
  exact this.1.1.1

theorem endFinal_upholds (h : InHand) (n : SlotId) (m : Bool) (s : State) : Upholds h s (endFinal n m s) := modSlot_upholds

theorem laterCapture_upholds {h : InHand} (hh : h.life = none) (n : SlotId) (r : IdentityRecord) (s : State) :
    Upholds h s (laterCapture n r s) := by
  unfold laterCapture
  split
  · exact reCapture_upholds hh ..
  · exact (keepRecord_upholds ..).trans (computeIdentity_upholds ..)

theorem takeIdentify_upholds {h : InHand} (hh : h.life = none) (hb : h.binding = none) (n : SlotId) (final : Bool)
    (block : Option IdentityRecord) (f : IdentifyOutcome) (r : RecoveryReason) (s : State) :
    Upholds h s (takeIdentify n final block f r s) := by
  refine Upholds.ite (fun hs => ?_) fun _ => ?_
  · split
    · exact firstCapture_upholds hh hb _ hs
    · exact identifyFailed_upholds hh ..
  · have h1 : Upholds h s (if final = true then endFinal n block.isNone s else s) :=
      Upholds.ite (fun _ => endFinal_upholds ..) fun _ => .refl ..
    dsimp only
    split
    · exact h1.trans (laterCapture_upholds hh ..)
    · exact h1.trans (noteOutcome_upholds ..)

end Sys2Proof.Machine
end

section
/-! SUPPORT. The commands of the slot links uphold the invariants (chapter 2). -/

namespace Sys2Proof.Machine

/-! ### Responses -/

theorem countGood_upholds (h : InHand) (n : SlotId) (s : State) : Upholds h s (modSlot n countGood s) := by
  refine .of_still ?_
  unfold countGood
  split <;> exact .of_eq rfl rfl rfl rfl le_rfl

theorem countGood_slot (x : Slot) : SlotKeepsBut [.tallies] x (countGood x) := by
  unfold countGood
  split <;> exact ⟨fun g hg => by cases g <;> simp_all [slotSameIn]⟩

theorem goOn_upholds (h : InHand) (n : SlotId) (s : State) : Upholds h s (goOn n s) :=
  Upholds.ite (fun _ => gradingProgress_upholds ..) fun _ => serveSlot_upholds ..

theorem takeSpindle_upholds (h : InHand) (n : SlotId) (cls : CmdClass) (granted good : Bool) (v : SensorReading) (s : State) :
    Upholds h s (takeSpindle n cls granted good v s) := by
  refine Upholds.ite (fun _ => .refl ..) fun _ => ?_
  have h1 := setSpindle_upholds h n (spindleAfter cls granted good (s.slot n)) s
  have h2 := h1.trans (Upholds.ite (c := (s.slot n).power.spindle = .spinningUp) (fun _ => deferredSample_upholds h n v _)
    fun _ => .refl ..)
  exact Upholds.ite (fun _ => h2.trans (shedCheck_upholds ..)) fun _ => h2

theorem parkingResponse_upholds (h : InHand) (n : SlotId) (cls : CmdClass) (granted : Bool) (s : State) :
    Upholds h s (parkingResponse n cls granted s) := by
  refine Upholds.ite (fun _ => .refl ..) fun hs => ?_
  have hst : (s.slot n).state = .parking := not_not.1 fun hp => hs (.inl hp)
  cases cls with
  | spinDown => exact spinDownEnd_upholds fun a => a.locked (by simp [hst]) (by simp [hst])
  | spinUp => exact Upholds.ite (fun _ => injectParking_upholds ..) fun _ => .refl ..
  | light | heavy | identify => exact .refl ..

theorem deliver_upholds (h : InHand) (n : SlotId) (e : InFlight) (status : StatusClass) (code : BitVec 16) (payload : Bytes)
    (c : Classification) (s : State) : Upholds h s (deliver n e status code payload c s) := by
  refine Upholds.trans ?_ (parkingResponse_upholds ..)
  split
  · exact pushResponse_upholds ..
  · exact .refl ..

theorem takeResponse_upholds {h : InHand} (hh : h.life = none) (hb : h.binding = none) (n : SlotId) (k : Fin 4) (e : InFlight)
    (status : StatusClass) (code : BitVec 16) (payload : Bytes) (v : SensorReading) (s : State) :
    Upholds h s (takeResponse n k e status code payload v s) := by
  have h1 := (retireEntry_upholds h n k s).trans (Upholds.ite (c := e.cls = .spinUp ∨ e.cls = .spinDown)
    (fun _ => takeSpindle_upholds h n e.cls e.granted (status == .good) v (retireEntry n k s)) fun _ => .refl ..)
  have h2 := (h1.trans (classify_upholds h n status code (some e.cls) _)).trans (Upholds.ite (c := e.cls = .identify)
    (fun _ => takeIdentify_upholds hh hb n e.final (identifyBlock status payload) .error .identifyFailed _) fun _ => .refl ..)
  exact (h2.trans (deliver_upholds ..)).trans (goOn_upholds ..)

theorem consumeUnexpected_upholds (h : InHand) (n : SlotId) (status : StatusClass) (code : BitVec 16) (s : State) :
    Upholds h s (consumeUnexpected n status code s) :=
  Upholds.trans (t := modSlot n countUnexpected s) modSlot_upholds (classify_upholds ..)

theorem takeUnexpected_upholds {h : InHand} (hh : h.life = none) (n : SlotId) (status : StatusClass) (code : BitVec 16)
    (s : State) : Upholds h s (takeUnexpected n status code s) :=
  (consumeUnexpected_upholds h n status code s).trans
    (Upholds.ite (fun _ => startRecovery_upholds hh ..) fun _ => .refl ..)

theorem matchResponse_upholds {h : InHand} (hh : h.life = none) (hb : h.binding = none) (n : SlotId) (tag : Byte)
    (status : StatusClass) (code : BitVec 16) (payload : Bytes) (v : SensorReading) (s : State) :
    Upholds h s (matchResponse n tag status code payload v s) := by
  unfold matchResponse
  refine (countGood_upholds h n s).trans ?_
  dsimp only
  split
  · exact takeUnexpected_upholds hh ..
  · split
    · exact .refl ..
    · exact takeResponse_upholds hh hb ..

theorem takeLate_upholds (h : InHand) (n : SlotId) (tag : Nat) (status : StatusClass) (code : BitVec 16) (s : State) :
    Upholds h s (takeLate n tag status code s) :=
  Upholds.trans (t := modSlot n (fun x => { x with lines.late := x.lines.late.erase (tag, s.now) }) s) modSlot_upholds
    (consumeUnexpected_upholds ..)

/-! ### Errors of the link, and commands retired without a response -/

theorem setBreak_upholds (h : InHand) (n : SlotId) (b : Bool) (s : State) : Upholds h s (setBreak n b s) := modSlot_upholds

theorem endUnanswered_upholds {h : InHand} (hh : h.life = none) (hb : h.binding = none) (n : SlotId) (e : InFlight) (s : State) :
    Upholds h s (endUnanswered n e s) := by
  unfold endUnanswered
  split
  · exact Upholds.ite (fun _ => injectOrphan_upholds ..) fun _ => .refl ..
  · exact takeIdentify_upholds hh hb ..
  · exact parkingResponse_upholds ..
  · exact .refl ..
  · exact .refl ..

theorem retireTable_upholds (h : InHand) (n : SlotId) (c : PartCode) (s : State) :
    Upholds h s (clearTable n (answerInFlight n c s)) := (answerInFlight_upholds h n c s).trans (clearTable_upholds ..)

theorem resetTable_upholds {h : InHand} (hh : h.life = none) (hb : h.binding = none) (n : SlotId) (s : State) :
    Upholds h s (resetTable n s) :=
  ((retireTable_upholds h n .driveReset s).trans (Upholds.foldl (fun s e => endUnanswered_upholds hh hb n e s) ..)).trans
    (goOn_upholds ..)

theorem resetAtLimit_upholds {h : InHand} (hh : h.life = none) (n : SlotId) (s : State) : Upholds h s (resetAtLimit n s) :=
  ((retireTable_upholds h n .driveReset s).trans (Upholds.ite (fun _ => injectOrphan_upholds ..) fun _ => .refl ..)).trans
    (takeQuarantine_upholds hh ..)

theorem takeDriveReset_upholds {h : InHand} (hh : h.life = none) (hb : h.binding = none) (n : SlotId) (s : State) :
    Upholds h s (takeDriveReset n s) :=
  Upholds.ite (fun _ => Upholds.ite (fun _ => resetAtLimit_upholds hh ..) fun _ => startRecovery_upholds hh ..) fun _ =>
    resetTable_upholds hh hb ..

theorem answerTimeout_upholds (h : InHand) (n : SlotId) (e : InFlight) (s : State) : Upholds h s (answerTimeout n e s) := by
  unfold answerTimeout
  split
  · exact answerPart_upholds ..
  · exact .refl ..

theorem takeTimeout_upholds {h : InHand} (hh : h.life = none) (hb : h.binding = none) (n : SlotId) (k : Fin 4) (e : InFlight)
    (s : State) : Upholds h s (takeTimeout n k e s) := by
  have h1 := ((retireEntry_upholds h n k s).trans (answerTimeout_upholds h n e _)).trans (endUnanswered_upholds hh hb n e _)
  exact (h1.trans (Upholds.ite (fun _ => .refl ..) fun _ => startRecovery_upholds hh ..)).trans (goOn_upholds ..)

theorem endAttempt_upholds {h : InHand} (hh : h.life = none) (n : SlotId) (s : State) : Upholds h s (endAttempt n s) :=
  Upholds.ite (fun _ => beginAttempt_upholds ..) fun _ =>
    Upholds.trans (t := modSlot n (fun x => { x with recovery := { x.recovery with breakLatch := false, wait := none } }) s)
      modSlot_upholds (takeQuarantine_upholds hh ..)

end Sys2Proof.Machine
end

section
/-! SUPPORT. The requests, the Sort Unit's commands, the supply, the tables and the tick uphold the invariants
(chapters 5, 6, 8 and 9). -/

namespace Sys2Proof.Machine

/-! ### The slot requests -/

/-- A slot that has left UNMATCHED and has not yet reached GRADING moves on in its test. -/
theorem setState_onward_upholds {h : InHand} {n : SlotId} {st : SlotState} {s : State}
    (hs : (s.slot n).state = .ready ∨ (s.slot n).state = .calibrating) (hst : st.inTest = true) : Upholds h s (setState n st s) := by
  have hst' : st ∉ [SlotState.empty, .settling, .powerWait, .sorted] ∧ st ≠ .recovering
      ∧ st ∉ [SlotState.empty, .settling, .powerWait, .identifying, .unmatched] := by
    cases st <;> simp_all [SlotState.inTest]
  obtain ⟨hoff, hrec, hunb⟩ := hst'
  refine setState_upholds (fun a => ?_) fun a b hn => ⟨fun hmem => absurd hmem hunb, fun e => absurd e hrec⟩
  refine ⟨linesAgree_locked (x := s.slot n) (a.locked (n := n) ?_ ?_) rfl rfl (fun hmem => absurd hmem hoff) (a.lines n), fun hn =>
      phaseAgrees_of_reason (a.reason_none hn ?_) hrec,
      ⟨fun e he hk hen => absurd hen (a.no_entry ?_ e he hk), fun w hw hwn => absurd hwn (a.not_waiting ?_ w hw)⟩⟩
  all_goals obtain e | e := hs <;> simp [e, SlotState.pastTest]

theorem slot_modSlot (m n : SlotId) (f : Slot → Slot) (s : State) :
    (modSlot n f s).slot m = if m = n then f (s.slot n) else s.slot m := slot_setSlot ..

theorem acknowledge_upholds (h : InHand) (n : SlotId) (s : State) : Upholds h s (acknowledge n s) := by
  have h1 : Upholds h s (modSlot n (fun x => { x with lines.change := false }) s) := modSlot_upholds
  have hacc : acknowledge n s
      = settleNotice (.slot n) (modSlot n (fun x => { x with events := 0 }) (modSlot n (fun x => { x with lines.change := false }) s)) := by
    rw [modSlot_modSlot]; rfl
  rw [hacc]
  refine h1.trans (settleNotice_upholds ?_ rfl (fun o => ?_) (fun o ho => ?_) ?_)
  all_goals generalize modSlot n (fun x => { x with lines.change := false }) s = t
  · exact modSlot_unraised _ _ _ rfl
  · cases o with
    | part => rfl
    | slot m => rw [noticeStateOf, noticeStateOf, slot_modSlot]; split <;> simp_all
  · cases o with
    | part => rfl
    | slot m => rw [sourceEmpty, sourceEmpty, unmaskedSlot, unmaskedSlot, slot_modSlot, if_neg (by simpa using ho)]; rfl
  · simp [sourceEmpty, unmaskedSlot]

theorem readSlot_upholds (h : InHand) (q : QueuedRequest) (ack : Bool) (n : SlotId) (s : State) :
    Upholds h s (readSlot q ack n s) :=
  Upholds.ite (fun _ => (answerOk_upholds ..).trans (acknowledge_upholds ..)) fun _ => answerOk_upholds ..

theorem readFilter_upholds (h : InHand) (q : QueuedRequest) (n : SlotId) (s : State) : Upholds h s (readFilter q n s) :=
  answerOk_upholds ..

theorem startTest_upholds (h : InHand) (q : QueuedRequest) (n : SlotId) (s : State) : Upholds h s (startTest q n s) := by
  refine Upholds.ite (fun hs => ?_) fun _ => refuseState_upholds ..
  have h1 : Upholds h s (modSlot n (testStart s.now) s) := modSlot_upholds
  exact (h1.trans (setState_onward_upholds (.inl (by rw [slot_modSlot_same]; exact hs)) rfl)).trans (answerOk_upholds ..)

theorem endTest_upholds {h : InHand} (hh : h.life = none) (q : QueuedRequest) (n : SlotId) (s : State) :
    Upholds h s (endTest q n s) := by
  refine Upholds.ite (fun hs => ?_) fun _ => refuseState_upholds ..
  refine (enterGrading_upholds hh fun _ => ?_).trans (answerOk_upholds ..)
  cases e : (s.slot n).state <;> simp_all [SlotState.inTest, SlotState.beforeGrading]

theorem rebaseMetric_still (x : Slot) (m : Metric) : x.Still (rebaseMetric x m) := by
  unfold rebaseMetric
  split
  · exact setFilter_still ..
  · exact .refl x

theorem foldl_rebaseMetric_still (l : List Metric) (x : Slot) : x.Still (l.foldl rebaseMetric x) := by
  induction l generalizing x with
  | nil => exact .refl x
  | cons m l ih => exact (rebaseMetric_still x m).trans (ih _)

theorem rebase_upholds (h : InHand) (q : QueuedRequest) (named : List Metric) (n : SlotId) (s : State) :
    Upholds h s (rebase q named n s) := by
  refine Upholds.ite (fun _ => ?_) fun _ => refuseState_upholds ..
  have h1 : Upholds h s (modSlot n (fun x => named.foldl rebaseMetric x) s) := .of_still (foldl_rebaseMetric_still ..)
  exact (h1.trans (relamp_upholds ..)).trans (answerOk_upholds ..)

theorem quarantine_upholds {h : InHand} (hh : h.life = none) (q : QueuedRequest) (n : SlotId) (s : State) :
    Upholds h s (quarantine q n s) :=
  Upholds.ite (fun _ => refuseState_upholds ..) fun _ => (takeQuarantine_upholds hh ..).trans (answerOk_upholds ..)

theorem recover_upholds {h : InHand} (hh : h.life = none) (q : QueuedRequest) (n : SlotId) (s : State) :
    Upholds h s (recover q n s) := by
  refine Upholds.ite (fun _ => ?_) fun _ => refuseState_upholds ..
  have h1 := startRecovery_upholds hh n .serverRequest s
  exact Upholds.ite (fun _ => h1.trans (answerOk_upholds ..)) fun _ => h1.trans (answerOk_upholds ..)

theorem rematchUnmatched_upholds {h : InHand} (hh : h.life = none) (hb : h.binding = none) {n : SlotId} {s : State}
    (hs : (s.slot n).state = .unmatched) : Upholds h s (rematchUnmatched n s) := by
  unfold rematchUnmatched
  split
  · exact .refl ..
  · split
    · exact .refl ..
    · exact bindFirst_upholds hh hb _ (.inr hs)

theorem rematchReady_upholds {h : InHand} (hh : h.life = none) {n : SlotId} {s : State} (hs : (s.slot n).state = .ready) :
    Upholds h s (rematchReady n s) :=
  (rebind_upholds hh hs).trans (Upholds.ite (fun _ => serveSlot_upholds ..) fun _ => .refl ..)

theorem state_of_rebindable {x : Slot} (hx : x.rebindable = true) : x.state = .ready := by
  simp only [Slot.rebindable, Bool.and_eq_true, beq_iff_eq] at hx
  exact hx.1.1.1

theorem rematch_upholds {h : InHand} (hh : h.life = none) (hb : h.binding = none) (q : QueuedRequest) (n : SlotId) (s : State) :
    Upholds h s (rematch q n s) := by
  refine Upholds.ite (fun hx => ?_) fun _ => refuseState_upholds ..
  refine Upholds.trans (Upholds.ite (fun hs => rematchUnmatched_upholds hh hb hs) fun hs => ?_) (answerOk_upholds ..)
  exact rematchReady_upholds hh (state_of_rebindable (hx.resolve_left hs))

/-! ### The manifest, the bins and the hand-overs -/

theorem readManifest_upholds (h : InHand) (q : QueuedRequest) (from_ count : Nat) (s : State) :
    Upholds h s (readManifest q from_ count s) :=
  Upholds.ite (fun _ => Upholds.ite (fun _ => answer_upholds ..) fun _ => answerOk_upholds ..) fun _ => refuse_upholds ..

/-- Entries that leave the manifest leave its order and its serials. -/
theorem filterManifest_upholds (h : InHand) (p : ManifestEntry → Bool) (s : State) :
    Upholds h s { s with sort := { s.sort with manifest := s.sort.manifest.filter p } } := by
  have hsub : (s.sort.manifest.filter p).Sublist s.sort.manifest := List.filter_sublist
  refine .of_sort (fun ⟨hlen, hseq, hnext, hser, hbins⟩ => ?_) (fun _ _ => ⟨fun _ => id, id⟩) fun a => a.waiting
  exact ⟨hsub.length_le.trans hlen, hseq.sublist (hsub.map _), fun e he => hnext e (hsub.subset he),
    hser.sublist (hsub.filterMap _), hbins⟩

theorem retireManifest_upholds (h : InHand) (q : QueuedRequest) (upTo : Nat) (s : State) :
    Upholds h s (retireManifest q upTo s) :=
  ((filterManifest_upholds h (fun e => decide (upTo < e.sequence)) s).trans
    (Upholds.ite (fun _ => .refl ..) fun _ => retryPass_upholds ..)).trans (answerOk_upholds ..)

/-- A bin replaced by one of its kind and within the ranges, and not overfull. -/
theorem setBin_upholds (h : InHand) {set : Fin 4} {p : Fin 8} {b : Bin} {s : State}
    (hr : (s.bin set p).inRange → b.inRange) (hk : p = 7 → (s.bin set p).kind = .reject → b.kind = .reject)
    (hf : (s.bin set p).fill ≤ (s.bin set p).capacity → b.fill ≤ b.capacity) : Upholds h s (setBin set p b s) := by
  have hbin := fun c q => bin_setBin set c p q b s
  refine .of_sort (fun ⟨hlen, hseq, hnext, hser, hfill, hreject⟩ => ⟨hlen, hseq, hnext, hser, fun c q => ?_, fun c => ?_⟩)
    (fun c q => ⟨fun hq h7 => ?_, fun hcr => ?_⟩) fun a => a.waiting
  all_goals
    refine (hbin _ _).symm ▸ ?_
    split
  · exact hf (hfill set p)
  · exact hfill c q
  · next e => exact hk e.2.symm (e.2 ▸ hreject set)
  · exact hreject c
  · next e => exact hk (e.2 ▸ hq) (e.1 ▸ e.2 ▸ h7)
  · exact h7
  · next e => exact hr (e.1 ▸ e.2 ▸ hcr)
  · exact hcr

theorem cartSwap_upholds (h : InHand) (q : QueuedRequest) (set : Fin 4) (p : Fin 8) (s : State) :
    Upholds h s (cartSwap q set p s) :=
  ((setBin_upholds h (b := swapped (s.bin set p)) id (fun _ hk => hk) fun _ => Nat.zero_le _).trans (retryPass_upholds ..)).trans
    (answerOk_upholds ..)

theorem takeHandOver_upholds (h : InHand) (n : SlotId) (s : State) : Upholds h s (takeHandOver n s) :=
  Upholds.ite (fun hs => sortSlot_upholds hs.1) fun _ => .refl ..

/-! ### The supply -/

theorem lapseAtOnset_upholds (h : InHand) (n : SlotId) (s : State) : Upholds h s (lapseAtOnset n s) :=
  Upholds.trans (t := modSlot n (fun x => { x with tallies.lapsed := x.power.held.isSome }) s) modSlot_upholds
    (lapseHeld_upholds ..)

theorem markShed_upholds (h : InHand) (n : SlotId) (s : State) : Upholds h s (modSlot n markShed s) := by
  refine .of_still ?_
  unfold markShed
  split
  · exact .of_eq rfl rfl rfl rfl le_rfl
  · exact .refl _

theorem onset_upholds (h : InHand) (s : State) : Upholds h s (onset s) := by
  have h1 : Upholds h s (raiseSupplyWarn { s with power := { s.power with supply := .warning, restore := none } }) :=
    Upholds.trans (t := { s with power := { s.power with supply := .warning, restore := none } }) (.of_read rfl)
      (raiseSupplyWarn_upholds ..)
  exact (((h1.trans (forSlots_upholds (lapseAtOnset_upholds h) _)).trans (forSlots_upholds (markShed_upholds h) _)).trans
    (forSlots_upholds (shedCheck_upholds h) _)).trans (forSlots_upholds (serveSlot_upholds h) _)

theorem assertWarning_upholds (h : InHand) (s : State) : Upholds h s (assertWarning s) := by
  refine Upholds.trans (t := { s with power := { s.power with warning := true } }) (.of_read rfl) ?_
  unfold assertWarning
  dsimp only
  split
  · exact onset_upholds ..
  · exact Upholds.trans (t := { s with power := { s.power with warning := true, supply := .warning, restore := none } })
      (.of_read rfl) (raiseSupplyWarn_upholds ..)
  · exact .refl ..

theorem deassertWarning_upholds (h : InHand) (s : State) : Upholds h s (deassertWarning s) := by
  unfold deassertWarning
  dsimp only
  split <;> exact .of_read rfl

theorem dropShed_upholds (h : InHand) (n : SlotId) (s : State) : Upholds h s (modSlot n dropShed s) := modSlot_upholds

theorem autoResume_upholds (h : InHand) (n : SlotId) (s : State) : Upholds h s (autoResume n s) :=
  Upholds.ite (fun _ => joinAdmission_upholds _ fun _ hc => by cases hc) fun _ => .refl ..

theorem returnToNormal_upholds (h : InHand) (s : State) : Upholds h s (returnToNormal s) := by
  have h1 : Upholds h s (raisePart .supplyRestored
      { s with power := { s.power with supply := .normal, restore := none, passDue := true } }) :=
    Upholds.trans (t := { s with power := { s.power with supply := .normal, restore := none, passDue := true } }) (.of_read rfl)
      (raisePart_upholds ..)
  exact (((h1.trans (forSlots_upholds (dropShed_upholds h) _)).trans (forSlots_upholds (autoResume_upholds h) _)).trans
    (forSlots_upholds (fun n s => modSlot_upholds) _)).trans (forSlots_upholds (serveSlot_upholds h) _)

/-! ### The tables -/

/-- A model entry that no slot is bound to is replaced by one that passes the checks (R61). -/
theorem putModel_upholds (h : InHand) {i : Fin 16} {m : ModelEntry} {s : State} (hold : s.tables.models[i].refCount = 0)
    (hm : m.storable) (hnew : m.refCount = 0)
    (hc : m.valid = true → modelCheck s.store.settings.settleReserve m = .none) : Upholds h s (putModel i m s) where
  pending := rfl
  queues := id
  notices := id
  admission := id
  commands _ := id
  sort := id
  store := by
    rintro ⟨hset, htgt, hmod, hrest⟩
    refine ⟨hset, htgt, fun j => ?_, hrest⟩
    have hj : (putModel i m s).tables.models[j] = if j = i then m else s.tables.models[j] := by
      simp [putModel, Vector.getElem_set, Fin.ext_iff, eq_comm]
    rw [hj]
    split
    · exact ⟨hm, hc⟩
    · exact hmod j
  budget _ := id
  lives a := { a with }
  bindings _ b := ⟨fun j => by
    have hj : (putModel i m s).tables.models[j] = if j = i then m else s.tables.models[j] := by
      simp [putModel, Vector.getElem_set, Fin.ext_iff, eq_comm]
    have hb := b.counts j
    rw [hj]
    split
    · next e => subst e; rw [hnew, ← hold]; exact hb
    · exact hb, b.unbound⟩

theorem writeModel_upholds (h : InHand) (q : QueuedRequest) (i : Fin 16) {m : ModelEntry} (s : State) (hm : m.storable)
    (hr : m.refCount = 0) : Upholds h s (writeModel q i m s) := by
  refine Upholds.ite (fun _ => refuse_upholds ..) fun h0 => ?_
  split
  · next hc =>
    refine (putModel_upholds h (not_not.1 h0) hm hr fun hv => ?_).trans (answerOk_upholds ..)
    rwa [if_pos hv] at hc
  · exact refuseTable_upholds ..

theorem writeClassify_upholds (h : InHand) (q : QueuedRequest) (i : Fin 64) {e : ClassifyEntry} (s : State) (he : e.storable) :
    Upholds h s (writeClassify q i e s) := by
  unfold writeClassify
  split
  · next hc =>
    refine Upholds.trans (t := { s with tables := { s.tables with classify := s.tables.classify.set i.val e i.isLt } }) ?_
      (answerOk_upholds ..)
    exact
      { pending := rfl, queues := id, notices := id, admission := id, commands := fun _ => id, sort := id
        store := fun ⟨hset, htgt, hmod, hcls, hrest⟩ => ⟨hset, htgt, hmod, fun j => by
          have hj : (s.tables.classify.set i.val e i.isLt)[j] = if j = i then e else s.tables.classify[j] := by
            simp [Vector.getElem_set, Fin.ext_iff, eq_comm]
          dsimp only
          rw [hj]
          split
          · exact ⟨he, fun hv => by rwa [if_pos hv] at hc⟩
          · exact hcls j, hrest⟩
        budget := fun _ => id, lives := fun a => { a with }, bindings := fun _ a => { a with } }
  · exact refuseTable_upholds ..

theorem writeDefect_upholds (h : InHand) (q : QueuedRequest) (i : Fin 16) (e : DefectEntry) (s : State) :
    Upholds h s (writeDefect q i e s) := by
  refine Upholds.ite (fun hr => ?_) fun _ => refuseTable_upholds ..
  refine Upholds.trans (t := { s with tables := { s.tables with defects := s.tables.defects.set i.val e i.isLt } }) ?_
    (answerOk_upholds ..)
  exact
    { pending := rfl, queues := id, notices := id, admission := id, commands := fun _ => id, sort := id
      store := fun ⟨hset, htgt, hmod, hcls, hdef, hrest⟩ => ⟨hset, htgt, hmod, hcls, fun j => by
        have hj : (s.tables.defects.set i.val e i.isLt)[j] = if j = i then e else s.tables.defects[j] := by
          simp [Vector.getElem_set, Fin.ext_iff, eq_comm]
        dsimp only
        rw [hj]
        split
        · exact (within_iff.1 hr).2
        · exact hdef j, hrest⟩
      budget := fun _ => id, lives := fun a => { a with }, bindings := fun _ a => { a with } }

theorem binCheck_ok {old b : Bin} {p : Fin 8} {f : BinFields} (hb : binCheck old p f = .ok b) :
    f.toBin old.fill old.generation = some b ∧ (p = 7 → b.kind = .reject) ∧ old.fill ≤ b.capacity := by
  unfold binCheck at hb
  split at hb
  · cases hb
  · next c hc =>
    split at hb
    · cases hb
    · next h7 =>
      split at hb
      · cases hb
      · next hcap =>
        cases hb
        exact ⟨hc, fun hp => not_not.1 fun hk => h7 ⟨hp, hk⟩, not_lt.1 hcap⟩

theorem writeBin_upholds (h : InHand) (q : QueuedRequest) (set : Fin 4) (p : Fin 8) (f : BinFields) (s : State) :
    Upholds h s (writeBin q set p f s) := by
  unfold writeBin
  split
  · exact refuseTable_upholds ..
  · next b hb =>
    obtain ⟨hto, hkind, hfill⟩ := binCheck_ok hb
    obtain ⟨hrange, hsame, -⟩ := toBin_inRange hto
    exact ((setBin_upholds h (fun _ => hrange) (fun hp _ => hkind hp) fun _ => hsame ▸ hfill).trans (answerOk_upholds ..)).trans
      (retryPass_upholds ..)

theorem writeIndicator_upholds (h : InHand) (q : QueuedRequest) (i : Fin 16) (f : IndicatorFields) (s : State) :
    Upholds h s (writeIndicator q i f s) := by
  unfold writeIndicator
  split
  · exact refuseTable_upholds ..
  · next e _ =>
    have h1 : Upholds h s { s with tables := { s.tables with indicators := s.tables.indicators.set i.val e i.isLt } } :=
      .of_read rfl
    exact (h1.trans (forSlots_upholds (relamp_upholds h) _)).trans (answerOk_upholds ..)

theorem readEntry_upholds (h : InHand) (q : QueuedRequest) (v : TableName × Nat × Nat) (s : State) :
    Upholds h s (readEntry q v s) := by
  unfold readEntry
  cases v.1 with
  | bin => exact withIndex_upholds fun _ => withIndex_upholds fun _ => answerOk_upholds ..
  | model | classify | defect | indicator => exact withIndex_upholds fun _ => answerOk_upholds ..

/-! ### The tick -/

theorem tickSlots_upholds (h : InHand) (sensors : Vector SensorReading 48) (l : List SlotId) (s : State) :
    Upholds h s (tickSlots sensors l s).2 := by
  induction l generalizing s with
  | nil => exact .refl ..
  | cons n l ih => exact (tickSlot_upholds ..).trans (ih _)

theorem completeReport_upholds (h : InHand) (records : List StreamRecord) (s : State) :
    Upholds h s (completeReport records s) := by
  unfold completeReport
  dsimp only
  split
  · exact .of_read rfl
  · split <;> exact .of_read rfl

theorem streamTick_upholds (h : InHand) (records : List StreamRecord) (s : State) : Upholds h s (streamTick records s) := by
  unfold streamTick
  split
  · exact .of_read rfl
  · refine Upholds.ite (fun _ => ?_) fun _ => .of_read rfl
    exact Upholds.trans (t := { s with notices := { s.notices with streamCount := 0 } }) (.of_read rfl)
      (completeReport_upholds ..)

/-- A slot that recovers to CALIBRATING will resume in BURNING instead. -/
theorem resumeBurning_upholds (h : InHand) (n : SlotId) (s : State) :
    Upholds h s (modSlot n (fun x => { x with recovery.resume := some .burning }) s) := by
  refine .of_slot ⟨id, id, rfl, rfl⟩ (fun _ hb => Nat.add_le_add_right hb _) (fun a => ⟨a.lines n, fun hn => ?_, .inl rfl⟩)
    fun _ b => ⟨rfl, fun hn => ⟨(b.unbound n hn).1, fun _ e => by simp at e⟩⟩
  exact ⟨fun _ => ⟨_, by simp, rfl⟩, (a.phases n hn).2⟩

theorem takeCalibration_upholds (h : InHand) (n : SlotId) (s : State) : Upholds h s (takeCalibration n s) :=
  Upholds.ite (fun hs => setState_onward_upholds (.inr hs) rfl) fun _ =>
    Upholds.ite (fun _ => resumeBurning_upholds ..) fun _ => .refl ..

end Sys2Proof.Machine
end

section
/-! SUPPORT. Every command, in every state, answers a next state that upholds the invariants; the statements read off it. -/

namespace Sys2Proof.Machine

/-- A command answers a next state, and that state upholds every invariant of s. -/
def Leads (h : InHand) (s : State) (o : Host.Outcome State Fault Refusal) : Prop := ∃ t, o = .next t ∧ Upholds h s t

theorem Leads.next {h : InHand} {s t : State} (a : Upholds h s t) : Leads h s (.next t) := ⟨t, rfl, a⟩

section
variable {h : InHand}

/-! ### Presence, removal, rundown and parking -/

theorem execSettleTimerExpiry_leads (n : SlotId) (s : State) : Leads h s (execSettleTimerExpiry n s) := by
  unfold execSettleTimerExpiry
  dsimp only
  split
  · refine .next (Upholds.ite (fun hs => ?_) fun _ => .refl ..)
    exact ((reach_upholds ..).trans (endSettling_upholds hs.1)).trans (finish_upholds ..)
  · exact .next (.refl ..)

theorem execRemovalCheckEnd_leads (n : SlotId) (s : State) : Leads h s (execRemovalCheckEnd n s) := by
  unfold execRemovalCheckEnd
  dsimp only
  split
  · exact .next (Upholds.ite (fun _ => ((reach_upholds ..).trans (takeRemoval_upholds ..)).trans (finish_upholds ..))
      fun _ => .refl ..)
  · exact .next (.refl ..)

theorem execRundownTimerExpiry_leads (n : SlotId) (s : State) : Leads h s (execRundownTimerExpiry n s) := by
  unfold execRundownTimerExpiry
  split
  · next t ht =>
    have h1 : Upholds h (reach t s) (endRundown n (reach t s)) := endRundown_upholds (t := t) ht
    exact .next (((reach_upholds ..).trans h1).trans (arbitrate_upholds ..))
  · exact .next (.refl ..)
  · exact .next (.refl ..)

theorem execParkTimerExpiry_leads (n : SlotId) (s : State) : Leads h s (execParkTimerExpiry n s) := by
  unfold execParkTimerExpiry
  split
  · next t _ =>
    refine .next (Upholds.ite (fun hs => ?_) fun _ => .refl ..)
    have h1 : Upholds h (reach t s) (noteLate n (reach t s)) := modSlot_upholds
    have h2 := ((reach_upholds h t s).trans h1).trans (retireSpinDowns_upholds h n _)
    have hst : ((noteLate n (reach t s)).slot n).state = .parking := by rw [noteLate, slot_modSlot_same]; exact hs
    rw [← (retireSpinDowns_slot n (noteLate n (reach t s))).state_eq (by simp)] at hst
    exact (h2.trans (spinDownEnd_upholds fun a => a.locked (by simp [hst]) (by simp [hst]))).trans (finish_upholds ..)
  · exact .next (.refl ..)

/-! ### The supply, the tick and the rack link -/

theorem execRestoreDelayExpiry_leads (s : State) : Leads h s (execRestoreDelayExpiry s) := by
  unfold execRestoreDelayExpiry
  split
  · exact .next (Upholds.ite (fun _ => ((reach_upholds ..).trans (returnToNormal_upholds ..)).trans (finish_upholds ..))
      fun _ => .refl ..)
  · exact .next (.refl ..)

theorem execTick_leads (sensors : Vector SensorReading 48) (s : State) : Leads h s (execTick sensors s) := by
  have h1 : Upholds h s (restartTick (reach s.tickAt s)) := .of_read rfl
  exact .next (((h1.trans (tickSlots_upholds ..)).trans (streamTick_upholds ..)).trans (arbitrate_upholds ..))

theorem execCalibrationComplete_leads (n : SlotId) (s : State) : Leads h s (execCalibrationComplete n s) :=
  .next (Upholds.ite (fun _ => Upholds.trans
    (t := { s with transit := { s.transit with calibrations := s.transit.calibrations.erase n } }) (.of_read rfl)
    (takeCalibration_upholds ..)) fun _ => .refl ..)

theorem execRackFrameBad_leads (frame : Bytes) (s : State) : Leads h s (execRackFrameBad frame s) :=
  .next (Upholds.ite (fun _ => .refl ..) fun _ => .of_read rfl)

theorem execSlotCmd_leads (dest source : Byte) (payload : Bytes) (s : State) : Leads h s (execSlotCmd dest source payload s) :=
  .next (Upholds.ite (fun _ => (portSlotCmd_upholds ..).trans (finish_upholds ..)) fun _ => .refl ..)

theorem execRequestReceived_leads (dest source : Byte) (payload : Bytes) (s : State) :
    Leads h s (execRequestReceived dest source payload s) :=
  .next (Upholds.ite (fun _ => (placeRequest_upholds ..).trans (arbitrate_upholds ..)) fun _ =>
    Upholds.ite (fun _ => .of_read rfl) fun _ => .refl ..)

theorem execTransmitComplete_leads (s : State) : Leads h s (execTransmitComplete s) := by
  unfold execTransmitComplete
  split
  · exact .next (.refl ..)
  · next f _ =>
    have h1 : Upholds h s { s with port := { s.port with transmitting := none } } := .of_read rfl
    exact .next ((h1.trans (countReply_upholds ..)).trans (arbitrate_upholds ..))

/-! ### The requests -/

/-- A request of one kind, its operands read. -/
theorem serveKind_leads {α : Type} {kind : Byte} {read : Bytes → Option α} {f : QueuedRequest → α → State → State}
    (hf : ∀ q v s, Upholds h s (f q v s)) (s : State) :
    Leads h s (.next (serveKind kind (fun q => withOperands read q (f q)) s)) :=
  .next (serveHead_upholds (fun q s => withOperands_upholds fun v _ => hf q v s) s)

/-- A request that names a slot. -/
theorem serveSlotKind_leads {kind : Byte} {read : Bytes → Option Nat} {f : QueuedRequest → SlotId → State → State}
    (hf : ∀ q n s, Upholds h s (f q n s)) (s : State) :
    Leads h s (.next (serveKind kind (fun q => withOperands read q fun v => withSlot v q (f q)) s)) :=
  serveKind_leads (fun q _ s => withSlot_upholds fun n => hf q n s) s

/-- A LOAD-TABLE whose operands have been read. -/
theorem serveLoad_leads {α : Type} {table : TableName} {read : Bytes → Option α} {f : QueuedRequest → α → State → State}
    (hf : ∀ q v s, (∃ bs, read bs = some v) → Upholds h s (f q v s)) (s : State) :
    Leads h s (.next (serveLoad table (fun q => withOperands (read ·.tail) q fun v => unlessSaving q (f q v)) s)) :=
  .next (serveHead_upholds (f := fun q => withOperands (read ·.tail) q fun v => unlessSaving q (f q v))
    (fun q s => withOperands_upholds fun v hv => unlessSaving_upholds (hf q v s ⟨_, hv⟩)) s)

theorem execLoadTableModel_leads (s : State) : Leads h s (execLoadTableModel s) :=
  serveLoad_leads (fun q v s ⟨bs, hv⟩ => withIndex_upholds fun i =>
    have ⟨hm, h0⟩ := readAll_yields (p := fun y => y.2.storable ∧ y.2.refCount = 0)
      (getIndexed_yields (p := fun m : ModelEntry => m.storable ∧ m.refCount = 0) getModel_yields) bs v hv
    writeModel_upholds h q i s hm h0) s

theorem execLoadTableClassify_leads (s : State) : Leads h s (execLoadTableClassify s) :=
  serveLoad_leads (fun q v s ⟨bs, hv⟩ => withIndex_upholds fun i =>
    writeClassify_upholds h q i s (readAll_yields (p := fun y => y.2.storable)
      (getIndexed_yields (p := ClassifyEntry.storable) getClassify_yields) bs v hv)) s

theorem execLoadTableDefect_leads (s : State) : Leads h s (execLoadTableDefect s) :=
  serveLoad_leads (fun q v s _ => withIndex_upholds fun i => writeDefect_upholds h q i v.2 s) s

theorem execLoadTableBin_leads (s : State) : Leads h s (execLoadTableBin s) :=
  serveLoad_leads (fun q v s _ => withIndex_upholds fun set => withIndex_upholds fun p => writeBin_upholds h q set p v.2.2 s) s

theorem execLoadTableIndicator_leads (s : State) : Leads h s (execLoadTableIndicator s) :=
  serveLoad_leads (fun q v s _ => withIndex_upholds fun i => writeIndicator_upholds h q i v.2 s) s

theorem execSaveConfig_leads (s : State) : Leads h s (execSaveConfig s) :=
  serveKind_leads (fun _ _ _ => unlessSaving_upholds ((beginSave_upholds ..).trans (answerOk_upholds ..))) s

theorem execCartSwap_leads (s : State) : Leads h s (execCartSwap s) :=
  serveKind_leads (fun _ _ _ => withIndex_upholds fun _ => withIndex_upholds fun _ => cartSwap_upholds ..) s

theorem execUnknownRequestKind_leads (s : State) : Leads h s (execUnknownRequestKind s) :=
  .next (serveHead_upholds (fun _ _ => refuse_upholds ..) s)

theorem execSaveVerifyDone_leads (passes : Bool) (s : State) : Leads h s (execSaveVerifyDone passes s) := by
  unfold execSaveVerifyDone
  split
  · exact .next (Upholds.ite (fun _ => (Upholds.ite (fun _ => saveGood_upholds ..) fun _ => saveBad_upholds ..).trans
      (arbitrate_upholds ..)) fun _ => .refl ..)
  · exact .next (.refl ..)

theorem execFlashError_leads (s : State) : Leads h s (execFlashError s) :=
  .next (Upholds.ite (fun _ => (saveBad_upholds ..).trans (arbitrate_upholds ..)) fun _ => .refl ..)

theorem execSaveTimeout_leads (s : State) : Leads h s (execSaveTimeout s) := by
  unfold execSaveTimeout
  split
  · exact .next (((reach_upholds ..).trans (saveBad_upholds ..)).trans (arbitrate_upholds ..))
  · exact .next (.refl ..)

theorem execSoftReset_leads (s : State) : Leads h s (execSoftReset s) :=
  .next (Upholds.ite (fun _ => softReset_upholds ..) fun _ => .refl ..)

/-! ### The slot links and the messages between blocks -/

theorem execDriveResponse_leads (hh : h.life = none) (hb : h.binding = none) (n : SlotId) (tag : Byte) (status : StatusClass)
    (code : BitVec 16) (payload : Bytes) (sensor : SensorReading) (s : State) :
    Leads h s (execDriveResponse n tag status code payload sensor s) :=
  .next (Upholds.ite
    (fun _ => (Upholds.ite (fun _ => takeUnexpected_upholds hh ..) fun _ => matchResponse_upholds hh hb ..).trans (finish_upholds ..))
    fun _ => Upholds.ite (fun _ => (takeLate_upholds ..).trans (finish_upholds ..)) fun _ => .refl ..)

theorem execLinkReady_leads (hh : h.life = none) (n : SlotId) (s : State) : Leads h s (execLinkReady n s) :=
  .next (Upholds.ite (fun _ => .refl ..) fun _ => Upholds.ite
    (fun hs => Upholds.ite (fun _ => (recoverySuccess_upholds hh hs).trans (finish_upholds ..)) fun _ => .refl ..)
    fun _ => countGood_upholds ..)

theorem execBadFrame_leads (hh : h.life = none) (n : SlotId) (frame : Bytes) (s : State) : Leads h s (execBadFrame n frame s) := by
  refine .next (Upholds.ite (fun _ => .refl ..) fun _ => ?_)
  have h1 : Upholds h s (modSlot n countBad s) := modSlot_upholds
  exact (h1.trans (Upholds.ite (fun _ => startRecovery_upholds hh ..) fun _ => .refl ..)).trans (finish_upholds ..)

theorem execLineBreak_leads (hh : h.life = none) (n : SlotId) (s : State) : Leads h s (execLineBreak n s) :=
  .next (Upholds.ite (fun _ => .refl ..) fun _ =>
    ((setBreak_upholds ..).trans (startRecovery_upholds hh ..)).trans (finish_upholds ..))

theorem execLineBreakEnd_leads (n : SlotId) (s : State) : Leads h s (execLineBreakEnd n s) :=
  .next (Upholds.ite (fun _ => .refl ..) fun _ => setBreak_upholds ..)

theorem execDriveReset_leads (hh : h.life = none) (hb : h.binding = none) (n : SlotId) (s : State) :
    Leads h s (execDriveReset n s) :=
  .next (Upholds.ite (fun _ => .refl ..) fun _ =>
    ((countGood_upholds ..).trans (takeDriveReset_upholds hh hb ..)).trans (finish_upholds ..))

theorem execClassTimeoutExpiry_leads (hh : h.life = none) (hb : h.binding = none) (n : SlotId) (k : Fin 4) (s : State) :
    Leads h s (execClassTimeoutExpiry n k s) := by
  unfold execClassTimeoutExpiry
  split
  · exact .next (.refl ..)
  · exact .next (((reach_upholds ..).trans (takeTimeout_upholds hh hb ..)).trans (finish_upholds ..))

theorem execLinkReadyWaitExpiry_leads (hh : h.life = none) (n : SlotId) (s : State) : Leads h s (execLinkReadyWaitExpiry n s) := by
  unfold execLinkReadyWaitExpiry
  split
  · exact .next (Upholds.ite (fun _ => ((reach_upholds ..).trans (endAttempt_upholds hh ..)).trans (finish_upholds ..))
      fun _ => .refl ..)
  · exact .next (.refl ..)

theorem execQuarantineRequest_leads (hh : h.life = none) (n : SlotId) (reason : QuarantineReason) (s : State) :
    Leads h s (execQuarantineRequest n reason s) := by
  refine .next (Upholds.ite (fun _ => ?_) fun _ => .refl ..)
  have h1 : Upholds h s { s with transit := { s.transit with quarantines := s.transit.quarantines.erase (n, reason) } } :=
    .of_read rfl
  exact (h1.trans (takeQuarantine_upholds hh ..)).trans (finish_upholds ..)

theorem execHandOver_leads (n : SlotId) (s : State) : Leads h s (execHandOver n s) := by
  refine .next (Upholds.ite (fun _ => ?_) fun _ => .refl ..)
  have h1 : Upholds h s { s with transit := { s.transit with handOvers := s.transit.handOvers.erase n } } := .of_read rfl
  exact (h1.trans (takeHandOver_upholds ..)).trans (finish_upholds ..)

/-! ### Every command -/

/-- Every command answers a next state that upholds the invariants; SET-BUDGET may lower the target below the sum. -/
theorem exec_leads (hh : h.life = none) (hb : h.binding = none) (c : Instr) (ht : c = .setBudget → h.target = true) (s : State) :
    Leads h s (exec c s) := by
  cases c with
  | powerOnReset => exact .next (powerOn_upholds ..)
  | presenceAssert => exact .next (assertPresence_upholds ..)
  | presenceDeassert => exact .next (deassertPresence_upholds ..)
  | settleTimerExpiry => exact execSettleTimerExpiry_leads ..
  | removalCheckEnd => exact execRemovalCheckEnd_leads ..
  | rundownTimerExpiry => exact execRundownTimerExpiry_leads ..
  | parkTimerExpiry => exact execParkTimerExpiry_leads ..
  | supplyWarningAssert => exact .next ((assertWarning_upholds ..).trans (finish_upholds ..))
  | supplyWarningDeassert => exact .next (deassertWarning_upholds ..)
  | restoreDelayExpiry => exact execRestoreDelayExpiry_leads ..
  | tick => exact execTick_leads ..
  | calibrationComplete => exact execCalibrationComplete_leads ..
  | rackFrameBad frame => exact execRackFrameBad_leads frame s
  | slotCmd => exact execSlotCmd_leads ..
  | requestReceived => exact execRequestReceived_leads ..
  | discover => exact serveKind_leads (fun q _ s => discover_upholds h q s) s
  | readPartStatus => exact serveKind_leads (fun q _ s => readPart_upholds h q s) s
  | readSettings => exact serveKind_leads (fun _ _ _ => answerOk_upholds ..) s
  | writeSettings => exact serveKind_leads (fun _ _ _ => unlessSaving_upholds (writeList_upholds ..)) s
  | setBudget => exact serveKind_leads (fun _ _ _ => putTarget_upholds (ht rfl) ..) s
  | loadTableModel => exact execLoadTableModel_leads s
  | loadTableClassify => exact execLoadTableClassify_leads s
  | loadTableDefect => exact execLoadTableDefect_leads s
  | loadTableBin => exact execLoadTableBin_leads s
  | loadTableIndicator => exact execLoadTableIndicator_leads s
  | readTable => exact serveKind_leads (fun q v s => readEntry_upholds h q v s) s
  | saveConfig => exact execSaveConfig_leads s
  | saveEraseDone => exact .next (saveStage_upholds ..)
  | saveWriteDone => exact .next (saveStage_upholds ..)
  | saveVerifyDone => exact execSaveVerifyDone_leads ..
  | flashError => exact execFlashError_leads s
  | saveTimeout => exact execSaveTimeout_leads s
  | readSlot => exact serveKind_leads (fun _ _ _ => withSlot_upholds fun _ => readSlot_upholds ..) s
  | readFilter => exact serveSlotKind_leads (fun q n s => readFilter_upholds h q n s) s
  | startTest => exact serveSlotKind_leads (fun q n s => startTest_upholds h q n s) s
  | endTest => exact serveSlotKind_leads (fun q n s => endTest_upholds hh q n s) s
  | rebase => exact serveKind_leads (fun _ _ _ => withSlot_upholds fun _ => rebase_upholds ..) s
  | quarantine => exact serveSlotKind_leads (fun q n s => quarantine_upholds hh q n s) s
  | recover => exact serveSlotKind_leads (fun q n s => recover_upholds hh q n s) s
  | rematch => exact serveSlotKind_leads (fun q n s => rematch_upholds hh hb q n s) s
  | readManifest => exact serveKind_leads (fun _ _ _ => readManifest_upholds ..) s
  | retireManifest => exact serveKind_leads (fun q v s => retireManifest_upholds h q v s) s
  | cartSwap => exact execCartSwap_leads s
  | resetPart => exact serveKind_leads (fun q _ s => resetPart_upholds h q s) s
  | softReset => exact execSoftReset_leads s
  | driveResponse => exact execDriveResponse_leads hh hb ..
  | badFrame n frame => exact execBadFrame_leads hh n frame s
  | linkReady => exact execLinkReady_leads hh ..
  | driveReset => exact execDriveReset_leads hh hb ..
  | lineBreak => exact execLineBreak_leads hh ..
  | lineBreakEnd => exact execLineBreakEnd_leads ..
  | linkReadyWaitExpiry => exact execLinkReadyWaitExpiry_leads hh ..
  | classTimeoutExpiry => exact execClassTimeoutExpiry_leads hh hb ..
  | quarantineRequest => exact execQuarantineRequest_leads hh ..
  | handOver => exact execHandOver_leads ..
  | transmitComplete => exact execTransmitComplete_leads s
  | unknownRequestKind => exact execUnknownRequestKind_leads s

end

/-! ### Every step -/

/-- What may be left unfinished by a command: nothing, but that SET-BUDGET may lower the target. -/
def InHand.budget : InHand := { InHand.nothing with target := true }

theorem exec_upholds {c : Instr} {s t : State} (ht : exec c s = .next t) : Upholds .budget s t := by
  obtain ⟨u, hu, ha⟩ := exec_leads (h := .budget) rfl rfl c (fun _ => rfl) s
  rw [hu] at ht
  cases ht
  exact ha

/-- A step keeps what a command upholds, the queue of commands apart. -/
theorem step_cases {s t : State} (h : step s = .next t) :
    t = { s with now := s.now + 1 } ∨ ∃ c rest, s.pending = c :: rest ∧ exec c { s with pending := rest } = .next t := by
  unfold step at h
  split at h
  · cases h; exact .inl rfl
  · next c rest hp => exact .inr ⟨c, rest, hp, h⟩

theorem State.LivesBut.budget_iff (s : State) : s.LivesBut .budget ↔ s.livesAgree :=
  Iff.trans ⟨fun h => { h with followed := rfl }, fun h => { h with followed := rfl }⟩ s.livesAgree_iff.symm

theorem State.BindingsBut.budget_iff (s : State) : s.BindingsBut .budget ↔ s.bindingsAgree :=
  Iff.trans ⟨fun h => { h with }, fun h => { h with }⟩ s.bindingsAgree_iff.symm

/-- A step upholds every invariant, seen from a state with the same commands waiting. -/
theorem step_upholds {s t : State} (h : step s = .next t) : ∃ l, Upholds .budget { s with pending := l } t := by
  obtain rfl | ⟨c, rest, -, he⟩ := step_cases h
  · exact ⟨s.pending, .of_read rfl⟩
  · exact ⟨rest, exec_upholds he⟩

/-- Settles O20: every step upholds the relations of a slot's commands. -/
theorem commandsKept : Obligations.CommandsKept := by
  unfold Obligations.CommandsKept
  intro s t h n hn
  obtain ⟨l, hu⟩ := step_upholds h
  exact hu.commands n hn

/-- Settles O28: every step upholds the relations of the slots' lives. -/
theorem livesKept : Obligations.LivesKept := by
  unfold Obligations.LivesKept
  intro s t hl h
  obtain ⟨l, hu⟩ := step_upholds h
  exact (State.LivesBut.budget_iff t).1 (hu.lives ((State.LivesBut.budget_iff { s with pending := l }).2 hl))

/-- Settles O31: every step that starts where the lives agree upholds the bindings. -/
theorem bindingsKept : Obligations.BindingsKept := by
  unfold Obligations.BindingsKept
  intro s t hl hb h
  obtain ⟨l, hu⟩ := step_upholds h
  exact (State.BindingsBut.budget_iff t).1 (hu.bindings ((State.LivesBut.budget_iff { s with pending := l }).2 hl)
    ((State.BindingsBut.budget_iff { s with pending := l }).2 hb))

/-- Settles O56: every step upholds the queues, the notices and the admission queue. -/
theorem queuesAndNoticesKept : Obligations.QueuesAndNoticesKept := by
  unfold Obligations.QueuesAndNoticesKept
  intro s t h
  obtain ⟨l, hu⟩ := step_upholds h
  exact ⟨hu.queues, hu.notices, hu.admission⟩

/-- Settles O57: every step upholds the relations of the Sort Unit. -/
theorem sortUnitKept : Obligations.SortUnitKept := by
  unfold Obligations.SortUnitKept
  intro s t hs h
  obtain ⟨l, hu⟩ := step_upholds h
  exact hu.sort hs

theorem standbyWithinReserve_of_storable {s : State} (hs : s.storable) : s.standbyWithinReserve := fun i hi =>
  standby_le_of_modelCheck ((hs.2.2.1 i).2 hi)

/-- Settles O58: every step upholds the ranges of the store, and with the check of R61 the standby relation of R62. -/
theorem storeKept : Obligations.StoreKept := by
  unfold Obligations.StoreKept
  intro s t hs h
  obtain ⟨l, hu⟩ := step_upholds h
  exact ⟨hu.store hs, standbyWithinReserve_of_storable (hu.store hs)⟩

/-- Settles O59: every command but SET-BUDGET upholds the budget. -/
theorem budgetKept : Obligations.BudgetKept := by
  unfold Obligations.BudgetKept
  intro s t hs hc h
  obtain rfl | ⟨c, rest, hp, he⟩ := step_cases h
  · exact hs
  · obtain ⟨u, hu, ha⟩ := exec_leads (h := .nothing) rfl rfl c (fun e => absurd (e ▸ hp) (hc rest)) { s with pending := rest }
    rw [hu] at he
    cases he
    exact ha.budget rfl hs

/-- Settles O2: no command faults or refuses, and none changes the queue of commands. -/
theorem everyCommandCompletes : Obligations.EveryCommandCompletes := by
  unfold Obligations.EveryCommandCompletes
  intro c s
  obtain ⟨t, ht, hu⟩ := exec_leads (h := .budget) rfl rfl c (fun _ => rfl) s
  exact ⟨t, ht, hu.pending⟩

end Sys2Proof.Machine
end

section
/-! SUPPORT. The queue of commands, the reset state, the end of a step and the events (O1, O3, O6, O11, O55, O60). -/

namespace Sys2Proof.Machine

/-- Settles O1: a step is a case split on the queue, and the front is given. -/
theorem stepRunsFront : Obligations.StepRunsFront := by
  unfold Obligations.StepRunsFront
  intro c rest s h
  rw [step, h]

/-! ### The reset state -/

/-- A reset reads nothing of the state before but the commands that wait, the link frames recorded and the presence lines. -/
theorem startBlocks_congr {cause : RestartCause} {warning : Bool} {now : Nat} {store : Store} {tables : Tables} {sort : SortUnit}
    {port : Port} {s t : State} (hp : t.pending = s.pending) (hs : t.sent = s.sent)
    (hl : ∀ n, (t.slot n).lines.line = (s.slot n).lines.line) :
    startBlocks cause warning now store tables sort port t = startBlocks cause warning now store tables sort port s := by
  have hslots : t.slots.map (resetSlot now store.settings.resetRundown store.settings.settleTime)
      = s.slots.map (resetSlot now store.settings.resetRundown store.settings.settleTime) := by
    ext i hi
    have hline := hl ⟨i, hi⟩
    simp only [State.slot] at hline
    simp only [Vector.getElem_map, resetSlot, hline]
  have hc : clearedBlocks cause warning now store tables sort port t = clearedBlocks cause warning now store tables sort port s := by
    simp only [clearedBlocks, hp, hs, hslots]
  rw [startBlocks_eq, startBlocks_eq, hc]

theorem powerOn_congr {straps : BitVec 8} {warning answers : Bool} {s t : State} (hp : t.pending = s.pending)
    (hf : t.store.flash = s.store.flash) (hl : ∀ n, (t.slot n).lines.line = (s.slot n).lines.line) :
    powerOn straps warning answers t = powerOn straps warning answers s := by
  unfold powerOn
  rw [hf]
  dsimp only
  rw [startBlocks_congr (s := { s with sent := [] }) (t := { t with sent := [] }) hp rfl hl]

/-- Settles O6: the power-on reset over a blank part is that over the reset state itself. -/
theorem resetIsPowerOn : Obligations.ResetIsPowerOn := by
  unfold Obligations.ResetIsPowerOn
  intro s answers hp hf hl
  have hreset : powerOn Config.resetStraps false answers State.reset = State.reset := by
    cases answers <;> decide +kernel
  have hline : ∀ n, (State.reset.slot n).lines.line = false := by decide +kernel
  refine congrArg _ ((powerOn_congr (s := State.reset) hp hf fun n => ?_).trans hreset)
  rw [hl, hline]

/-- Settles O60: the reset state is the power-on state of a part that holds nothing, and each of its relations is evaluated. -/
theorem resetHasInvariants : Obligations.ResetHasInvariants := by
  unfold Obligations.ResetHasInvariants
  have hslot : ∀ n, State.reset.slot n = clearedSlot 0 (.running 20000) .locked (.off, .off) := fun n => by
    simp [State.reset, State.slot]
  refine ⟨⟨by decide, fun n => ?_⟩, ⟨by decide, by decide, fun o => ?_⟩, ?_, Tests.storable_of_defaults _ rfl rfl rfl rfl, ?_,
    List.nodup_nil, fun n => ?_, ⟨fun n => ?_, nofun, nofun⟩, ⟨by decide +kernel, by decide +kernel⟩, rfl, ⟨_, rfl⟩⟩
  · rw [hslot]; exact Nat.zero_le _
  · cases o with
    | part => exact ⟨by decide +kernel, by decide +kernel⟩
    | slot n => simp [noticeStateOf, sourceEmpty, unmaskedSlot, hslot, clearedSlot, show State.reset.notices.queue = [] from rfl]
  · unfold State.sortAgrees; decide +kernel
  · unfold State.withinBudget; decide +kernel
  · rw [hslot]; exact commandsAgree_empty rfl rfl rfl
  · rw [hslot, Slot.lifeAgrees_iff]
    exact ⟨⟨nofun, fun _ _ => rfl, fun _ => rfl⟩, phaseAgrees_of_reason rfl (by simp [clearedSlot])⟩

/-! ### Events without their precondition -/

/-- Settles O11: each command tests its precondition first. -/
theorem staleEventsChangeNothing : Obligations.StaleEventsChangeNothing := by
  unfold Obligations.StaleEventsChangeNothing
  intro n s
  refine ⟨fun h => ?_, fun h => ?_, fun h => ?_, fun h => ?_, fun h => ?_, fun h => ?_, fun h => ?_, fun r h => ?_, fun h => ?_,
    fun k h => ?_, fun h => ⟨?_, ?_, ?_, ?_, fun b => ?_⟩, fun h => ?_,
    fun h => ⟨fun tag st code pay v hl => ?_, fun f => ?_, ?_, ?_, ?_, ?_⟩⟩
  · simp [exec, execSettleTimerExpiry, h]
  · simp [exec, execRemovalCheckEnd, h]
  · cases hr : (s.slot n).lines.rundown with
    | running t => exact absurd hr (h t)
    | stopped | expired => simp [exec, execRundownTimerExpiry, hr]
  · simp [exec, execParkTimerExpiry, h]
  · simp [exec, execRestoreDelayExpiry, h]
  · simp [exec, execCalibrationComplete, h]
  · simp [exec, execHandOver, h]
  · simp [exec, execQuarantineRequest, h]
  · simp [exec, execLinkReadyWaitExpiry, h]
  · have h' : (s.slot n).traffic.inFlight[k.val] = none := h
    simp [exec, execClassTimeoutExpiry, h']
  · simp [exec, execSaveEraseDone, saveStage, h]
  · simp [exec, execSaveWriteDone, saveStage, h]
  · simp [exec, execFlashError, h]
  · simp [exec, execSaveTimeout, h]
  · simp [exec, execSaveVerifyDone, h]
  · simp [exec, execTransmitComplete, h]
  · simp [exec, execDriveResponse, h, hl]
  · simp [exec, execBadFrame, h]
  · simp [exec, execLinkReady, h]
  · simp [exec, execDriveReset, h]
  · simp [exec, execLineBreak, h]
  · simp [exec, execLineBreakEnd, h]

/-! ### The end of a step -/

theorem joinPart_part {s : State} (hq : s.notices.queue.length < 32) : sameIn s (joinPart s) .partSet := by
  unfold joinPart
  rw [if_pos (show _ < Config.noticeQueueDepth from hq)]
  exact ⟨rfl, rfl⟩

theorem noticeLeft_part {s : State} (hq : s.notices.queue.length < 32) : sameIn s (noticeLeft s) .partSet := by
  unfold noticeLeft
  split
  · exact joinPart_part hq
  · exact ⟨rfl, rfl⟩

/-- The queue that a notice has left has a place for the part's. -/
theorem sendNotice_part {src : Source} {rest : List Source} {s : State} (hq : rest.length < 32) :
    sameIn s (sendNotice src rest s) .partSet := by
  cases src with
  | part => exact noticeLeft_part (s := setNoticeState .part .announced (transmit (noticeFrame _ .part) { s with notices.queue := rest })) hq
  | slot n =>
    exact noticeLeft_part (s := setNoticeState (.slot n) .announced (transmit (noticeFrame _ (.slot n)) { s with notices.queue := rest })) hq

theorem arbitrate_part {s : State} (hq : s.notices.queue.length ≤ 32) : sameIn s (arbitrate s) .partSet := by
  unfold arbitrate
  split
  · exact ⟨rfl, rfl⟩
  · split
    · exact ⟨rfl, rfl⟩
    · split
      · exact ⟨rfl, rfl⟩
      · split
        · next e => exact sendNotice_part (by rw [e] at hq; exact hq)
        · split
          · exact ⟨rfl, rfl⟩
          · split <;> exact ⟨rfl, rfl⟩

/-- Settles O3: what the passes and the arbiter keep; a part notice lost joins the part set only when the queue is over full. -/
theorem finishKeeps : Obligations.FinishKeeps := by
  unfold Obligations.FinishKeeps
  intro u
  refine ⟨finish_keeps u, fun n => (finish_slots u n).mono (by simp [grantGroups]), fun hq => ?_⟩
  have hk := settlePasses_keeps u
  obtain ⟨hqueue, -⟩ : sameIn u (settlePasses u) .noticeQueue := hk.same .noticeQueue (by simp) (by simp)
  obtain ⟨hpart, hcause⟩ : sameIn u (settlePasses u) .partSet := hk.same .partSet (by simp) (by simp)
  obtain ⟨hp, hc⟩ := arbitrate_part (s := settlePasses u) (by rw [hqueue]; exact hq)
  exact ⟨hp.trans hpart, hc.trans hcause⟩

/-! ### Events and their notices -/

/-- What is unmasked of a slot's set after a raise (R176). -/
theorem unmaskedSlot_raiseSlot (n : SlotId) (e : SlotEvent) (s : State) :
    unmaskedSlot (raiseSlot n e s) n = unmaskedSlot (modSlot n (fun x => { x with events := x.events ||| e.set }) s) n := by
  have hset : (raiseSlot n e s).store.settings = s.store.settings := (raiseSlot_keeps n e s).same .settings (by simp)
  simp [unmaskedSlot, hset]

/-- A raise that finds a notice announced, or whose kind is masked, adds the kind alone (R176, R177). -/
theorem raiseSlot_of_quiet {n : SlotId} {e : SlotEvent} {s : State} (h : unmaskedSlot s n ≠ 0 ∨ unmaskedSlot (raiseSlot n e s) n = 0) :
    raiseSlot n e s = modSlot n (fun x => { x with events := x.events ||| e.set }) s := by
  rw [unmaskedSlot_raiseSlot] at h
  unfold raiseSlot
  dsimp only
  rw [if_neg (by rintro ⟨h0, h1⟩; exact h.elim (· h0) h1)]

/-- Any other raise asks for the slot's notice. -/
theorem raiseSlot_of_asks {n : SlotId} {e : SlotEvent} {s : State} (h0 : unmaskedSlot s n = 0)
    (h1 : unmaskedSlot (raiseSlot n e s) n ≠ 0) :
    raiseSlot n e s = joinSlot n (modSlot n (fun x => { x with events := x.events ||| e.set }) s) := by
  rw [unmaskedSlot_raiseSlot] at h1
  conv_lhs => unfold raiseSlot
  dsimp only
  rw [if_pos ⟨h0, h1⟩]

theorem joinSlot_of_room {n : SlotId} {s : State} (h : s.notices.queue.length < 32) :
    joinSlot n s = setNoticeState (.slot n) .queued { s with notices.queue := s.notices.queue ++ [.slot n] } := if_pos h

theorem joinSlot_of_full {n : SlotId} {s : State} (h : 32 ≤ s.notices.queue.length) :
    joinSlot n s = raisePart .noticeLost (setNoticeState (.slot n) .lost s) := if_neg (not_lt.2 h)

/-- A part event raised is in the part set, and with the queue full no notice joins it. -/
theorem raisePart_of_full {e : PartEvent} {s : State} (h : 32 ≤ s.notices.queue.length) :
    (raisePart e s).notices.queue = s.notices.queue
      ∧ ∀ i, e.set.getLsbD i = true → (raisePart e s).notices.part.getLsbD i = true := by
  unfold raisePart joinPart
  dsimp only
  rw [if_neg (show ¬ s.notices.queue.length < Config.noticeQueueDepth from not_lt.2 h)]
  split
  · exact ⟨rfl, fun i hi => by simp [hi]⟩
  · exact ⟨rfl, fun i hi => by simp [hi]⟩

/-- SUPPLY_WARN, unmasked: the part notice stands at the head, the oldest slot notice giving way with the queue full (R179). -/
theorem raiseSupplyWarn_unmasked {s : State} (hm : s.store.settings.eventMask.part.getLsbD 1 = false) :
    let t := raiseSupplyWarn s
    let others := s.notices.queue.filter (· != .part)
    t.notices.partState = .queued ∧ t.notices.part.getLsbD 1 = true
      ∧ (others.length < 32 → t.notices.queue = .part :: others ∧ ∀ n, t.slot n = s.slot n)
      ∧ ∀ n rest, others = .slot n :: rest → 32 ≤ others.length →
          t.notices.queue = .part :: rest ∧ (t.slot n).notice = .lost ∧ t.notices.part.getLsbD 5 = true := by
  have h1 : PartEvent.supplyWarn.set.getLsbD 1 = true := rfl
  have h5 : PartEvent.noticeLost.set.getLsbD 5 = true := rfl
  unfold raiseSupplyWarn
  rw [if_neg (show ¬ s.store.settings.eventMask.part.getLsbD PartEvent.supplyWarn.bit = true by rw [show PartEvent.supplyWarn.bit = 1 from rfl, hm]; simp)]
  dsimp only
  generalize s.notices.queue.filter (· != .part) = q
  by_cases hl : q.length < Config.noticeQueueDepth
  · rw [if_pos hl]
    refine ⟨rfl, by simp [setNoticeState, h1], fun _ => ⟨rfl, fun n => rfl⟩, fun n rest _ hfull => absurd hl (not_lt.2 hfull)⟩
  · rw [if_neg hl]
    cases hd : dropOldestSlot q with
    | none =>
      refine ⟨rfl, by simp [setNoticeState, h1], fun h => absurd h hl, fun n rest hq _ => ?_⟩
      rw [hq] at hd
      cases hd
    | some p =>
      refine ⟨rfl, by simp [setNoticeState, h1], fun h => absurd h hl, fun n rest hq _ => ?_⟩
      rw [hq] at hd
      cases hd
      refine ⟨rfl, ?_, by simp [setNoticeState, h5]⟩
      change ((modSlot n (fun x => { x with notice := .lost }) _).slot n).notice = .lost
      rw [slot_modSlot_same]

/-- Settles O55: the rules of raising by whether the source asks for a place and whether the queue has one. -/
theorem eventRaised : Obligations.EventRaised := by
  unfold Obligations.EventRaised
  refine ⟨fun n e s => ?_, fun e s => ?_, fun s => ?_⟩
  · refine ⟨raiseSlot_keeps n e s, raiseSlot_slot_keeps n e s, raiseSlot_slot_events n e s, fun h => ?_,
      fun h0 h1 => ⟨fun hl => ?_, fun hl => ?_⟩⟩
    · rw [raiseSlot_of_quiet h, slot_modSlot_same]
      exact ⟨rfl, rfl⟩
    · rw [raiseSlot_of_asks h0 h1, joinSlot_of_room (by exact hl)]
      exact ⟨rfl, by simp [setNoticeState]⟩
    · rw [raiseSlot_of_asks h0 h1, joinSlot_of_full (by exact hl)]
      obtain ⟨hqueue, hpart⟩ := raisePart_of_full (e := .noticeLost)
        (s := setNoticeState (.slot n) .lost (modSlot n (fun x => { x with events := x.events ||| e.set }) s)) hl
      exact ⟨by simp [setNoticeState], hqueue, hpart 5 rfl⟩
  · dsimp only
    refine ⟨raisePart_keeps e s, fun h => ?_, fun h0 h1 => ⟨fun hl => ?_, fun hl => ?_⟩⟩
    · unfold raisePart
      dsimp only
      rw [if_neg (by rintro ⟨h0, h1⟩; exact h.elim (· h0) h1)]
    all_goals
      unfold raisePart joinPart
      dsimp only
      rw [if_pos ⟨h0, h1⟩]
    · rw [if_pos (show _ < Config.noticeQueueDepth from hl)]; rfl
    · rw [if_neg (show ¬ _ < Config.noticeQueueDepth from not_lt.2 hl)]; rfl
  · have hq : (s.notices.queue.filter (· ≠ .part)) = s.notices.queue.filter (· != .part) :=
      List.filter_congr fun o _ => by cases o <;> simp
    dsimp only
    rw [hq]
    refine ⟨fun hm => ?_, fun hm => ?_⟩
    · exact if_pos hm
    · exact raiseSupplyWarn_unmasked hm

end Sys2Proof.Machine
end

section
/-! SUPPORT. The filter stages (O18, O19). -/

namespace Sys2Proof.Machine

/-! ### The moving levels -/

/-- A level moves toward another by a 2^k-th of the distance, truncated toward zero. -/
theorem toward_eq (a b k : Nat) :
    ((a : Int) + ((b : Int) - a).tdiv (2 ^ k)).toNat = if a ≤ b then a + (b - a) / 2 ^ k else a - (a - b) / 2 ^ k := by
  have hk : ((2 : Int) ^ k) = ((2 ^ k : Nat) : Int) := by push_cast; rfl
  rw [hk]
  split
  · next h =>
    rw [show (b : Int) - a = ((b - a : Nat) : Int) by omega, ← Int.ofNat_tdiv]
    generalize (b - a) / 2 ^ k = q
    omega
  · next h =>
    rw [show (b : Int) - a = -((a - b : Nat) : Int) by omega, Int.neg_tdiv, ← Int.ofNat_tdiv]
    generalize (a - b) / 2 ^ k = q
    omega

/-- So it does not pass what it moves toward. -/
theorem toward_between (a b k : Nat) :
    min a b ≤ (if a ≤ b then a + (b - a) / 2 ^ k else a - (a - b) / 2 ^ k)
      ∧ (if a ≤ b then a + (b - a) / 2 ^ k else a - (a - b) / 2 ^ k) ≤ max a b := by
  have h1 : (b - a) / 2 ^ k ≤ b - a := Nat.div_le_self ..
  have h2 : (a - b) / 2 ^ k ≤ a - b := Nat.div_le_self ..
  generalize (b - a) / 2 ^ k = q at *
  generalize (a - b) / 2 ^ k = r at *
  split
  · next h => rw [min_eq_left h, max_eq_right h]; omega
  · next h => rw [min_eq_right (not_le.1 h).le, max_eq_left (not_le.1 h).le]; omega

theorem stage1_f (kf x : Nat) (f : Filter) :
    (stage1 kf x f).f = if f.f ≤ x * 256 then f.f + (x * 256 - f.f) / 2 ^ kf else f.f - (f.f - x * 256) / 2 ^ kf :=
  toward_eq ..

theorem stage2_clear {f : Filter} (kl : Nat) (h : f.state = .clear) :
    stage2 kl f = { f with l := if f.l ≤ f.f then f.l + (f.f - f.l) / 2 ^ kl else f.l - (f.l - f.f) / 2 ^ kl } := by
  rw [stage2, if_pos h, toward_eq]

theorem stage1_state (kf x : Nat) (f : Filter) : (stage1 kf x f).state = f.state := rfl

/-! ### The excursion, the calibration and the order of the stages -/

/-- Does a sample stand Ts or more above L (R110). -/
theorem excursion_iff (t : ThresholdSet) (x l : Nat) : (t.ts : Int) ≤ (x : Int) - (l / 256 : Nat) ↔ l / 256 + t.ts ≤ x := by omega

theorem stage6_eq (d : Int) (f : Filter) : stage6 d f = { f with maxD := max f.maxD d } := by
  unfold stage6
  split
  · next h => rw [max_eq_right h.le]
  · next h => rw [max_eq_left (not_lt.1 h)]

/-- Settles O18: each stage by its own equation; a truncated step stays between its ends. -/
theorem filterSamples : Obligations.FilterSamples := by
  unfold Obligations.FilterSamples
  refine ⟨fun kf kl x f => ?_, fun t x f => ⟨fun h0 h => ?_, fun h => ?_⟩, fun t count x f => rfl, fun t count x f => ⟨fun h => ?_, rfl⟩,
    fun t count x f h => ?_⟩
  · have h1 := toward_between f.f (x * 256) kf
    rw [← stage1_f] at h1
    refine ⟨stage1_f .., h1.1, h1.2, rfl, fun h => if_neg h, fun h => ?_⟩
    rw [stage2_clear kl h]
    exact ⟨rfl, (toward_between f.l f.f kl).1, (toward_between f.l f.f kl).2, rfl⟩
  · exact if_pos ⟨h0, (excursion_iff ..).2 h⟩
  · have hno : ¬ (0 < t.ts ∧ (t.ts : Int) ≤ (x : Int) - (f.l / 256 : Nat)) := by
      rw [excursion_iff]; omega
    unfold stage5
    rw [if_neg hno]
    refine ⟨fun h0 => if_pos h0, fun h0 h1 => ?_, fun h1 => ?_⟩
    · rw [if_neg (by omega), if_pos h1]; rfl
    · rw [if_neg (by omega), if_neg (by omega)]; rfl
  · unfold evaluate
    rw [if_neg (by simp), if_pos h]
    dsimp only
    by_cases hc : count ≤ min 255 (f.calReached + 1)
    · rw [if_pos hc]
      exact congrArg (StageResult.mk · [] false) (if_pos hc)
    · rw [if_neg hc]
      exact congrArg (StageResult.mk · [] false) (if_neg hc)
  · dsimp only
    unfold evaluate
    rw [if_neg (by simp), if_neg h]
    unfold runStages
    dsimp only
    rw [stage6_eq]
    rfl

/-! ### The state logic -/

/-- From step 3 on: the exit counter, then the halt counter and its limit. -/
theorem watchExit_cases (t : ThresholdSet) (d : Int) (f : Filter) :
    let exits := if d < (t.tw : Int) - t.h then f.exit + 1 else 0
    let toClear := d < (t.tw : Int) - t.h ∧ t.nx ≤ f.exit + 1
    let reseeds := t.haltLimit ≠ 0 ∧ t.haltLimit ≤ min 65535 (f.halt + 1)
    (toClear → watchExit t d f = ⟨clearCounters { f with state := .clear }, [], false⟩)
      ∧ (¬toClear → reseeds →
          watchExit t d f
            = ⟨clearCounters { f with state := .clear, l := f.f, reseeds := min 255 (f.reseeds + 1) }, [], false⟩)
      ∧ (¬toClear → ¬reseeds → watchExit t d f = ⟨{ f with exit := exits, halt := min 65535 (f.halt + 1) }, [], false⟩) := by
  have hhalt : ∀ e, (t.haltLimit ≠ 0 ∧ t.haltLimit ≤ min 65535 (f.halt + 1) →
        watchHalt t { f with exit := e }
          = ⟨clearCounters { f with state := .clear, l := f.f, reseeds := min 255 (f.reseeds + 1) }, [], false⟩)
      ∧ (¬ (t.haltLimit ≠ 0 ∧ t.haltLimit ≤ min 65535 (f.halt + 1)) →
        watchHalt t { f with exit := e } = ⟨{ f with exit := e, halt := min 65535 (f.halt + 1) }, [], false⟩) := fun e =>
    ⟨fun h => (if_pos h).trans rfl, fun h => (if_neg h).trans rfl⟩
  dsimp only
  unfold watchExit
  by_cases hd : d < (t.tw : Int) - t.h
  · by_cases hn : t.nx ≤ f.exit + 1
    · simp only [hd, hn, if_true, not_true, false_implies, and_true, implies_true]
    · simp only [hd, hn, if_true, if_false, true_and, not_false_eq_true, false_implies, forall_const]
      exact hhalt _
  · simp only [hd, if_false, false_and, not_false_eq_true, false_implies, true_and, forall_const]
    exact hhalt _

/-- Stage 4 in WATCH, from its first step. -/
theorem stageWatch_cases (t : ThresholdSet) (d : Int) (f : Filter) :
    let w := min 65535 (f.watchCount + 1)
    let faults := if (t.tf : Int) ≤ d then f.fault + 1 else 0
    let exits := if d < (t.tw : Int) - t.h then f.exit + 1 else 0
    let toFault := (t.tf : Int) ≤ d ∧ t.nf ≤ f.fault + 1
    let toClear := d < (t.tw : Int) - t.h ∧ t.nx ≤ f.exit + 1
    let reseeds := t.haltLimit ≠ 0 ∧ t.haltLimit ≤ min 65535 (f.halt + 1)
    (toFault →
        stageWatch t d f
          = ⟨{ f with state := .fault, watchCount := w, enter := 0, exit := 0, fault := 0, halt := 0 }, [.fault],
              t.faultAction == 1⟩)
      ∧ (¬toFault → toClear →
          stageWatch t d f
            = ⟨{ f with state := .clear, watchCount := w, enter := 0, exit := 0, fault := 0, halt := 0 }, [], false⟩)
      ∧ (¬toFault → ¬toClear → reseeds →
          stageWatch t d f
            = ⟨{ f with state := .clear, l := f.f, watchCount := w, enter := 0, exit := 0, fault := 0, halt := 0
                        reseeds := min 255 (f.reseeds + 1) }, [], false⟩)
      ∧ (¬toFault → ¬toClear → ¬reseeds →
          stageWatch t d f
            = ⟨{ f with watchCount := w, fault := faults, exit := exits, halt := min 65535 (f.halt + 1) }, [], false⟩) := by
  have hexit := fun e => watchExit_cases t d { f with watchCount := min 65535 (f.watchCount + 1), fault := e }
  dsimp only at hexit ⊢
  unfold stageWatch
  by_cases hd : (t.tf : Int) ≤ d
  · by_cases hn : t.nf ≤ f.fault + 1
    · have hf := And.intro hd hn
      refine ⟨fun _ => ?_, fun h => absurd hf h, fun h => absurd hf h, fun h => absurd hf h⟩
      rw [if_pos hd, if_pos hn]
      rfl
    · simp only [hd, hn, if_true, if_false, true_and, not_false_eq_true, false_implies, forall_const]
      exact hexit _
  · simp only [hd, if_false, false_and, not_false_eq_true, false_implies, true_and, forall_const]
    exact hexit _

/-- Settles O19: stage 4 by the metric state and its counters. -/
theorem stateLogic : Obligations.StateLogic := by
  unfold Obligations.StateLogic
  refine ⟨fun t d f h => ⟨fun hd hn => ?_, fun hd hn => ?_, fun hd => ?_⟩, fun t d f => ⟨fun h => ?_, fun h => ?_⟩⟩
  · unfold stage4 stageClear; rw [h]; dsimp only; rw [if_pos hd, if_pos hn]; rfl
  · unfold stage4 stageClear; rw [h]; dsimp only; rw [if_pos hd, if_neg (by omega)]
  · unfold stage4 stageClear; rw [h]; dsimp only; rw [if_neg (by omega)]
  · unfold stage4
    obtain h | h := h <;> rw [h]
  · have hw : stage4 t d f = stageWatch t d f := by unfold stage4; rw [h]
    rw [hw]
    exact stageWatch_cases t d f

end Sys2Proof.Machine
end

section
/-! SUPPORT. The rack link, and how the requests are taken and refused (O21, O22, O24, O25). -/

namespace Sys2Proof.Machine

/-! ### Frames that arrive and frames that are sent -/

theorem strapsInvalid_eq_true {straps : BitVec 8} : strapsInvalid straps = true ↔ stationOf straps < 4 := decide_eq_true_iff

theorem strapsInvalid_eq_false {straps : BitVec 8} : strapsInvalid straps = false ↔ 4 ≤ stationOf straps := by
  rw [← Bool.not_eq_true, strapsInvalid_eq_true, not_lt]

/-- Settles O21: the two commands by the straps and by the kind of the frame sent. -/
theorem portFrames : Obligations.PortFrames := by
  unfold Obligations.PortFrames
  refine ⟨fun frame s => ⟨fun h => ?_, fun h => ?_⟩, fun f s h => ?_⟩
  · simp only [exec, execRackFrameBad, strapsInvalid_eq_false.2 h]
    rfl
  · simp only [exec, execRackFrameBad, strapsInvalid_eq_true.2 h, if_true]
  · simp only [exec, execTransmitComplete, h, countReply]
    split <;> rfl

/-- Settles O24: what the Port takes is decided by the straps and the destination, before the queue is looked at. -/
theorem requestReceived : Obligations.RequestReceived := by
  unfold Obligations.RequestReceived
  intro dest source payload s
  dsimp only
  have htakes : takesRequest s.store.straps dest (payload.getD 1 0) = true
      ↔ (4 ≤ stationOf s.store.straps ∧ dest.toNat = stationOf s.store.straps
          ∨ payload.getD 1 0 = 0x01 ∧ (dest = 0 ∨ dest.toNat = stationOf s.store.straps)) := by
    unfold takesRequest
    by_cases hv : 4 ≤ stationOf s.store.straps
    · simp [strapsInvalid_eq_false.2 hv, hv, discoverKind]; tauto
    · simp [strapsInvalid_eq_true.2 (not_le.1 hv), hv, discoverKind]; tauto
  have hexec : exec (.requestReceived dest source payload) s
      = .next (if takesRequest s.store.straps dest (payload.getD 1 0) then
          arbitrate (placeRequest source (payload.getD 0 0) (payload.getD 1 0) (payload.drop 2) s)
        else if strapsInvalid s.store.straps = false ∧ dest = 0 then
          { s with port := { s.port with broadcastDiscards := saturate 65535 (s.port.broadcastDiscards + 1) } }
        else s) := rfl
  rw [hexec, ← htakes]
  refine ⟨fun h hl => ?_, fun h hl => ?_, fun h hv hd => ?_, fun h hv => ?_⟩
  · rw [if_pos h, placeRequest, if_pos (by exact hl)]
  · rw [if_pos h, placeRequest, if_neg (by exact not_lt.2 hl)]
    rfl
  · rw [if_neg h, if_pos ⟨strapsInvalid_eq_false.2 hv, hd⟩]
    rfl
  · rw [if_neg h, if_neg (by rw [strapsInvalid_eq_false]; exact hv)]

/-! ### The checks of a slot command -/

theorem slotByte_toNat (n : SlotId) : (slotByte n).toNat = n.val := by
  simp only [slotByte, BitVec.toNat_ofNat]
  omega

theorem portSlotCmd_of_slot {payload : Bytes} {n : SlotId} (h : payload.getD 0 0 = slotByte n) (source : Byte) (s : State) :
    portSlotCmd source payload s = takeSlotCmd n source payload s := by
  have hn : (payload.getD 0 0).toNat = n.val := by rw [h, slotByte_toNat]
  have hf : (⟨n.val, n.isLt⟩ : SlotId) = n := rfl
  unfold portSlotCmd
  simp only [hn, n.isLt, dif_pos, hf]

/-- A SLOT_CMD to a slot of the part's own station. -/
theorem exec_slotCmd {dest source : Byte} {payload : Bytes} {s : State} {n : SlotId} (hv : 4 ≤ stationOf s.store.straps)
    (hd : dest.toNat = stationOf s.store.straps) (hn : payload.getD 0 0 = slotByte n) :
    exec (.slotCmd dest source payload) s = .next (finish (takeSlotCmd n source payload s)) := by
  simp only [exec, execSlotCmd]
  rw [if_pos ⟨strapsInvalid_eq_false.2 hv, hd⟩, portSlotCmd_of_slot hn]

/-- A frame that fails a check is answered with the check's code. -/
theorem takeSlotCmd_refused {n : SlotId} {source : Byte} {payload : Bytes} {s : State} {code : PartCode}
    (h : checkCommand (s.slot n) (payload.getD 1 0).toNat (frameCommand payload) = .error code) :
    takeSlotCmd n source payload s
      = { s with port := { s.port with
          responses := s.port.responses ++ [.partMade source (slotByte n) (payload.getD 1 0) code] } } := by
  unfold takeSlotCmd
  dsimp only
  rw [h]
  simp only [answerPart, pushResponse, BitVec.ofNat_toNat, BitVec.setWidth_eq]

theorem holdsTag_iff (x : Slot) (tag : Nat) :
    x.holdsTag tag = true ↔ (∃ q ∈ x.traffic.queue, q.tag = tag) ∨ ∃ k : Fin 4, ∃ e, x.traffic.inFlight[k] = some e ∧ e.tag = tag := by
  rw [← not_iff_not, Bool.not_eq_true, holdsTag_eq_false]
  push Not
  rfl

/-- The checks of R25 after the tag's and the frame's. -/
theorem checkCommand_some {x : Slot} {tag : Nat} (h : tag ≤ 27) (c : CmdClass) :
    checkCommand x tag (some c) =
      if x.state.accepts c = false then .error .notAccepting
      else if x.holdsTag tag = true then .error .tagInUse
      else if c = .heavy ∧ x.power.spindle = .stopped then .error .spindleStopped
      else if 8 ≤ x.traffic.queue.length then .error .queueFull
      else .ok c := by
  unfold checkCommand
  rw [if_neg (not_lt.2 h)]
  dsimp only
  cases x.state.accepts c <;> rfl

/-- Settles O22: each failed check gives its code, and the code fixes the outcome. -/
theorem slotCmdRefused : Obligations.SlotCmdRefused := by
  unfold Obligations.SlotCmdRefused
  refine ⟨fun dest source payload s => ⟨fun h => ?_, fun hv hd h48 => ?_⟩, fun dest source payload s n hv hd hn => ?_⟩
  · simp only [exec, execSlotCmd]
    rw [if_neg]
    rw [strapsInvalid_eq_false]
    rintro ⟨h1, h2⟩
    exact h.elim (not_lt.2 h1) (· h2)
  · simp only [exec, execSlotCmd]
    rw [if_pos ⟨strapsInvalid_eq_false.2 hv, hd⟩, portSlotCmd, dif_neg (not_lt.2 h48)]
    rfl
  · dsimp only
    have hcode : ∀ code, checkCommand (s.slot n) (payload.getD 1 0).toNat (frameCommand payload) = .error code →
        exec (.slotCmd dest source payload) s = .next (finish { s with port := { s.port with
          responses := s.port.responses ++ [.partMade source (slotByte n) (payload.getD 1 0) code] } }) := fun code h => by
      rw [exec_slotCmd hv hd hn, takeSlotCmd_refused h]
    rw [← holdsTag_iff]
    refine ⟨fun h => hcode _ (if_pos h), fun h hc => hcode _ ?_, fun c h hc => ⟨fun ha => hcode _ ?_, fun ha =>
      ⟨fun hu => hcode _ ?_, fun hu => ⟨fun hs => hcode _ ?_, fun hs hq => hcode _ ?_⟩⟩⟩⟩
    · rw [hc, checkCommand, if_neg (not_lt.2 h)]
    all_goals rw [hc, checkCommand_some h]
    · rw [if_pos ha]
    · rw [if_neg (by simp [ha]), if_pos hu]
    · rw [if_neg (by simp [ha]), if_neg hu, if_pos hs]
    · rw [if_neg (by simp [ha]), if_neg hu, if_neg hs, if_pos hq]

/-! ### Requests taken and refused -/

theorem serveHead_of_mine {mine : QueuedRequest → Bool} {f : QueuedRequest → State → State} {s : State} {q : QueuedRequest}
    {rest : List QueuedRequest} (ha : s.port.resetAwaits = none) (hr : s.port.requests = q :: rest) (hq : mine q = true) :
    serveHead mine f s = finish (f q (s.taken rest)) := by
  unfold serveHead
  rw [ha, hr]
  exact if_pos hq

/-- A request command of another kind, or that finds no request, changes nothing. -/
theorem serveHead_idle {mine : QueuedRequest → Bool} {f : QueuedRequest → State → State} {s : State}
    (h : s.port.resetAwaits.isSome = true ∨ s.port.requests = [] ∨ ∃ q rest, s.port.requests = q :: rest ∧ mine q = false) :
    serveHead mine f s = s := by
  unfold serveHead
  obtain h | h | ⟨q, rest, hq, hm⟩ := h
  · obtain ⟨k, hk⟩ := Option.isSome_iff_exists.1 h
    rw [hk]
  · rw [h]
    cases s.port.resetAwaits <;> rfl
  · rw [hq]
    cases s.port.resetAwaits with
    | none => exact if_neg (by simp [hm])
    | some k => rfl

theorem serveKind_of_serves {kind : Byte} {f : QueuedRequest → State → State} {s : State} {q : QueuedRequest}
    {rest : List QueuedRequest} (h : Serves s q rest kind) : serveKind kind f s = finish (f q (s.taken rest)) := by
  obtain ⟨ha, hr, hk⟩ := h
  exact serveHead_of_mine ha hr (by simp [hk])

theorem answer_eq (q : QueuedRequest) (status : ReplyStatus) (reason : RefusalReason) (v : Results) (s : State) :
    answer q status reason v s = s.replied q status reason v := rfl

theorem answerOk_eq (q : QueuedRequest) (v : Results) (s : State) : answerOk q v s = s.replied q .ok .none v := rfl

theorem refuse_eq (q : QueuedRequest) (status : ReplyStatus) (s : State) :
    refuse q status s = s.replied q status .none (.zeroed 0 none (zeroWidth q.kind q.operands)) := rfl

theorem refuseTable_eq (q : QueuedRequest) (reason : RefusalReason) (s : State) :
    refuseTable q reason s = s.replied q .tableRefused reason (.zeroed 0 none (zeroWidth q.kind q.operands)) := rfl

theorem refuseState_eq (q : QueuedRequest) (before after : Nat) (x : Slot) (s : State) :
    refuseState q before after x s = s.replied q .wrongState .none (.zeroed before (some x.state) after) := rfl

/-- The state with the head taken and answered, its port aside, is as it was. -/
@[simp] theorem taken_slot (s : State) (rest : List QueuedRequest) (n : SlotId) : (s.taken rest).slot n = s.slot n := rfl

@[simp] theorem taken_store (s : State) (rest : List QueuedRequest) : (s.taken rest).store = s.store := rfl

theorem withOperands_of_read {α : Type} {read : Bytes → Option α} {q : QueuedRequest} {f : α → State → State} {s : State} {v : α}
    (h : read q.operands = some v) : withOperands read q f s = f v s := by
  unfold withOperands
  rw [h]

theorem withOperands_of_none {α : Type} {read : Bytes → Option α} {q : QueuedRequest} {f : α → State → State} {s : State}
    (h : read q.operands = none) : withOperands read q f s = refuse q .badRequest s := by
  unfold withOperands
  rw [h]

theorem unlessSaving_of_none {q : QueuedRequest} {f : State → State} {s : State} (h : s.store.save = none) :
    unlessSaving q f s = f s := if_neg (by simp [h])

theorem unlessSaving_of_some {q : QueuedRequest} {f : State → State} {s : State} (h : s.store.save.isSome = true) :
    unlessSaving q f s = refuse q .busy s := if_pos h

theorem withSlot_of_slot {q : QueuedRequest} {f : SlotId → State → State} {s : State} (n : SlotId) :
    withSlot n.val q f s = f n s := dif_pos n.isLt

theorem withSlot_of_beyond {n : Nat} {q : QueuedRequest} {f : SlotId → State → State} {s : State} (h : 48 ≤ n) :
    withSlot n q f s = refuse q .badSlot s := dif_neg (not_lt.2 h)

theorem withIndex_of_fin {b : Nat} {q : QueuedRequest} {f : Fin b → State → State} {s : State} (i : Fin b) :
    withIndex b i.val q f s = f i s := dif_pos i.isLt

theorem withIndex_of_beyond {b i : Nat} {q : QueuedRequest} {f : Fin b → State → State} {s : State} (h : b ≤ i) :
    withIndex b i q f s = refuse q .badRequest s := dif_neg (not_lt.2 h)

/-! ### The operand readers -/

theorem getNum_one_cons (b : Byte) (bs : Bytes) : getNum 1 (b :: bs) = some (b.toNat, bs) := by
  simp [getNum, getBytes, leNat]

theorem getNum_one_nil : getNum 1 [] = none := rfl

theorem getFlag_cons (b : Byte) (bs : Bytes) : getFlag (b :: bs) = some (b.toNat % 2 == 1, bs) := by
  simp [getFlag, getNum_one_cons]

theorem readSlotOnly_single (b : Byte) : readSlotOnly [b] = some b.toNat := by
  simp [readSlotOnly, readAll, getNum_one_cons]

/-- A reader that takes a slot number first. -/
def NamesSlot {α : Type} (read : Bytes → Option α) (slot : α → Nat) : Prop :=
  ∀ bs v, read bs = some v → slot v = (bs.headD 0).toNat

theorem readSlotOnly_namesSlot : NamesSlot readSlotOnly id := by
  intro bs v h
  cases bs with
  | nil => cases h
  | cons b bs =>
    cases bs with
    | nil => rw [readSlotOnly_single] at h; exact (Option.some.inj h).symm
    | cons c bs => simp [readSlotOnly, readAll, getNum_one_cons] at h

theorem readSlotAck_namesSlot : NamesSlot readSlotAck Prod.fst := by
  intro bs v h
  cases bs with
  | nil => cases h
  | cons b bs =>
    cases bs with
    | nil => simp [readSlotAck, readAll, getNum_one_cons, getFlag, getNum_one_nil] at h
    | cons c bs =>
      simp only [readSlotAck, readAll, getNum_one_cons, getFlag_cons, bind, Option.bind] at h
      split at h
      · next e => cases e; cases h; rfl
      · cases h

theorem readRebase_namesSlot : NamesSlot readRebase Prod.fst := by
  intro bs v h
  cases bs with
  | nil => cases h
  | cons b bs =>
    cases bs with
    | nil => simp [readRebase, readAll, getNum_one_cons, getNum_one_nil] at h
    | cons c bs =>
      simp only [readRebase, readAll, getNum_one_cons, bind, Option.bind] at h
      cases hm : metricsOf c.toNat with
      | none => rw [hm] at h; cases h
      | some ms =>
        rw [hm] at h
        dsimp only at h
        split at h
        · next e => cases e; cases h; rfl
        · cases h

end Sys2Proof.Machine
end

section
/-! SUPPORT. What every request command does before its effect (O25). -/

namespace Sys2Proof.Machine

/-- A request command that executes heads of one kind only. -/
def ServesKind (c : Instr) (kind : Byte) : Prop :=
  ∃ mine f, (∀ s, exec c s = .next (serveHead mine f s)) ∧ ∀ q : QueuedRequest, mine q = true → q.kind = kind

/-- A request command that reads its operands first, with the reader that step 1 of R157 uses. -/
def ReadsKind (c : Instr) (kind : Byte) : Prop :=
  ∃ (α : Type) (read : Bytes → Option α) (f : QueuedRequest → α → State → State),
    (∀ s, exec c s = .next (serveKind kind (fun q => withOperands read q (f q)) s))
      ∧ ∀ bs, requestFits kind bs = (read bs).isSome

/-- A LOAD-TABLE command, which reads its operands behind the table name and then asks for a save in flight. -/
def LoadsKind (c : Instr) (code : Byte) : Prop :=
  ∃ (table : TableName) (α : Type) (read : Bytes → Option α) (f : QueuedRequest → α → State → State),
    (∀ s, exec c s
        = .next (serveLoad table (fun q => withOperands (read ·.tail) q fun v => unlessSaving q (f q v)) s))
      ∧ TableName.ofCode code.toNat = some table
      ∧ ∀ bs, bs.head? = some code → requestFits 0x06 bs = (read bs.tail).isSome

/-- A request command whose operands name a slot first. -/
def NamesKind (c : Instr) (kind : Byte) : Prop :=
  ∃ (α : Type) (read : Bytes → Option α) (slot : α → Nat) (f : QueuedRequest → α → SlotId → State → State),
    (∀ s, exec c s = .next (serveKind kind (fun q => withOperands read q fun v => withSlot (slot v) q (f q v)) s))
      ∧ (∀ bs, requestFits kind bs = (read bs).isSome) ∧ NamesSlot read slot

/-- A request command that asks for a save in flight once its operands are read. -/
def SavesKind (c : Instr) (kind : Byte) : Prop :=
  ∃ (α : Type) (read : Bytes → Option α) (f : QueuedRequest → α → State → State),
    (∀ s, exec c s = .next (serveKind kind (fun q => withOperands read q fun v => unlessSaving q (f q v)) s))
      ∧ ∀ bs, requestFits kind bs = (read bs).isSome

theorem servesKind_all : ∀ p ∈ [((0x01 : Byte), Instr.discover), (0x02, .readPartStatus), (0x03, .readSettings), (0x04, .writeSettings),
    (0x05, .setBudget), (0x06, .loadTableModel), (0x06, .loadTableClassify), (0x06, .loadTableDefect),
    (0x06, .loadTableBin), (0x06, .loadTableIndicator), (0x07, .readTable), (0x08, .saveConfig), (0x09, .readSlot),
    (0x0A, .readFilter), (0x0B, .startTest), (0x0C, .endTest), (0x0D, .rebase), (0x0E, .quarantine), (0x0F, .recover),
    (0x10, .rematch), (0x11, .readManifest), (0x12, .retireManifest), (0x13, .cartSwap), (0x14, .resetPart)],
    ServesKind p.2 p.1 := by
  simp only [List.forall_mem_cons, List.not_mem_nil, false_implies, implies_true, and_true]
  refine ⟨?_, ?_, ?_, ?_, ?_, ?_, ?_, ?_, ?_, ?_, ?_, ?_, ?_, ?_, ?_, ?_, ?_, ?_, ?_, ?_, ?_, ?_, ?_, ?_⟩ <;>
    exact ⟨_, _, fun _ => rfl, fun q hq => by simp at hq; simp [hq]⟩

theorem readsKind_all : ∀ p ∈ [((0x01 : Byte), Instr.discover), (0x02, .readPartStatus), (0x03, .readSettings), (0x04, .writeSettings),
    (0x05, .setBudget), (0x07, .readTable), (0x08, .saveConfig), (0x09, .readSlot), (0x0A, .readFilter),
    (0x0B, .startTest), (0x0C, .endTest), (0x0D, .rebase), (0x0E, .quarantine), (0x0F, .recover), (0x10, .rematch),
    (0x11, .readManifest), (0x12, .retireManifest), (0x13, .cartSwap), (0x14, .resetPart)], ReadsKind p.2 p.1 := by
  simp only [List.forall_mem_cons, List.not_mem_nil, false_implies, implies_true, and_true]
  refine ⟨?_, ?_, ?_, ?_, ?_, ?_, ?_, ?_, ?_, ?_, ?_, ?_, ?_, ?_, ?_, ?_, ?_, ?_, ?_⟩ <;>
    exact ⟨_, _, _, fun _ => rfl, fun _ => rfl⟩

theorem loadsKind_all : ∀ p ∈ [((0x01 : Byte), Instr.loadTableModel), (0x02, .loadTableClassify), (0x03, .loadTableDefect),
    (0x04, .loadTableBin), (0x05, .loadTableIndicator)], LoadsKind p.2 p.1 := by
  have hfits : ∀ (bs : Bytes) (code : Byte), bs.head? = some code → requestFits 0x06 bs
      = match TableName.ofCode code.toNat with
        | none => false
        | some .model => (readLoadModel bs.tail).isSome
        | some .classify => (readLoadClassify bs.tail).isSome
        | some .defect => (readLoadDefect bs.tail).isSome
        | some .bin => (readLoadBin bs.tail).isSome
        | some .indicator => (readLoadIndicator bs.tail).isSome := fun bs code h => by
    change loadFits bs = _
    unfold loadFits loadedTable
    rw [h]
    rfl
  simp only [List.forall_mem_cons, List.not_mem_nil, false_implies, implies_true, and_true]
  exact ⟨⟨.model, _, _, _, fun _ => rfl, rfl, fun bs h => hfits bs _ h⟩, ⟨.classify, _, _, _, fun _ => rfl, rfl, fun bs h => hfits bs _ h⟩,
    ⟨.defect, _, _, _, fun _ => rfl, rfl, fun bs h => hfits bs _ h⟩, ⟨.bin, _, _, _, fun _ => rfl, rfl, fun bs h => hfits bs _ h⟩,
    ⟨.indicator, _, _, _, fun _ => rfl, rfl, fun bs h => hfits bs _ h⟩⟩

theorem namesKind_all : ∀ p ∈ [((0x09 : Byte), Instr.readSlot), (0x0A, .readFilter), (0x0B, .startTest), (0x0C, .endTest),
    (0x0D, .rebase), (0x0E, .quarantine), (0x0F, .recover), (0x10, .rematch)], NamesKind p.2 p.1 := by
  simp only [List.forall_mem_cons, List.not_mem_nil, false_implies, implies_true, and_true]
  exact ⟨⟨_, readSlotAck, Prod.fst, _, fun _ => rfl, fun _ => rfl, readSlotAck_namesSlot⟩,
    ⟨_, readSlotOnly, id, fun q _ n => readFilter q n, fun _ => rfl, fun _ => rfl, readSlotOnly_namesSlot⟩,
    ⟨_, readSlotOnly, id, fun q _ n => startTest q n, fun _ => rfl, fun _ => rfl, readSlotOnly_namesSlot⟩,
    ⟨_, readSlotOnly, id, fun q _ n => endTest q n, fun _ => rfl, fun _ => rfl, readSlotOnly_namesSlot⟩,
    ⟨_, readRebase, Prod.fst, _, fun _ => rfl, fun _ => rfl, readRebase_namesSlot⟩,
    ⟨_, readSlotOnly, id, fun q _ n => quarantine q n, fun _ => rfl, fun _ => rfl, readSlotOnly_namesSlot⟩,
    ⟨_, readSlotOnly, id, fun q _ n => recover q n, fun _ => rfl, fun _ => rfl, readSlotOnly_namesSlot⟩,
    ⟨_, readSlotOnly, id, fun q _ n => rematch q n, fun _ => rfl, fun _ => rfl, readSlotOnly_namesSlot⟩⟩

theorem savesKind_all : ∀ p ∈ [((0x04 : Byte), Instr.writeSettings), (0x08, .saveConfig)], SavesKind p.2 p.1 := by
  simp only [List.forall_mem_cons, List.not_mem_nil, false_implies, implies_true, and_true]
  exact ⟨⟨_, readPairs, fun q => writeList q, fun _ => rfl, fun _ => rfl⟩,
    ⟨_, readNothing, fun q _ s => answerOk q .empty (beginSave s), fun _ => rfl, fun _ => rfl⟩⟩

/-- A request whose operands do not fit. -/
theorem ReadsKind.refused {c : Instr} {kind : Byte} (h : ReadsKind c kind) {s : State} {q : QueuedRequest}
    {rest : List QueuedRequest} (hs : Serves s q rest kind) (hf : requestFits q.kind q.operands = false) :
    exec c s = .next (finish ((s.taken rest).replied q .badRequest .none (.zeroed 0 none (zeroWidth q.kind q.operands)))) := by
  obtain ⟨α, read, f, he, hfits⟩ := h
  rw [hs.2.2, hfits, Option.isSome_eq_false_iff, Option.isNone_iff_eq_none] at hf
  rw [he, serveKind_of_serves hs, withOperands_of_none hf, refuse_eq]

/-- WRITE-SETTINGS and SAVE-CONFIG wait for a save in flight. -/
theorem SavesKind.busy {c : Instr} {kind : Byte} (h : SavesKind c kind) {s : State} {q : QueuedRequest}
    {rest : List QueuedRequest} (hs : Serves s q rest kind) (hf : requestFits q.kind q.operands = true)
    (hv : s.store.save.isSome = true) :
    exec c s = .next (finish ((s.taken rest).replied q .busy .none (.zeroed 0 none (zeroWidth q.kind q.operands)))) := by
  obtain ⟨α, read, f, he, hfits⟩ := h
  rw [hs.2.2, hfits, Option.isSome_iff_exists] at hf
  obtain ⟨v, hr⟩ := hf
  rw [he, serveKind_of_serves hs, withOperands_of_read hr, unlessSaving_of_some (s := s.taken rest) hv, refuse_eq]

/-- So does LOAD-TABLE. -/
theorem LoadsKind.busy {c : Instr} {code : Byte} (h : LoadsKind c code) {s : State} {q : QueuedRequest}
    {rest : List QueuedRequest} (hs : Serves s q rest 0x06) (hc : q.operands.head? = some code)
    (hf : requestFits q.kind q.operands = true) (hv : s.store.save.isSome = true) :
    exec c s = .next (finish ((s.taken rest).replied q .busy .none (.zeroed 0 none (zeroWidth q.kind q.operands)))) := by
  obtain ⟨table, α, read, f, he, ht, hfits⟩ := h
  rw [hs.2.2, hfits _ hc, Option.isSome_iff_exists] at hf
  obtain ⟨v, hr⟩ := hf
  have hmine : (q.kind == 0x06 && loadedTable q.operands == some table) = true := by
    simp [hs.2.2, loadedTable, hc, ht]
  rw [he, serveLoad, serveHead_of_mine hs.1 hs.2.1 hmine, withOperands_of_read (read := (read ·.tail)) hr,
    unlessSaving_of_some (s := s.taken rest) hv, refuse_eq]

/-- A slot number of 48 or more. -/
theorem NamesKind.badSlot {c : Instr} {kind : Byte} (h : NamesKind c kind) {s : State} {q : QueuedRequest}
    {rest : List QueuedRequest} (hs : Serves s q rest kind) (hf : requestFits q.kind q.operands = true)
    (hn : 48 ≤ (q.operands.headD 0).toNat) :
    exec c s = .next (finish ((s.taken rest).replied q .badSlot .none (.zeroed 0 none (zeroWidth q.kind q.operands)))) := by
  obtain ⟨α, read, slot, f, he, hfits, hslot⟩ := h
  rw [hs.2.2, hfits, Option.isSome_iff_exists] at hf
  obtain ⟨v, hr⟩ := hf
  rw [he, serveKind_of_serves hs, withOperands_of_read hr, withSlot_of_beyond (hslot _ _ hr ▸ hn), refuse_eq]

/-- A request that names one slot of the part alone. -/
theorem serveKind_of_slot {kind : Byte} {f : QueuedRequest → SlotId → State → State} {s : State} {q : QueuedRequest}
    {rest : List QueuedRequest} {n : SlotId} (hs : Serves s q rest kind) (ho : q.operands = [slotByte n]) :
    serveKind kind (fun q => withOperands readSlotOnly q fun v => withSlot v q (f q)) s = finish (f q n (s.taken rest)) := by
  have hr : readSlotOnly q.operands = some n.val := by rw [ho, readSlotOnly_single, slotByte_toNat]
  rw [serveKind_of_serves hs, withOperands_of_read hr, withSlot_of_slot]

theorem readRebase_pair (n : SlotId) (m : Fin 5) :
    ∃ ms, metricsOf m.val = some ms ∧ readRebase [slotByte n, BitVec.ofNat 8 m.val] = some (n.val, ms) := by
  have hm : (BitVec.ofNat 8 m.val).toNat = m.val := by simp only [BitVec.toNat_ofNat]; omega
  have hms : ∀ m : Fin 5, ∃ ms, metricsOf m.val = some ms := by simp [Fin.forall_fin_succ, metricsOf]
  obtain ⟨ms, hms⟩ := hms m
  refine ⟨ms, hms, ?_⟩
  simp [readRebase, readAll, getNum_one_cons, slotByte_toNat, hm, hms]

/-- REBASE of a slot and a metric name. -/
theorem exec_rebase {s : State} {q : QueuedRequest} {rest : List QueuedRequest} {n : SlotId} {m : Fin 5} {ms : List Metric}
    (hs : Serves s q rest 0x0D) (ho : q.operands = [slotByte n, BitVec.ofNat 8 m.val]) (hm : metricsOf m.val = some ms) :
    exec .rebase s = .next (finish (rebase q ms n (s.taken rest))) := by
  obtain ⟨ms', hms', hr⟩ := readRebase_pair n m
  rw [hm] at hms'
  cases hms'
  rw [← ho] at hr
  change Host.Outcome.next (serveKind 0x0D _ s) = _
  rw [serveKind_of_serves hs, withOperands_of_read hr, withSlot_of_slot]

theorem inTest_eq_false {st : SlotState} (h1 : st ≠ .calibrating) (h2 : st ≠ .burning) : st.inTest = false := by
  cases st <;> simp_all [SlotState.inTest]

/-- Settles O25: every request command is one serving of the queue head, whose checks are taken in turn. -/
theorem requestRefused : Obligations.RequestRefused := by
  unfold Obligations.RequestRefused
  refine ⟨fun s p hp h => ?_, fun s q rest ha hr => ⟨fun hf => ?_, fun hf => ?_, fun hk => ?_⟩, fun s q rest => ⟨fun p hp hs hf => ?_,
    fun p hp hs hf hv => ?_, fun p hp hs hc hf hv => ?_, fun p hp hs hf hn => ?_⟩, fun s q rest n => ?_⟩
  · obtain ⟨mine, f, he, hm⟩ := servesKind_all p hp
    rw [he, serveHead_idle]
    refine h.imp_right (Or.imp_right ?_)
    rintro ⟨q, rest, hq, hk⟩
    exact ⟨q, rest, hq, Bool.eq_false_iff.2 fun e => hk (hm q e)⟩
  · change Host.Outcome.next (serveHead _ _ s) = _
    rw [serveHead_of_mine ha hr (by simp [hf]), refuse_eq]
  · change Host.Outcome.next (serveHead _ _ s) = _
    rw [serveHead_idle (.inr (.inr ⟨q, rest, hr, by simp [hf]⟩))]
  · have hn : q.kind.toNat = 0 ∨ 0x15 ≤ q.kind.toNat := hk.imp_left fun e => by rw [e]; rfl
    unfold requestFits
    split <;> try omega
    rfl
  · exact (readsKind_all p hp).refused hs hf
  · exact (savesKind_all p hp).busy hs hf hv
  · exact (loadsKind_all p hp).busy hs hc hf hv
  · exact (namesKind_all p hp).badSlot hs hf hn
  · refine ⟨fun hs ho h => ?_, fun hs ho h1 h2 => ?_, fun hs ho h1 h2 => ?_, fun hs ho h => ?_, fun hs ho h0 h1 h2 => ?_,
      fun hs ho h0 h => ?_⟩
    · exact congrArg _ ((serveKind_of_slot hs ho).trans (congrArg finish (if_neg h)))
    · exact congrArg _ ((serveKind_of_slot hs ho).trans (congrArg finish (if_neg (by simp [inTest_eq_false h1 h2]))))
    · obtain ⟨m, ho⟩ := ho
      obtain ⟨ms, hms, -⟩ := readRebase_pair n m
      rw [exec_rebase hs ho hms]
      exact congrArg _ (congrArg finish (if_neg (by simp [inTest_eq_false h1 h2])))
    · exact congrArg _ ((serveKind_of_slot hs ho).trans (congrArg finish (if_pos h)))
    · refine congrArg _ ((serveKind_of_slot hs ho).trans (congrArg finish (if_neg ?_)))
      simp [takesRecover, h0, inTest_eq_false h1 h2]
    · refine congrArg _ ((serveKind_of_slot hs ho).trans (congrArg finish (if_neg ?_)))
      rw [taken_slot, not_or, Slot.rebindable]
      refine ⟨h0, fun hb => ?_⟩
      simp only [Bool.and_eq_true, beq_iff_eq, Bool.not_eq_true'] at hb
      obtain ⟨⟨⟨h1, h2⟩, h3⟩, h4⟩ := hb
      simp [h1, h2, h3, h4] at h

end Sys2Proof.Machine
end

section
/-! SUPPORT. The save, the reads of a slot and the starts of a test (O32, O33, O34, O36). -/

namespace Sys2Proof.Machine

/-! ### Part events -/

theorem joinPart_getLsbD {s : State} {i : Nat} (h : s.notices.part.getLsbD i = true) :
    (joinPart s).notices.part.getLsbD i = true := by
  unfold joinPart
  split
  · exact h
  · simp [h]

/-- A part event raised is pending. -/
theorem raisePart_getLsbD {e : PartEvent} {i : Nat} (h : e.set.getLsbD i = true) (s : State) :
    (raisePart e s).notices.part.getLsbD i = true := by
  unfold raisePart
  dsimp only
  split
  · exact joinPart_getLsbD (by simp [h])
  · simp [h]

@[simp] theorem raisePart_store (e : PartEvent) (s : State) : (raisePart e s).store = s.store := by
  unfold raisePart joinPart
  dsimp only
  split
  · split <;> rfl
  · rfl

theorem raisePart_now (e : PartEvent) (s : State) : (raisePart e s).now = s.now :=
  (raisePart_keeps e s).same .now (by simp)

/-! ### The save -/

/-- A save ends: its image, its flash and its event (R192). -/
theorem raisePart_ended {s : State} {image : ImageState} {flash : Option Bytes} {e : PartEvent} {i now : Nat}
    (hi : e.set.getLsbD i = true) (hn : s.now = now) :
    KeepsBut [.now, .image, .partSet, .noticeQueue] s
        (raisePart e { s with store := { s.store with image := image, flash := flash, save := none } })
      ∧ (raisePart e { s with store := { s.store with image := image, flash := flash, save := none } }).now = now
      ∧ (raisePart e { s with store := { s.store with image := image, flash := flash, save := none } }).store
          = { s.store with image := image, flash := flash, save := none }
      ∧ (raisePart e { s with store := { s.store with image := image, flash := flash, save := none } }).notices.part.getLsbD i
          = true := by
  refine ⟨?_, (raisePart_now ..).trans hn, raisePart_store .., raisePart_getLsbD hi _⟩
  refine KeepsBut.trans (t := { s with store := { s.store with image := image, flash := flash, save := none } }) ?_
    ((raisePart_keeps ..).mono (by simp))
  exact ⟨fun g hg => by cases g <;> simp_all [sameIn]; rfl⟩

/-- Settles O32: the stages one by one; every failure ends the save in the same way. -/
theorem saveStages : Obligations.SaveStages := by
  unfold Obligations.SaveStages
  refine ⟨fun s q rest => ⟨fun hs ho hv => ?_, fun v hv => ⟨fun h => ?_, fun h => ?_, fun h => ?_, fun h => ?_⟩⟩, fun s v hv => ?_⟩
  · change Host.Outcome.next (serveKind 0x08 _ s) = _
    rw [serveKind_of_serves hs, withOperands_of_read (v := ()) (by rw [ho]; rfl), unlessSaving_of_none (s := s.taken rest) hv]
    rfl
  · simp only [exec, execSaveEraseDone, saveStage, hv, h, if_true]
  · simp only [exec, execSaveEraseDone, saveStage, hv, h, if_false]
  · simp only [exec, execSaveWriteDone, saveStage, hv, h, if_true]
  · simp only [exec, execSaveWriteDone, saveStage, hv, h, if_false]
  · have hreach : KeepsBut [.now, .image, .partSet, .noticeQueue] s (reach v.limit s) :=
      ⟨fun g hg => by cases g <;> simp_all [sameIn]⟩
    refine ⟨fun h => ⟨⟨_, ?_, raisePart_ended (e := .saveDone) rfl rfl⟩, ⟨_, ?_, raisePart_ended (e := .saveFailed) rfl rfl⟩⟩,
      fun h b => ?_, ⟨_, ?_, raisePart_ended (e := .saveFailed) rfl rfl⟩, ?_⟩
    · simp only [exec, execSaveVerifyDone, hv, h, if_true]; rfl
    · simp only [exec, execSaveVerifyDone, hv, h, if_true, Bool.false_eq_true, if_false]; rfl
    · simp only [exec, execSaveVerifyDone, hv, h, if_false]
    · simp only [exec, execFlashError, hv, Option.isSome_some, if_true]; rfl
    · obtain ⟨hk, hn, hst, hp⟩ := raisePart_ended (s := reach v.limit s) (image := .bad) (flash := none) (e := .saveFailed) (i := 4)
        (now := max s.now v.limit) rfl rfl
      exact ⟨_, by simp only [exec, execSaveTimeout, hv]; rfl, hreach.trans hk, hn, hst, hp⟩

/-! ### READ-SLOT and READ-FILTER -/

theorem readSlotAck_pair (n : SlotId) (b : Byte) : readSlotAck [slotByte n, b] = some (n.val, b.toNat % 2 == 1) := by
  simp [readSlotAck, readAll, getNum_one_cons, getFlag_cons, slotByte_toNat]

theorem exec_readSlot {s : State} {q : QueuedRequest} {rest : List QueuedRequest} {n : SlotId} {b : Byte} (hs : Serves s q rest 0x09)
    (ho : q.operands = [slotByte n, b]) :
    exec .readSlot s = .next (finish (readSlot q (b.toNat % 2 == 1) n (s.taken rest))) := by
  change Host.Outcome.next (serveKind 0x09 _ s) = _
  have hr : readSlotAck q.operands = some (n.val, b.toNat % 2 == 1) := by rw [ho, readSlotAck_pair]
  rw [serveKind_of_serves hs, withOperands_of_read hr, withSlot_of_slot]

theorem mem_noticeLeft_slot {n : SlotId} {s : State} (h : .slot n ∉ s.notices.queue) : .slot n ∉ (noticeLeft s).notices.queue := by
  unfold noticeLeft joinPart
  split
  · split
    · simpa [setNoticeState] using h
    · exact h
  · exact h

theorem setNoticeState_slot_same (n : SlotId) (st : NoticeState) (s : State) :
    (setNoticeState (.slot n) st s).slot n = { s.slot n with notice := st } := slot_modSlot_same ..

/-- A withdrawn notice is QUIET and stands in the queue no longer (R181). -/
theorem withdrawNotice_slot_same (n : SlotId) (s : State) :
    (withdrawNotice (.slot n) s).slot n = { s.slot n with notice := .quiet }
      ∧ .slot n ∉ (withdrawNotice (.slot n) s).notices.queue := by
  have hq : .slot n ∉ (setNoticeState (.slot n) .quiet
      { s with notices.queue := s.notices.queue.filter (· != .slot n) }).notices.queue := by
    simp [setNoticeState]
  unfold withdrawNotice
  dsimp only
  split
  · exact ⟨((noticeLeft_keeps _).slot_eq (by simp)).trans (setNoticeState_slot_same ..), mem_noticeLeft_slot hq⟩
  · exact ⟨setNoticeState_slot_same .., hq⟩

theorem withdrawNotice_slot_keeps (n : SlotId) (s : State) :
    KeepsBut [.slot n, .partSet, .noticeQueue] s (withdrawNotice (.slot n) s) := by
  have hset : KeepsBut [.slot n, .partSet, .noticeQueue] s
      (setNoticeState (.slot n) .quiet { s with notices.queue := s.notices.queue.filter (· != .slot n) }) :=
    KeepsBut.trans (t := { s with notices.queue := s.notices.queue.filter (· != .slot n) })
      ⟨fun g hg => by cases g <;> simp_all [sameIn]; rfl⟩ ((setNoticeState_slot_keeps ..).mono (by simp))
  unfold withdrawNotice
  dsimp only
  split
  · exact hset.trans ((noticeLeft_keeps _).mono (by simp))
  · exact hset

theorem withdrawNotice_port (src : Source) (s : State) : (withdrawNotice src s).port = s.port := by
  unfold withdrawNotice noticeLeft joinPart
  cases src <;> dsimp only [setNoticeState] <;> split <;> (try split) <;> (try split) <;> rfl

theorem acknowledge_eq (n : SlotId) (s : State) :
    acknowledge n s
      = withdrawNotice (.slot n) (modSlot n (fun x => { x with events := 0, lines := { x.lines with change := false } }) s) :=
  if_pos (by simp [sourceEmpty, unmaskedSlot])

theorem taken_keeps (rest : List QueuedRequest) (s : State) : KeepsBut [.requests] s (s.taken rest) :=
  ⟨fun g hg => by cases g <;> simp_all [sameIn, State.taken]; rfl⟩

theorem replied_keeps (q : QueuedRequest) (st : ReplyStatus) (r : RefusalReason) (v : Results) (s : State) :
    KeepsBut [.replies] s (s.replied q st r v) :=
  ⟨fun g hg => by cases g <;> simp_all [sameIn, State.replied]; rfl⟩

/-- Serving a request changes the queue of requests and the replies. -/
theorem taken_replied_keeps (rest : List QueuedRequest) (q : QueuedRequest) (st : ReplyStatus) (r : RefusalReason) (v : Results)
    (s : State) : KeepsBut [.requests, .replies] s ((s.taken rest).replied q st r v) :=
  ((taken_keeps rest s).mono (by simp)).trans ((replied_keeps q st r v _).mono (by simp))

/-- A recovery halts CURR and VIBE of a slot whose test goes on (R115). -/
theorem recoveryHalt_eq (x : Slot) (m : Metric) :
    recoveryHalt x m = ((m == .curr || m == .vibe) && (decide (x.state = .recovering) && (x.recovery.resume.map SlotState.inTest).getD false)) := by
  unfold recoveryHalt Slot.testRunning
  by_cases h : x.state = .recovering
  · simp [h, SlotState.inTest]
  · simp [h]

theorem supplyHalt_eq (s : State) : supplyHalt s = decide (s.power.supply ≠ .normal) := by
  simp [supplyHalt, bne, beq_eq_decide]

/-- Settles O33: an acknowledged read is the withdrawal of the slot's notice after the reply. -/
theorem slotReads : Obligations.SlotReads := by
  unfold Obligations.SlotReads
  refine ⟨fun s q rest n hs => ⟨fun ho => ?_, fun ho => ?_⟩, fun s q rest n hs ho => ?_⟩
  · rw [exec_readSlot hs ho]
    rfl
  · obtain ⟨hslot, hqueue⟩ := withdrawNotice_slot_same n
      (modSlot n (fun x => { x with events := 0, lines := { x.lines with change := false } })
        (answerOk q (.slot (s.slot n) (admissionView s n) (waitView s n) s.now) (s.taken rest)))
    refine ⟨_, (exec_readSlot hs ho).trans (congrArg (fun t => Host.Outcome.next (finish t)) (acknowledge_eq ..)), ?_, ?_, ?_, hqueue⟩
    · exact ((taken_replied_keeps ..).mono (by simp)).trans
        (((modSlot_keeps ..).mono (by simp)).trans ((withdrawNotice_slot_keeps ..).mono (by simp)))
    · refine hslot.trans ?_
      simp only [slot_modSlot_same]
      rfl
    · exact withdrawNotice_port ..
  · refine (congrArg Host.Outcome.next (serveKind_of_slot hs ho)).trans ?_
    simp only [readFilter, filterView, recoveryHalt_eq, taken_slot, supplyHalt_eq]
    rfl

/-! ### The starts of a test -/

theorem setState_slot_same (n : SlotId) (st : SlotState) (s : State) :
    (setState n st s).slot n = { s.slot n with state := st }.lampsOf ((setState n st s).slot n) := by
  simp [setState, Slot.lampsOf]

theorem replied_slot (q : QueuedRequest) (st : ReplyStatus) (r : RefusalReason) (v : Results) (s : State) (n : SlotId) :
    (s.replied q st r v).slot n = s.slot n := rfl

/-- The slot at the start of its test (R9). -/
def beginTest (n : SlotId) (s : State) : State := setState n .calibrating (modSlot n (testStart s.now) s)

theorem startTest_ready {q : QueuedRequest} {n : SlotId} {s : State} (h : (s.slot n).state = .ready) :
    startTest q n s = (beginTest n s).replied q .ok .none
      (.startTest .calibrating (((modelOf (beginTest n s) ((beginTest n s).slot n)).map (·.calibrationCount)).getD 0)) := by
  have hst : ((beginTest n s).slot n).state = .calibrating := setState_slot_state ..
  rw [← hst]
  exact if_pos h

theorem beginTest_slot (n : SlotId) (s : State) :
    (beginTest n s).slot n = { testStart s.now (s.slot n) with state := .calibrating }.lampsOf ((beginTest n s).slot n)
      ∧ KeepsBut [.slot n] s (beginTest n s)
      ∧ modelOf (beginTest n s) ((beginTest n s).slot n) = modelOf s (s.slot n) := by
  have h := setState_slot_same n .calibrating (modSlot n (testStart s.now) s)
  rw [slot_modSlot_same] at h
  refine ⟨h, (modSlot_keeps ..).trans (setState_keeps ..), ?_⟩
  have hm : ((beginTest n s).slot n).identity.model = (s.slot n).identity.model :=
    (congrArg (fun x : Slot => x.identity.model) h :)
  unfold modelOf
  rw [hm]
  rfl

/-- Settles O34: the start of the test is one change of the slot record. -/
theorem testStarts : Obligations.TestStarts := by
  unfold Obligations.TestStarts
  refine ⟨fun s q rest n hs ho hr => ?_, fun n s hn => ?_⟩
  · obtain ⟨hslot, hkeeps, hmodel⟩ := beginTest_slot n (s.taken rest)
    refine ⟨_, (congrArg Host.Outcome.next (serveKind_of_slot hs ho)).trans
      (congrArg (fun t => Host.Outcome.next (finish t)) (startTest_ready (s := s.taken rest) hr)), ?_, ?_,
      LampsCurrent.of_keeps (replied_keeps ..) (setState_lamps ..) (by simp) (by simp) (by simp), ?_, ?_, ?_, ?_, ?_, ?_, ?_, ?_, ?_⟩
    · exact ((taken_keeps ..).mono (by simp)).trans ((hkeeps.mono (by simp)).trans ((replied_keeps ..).mono (by simp)))
    · rw [hmodel]
      rfl
    all_goals
      rw [replied_slot]
      generalize (beginTest n (s.taken rest)).slot n = y at hslot
      rw [hslot]
    · clear hslot
      exact ⟨fun g hg => by cases g <;> simp_all [slotSameIn, Slot.lampsOf, testStart]⟩
    · rfl
    · rfl
    · rfl
    · rfl
    · rfl
    · intro m; cases m <;> rfl
    · rfl
    · rfl
  · have hc : exec (.calibrationComplete n) s = .next (takeCalibration n
        { s with transit := { s.transit with calibrations := s.transit.calibrations.erase n } }) := by
      change Host.Outcome.next (if s.transit.calibrations.contains n then _ else _) = _
      rw [if_pos (by simpa using hn)]
    have ht : KeepsBut [.slot n, .transit] s
        { s with transit := { s.transit with calibrations := s.transit.calibrations.erase n } } :=
      ⟨fun g hg => by cases g <;> simp_all [sameIn]; rfl⟩
    refine ⟨_, hc, ?_⟩
    unfold takeCalibration
    dsimp only
    split
    · next h =>
      change (s.slot n).state = _ at h
      refine ⟨ht.trans ((setState_keeps ..).mono (by simp)), rfl, fun _ => ⟨setState_slot_same .., setState_lamps ..⟩,
        fun hr => ?_, fun hr => absurd h hr⟩
      rw [h] at hr; cases hr
    · split
      · next h h' =>
        change (s.slot n).state ≠ _ at h
        change (s.slot n).state = _ ∧ (s.slot n).recovery.resume = _ at h'
        refine ⟨ht.trans ((modSlot_keeps ..).mono (by simp)), rfl, fun hc => absurd hc h, fun _ _ => slot_modSlot_same ..,
          fun _ hr => ?_⟩
        simp [h'] at hr
      · next h h' =>
        exact ⟨ht, rfl, fun hc => absurd hc h, fun h1 h2 => absurd ⟨h1, h2⟩ h', fun _ _ => rfl⟩

/-! ### REBASE -/

/-- A metric that REBASE names and reseeds (R114). -/
def Reseeds (ms : List Metric) (x : Slot) (m : Metric) : Prop :=
  m ∈ ms ∧ ((x.filter m).state = .clear ∨ (x.filter m).state = .watch)

theorem filter_setFilter (x : Slot) (m k : Metric) (f : Filter) :
    (x.setFilter m f).filter k = if k = m then f else x.filter k := by
  cases m <;> cases k <;> rfl

theorem setFilter_keeps (x : Slot) (m : Metric) (f : Filter) :
    SlotKeepsBut [.samples] x (x.setFilter m f) ∧ (x.setFilter m f).drift.peak = x.drift.peak
      ∧ (x.setFilter m f).drift.mean = x.drift.mean := by
  cases m
  all_goals exact ⟨⟨fun g hg => by cases g <;> simp_all [slotSameIn, Slot.setFilter]⟩, rfl, rfl⟩

theorem rebaseMetric_filter (x : Slot) (m k : Metric) :
    (rebaseMetric x m).filter k = if k = m ∧ rebases (x.filter m).state then reseed true (x.filter k) else x.filter k := by
  unfold rebaseMetric
  split
  · next h => rw [filter_setFilter]; by_cases hk : k = m <;> simp [hk, h]
  · next h => simp [h]

/-- Naming metrics no two the same, REBASE reseeds each of them once. -/
theorem foldl_rebaseMetric_filter {ms : List Metric} (hn : ms.Nodup) (x : Slot) (k : Metric) :
    (ms.foldl rebaseMetric x).filter k
      = if k ∈ ms ∧ rebases (x.filter k).state then reseed true (x.filter k) else x.filter k := by
  induction ms generalizing x with
  | nil => simp
  | cons m ms ih =>
    obtain ⟨hm, hms⟩ := List.nodup_cons.mp hn
    rw [List.foldl_cons, ih hms, rebaseMetric_filter]
    by_cases hk : k = m
    · subst hk; simp [hm]
    · simp [hk]

theorem foldl_rebaseMetric_keeps (ms : List Metric) (x : Slot) :
    SlotKeepsBut [.samples] x (ms.foldl rebaseMetric x) ∧ (ms.foldl rebaseMetric x).drift.peak = x.drift.peak
      ∧ (ms.foldl rebaseMetric x).drift.mean = x.drift.mean := by
  induction ms generalizing x with
  | nil => exact ⟨SlotKeepsBut.refl _ _, rfl, rfl⟩
  | cons m ms ih =>
    have hm : SlotKeepsBut [.samples] x (rebaseMetric x m) ∧ (rebaseMetric x m).drift.peak = x.drift.peak
        ∧ (rebaseMetric x m).drift.mean = x.drift.mean := by
      unfold rebaseMetric
      split
      · exact setFilter_keeps ..
      · exact ⟨SlotKeepsBut.refl _ _, rfl, rfl⟩
    obtain ⟨h1, h2, h3⟩ := hm
    obtain ⟨i1, i2, i3⟩ := ih (rebaseMetric x m)
    exact ⟨h1.trans i1, i2.trans h2, i3.trans h3⟩

theorem rebases_iff (st : MetricState) : rebases st = true ↔ st = .clear ∨ st = .watch := by
  cases st <;> simp [rebases]

theorem reseed_counted (f : Filter) :
    reseed true f = { f with l := f.f, state := .clear, enter := 0, exit := 0, fault := 0, halt := 0
                             reseeds := min 255 (f.reseeds + 1) } := by
  simp [reseed, clearCounters, saturate]

/-- The metrics that a code names: 4 names all (R167). -/
theorem metricsOf_code (c : Fin 5) {ms : List Metric} (h : metricsOf c.val = some ms) :
    ms.Nodup ∧ ∀ m, m ∈ ms ↔ (c = 4 ∨ allMetrics[c.val]? = some m) := by
  fin_cases c
  all_goals
    obtain rfl : _ = ms := Option.some.inj h
    refine ⟨by decide, fun m => ?_⟩
    cases m <;> decide

/-- The slot's metrics named, reseeded, its lamps following. -/
def rebased (ms : List Metric) (n : SlotId) (s : State) : State :=
  relamp n (modSlot n (fun x => ms.foldl rebaseMetric x) s)

theorem rebase_inTest {q : QueuedRequest} {ms : List Metric} {n : SlotId} {s : State} (h : (s.slot n).state.inTest = true) :
    rebase q ms n s
      = (rebased ms n s).replied q .ok .none (.rebase (allMetrics.map (rebaseReport ms (s.slot n) ((rebased ms n s).slot n)))) :=
  if_pos h

theorem rebased_slot (ms : List Metric) (n : SlotId) (s : State) :
    SlotKeepsBut [.samples, .lamps] (s.slot n) ((rebased ms n s).slot n)
      ∧ ((rebased ms n s).slot n).drift.peak = (s.slot n).drift.peak
      ∧ ((rebased ms n s).slot n).drift.mean = (s.slot n).drift.mean
      ∧ ∀ m, ((rebased ms n s).slot n).filter m = (ms.foldl rebaseMetric (s.slot n)).filter m := by
  obtain ⟨h1, h2, h3⟩ := foldl_rebaseMetric_keeps ms (s.slot n)
  have hy := relamp_slot_same n (modSlot n (fun x => ms.foldl rebaseMetric x) s)
  have hk := relamp_slot n (modSlot n (fun x => ms.foldl rebaseMetric x) s)
  change (rebased ms n s).slot n = _ at hy
  change SlotKeepsBut _ _ ((rebased ms n s).slot n) at hk
  rw [slot_modSlot_same] at hy hk
  refine ⟨(h1.mono (by simp)).trans (hk.mono (by simp)), ?_, ?_, fun m => ?_⟩
  · rw [hy]; exact h2
  · rw [hy]; exact h3
  · rw [hy]; cases m <;> rfl

/-- Settles O36: REBASE walks the metrics named, no two the same, and touches each record once. -/
theorem rebaseRequest : Obligations.RebaseRequest := by
  unfold Obligations.RebaseRequest
  intro s q rest n c hs ho hst
  obtain ⟨ms, hms, -⟩ := readRebase_pair n c
  obtain ⟨hnd, hmem⟩ := metricsOf_code c hms
  have hin : (s.slot n).state.inTest = true := by
    rcases hst with h | h <;> simp [h, SlotState.inTest]
  obtain ⟨hk, hpeak, hmean, hfil⟩ := rebased_slot ms n (s.taken rest)
  have hlamps : LampsCurrent (rebased ms n (s.taken rest)) n := relamp_lamps ..
  have hreseeds : ∀ m, (m ∈ ms ∧ rebases ((s.slot n).filter m).state = true)
      ↔ ((c = 4 ∨ allMetrics[c.val]? = some m)
          ∧ (((s.slot n).filter m).state = .clear ∨ ((s.slot n).filter m).state = .watch)) :=
    fun m => and_congr (hmem m) (rebases_iff _)
  dsimp only
  refine ⟨_, _, (exec_rebase hs ho hms).trans
    (congrArg (fun t => Host.Outcome.next (finish t)) (rebase_inTest (s := s.taken rest) hin)), ?_, rfl, hk,
    hlamps.of_keeps (replied_keeps ..) (by simp) (by simp) (by simp), hpeak, hmean, fun m hm => ?_, fun m hm => ?_, ?_, ?_⟩
  · exact ((taken_keeps ..).mono (by simp)).trans
      ((((modSlot_keeps ..).trans (relamp_keeps ..)).mono (by simp)).trans ((replied_keeps ..).mono (by simp)))
  · rw [replied_slot, hfil, taken_slot, foldl_rebaseMetric_filter hnd, if_pos ((hreseeds m).mpr hm), reseed_counted]
  · rw [replied_slot, hfil, taken_slot, foldl_rebaseMetric_filter hnd, if_neg (mt (hreseeds m).mp hm)]
  · rw [List.map_map]
    rfl
  · intro i r m hr hm
    rw [List.getElem?_map, hm] at hr
    obtain rfl : _ = r := Option.some.inj hr
    rw [← hreseeds m]
    simp [rebaseReport]

end Sys2Proof.Machine
end

section
/-! SUPPORT. What is written reads back: numbers, flags, lists, table entries and the identity block (O9). -/

namespace Sys2Proof.Machine

/-! ### Numbers and flags -/

@[simp] theorem length_putNum (k x : Nat) : (putNum k x).length = k := by
  induction k generalizing x with
  | zero => rfl
  | succ k ih => simp [putNum, ih]

theorem leNat_putNum {k x : Nat} (h : x < 256 ^ k) : leNat (putNum k x) = x := by
  induction k generalizing x with
  | zero => simp_all [putNum, leNat]
  | succ k ih =>
    have hx : x / 256 < 256 ^ k := by rw [Nat.div_lt_iff_lt_mul (by decide)]; simpa [Nat.pow_succ] using h
    simp only [putNum, leNat, ih hx, BitVec.toNat_ofNat]
    omega

theorem getBytes_append {l : Bytes} {k : Nat} (h : l.length = k) (bs : Bytes) : getBytes k (l ++ bs) = some (l, bs) := by
  subst h
  simp [getBytes]

theorem getNum_putNum {k x : Nat} (h : x < 256 ^ k) (bs : Bytes) : getNum k (putNum k x ++ bs) = some (x, bs) := by
  simp [getNum, getBytes_append (length_putNum k x), leNat_putNum h]

theorem getFlag_putFlag (b : Bool) (bs : Bytes) : getFlag (putFlag b ++ bs) = some (b, bs) := by
  cases b <;> rfl

theorem getOpt_putOpt {k : Nat} {o : Option Nat} (h : ∀ x ∈ o, x < 256 ^ k) (bs : Bytes) :
    getOpt k (putOpt k (putNum k) o ++ bs) = some (o, bs) := by
  cases o with
  | none => simp [getOpt, putOpt, getFlag_cons, getNum, getBytes_append (List.length_replicate ..)]
  | some x => simp [getOpt, putOpt, getFlag_cons, getNum_putNum (h x rfl)]

/-- A reader that takes back what a writer puts, of the values with a property. -/
def ReadsBack {α β : Type} (read : Bytes → Option (β × Bytes)) (enc : α → Bytes) (dec : α → β) (p : α → Prop) : Prop :=
  ∀ x, p x → ∀ bs, read (enc x ++ bs) = some (dec x, bs)

/-- A reader goes on behind what it took back. -/
theorem ReadsBack.bind {α β γ : Type} {read : Bytes → Option (β × Bytes)} {enc : α → Bytes} {dec : α → β} {p : α → Prop}
    (h : ReadsBack read enc dec p) {x : α} (hx : p x) (bs : Bytes) (f : β × Bytes → Option γ) :
    (read (enc x ++ bs) >>= f) = f (dec x, bs) := by
  rw [h x hx]
  rfl

theorem getNum_bind {γ : Type} {k x : Nat} (h : x < 256 ^ k) (bs : Bytes) (f : Nat × Bytes → Option γ) :
    (getNum k (putNum k x ++ bs) >>= f) = f (x, bs) := by
  rw [getNum_putNum h]
  rfl

theorem getFlag_bind {γ : Type} (b : Bool) (bs : Bytes) (f : Bool × Bytes → Option γ) :
    (getFlag (putFlag b ++ bs) >>= f) = f (b, bs) := by
  rw [getFlag_putFlag]
  rfl

/-- Members written one behind the other read back in order. -/
theorem getMany_flatMap {α β : Type} {read : Bytes → Option (β × Bytes)} {enc : α → Bytes} {dec : α → β} {p : α → Prop}
    (h : ReadsBack read enc dec p) {xs : List α} (hx : ∀ x ∈ xs, p x) (bs : Bytes) :
    getMany read xs.length (xs.flatMap enc ++ bs) = some (xs.map dec, bs) := by
  induction xs with
  | nil => rfl
  | cons x xs ih =>
    rw [List.forall_mem_cons] at hx
    simp [getMany, h x hx.1, ih hx.2]

theorem getNum_of_putNum (k x : Nat) (bs : Bytes) : getNum k (putNum k x ++ bs) = some (leNat (putNum k x), bs) := by
  simp [getNum, getBytes_append (length_putNum k x)]

/-- A name reads back as its code, and the code as the name. -/
theorem getNum_putName {α : Type} [BEq α] [LawfulBEq α] {names : List α} {x : α} (hm : x ∈ names) (hl : names.length ≤ 256)
    (bs : Bytes) :
    getNum 1 (putName names x ++ bs) = some (codeIn names x, bs) ∧ names[codeIn names x]? = some x := by
  have hx : codeIn names x < names.length := List.idxOf_lt_length_of_mem hm
  refine ⟨getNum_putNum (by omega) bs, ?_⟩
  rw [List.getElem?_eq_getElem hx]
  exact congrArg some (List.getElem_idxOf hx)

/-! ### Table entries -/

theorem getThresholds_readsBack : ReadsBack getThresholds ThresholdSet.bytes id ThresholdSet.storable := by
  intro t h bs
  obtain ⟨h1, h2, h3, h4, h5, h6, h7, h8, h9, h10, h11, h12, h13⟩ := h
  simp only [ThresholdSet.bytes, List.append_assoc]
  exact (getNum_bind h1 ..).trans <| (getNum_bind h2 ..).trans <| (getNum_bind h3 ..).trans <| (getNum_bind h4 ..).trans <|
    (getNum_bind h5 ..).trans <| (getNum_bind h6 ..).trans <| (getNum_bind h7 ..).trans <| (getNum_bind h8 ..).trans <|
    (getNum_bind h9 ..).trans <| (getNum_bind h10 ..).trans <| (getNum_bind h11 ..).trans <|
    (getNum_bind h12 ..).trans <| getNum_bind h13 ..

theorem getProfile_readsBack :
    ReadsBack getProfile SpinProfile.bytes id fun p => p.mode < 256 ∧ p.peak < 65536 ∧ p.spinTime < 256 := by
  intro p h bs
  obtain ⟨h1, h2, h3⟩ := h
  simp [getProfile, SpinProfile.bytes, List.append_assoc, getNum_putNum, *]

theorem getFirmware_readsBack : ReadsBack (getBytes 8) id id fun f => f.length = 8 := fun _ h bs => getBytes_append h bs

/-- The bytes of a model entry, one behind the other (R49). -/
theorem ModelEntry.bytes_append (m : ModelEntry) (bs : Bytes) :
    m.bytes ++ bs
      = putFlag m.valid ++ (m.pattern ++ (putNum 1 m.firmwareCount ++ (m.firmwarePlaces.flatMap id
          ++ (putOpt 6 (putNum 6) m.minCapacity ++ (putNum 2 m.standby ++ (putNum 2 m.run ++ (putNum 2 m.heavyIncrement
          ++ (putNum 1 m.profileCount ++ (m.profilePlaces.flatMap SpinProfile.bytes ++ (putNum 1 m.rundownCode
          ++ (putNum 1 m.calibrationCount ++ (putNum 2 m.shockPenalty ++ (putNum 2 m.reseedPenalty ++ (putNum 1 m.binSet
          ++ (m.temp.bytes ++ (m.curr.bytes ++ (m.vibe.bytes ++ (m.defr.bytes
          ++ (putNum 1 m.refCount ++ bs))))))))))))))))))) := by
  unfold ModelEntry.bytes
  simp only [List.append_assoc]

theorem getModel_readsBack :
    ReadsBack getModel ModelEntry.bytes (fun m => { m with refCount := 0 }) ModelEntry.storable := by
  intro m h bs
  obtain ⟨h1, h2, h3, h4, h5, h6, h7, h8, h9, h10, h11, h12, h13, h14, h15, h16, h17, h18, h19, h20⟩ := h
  have hfirm : ReadsBack (getMany (getBytes 8) 2) (·.flatMap id) id
      fun l : List Bytes => l.length = 2 ∧ ∀ f ∈ l, f.length = 8 := fun l hl bs => by
    rw [← hl.1, getMany_flatMap getFirmware_readsBack hl.2, List.map_id]
    rfl
  have hprof : ReadsBack (getMany getProfile 4) (·.flatMap SpinProfile.bytes) id
      fun l : List SpinProfile => l.length = 4 ∧ ∀ p ∈ l, p.mode < 256 ∧ p.peak < 65536 ∧ p.spinTime < 256 := fun l hl bs => by
    rw [← hl.1, getMany_flatMap getProfile_readsBack hl.2, List.map_id]
    rfl
  have hpattern : ReadsBack (getBytes 40) id id fun l => l.length = 40 := fun _ h bs => getBytes_append h bs
  have hcap : ReadsBack (getOpt 6) (putOpt 6 (putNum 6)) id fun o => ∀ x ∈ o, x < 256 ^ 6 := fun _ h bs => getOpt_putOpt h bs
  have hlast : ReadsBack (getNum 1) (putNum 1) (fun x => leNat (putNum 1 x)) fun _ => True :=
    fun _ _ bs => getNum_of_putNum ..
  refine (congrArg getModel (m.bytes_append bs)).trans ?_
  exact (getFlag_bind ..).trans <| (hpattern.bind h1 ..).trans <| (getNum_bind h2 ..).trans <| (hfirm.bind ⟨h3, h4⟩ ..).trans <|
    (hcap.bind (fun x hx => h5 x hx) ..).trans <| (getNum_bind h6 ..).trans <| (getNum_bind h7 ..).trans <|
    (getNum_bind h8 ..).trans <| (getNum_bind h9 ..).trans <| (hprof.bind ⟨h10, h11⟩ ..).trans <| (getNum_bind h12 ..).trans <|
    (getNum_bind h13 ..).trans <| (getNum_bind h14 ..).trans <| (getNum_bind h15 ..).trans <| (getNum_bind h16 ..).trans <|
    (getThresholds_readsBack.bind h17 ..).trans <| (getThresholds_readsBack.bind h18 ..).trans <|
    (getThresholds_readsBack.bind h19 ..).trans <| (getThresholds_readsBack.bind h20 ..).trans <|
    hlast.bind (x := m.refCount) trivial ..

theorem getClassify_readsBack :
    ReadsBack getClassify ClassifyEntry.bytes (fun e => { e with matchCount := 0 }) ClassifyEntry.storable := by
  intro e h bs
  obtain ⟨h1, h2, h3, h4, h5, h6⟩ := h
  simp [getClassify, ClassifyEntry.bytes, List.append_assoc, getNum_putNum, getFlag_putFlag, getNum_of_putNum, *]

theorem getDefect_readsBack : ReadsBack getDefect DefectEntry.bytes id fun e => e.weight < 65536 := by
  intro e h bs
  simp [getDefect, DefectEntry.bytes, List.append_assoc, getNum_putNum, getFlag_putFlag, h]

/-- The written fields of a bin. -/
def Bin.fields (b : Bin) : BinFields :=
  ⟨codeIn BinKind.names b.kind, b.minScore, b.maxShocks, b.maxShed, b.requiresFw, b.rank, b.capacity⟩

theorem BinKind.mem_names (k : BinKind) : k ∈ BinKind.names := by cases k <;> decide

theorem getBin_readsBack : ReadsBack getBin Bin.bytes Bin.fields Bin.inRange := by
  intro b h bs
  obtain ⟨h1, h2, h3, h4, h5, h6⟩ := h
  have hk : ∀ bs, getNum 1 (putName BinKind.names b.kind ++ bs) = some (codeIn BinKind.names b.kind, bs) :=
    fun bs => (getNum_putName (BinKind.mem_names _) (by decide) bs).1
  have hs : b.minScore < 65536 ∧ b.maxShocks < 256 ∧ b.maxShed < 256 ∧ b.rank < 256 ∧ b.capacity < 256 := by omega
  simp [getBin, Bin.bytes, Bin.fields, List.append_assoc, getNum_putNum, getFlag_putFlag, getNum_of_putNum, *]

theorem Bin.toBin_fields {b : Bin} (h : b.inRange) (fill generation : Nat) :
    b.fields.toBin fill generation = some { b with fill := fill, generation := generation } := by
  obtain ⟨h1, h2, h3, h4, h5, h6⟩ := h
  have hk := (getNum_putName (BinKind.mem_names b.kind) (by decide) []).2
  simp [BinFields.toBin, Bin.fields, within, *]

/-- The fields of an indicator map entry. -/
def IndicatorEntry.fields (e : IndicatorEntry) : IndicatorFields :=
  ⟨codeIn Condition.names e.condition, codeIn LampPattern.names e.lampA, codeIn LampPattern.names e.lampB, e.invert⟩

theorem Condition.mem_names (c : Condition) : c ∈ Condition.names := by cases c <;> decide

theorem LampPattern.mem_names (p : LampPattern) : p ∈ LampPattern.names := by cases p <;> decide

theorem getIndicator_readsBack : ReadsBack getIndicator IndicatorEntry.bytes IndicatorEntry.fields fun _ => True := by
  intro e _ bs
  have hc : ∀ bs, getNum 1 (putName Condition.names e.condition ++ bs) = some (codeIn Condition.names e.condition, bs) :=
    fun bs => (getNum_putName (Condition.mem_names _) (by decide) bs).1
  have hl : ∀ p bs, getNum 1 (putName LampPattern.names p ++ bs) = some (codeIn LampPattern.names p, bs) :=
    fun p bs => (getNum_putName (LampPattern.mem_names p) (by decide) bs).1
  simp [getIndicator, IndicatorEntry.bytes, IndicatorEntry.fields, List.append_assoc, getFlag_putFlag, hc, hl]

theorem IndicatorEntry.toEntry_fields (e : IndicatorEntry) : e.fields.toEntry = some e := by
  have hc := (getNum_putName (Condition.mem_names e.condition) (by decide) []).2
  have hl : ∀ p, LampPattern.names[codeIn LampPattern.names p]? = some p :=
    fun p => (getNum_putName (LampPattern.mem_names p) (by decide) []).2
  simp [IndicatorFields.toEntry, IndicatorEntry.fields, hc, hl]

/-! ### The identity block -/

/-- The slice at a place where a string is known to stand, and what stands behind it. -/
theorem slice_of_drop {bs b c : Bytes} {i k : Nat} (h : bs.drop i = b ++ c) (hb : b.length = k) :
    slice i k bs = b ∧ bs.drop (i + k) = c := by
  subst hb
  exact ⟨by simp [slice, h], by rw [← List.drop_drop, h]; simp⟩

/-- The word at a place among words written one behind the other. -/
theorem slice_words {bs c : Bytes} {words : List Nat} {k i : Nat} (h : bs.drop k = words.flatMap (putNum 4) ++ c)
    (hi : i < words.length) : slice (k + 4 * i) 4 bs = putNum 4 words[i] := by
  induction words generalizing k i with
  | nil => simp at hi
  | cons w words ih =>
    rw [List.flatMap_cons, List.append_assoc] at h
    obtain ⟨hw, hrest⟩ := slice_of_drop h (length_putNum ..)
    cases i with
    | zero => exact hw
    | succ i =>
      rw [show k + 4 * (i + 1) = k + 4 + 4 * i by omega]
      exact ih hrest (by simpa using hi)

/-- The slices of a block of the layout of 12.3. -/
theorem parseIdentity_block {model serial firmware rest : Bytes} {words : List Nat} {capacity security power count : Nat}
    (hm : model.length = 40) (hs : serial.length = 20) (hf : firmware.length = 8) (hr : 24 ≤ rest.length)
    (hc : capacity < 256 ^ 6) (hsec : security < 256 ^ 2) (hp : power < 256 ^ 2) (hn : count < 256 ^ 1)
    (hw : words.length = 6) (hb : ∀ w ∈ words, w < 256 ^ 4) :
    parseIdentity ([1] ++ model ++ serial ++ firmware ++ putNum 6 capacity ++ putNum 2 security ++ putNum 2 power
        ++ putNum 1 count ++ words.flatMap (putNum 4) ++ rest)
      = some { model := model, serial := serial, firmware := firmware, capacity := capacity
               security := ⟨bitOf security 0, bitOf security 1, bitOf security 2, bitOf security 3, bitOf security 4⟩
               power := if bitOf power 15 then some (power % 4096) else none
               extensions := words.take count, lastOutcome := .ack } := by
  have hwl : (words.flatMap (putNum 4)).length = 24 := by simp [List.length_flatMap, hw]
  generalize hpay : [1] ++ model ++ serial ++ firmware ++ putNum 6 capacity ++ putNum 2 security ++ putNum 2 power
    ++ putNum 1 count ++ words.flatMap (putNum 4) ++ rest = payload
  have hlen : ¬(payload.length < 128 ∨ payload.headD 0 ≠ 1) := by
    subst hpay
    simp [hm, hs, hf, hwl]
    omega
  have h0 : payload.drop 1 = model ++ (serial ++ (firmware ++ (putNum 6 capacity ++ (putNum 2 security ++ (putNum 2 power
      ++ (putNum 1 count ++ (words.flatMap (putNum 4) ++ rest))))))) := by
    subst hpay
    simp only [List.append_assoc]
    rfl
  obtain ⟨e1, h1⟩ := slice_of_drop h0 hm
  obtain ⟨e2, h2⟩ := slice_of_drop h1 hs
  obtain ⟨e3, h3⟩ := slice_of_drop h2 hf
  obtain ⟨e4, h4⟩ := slice_of_drop h3 (length_putNum ..)
  obtain ⟨e5, h5⟩ := slice_of_drop h4 (length_putNum ..)
  obtain ⟨e6, h6⟩ := slice_of_drop h5 (length_putNum ..)
  obtain ⟨e7, h7⟩ := slice_of_drop h6 (length_putNum ..)
  have hwords : (List.range (min 6 count)).map (fun i => leNat (slice (80 + 4 * i) 4 payload)) = words.take count := by
    refine List.ext_getElem (by simp [hw, Nat.min_comm]) fun i hi hi' => ?_
    have hi6 : i < words.length := by simp at hi'; omega
    simp only [List.getElem_map, List.getElem_range, List.getElem_take]
    rw [slice_words h7 hi6, leNat_putNum (hb _ (List.getElem_mem hi6))]
  refine (if_neg hlen).trans ?_
  dsimp only
  rw [e1, e2, e3, e4, e5, e6, e7, leNat_putNum hc, leNat_putNum hsec, leNat_putNum hp, leNat_putNum hn, hwords]

/-- Settles O9: each entry by the fields that it is written from, in their order. -/
theorem entriesReadBack : Obligations.EntriesReadBack := by
  unfold Obligations.EntriesReadBack
  refine ⟨fun rest => ⟨fun m h => getModel_readsBack m h rest, fun e h => getClassify_readsBack e h rest,
    fun e h => getDefect_readsBack e h rest, fun b h => ⟨_, getBin_readsBack b h rest, Bin.toBin_fields h _ _⟩,
    fun e => ⟨_, getIndicator_readsBack e trivial rest, e.toEntry_fields⟩⟩, fun payload h => ?_, ?_⟩
  · refine if_pos (h.imp_right fun hv hd => hv ?_)
    cases payload with
    | nil => exact absurd (Eq.symm hd) (by decide)
    | cons b bs => exact congrArg some hd
  · intro model serial firmware rest capacity power count words supported enabled locked frozen expired hm hs hf hr hc hp hn hw hb
    have hsec : ∀ n, n = supported.toNat + 2 * enabled.toNat + 4 * locked.toNat + 8 * frozen.toNat + 16 * expired.toNat →
        n < 256 ^ 2 ∧ (⟨bitOf n 0, bitOf n 1, bitOf n 2, bitOf n 3, bitOf n 4⟩ : SecurityFlags)
          = ⟨supported, enabled, locked, frozen, expired⟩ := by
      rintro n rfl
      cases supported <;> cases enabled <;> cases locked <;> cases frozen <;> cases expired <;> decide
    obtain ⟨hlt, hbits⟩ := hsec _ rfl
    have h15 : bitOf power 15 = false ∧ bitOf (power + 32768) 15 = true ∧ (power + 32768) % 4096 = power % 4096 := by
      simp only [bitOf, beq_iff_eq, beq_eq_false_iff_ne]
      omega
    obtain ⟨hoff, hon, hmod⟩ := h15
    dsimp only
    constructor
    · rw [parseIdentity_block hm hs hf hr hc hlt (by simp; omega) (by simpa using hn) hw hb, hbits]
      simp [hoff]
    · rw [parseIdentity_block hm hs hf hr hc hlt (by simp; omega) (by simpa using hn) hw hb, hbits]
      simp [hon, hmod]

end Sys2Proof.Machine
end

section
/-! SUPPORT. The two resets and the stored image (O7, O8, O10). -/

namespace Sys2Proof.Machine

/-! ### Walks over the slots -/

theorem KeepsBut.toSlots {ch : List Group} {s t : State} (h : KeepsBut ch s t) : KeepsButSlots ch s t := ⟨fun g hg _ => h.same g hg⟩

theorem foldl_keepsSlots {α : Type} {ch : List Group} {f : State → α → State} (h : ∀ s a, KeepsButSlots ch s (f s a)) (l : List α)
    (s : State) : KeepsButSlots ch s (l.foldl f s) := by
  induction l generalizing s with
  | nil => exact KeepsButSlots.refl _ _
  | cons a l ih => exact (h s a).trans (ih _)

theorem forSlots_keeps {ch : List Group} {f : SlotId → State → State} (h : ∀ n s, KeepsBut (.slot n :: ch) s (f n s)) (s : State) :
    KeepsButSlots ch s (forSlots f s) :=
  foldl_keepsSlots (fun s n => (h n s).slots) allSlots s

theorem foldl_modSlot_slot (g : SlotId → Slot → Slot) {l : List SlotId} (hl : l.Nodup) (s : State) (m : SlotId) :
    (l.foldl (fun s n => modSlot n (g n) s) s).slot m = if m ∈ l then g m (s.slot m) else s.slot m := by
  induction l generalizing s with
  | nil => rfl
  | cons n l ih =>
    obtain ⟨hn, hl⟩ := List.nodup_cons.mp hl
    rw [List.foldl_cons, ih hl, slot_modSlot]
    by_cases hm : m = n
    · subst hm; simp [hn]
    · simp [hm]

theorem nodup_allSlots : allSlots.Nodup := List.nodup_finRange 48

/-- A walk that changes each slot by itself. -/
theorem forSlots_modSlot_slot (g : SlotId → Slot → Slot) (s : State) (m : SlotId) :
    (forSlots (fun n => modSlot n (g n)) s).slot m = g m (s.slot m) := by
  unfold forSlots
  rw [foldl_modSlot_slot g nodup_allSlots, if_pos (mem_allSlots m)]

/-- A slot with the lamps that the indicator map gives it (R19). -/
def Slot.lit (s : State) (x : Slot) : Slot :=
  { x with lines := { x.lines with lampA := (lampsFor s x).1, lampB := (lampsFor s x).2 } }

theorem relamp_eq_lit {s t : State} (ht : t.tables = s.tables) (hs : t.sort = s.sort) (n : SlotId) :
    relamp n t = modSlot n (Slot.lit s) t := by
  have h : ∀ x, lampsFor t x = lampsFor s x := lampsFor_congr ht hs
  unfold relamp Slot.lit
  simp only [h]

theorem foldl_relamp (l : List SlotId) {s t : State} (ht : t.tables = s.tables) (hs : t.sort = s.sort) :
    l.foldl (fun s n => relamp n s) t = l.foldl (fun s' n => modSlot n (Slot.lit s) s') t := by
  induction l generalizing t with
  | nil => rfl
  | cons n l ih =>
    rw [List.foldl_cons, List.foldl_cons, relamp_eq_lit ht hs]
    exact ih ht hs

/-- Every slot's lamps follow the map (R20). -/
theorem forSlots_relamp_slot (s : State) (m : SlotId) : (forSlots relamp s).slot m = (s.slot m).lit s := by
  have h : forSlots relamp s = forSlots (fun n => modSlot n (Slot.lit s)) s := foldl_relamp allSlots rfl rfl
  rw [h]
  exact forSlots_modSlot_slot (fun _ => Slot.lit s) s m

theorem forSlots_relamp_keeps (s : State) : KeepsButSlots [] s (forSlots relamp s) := forSlots_keeps relamp_keeps s

theorem lampsFor_of_keeps {s t : State} (hi : t.tables.indicators = s.tables.indicators) (hb : t.sort.bins = s.sort.bins) (x : Slot) :
    lampsFor t x = lampsFor s x := by
  have hc : conditionHolds t x = conditionHolds s x := by
    funext c
    simp [conditionHolds, sortedKind, State.bin, hb]
  simp [lampsFor, hc, hi]

theorem forSlots_relamp_lamps (s : State) (m : SlotId) : LampsCurrent (forSlots relamp s) m := by
  have hk := forSlots_relamp_keeps s
  unfold LampsCurrent
  rw [lampsFor_of_keeps (hk.same .indicators (by simp) nofun) (hk.same .bins (by simp) nofun), forSlots_relamp_slot]
  exact (lampsFor_lamps ..).symm

/-! ### Part events over a queue that holds the part's notice alone -/

/-- The notice queue holds the part's notices alone, at most k of them. -/
def State.partOnly (k : Nat) (s : State) : Prop := (∀ o ∈ s.notices.queue, o = .part) ∧ s.notices.queue.length ≤ k

/-- Part events have been raised: the part set and the notice queue alone have changed. -/
structure RaisedPart (e : BitVec 8) (s t : State) : Prop where
  keeps : KeepsBut [.partSet, .noticeQueue] s t
  part : t.notices.part = s.notices.part ||| e
  cause : t.notices.cause = s.notices.cause

theorem RaisedPart.refl (s : State) : RaisedPart 0 s s := ⟨KeepsBut.refl _ _, by simp, rfl⟩

theorem RaisedPart.trans {e f : BitVec 8} {s t u : State} (h : RaisedPart e s t) (h' : RaisedPart f t u) : RaisedPart (e ||| f) s u :=
  ⟨h.keeps.trans h'.keeps, by rw [h'.part, h.part, BitVec.or_assoc], h'.cause.trans h.cause⟩

theorem raisePart_raised {k : Nat} {s : State} (e : PartEvent) (hq : s.partOnly k) (hk : k < 32) :
    RaisedPart e.set s (raisePart e s) ∧ (raisePart e s).partOnly (k + 1) := by
  obtain ⟨ho, hl⟩ := hq
  have hjoin : ∀ t : State, t.notices.queue = s.notices.queue →
      joinPart t = setNoticeState .part .queued { t with notices.queue := t.notices.queue ++ [.part] } :=
    fun t ht => if_pos (by rw [ht]; exact lt_of_le_of_lt hl hk)
  refine ⟨⟨raisePart_keeps e s, ?_, ?_⟩, ?_⟩
  all_goals
    unfold raisePart
    dsimp only
    split
  · rw [hjoin] <;> rfl
  · rfl
  · rw [hjoin] <;> rfl
  · rfl
  · rw [hjoin _ (by rfl)]
    exact ⟨fun o ho' => (List.mem_append.mp ho').elim (ho o) (by simp), by simp [setNoticeState, hl]⟩
  · exact ⟨ho, Nat.le_succ_of_le hl⟩

theorem raiseSupplyWarn_raised {k : Nat} {s : State} (hq : s.partOnly k) (hk : k < 32) :
    RaisedPart PartEvent.supplyWarn.set s (raiseSupplyWarn s) ∧ (raiseSupplyWarn s).partOnly (k + 1) := by
  unfold raiseSupplyWarn
  split
  · exact raisePart_raised .supplyWarn hq hk
  · have hnone : s.notices.queue.filter (· != .part) = [] := by
      rw [List.filter_eq_nil_iff]
      exact fun o ho => by simp [hq.1 o ho]
    dsimp only
    rw [hnone, if_pos (by decide)]
    refine ⟨⟨⟨fun g hg => ?_⟩, rfl, rfl⟩, fun o ho => ?_, ?_⟩
    · cases g <;> simp_all [sameIn, setNoticeState]; rfl
    · simpa [setNoticeState] using ho
    · simp [setNoticeState]

/-! ### Starting the blocks -/

/-- What a reset leaves of the slots (R22): each as cleared, its lamps following the map. -/
def SlotsStarted (now : Nat) (v : Settings) (s t : State) : Prop :=
  ∀ n, t.slot n = (resetSlot now v.resetRundown v.settleTime (s.slot n)).lampsOf (t.slot n) ∧ LampsCurrent t n

theorem SlotsStarted.of_keeps {ch : List Group} {now : Nat} {v : Settings} {s t u : State} (h : SlotsStarted now v s t)
    (hk : KeepsBut ch t u) (hs : ∀ n, .slot n ∉ ch) (hi : .indicators ∉ ch) (hb : .bins ∉ ch) : SlotsStarted now v s u :=
  fun n => ⟨by rw [hk.slot_eq (hs n)]; exact (h n).1, (h n).2.of_keeps hk (hs n) hi hb⟩

/-- The blocks started: everything is as cleared but the slots' lamps and the part events (R85, R185). -/
theorem startBlocks_started (cause : RestartCause) (warning : Bool) (now : Nat) (store : Store) (tables : Tables)
    (sort : SortUnit) (port : Port) (s : State) :
    let c := clearedBlocks cause warning now store tables sort port s
    let u := startBlocks cause warning now store tables sort port s
    KeepsButSlots [.partSet, .noticeQueue] c u ∧ SlotsStarted now store.settings s u
      ∧ u.notices.part = (if warning then 3 else 1) ∧ u.notices.cause = cause ∧ u.partOnly 2 := by
  dsimp only
  rw [startBlocks_eq]
  generalize hc : clearedBlocks cause warning now store tables sort port s = c
  have hk := forSlots_relamp_keeps c
  obtain ⟨hpart, hcause⟩ : (forSlots relamp c).notices.part = 0 ∧ (forSlots relamp c).notices.cause = cause := by
    subst hc
    exact hk.same .partSet (by simp) nofun
  have hqueue : (forSlots relamp c).notices.queue = [] := by
    subst hc
    exact (hk.same .noticeQueue (by simp) nofun).1
  have hstart : SlotsStarted now store.settings s (forSlots relamp c) := fun n => by
    refine ⟨?_, forSlots_relamp_lamps c n⟩
    rw [forSlots_relamp_slot, ← hc, clearedBlocks_slot]
    rfl
  obtain ⟨h1, hq1⟩ := raisePart_raised (k := 0) (s := forSlots relamp c) .restarted ⟨by simp [hqueue], by simp [hqueue]⟩ (by decide)
  obtain ⟨hw, hqw⟩ := raiseSupplyWarn_raised hq1 (by decide)
  have hdone : ∀ {e : BitVec 8} {u : State}, RaisedPart e (forSlots relamp c) u →
      KeepsButSlots [.partSet, .noticeQueue] c u ∧ SlotsStarted now store.settings s u ∧ u.notices.part = e
        ∧ u.notices.cause = cause := fun {e u} hr =>
    ⟨(hk.mono (by simp)).trans hr.keeps.toSlots, hstart.of_keeps hr.keeps (by simp) (by simp) (by simp),
      by simp [hr.part, hpart], hr.cause.trans hcause⟩
  cases warning with
  | false =>
    obtain ⟨a, b, d, e⟩ := hdone h1
    exact ⟨a, b, d, e, hq1.1, Nat.le_succ_of_le hq1.2⟩
  | true =>
    obtain ⟨a, b, d, e⟩ := hdone (h1.trans hw)
    exact ⟨a, b, d, e, hqw⟩

theorem unsentReplies_eq (s : State) :
    unsentReplies s = s.port.replies.length + if ∃ f, s.port.transmitting = some f ∧ f.kind = 4 then 1 else 0 := by
  unfold unsentReplies
  cases s.port.transmitting with
  | none => simp
  | some f => simp

theorem resetSlot_lampsOf (now r k : Nat) (x y : Slot) :
    (resetSlot now r k x).lampsOf y
      = { clearedSlot now (.running (now + r * 1000)) .locked (y.lines.lampA, y.lines.lampB) with
          state := if x.lines.line then .settling else .empty
          lines.line := x.lines.line
          lines.settle := if x.lines.line then some (now + k * 1000) else none } := rfl

/-- Settles O10: a soft reset is the common start of the blocks over what it keeps. -/
theorem softResets : Obligations.SoftResets := by
  unfold Obligations.SoftResets
  refine ⟨fun s q rest hs ho => ?_, fun s => ⟨fun h => congrArg _ (if_neg h), fun h => ?_⟩⟩
  · change Host.Outcome.next (serveKind 0x14 _ s) = _
    rw [serveKind_of_serves hs, withOperands_of_read (v := ()) (by rw [ho]; rfl)]
    unfold resetPart
    dsimp only
    rw [unsentReplies_eq]
    have hlen : (answerOk q .empty (s.taken rest)).port.replies.length = s.port.replies.length + 1 := List.length_append ..
    rw [hlen]
    rfl
  · obtain ⟨hk, hslots, hpart, hcause, -⟩ := startBlocks_started .requested s.power.warning s.now s.store (resetCounts s.tables)
      { s.sort with waiting := [] }
      { s.port with requests := [], stream := none, rxErrors := 0, portBusy := 0, broadcastDiscards := 0
                    streamDropped := 0, resetAwaits := none } s
    refine ⟨_, congrArg _ (if_pos h), ?_⟩
    generalize startBlocks .requested _ _ _ _ _ _ s = u at *
    have hport : sameIn _ u .requests ∧ sameIn _ u .stream ∧ sameIn _ u .resetAwaits ∧ sameIn _ u .counters :=
      ⟨hk.same _ (by simp) nofun, hk.same _ (by simp) nofun, hk.same _ (by simp) nofun, hk.same _ (by simp) nofun⟩
    obtain ⟨hreq, hstream, hawait, hrx, hbusy, hdiscard, hdropped⟩ := hport
    have hpow : sameIn _ u .admission ∧ sameIn _ u .supply := ⟨hk.same _ (by simp) nofun, hk.same _ (by simp) nofun⟩
    obtain ⟨hadm, hsupply, hwarning, hrestore⟩ := hpow
    have hmodels : u.tables.models = (resetCounts s.tables).models := hk.same .models (by simp) nofun
    have hclassify : u.tables.classify = (resetCounts s.tables).classify := hk.same .classify (by simp) nofun
    have htimer : sameIn _ u .streamTimer := hk.same _ (by simp) nofun
    obtain ⟨hcount, hnumber⟩ := htimer
    refine ⟨?_, fun n => ⟨(hslots n).1, (hslots n).2⟩, hk.same .lampStart (by simp) nofun, hk.same .tickAt (by simp) nofun, hreq, hstream,
      hawait, hrx, hbusy, hdiscard, hdropped, fun i => ?_, fun i => ?_, hadm, hwarning, hsupply, hrestore,
      hk.same .waiting (by simp) nofun, hk.same .transit (by simp) nofun, hpart, hcause, hcount, hnumber⟩
    · refine KeepsButSlots.trans ?_ (hk.mono (by simp))
      exact ⟨fun g hg hn => by cases g <;> simp_all [sameIn, clearedBlocks, resetCounts]⟩
    · simp [hmodels, resetCounts]
    · simp [hclassify, resetCounts]

/-! ### The power-on reset -/

/-- The image that a power-on reset starts from: that of the flash, or the blank one (R186, R190). -/
def startImage (straps : BitVec 8) (answers : Bool) (s : State) : Image :=
  if loadsFlash straps then
    (readFlash answers s.store.flash (tickDefault straps)).getD (blankImage (tickDefault straps))
  else blankImage (tickDefault straps)

/-- A part event raised under a condition. -/
theorem raisePart_if_raised {k : Nat} {s : State} (c : Bool) (e : PartEvent) (hq : s.partOnly k) (hk : k < 32) :
    RaisedPart (if c then e.set else 0) s (if c then raisePart e s else s) ∧ (if c then raisePart e s else s).partOnly (k + 1) := by
  cases c with
  | false => exact ⟨RaisedPart.refl s, hq.1, Nat.le_succ_of_le hq.2⟩
  | true => exact raisePart_raised e hq hk

/-- The arbiter, with nothing but the part's notice to send, leaves the slots. -/
theorem arbitrate_partOnly_slot {k : Nat} {s : State} (hq : s.partOnly k) (n : SlotId) : (arbitrate s).slot n = s.slot n := by
  unfold arbitrate
  split
  · rfl
  · split
    · rfl
    · split
      · rfl
      · split
        · next src rest h =>
          obtain rfl : src = .part := hq.1 src (by simp [h])
          exact (noticeLeft_keeps _).slot_eq (by simp)
        · split
          · rfl
          · split <;> rfl

theorem arbitrate_lists_empty {s : State} (hr : s.port.replies = []) (hp : s.port.responses = []) (hs : s.port.stream = none) :
    (arbitrate s).port.replies = [] ∧ (arbitrate s).port.responses = [] ∧ (arbitrate s).port.stream = none := by
  have hleft : ∀ t : State, (noticeLeft t).port = t.port := fun t => by
    unfold noticeLeft joinPart
    split
    · split <;> rfl
    · rfl
  unfold arbitrate
  rw [hr, hp, hs]
  dsimp only
  split
  · exact ⟨hr, hp, hs⟩
  · split
    · exact ⟨hr, hp, hs⟩
    · split
      · next src rest h =>
        unfold sendNotice
        dsimp only
        rw [hleft]
        cases src <;> exact ⟨hr, hp, hs⟩
      · exact ⟨hr, hp, hs⟩

/-- The Configuration Store after a power-on reset (R186, R190). -/
def startStore (straps : BitVec 8) (answers : Bool) (s : State) : Store :=
  { straps := straps, settings := (startImage straps answers s).settings, target := (startImage straps answers s).target
    image := if (readFlash answers s.store.flash (tickDefault straps)).isSome then .good else .bad
    flash := s.store.flash, save := none }

/-- The blocks that a power-on reset clears. -/
def powerOnCleared (straps : BitVec 8) (warning answers : Bool) (s : State) : State :=
  clearedBlocks .powerOn warning 0 (startStore straps answers s) (startImage straps answers s).tables
    { bins := (startImage straps answers s).bins, manifest := [], next := 1, waiting := [] } emptyPort { s with sent := [] }

/-- The blocks that a power-on reset starts, before the events of the straps and of the image. -/
def powerOnBlocks (straps : BitVec 8) (warning answers : Bool) (s : State) : State :=
  startBlocks .powerOn warning 0 (startStore straps answers s) (startImage straps answers s).tables
    { bins := (startImage straps answers s).bins, manifest := [], next := 1, waiting := [] } emptyPort { s with sent := [] }

theorem powerOn_eq (straps : BitVec 8) (warning answers : Bool) (s : State) :
    powerOn straps warning answers s =
      let u := powerOnBlocks straps warning answers s
      let v := if strapsInvalid straps then raisePart .strapInvalid u else u
      arbitrate (if loadsFlash straps && (readFlash answers s.store.flash (tickDefault straps)).isNone then raisePart .imageBad v else v) :=
  rfl

/-- What the power-on reset leaves (R2, R22, R85, R153, R185). -/
theorem powerOn_started (straps : BitVec 8) (warning answers : Bool) (s : State) :
    let t := powerOn straps warning answers s
    KeepsButSlots [.replies, .responses, .stream, .transmitter, .partSet, .noticeQueue] (powerOnCleared straps warning answers s) t
      ∧ SlotsStarted 0 (startImage straps answers s).settings s t
      ∧ t.port.replies = [] ∧ t.port.responses = [] ∧ t.port.stream = none
      ∧ t.notices.part = (if warning then 3 else 1) ||| (if strapsInvalid straps then PartEvent.strapInvalid.set else 0)
          ||| (if loadsFlash straps && (readFlash answers s.store.flash (tickDefault straps)).isNone then PartEvent.imageBad.set else 0)
      ∧ t.notices.cause = .powerOn := by
  obtain ⟨hk, hslots, hpart, hcause, hq⟩ := startBlocks_started .powerOn warning 0 (startStore straps answers s)
    (startImage straps answers s).tables
    { bins := (startImage straps answers s).bins, manifest := [], next := 1, waiting := [] } emptyPort { s with sent := [] }
  change KeepsButSlots _ (powerOnCleared straps warning answers s) (powerOnBlocks straps warning answers s) at hk
  change SlotsStarted _ _ _ (powerOnBlocks straps warning answers s) at hslots
  change (powerOnBlocks straps warning answers s).notices.part = _ at hpart
  change (powerOnBlocks straps warning answers s).notices.cause = _ at hcause
  change (powerOnBlocks straps warning answers s).partOnly 2 at hq
  rw [powerOn_eq]
  dsimp only
  generalize powerOnBlocks straps warning answers s = u at *
  obtain ⟨h1, hq1⟩ := raisePart_if_raised (strapsInvalid straps) .strapInvalid hq (by decide)
  obtain ⟨h2, hq2⟩ := raisePart_if_raised (loadsFlash straps && (readFlash answers s.store.flash (tickDefault straps)).isNone)
    .imageBad hq1 (by decide)
  have h := h1.trans h2
  generalize (if (loadsFlash straps && (readFlash answers s.store.flash (tickDefault straps)).isNone) = true then _ else _ : State) = v at *
  obtain ⟨hp, hc⟩ := arbitrate_part (s := v) (le_trans hq2.2 (by decide))
  have hv := hk.trans h.keeps.toSlots
  have ha := arbitrate_keeps v
  obtain ⟨hr, hs, hst⟩ := arbitrate_lists_empty (s := v) (hv.same .replies (by simp) nofun) (hv.same .responses (by simp) nofun)
    (hv.same .stream (by simp) nofun)
  refine ⟨(hv.mono (by simp)).trans ha, fun n => ?_, hr, hs, hst, ?_, ?_⟩
  · obtain ⟨hslot, hlamps⟩ := hslots.of_keeps h.keeps (by simp) (by simp) (by simp) n
    unfold LampsCurrent
    rw [lampsFor_of_keeps (ha.same .indicators (by simp) nofun) (ha.same .bins (by simp) nofun), arbitrate_partOnly_slot hq2]
    exact ⟨hslot, hlamps⟩
  · rw [hp, h.part, hpart, BitVec.or_assoc]
  · exact hc.trans (h.cause.trans hcause)

/-- What an image gives stands with every kept field at 0 (R189). -/
structure Image.Zeroed (m : Image) : Prop where
  counts : ∀ i : Fin 16, m.tables.models[i].refCount = 0
  matches_ : ∀ i : Fin 64, m.tables.classify[i].matchCount = 0
  bins : ∀ i : Fin 32, m.bins[i].fill = 0 ∧ m.bins[i].generation = 0

theorem blankImage_zeroed (tick : TickPeriod) : (blankImage tick).Zeroed where
  counts i := by simp [blankImage, blankModel]
  matches_ i := by simp [blankImage, blankClassify]
  bins i := by simp [blankImage, blankBin]

theorem getClassify_yields_zero (bs : Bytes) : Yields (getClassify bs) fun y => y.1.matchCount = 0 := by
  refine .bind (getFlag_yields bs) fun ⟨va, bs⟩ _ => .bind (getNum_yields 1 bs) fun ⟨sm, bs⟩ _ => ?_
  refine .bind (getNum_yields 2 bs) fun ⟨cv, bs⟩ _ => .bind (getNum_yields 2 bs) fun ⟨cm, bs⟩ _ => ?_
  refine .bind (getNum_yields 1 bs) fun ⟨co, bs⟩ _ => .bind (getNum_yields 1 bs) fun ⟨dc, bs⟩ _ => ?_
  exact .bind (getNum_yields 1 bs) fun ⟨ac, bs⟩ _ => .bind (getNum_yields 2 bs) fun ⟨_, bs⟩ _ => .some rfl

theorem loadBin_zero (i : Nat) (f : BinFields) : (loadBin i f).fill = 0 ∧ (loadBin i f).generation = 0 := by
  unfold loadBin
  split
  · exact ⟨rfl, rfl⟩
  · next b hb =>
    obtain ⟨-, h2, h3⟩ := toBin_inRange hb
    split
    · exact ⟨h2, h3⟩
    · exact ⟨h2, h3⟩

theorem decodeImage_yields_zeroed (tick : TickPeriod) (bs : Bytes) : Yields (decodeImage tick bs) Image.Zeroed := by
  refine .bind (p := fun _ => True) (fun _ _ => trivial) fun ⟨pairs, bs⟩ _ => .bind (getNum_yields 2 bs) fun ⟨target, bs⟩ _ => ?_
  refine .bind (getMany_yields (p := fun m => m.storable ∧ m.refCount = 0) getModel_yields 16 bs) fun ⟨models, bs⟩ hm => ?_
  refine .bind (getMany_yields (p := fun e : ClassifyEntry => e.matchCount = 0) getClassify_yields_zero 64 bs) fun ⟨classify, bs⟩ hc => ?_
  refine .bind (p := fun _ => True) (fun _ _ => trivial) fun ⟨defects, bs⟩ _ => ?_
  refine .bind (p := fun _ => True) (fun _ _ => trivial) fun ⟨bins, bs⟩ _ => ?_
  refine .bind (p := fun _ => True) (fun _ _ => trivial) fun ⟨indicators, bs⟩ _ => ?_
  intro y hy
  dsimp only at hy
  split at hy
  · cases hy
    constructor
    case counts =>
      intro i
      simp only [Fin.getElem_fin, Vector.getElem_ofFn]
      exact getD_map_of_mem (p := fun m : ModelEntry => m.refCount = 0) i.val (fun m hm' => (hm.2 m hm').2) rfl
    case matches_ =>
      intro i
      simp only [Fin.getElem_fin, Vector.getElem_ofFn]
      exact getD_map_of_mem (p := fun e : ClassifyEntry => e.matchCount = 0) i.val (fun e he => hc.2 e he) rfl
    case bins =>
      intro i
      simp only [Fin.getElem_fin, Vector.getElem_ofFn]
      exact getD_map_of_mem (p := fun b : Bin => b.fill = 0 ∧ b.generation = 0) i.val (fun f _ => loadBin_zero i f) ⟨rfl, rfl⟩
  · cases hy

theorem readFlash_yields_zeroed (answers : Bool) (flash : Option Bytes) (tick : TickPeriod) :
    Yields (readFlash answers flash tick) Image.Zeroed := by
  intro y hy
  unfold readFlash at hy
  split at hy
  · cases hy
  · split at hy
    · exact decodeImage_yields_zeroed _ _ y hy
    · cases hy

theorem startImage_zeroed (straps : BitVec 8) (answers : Bool) (s : State) : (startImage straps answers s).Zeroed := by
  unfold startImage
  split
  · cases hi : readFlash answers s.store.flash (tickDefault straps) with
    | none => exact blankImage_zeroed _
    | some m => exact readFlash_yields_zeroed _ _ _ m hi
  · exact blankImage_zeroed _

theorem startImage_blank {straps : BitVec 8} {answers : Bool} {s : State}
    (h : loadsFlash straps = false ∨ readFlash answers s.store.flash (tickDefault straps) = none) :
    startImage straps answers s = blankImage (tickDefault straps) := by
  unfold startImage
  rcases h with h | h
  · simp [h]
  · simp [h]

theorem strapsInvalid_iff (straps : BitVec 8) : strapsInvalid straps = true ↔ stationOf straps < 4 := by
  simp [strapsInvalid]

/-- Settles O7: the common start of the blocks, and the image that it starts from. -/
theorem powerOnLeaves : Obligations.PowerOn := by
  unfold Obligations.PowerOn
  refine ⟨fun straps warning answers s => ?_, fun straps warning answers s h => ?_⟩
  · obtain ⟨hk, hslots, hrep, hresp, hstream, hpart, hcause⟩ := powerOn_started straps warning answers s
    have hz := startImage_zeroed straps answers s
    refine ⟨_, rfl, ?_⟩
    generalize powerOn straps warning answers s = t at *
    have hset : t.store.settings = (startImage straps answers s).settings := hk.same .settings (by simp) nofun
    obtain ⟨hrx, hbusy, hdiscard, hdropped⟩ : sameIn _ t .counters := hk.same _ (by simp) nofun
    obtain ⟨hsupply, hwarning, hrestore⟩ : sameIn _ t .supply := hk.same _ (by simp) nofun
    obtain ⟨hman, hnext⟩ : sameIn _ t .manifest := hk.same _ (by simp) nofun
    obtain ⟨-, hflash, hsave⟩ : sameIn _ t .image := hk.same _ (by simp) nofun
    have hbins : t.sort.bins = (startImage straps answers s).bins := hk.same .bins (by simp) nofun
    have hmodels : t.tables.models = (startImage straps answers s).tables.models := hk.same .models (by simp) nofun
    have hclassify : t.tables.classify = (startImage straps answers s).tables.classify := hk.same .classify (by simp) nofun
    have hrestarted : t.notices.part.getLsbD 0 = true := by
      rw [hpart]
      cases warning <;> simp
    refine ⟨fun n => ⟨?_, (hslots n).2⟩, hk.same .now (by simp) nofun, ?_, hk.same .requests (by simp) nofun, hrep, hresp, hstream, hrx, hbusy,
      hdiscard, hdropped, hk.same .admission (by simp) nofun, hwarning, hsupply, ?_, hman, hnext, hk.same .waiting (by simp) nofun,
      fun set p => ?_, fun i => ?_, fun i => ?_, hk.same .straps (by simp) nofun, hsave, hflash, hrestarted, hcause, fun hi => ?_,
      hk.same .transit (by simp) nofun, hk.same .pending (by simp) nofun⟩
    · refine (hslots n).1.trans ?_
      rw [resetSlot_lampsOf, hset]
      simp only [Nat.zero_add]
    · rw [hset, ← Nat.zero_add (tickMs _)]
      exact hk.same .tickAt (by simp) nofun
    · rw [hset]
      refine hrestore.trans ?_
      simp only [powerOnCleared, clearedBlocks, resetPower, startStore, Nat.zero_add]
    · unfold State.bin
      rw [hbins]
      exact hz.bins (binIndex set p)
    · rw [hmodels]; exact hz.counts i
    · rw [hclassify]; exact hz.matches_ i
    · rw [hpart, if_pos ((strapsInvalid_iff straps).2 hi)]
      simp [PartEvent.set, PartEvent.bit]
  · obtain ⟨hk, -, -, -, -, hpart, -⟩ := powerOn_started straps warning answers s
    have hb := startImage_blank h
    refine ⟨_, rfl, ?_⟩
    generalize powerOn straps warning answers s = t at *
    have hset : t.store.settings = (startImage straps answers s).settings := hk.same .settings (by simp) nofun
    have htarget : t.store.target = (startImage straps answers s).target := hk.same .target (by simp) nofun
    have hbins : t.sort.bins = (startImage straps answers s).bins := hk.same .bins (by simp) nofun
    have hmodels : t.tables.models = (startImage straps answers s).tables.models := hk.same .models (by simp) nofun
    have hclassify : t.tables.classify = (startImage straps answers s).tables.classify := hk.same .classify (by simp) nofun
    have hdefects : t.tables.defects = (startImage straps answers s).tables.defects := hk.same .defects (by simp) nofun
    have hindicators : t.tables.indicators = (startImage straps answers s).tables.indicators := hk.same .indicators (by simp) nofun
    obtain ⟨himage, -, -⟩ : sameIn _ t .image := hk.same _ (by simp) nofun
    rw [hb] at hset htarget hbins hmodels hclassify hdefects hindicators
    refine ⟨hset, htarget, fun i => ⟨?_, ?_, ?_⟩, fun i => ?_, fun set p => ?_, fun hl => ?_⟩
    · rw [hmodels]; simp [blankImage]
    · rw [hdefects]; simp [blankImage]
    · rw [hindicators]; simp [blankImage]
    · rw [hclassify]; simp [blankImage]
    · unfold State.bin
      rw [hbins]
      have h7 : p.val % 8 = 7 ↔ p = 7 := by omega
      simp [blankImage, blankBin, binIndex, h7]
    · have hnone : readFlash answers s.store.flash (tickDefault straps) = none := h.resolve_left (by simp [hl])
      refine ⟨himage.trans ?_, ?_⟩
      · simp [powerOnCleared, clearedBlocks, startStore, hnone]
      · rw [hpart]
        simp [hl, hnone, PartEvent.set, PartEvent.bit]

end Sys2Proof.Machine
end

section
/-! SUPPORT. The stored image decodes to what it was encoded from (O8). -/

namespace Sys2Proof.Machine

/-! ### The check -/

theorem crcPasses_withCrc (bs : Bytes) : crcPasses (withCrc bs) = true ∧ (withCrc bs).take ((withCrc bs).length - 4) = bs := by
  have hlen : (withCrc bs).length - 4 = bs.length := by simp [withCrc]
  have htake : (withCrc bs).take bs.length = bs := by simp [withCrc]
  have hdrop : (withCrc bs).drop bs.length = putNum 4 (crc32 bs).toNat := by simp [withCrc]
  refine ⟨?_, by rw [hlen, htake]⟩
  unfold crcPasses
  rw [hlen, htake, hdrop, leNat_putNum (crc32 bs).isLt]
  simp [withCrc]

/-! ### The settings -/

/-- The settings by identifier, names as their codes (11.2). -/
def Settings.pairs (v : Settings) : List (Nat × Nat) :=
  [(1, v.settleTime), (2, v.settleReserve), (3, v.resetRundown), (4, v.lightTimeout), (5, v.heavyTimeout),
    (6, v.identifyTimeout), (7, v.spinDownTimeout), (8, v.repeatSpinUpTimeout), (9, v.overdrawMargin), (10, v.restoreDelay),
    (11, v.autoResume.toNat), (12, codeIn TickPeriod.names v.tickPeriod), (13, v.idleTime),
    (14, v.eventMask.slot.toNat + 65536 * v.eventMask.part.toNat), (15, codeIn ReportMode.names v.reportMode),
    (16, v.streamInterval), (17, v.reportStation)]

/-- The bytes of one setting. -/
def settingBytes (p : Nat × Nat) : Bytes := putNum ((settingWidth p.1).getD 0) p.2

/-- A setting whose value fits the bytes of its identifier. -/
def SettingFits (p : Nat × Nat) : Prop := ∃ w, settingWidth p.1 = some w ∧ p.2 < 256 ^ w

theorem getSettings_settingBytes {ps : List (Nat × Nat)} (h : ∀ p ∈ ps, SettingFits p) (bs : Bytes) :
    getSettings (ps.map (·.1)) (ps.flatMap settingBytes ++ bs) = some (ps, bs) := by
  induction ps with
  | nil => rfl
  | cons p ps ih =>
    rw [List.forall_mem_cons] at h
    obtain ⟨⟨w, hw, hx⟩, hps⟩ := h
    simp [getSettings, settingBytes, hw, getNum_putNum hx, ih hps]

theorem putNum_append (a b x y : Nat) (h : x < 256 ^ a) : putNum a x ++ putNum b y = putNum (a + b) (x + 256 ^ a * y) := by
  induction a generalizing x with
  | zero => simp_all [putNum]
  | succ a ih =>
    have hx : x / 256 < 256 ^ a := by rw [Nat.div_lt_iff_lt_mul (by decide)]; simpa [Nat.pow_succ] using h
    have hdiv : (x + 256 ^ (a + 1) * y) / 256 = x / 256 + 256 ^ a * y := by
      rw [Nat.pow_succ, Nat.mul_comm (256 ^ a), Nat.mul_assoc, Nat.add_mul_div_left _ _ (by decide)]
    have hbyte : BitVec.ofNat 8 (x + 256 ^ (a + 1) * y) = BitVec.ofNat 8 x := by
      apply BitVec.eq_of_toNat_eq
      rw [Nat.pow_succ, Nat.mul_comm (256 ^ a), Nat.mul_assoc]
      simp only [BitVec.toNat_ofNat]
      omega
    rw [show a + 1 + b = (a + b) + 1 by omega]
    simp only [putNum, List.cons_append]
    rw [hdiv, hbyte, ih _ hx]

theorem EventMask.bytes_eq (m : EventMask) : m.bytes = putNum 3 (m.slot.toNat + 65536 * m.part.toNat) :=
  putNum_append 2 1 _ _ m.slot.isLt

theorem putFlag_eq (b : Bool) : putFlag b = putNum 1 b.toNat := by cases b <;> rfl

theorem Settings.bytes_eq (v : Settings) : v.bytes = v.pairs.flatMap settingBytes := by
  simp [Settings.bytes, Settings.pairs, settingBytes, settingWidth, EventMask.bytes_eq, putFlag_eq, putName, List.append_assoc]

theorem TickPeriod.code (p : TickPeriod) : codeIn TickPeriod.names p ≤ 3 ∧ TickPeriod.names[codeIn TickPeriod.names p]? = some p := by
  cases p <;> decide

theorem ReportMode.code (p : ReportMode) : codeIn ReportMode.names p ≤ 1 ∧ ReportMode.names[codeIn ReportMode.names p]? = some p := by
  cases p <;> decide

theorem maskOf_toNat (m : EventMask) : maskOf (m.slot.toNat + 65536 * m.part.toNat) = m := by
  have h1 := m.slot.isLt
  have h2 := m.part.isLt
  unfold maskOf
  congr 1 <;> apply BitVec.eq_of_toNat_eq <;> simp only [BitVec.toNat_ofNat] <;> omega

theorem settingFits_of_range {id x lo hi w : Nat} (hr : settingRange id = (lo, hi)) (hw : settingWidth id = some w)
    (hhi : hi < 256 ^ w) (h : lo ≤ x ∧ x ≤ hi) : SettingFits (id, x) ∧ settingOk (id, x) = true :=
  ⟨⟨w, hw, lt_of_le_of_lt h.2 hhi⟩, by unfold settingOk; rw [hr]; exact within_iff.2 h⟩

theorem Settings.pairs_fit {v : Settings} (h : v.inRange) : ∀ p ∈ v.pairs, SettingFits p ∧ settingOk p = true := by
  obtain ⟨h1, h2, h3, h4, h5, h6, h7, h8, h9, h10, h13, h16, h17⟩ := h
  have h11 : v.autoResume.toNat ≤ 1 := Bool.toNat_le _
  have h12 := (TickPeriod.code v.tickPeriod).1
  have h14 : v.eventMask.slot.toNat + 65536 * v.eventMask.part.toNat ≤ 0xFFFFFF := by
    have := v.eventMask.slot.isLt
    have := v.eventMask.part.isLt
    omega
  have h15 := (ReportMode.code v.reportMode).1
  simp only [Settings.pairs, List.forall_mem_cons]
  exact ⟨settingFits_of_range rfl rfl (by decide) h1, settingFits_of_range rfl rfl (by decide) h2,
    settingFits_of_range rfl rfl (by decide) h3, settingFits_of_range rfl rfl (by decide) h4,
    settingFits_of_range rfl rfl (by decide) h5, settingFits_of_range rfl rfl (by decide) h6,
    settingFits_of_range rfl rfl (by decide) h7, settingFits_of_range rfl rfl (by decide) h8,
    settingFits_of_range rfl rfl (by decide) ⟨Nat.zero_le _, h9⟩, settingFits_of_range rfl rfl (by decide) h10,
    settingFits_of_range rfl rfl (by decide) ⟨Nat.zero_le _, h11⟩, settingFits_of_range rfl rfl (by decide) ⟨Nat.zero_le _, h12⟩,
    settingFits_of_range rfl rfl (by decide) h13, settingFits_of_range rfl rfl (by decide) ⟨Nat.zero_le _, h14⟩,
    settingFits_of_range rfl rfl (by decide) ⟨Nat.zero_le _, h15⟩, settingFits_of_range rfl rfl (by decide) h16,
    settingFits_of_range rfl rfl (by decide) h17, nofun⟩

/-- Writing every setting over any others gives them all. -/
theorem foldl_writeSetting_pairs (v w : Settings) : v.pairs.foldl writeSetting w = v := by
  simp [Settings.pairs, writeSetting, (TickPeriod.code _).2, (ReportMode.code _).2, maskOf_toNat]

theorem loadSettings_pairs {v : Settings} (h : v.inRange) (tick : TickPeriod) : loadSettings tick v.pairs = v := by
  have hall : v.pairs.filter settingOk = v.pairs := List.filter_eq_self.2 fun p hp => (v.pairs_fit h p hp).2
  unfold loadSettings
  rw [hall, foldl_writeSetting_pairs]

/-! ### The tables -/

/-- A model entry as the image holds it. -/
def ModelEntry.kept (m : ModelEntry) : ModelEntry := { m with refCount := 0 }

/-- A classification entry as the image holds it. -/
def ClassifyEntry.kept (e : ClassifyEntry) : ClassifyEntry := { e with matchCount := 0 }

/-- A bin as the image holds it. -/
def Bin.kept (b : Bin) : Bin := { b with fill := 0, generation := 0 }

theorem getModel_kept : ReadsBack getModel (fun m => m.kept.bytes) ModelEntry.kept ModelEntry.storable :=
  fun m h bs => getModel_readsBack m.kept h bs

theorem getClassify_kept : ReadsBack getClassify (fun e => e.kept.bytes) ClassifyEntry.kept ClassifyEntry.storable :=
  fun e h bs => getClassify_readsBack e.kept h bs

theorem getBin_kept : ReadsBack getBin (fun b => b.kept.bytes) Bin.fields Bin.inRange :=
  fun b h bs => getBin_readsBack b.kept h bs

theorem loadModel_kept {r : Nat} {m : ModelEntry} (h : m.valid = true → modelCheck r m = .none) : loadModel r m.kept = m.kept := by
  have hcheck : modelCheck r m.kept = modelCheck r m := rfl
  unfold loadModel
  cases hv : m.valid with
  | false => simp [ModelEntry.kept, hv]
  | true => rw [hcheck, h hv]; simp [ModelEntry.kept, hv]

theorem loadClassify_kept {e : ClassifyEntry} (h : e.valid = true → classifyCheck e = .none) : loadClassify e.kept = e.kept := by
  have hcheck : classifyCheck e.kept = classifyCheck e := rfl
  unfold loadClassify
  cases hv : e.valid with
  | false => simp [ClassifyEntry.kept, hv]
  | true => rw [hcheck, h hv]; simp [ClassifyEntry.kept, hv]

theorem loadBin_fields {i : Nat} {b : Bin} (h : b.inRange) (h7 : i % 8 = 7 → b.kind = .reject) : loadBin i b.fields = b.kept := by
  unfold loadBin
  rw [Bin.toBin_fields h]
  dsimp only
  split
  · next hi => rw [← h7 hi]; rfl
  · rfl

/-- A table read back member by member. -/
theorem getMany_toList {α β : Type} {read : Bytes → Option (β × Bytes)} {enc : α → Bytes} {dec : α → β} {p : α → Prop} {k : Nat}
    (h : ReadsBack read enc dec p) (v : Vector α k) (hv : ∀ i : Fin k, p v[i]) {γ : Type} (bs : Bytes)
    (f : List β × Bytes → Option γ) :
    (getMany read k (v.toList.flatMap enc ++ bs) >>= f) = f (v.toList.map dec, bs) := by
  have hlen : v.toList.length = k := Vector.length_toList
  have hp : ∀ x ∈ v.toList, p x := fun x hx => by
    obtain ⟨i, hi, rfl⟩ := Vector.getElem_of_mem (Vector.mem_toList_iff.1 hx)
    exact hv ⟨i, hi⟩
  have hmany := getMany_flatMap h hp bs
  rw [hlen] at hmany
  rw [hmany]
  rfl

/-- What the members of an image load to (R191). -/
def loadImage (tick : TickPeriod) (pairs : List (Nat × Nat)) (target : Nat) (models : List ModelEntry) (classify : List ClassifyEntry)
    (defects : List DefectEntry) (bins : List BinFields) (indicators : List IndicatorFields) : Image :=
  { settings := loadSettings tick pairs
    target := if targetOk target then target else defaultTarget
    tables :=
      { models := Vector.ofFn fun i : Fin 16 =>
          (models[i.val]?.map (loadModel (loadSettings tick pairs).settleReserve)).getD blankModel
        classify := Vector.ofFn fun i : Fin 64 => (classify[i.val]?.map loadClassify).getD blankClassify
        defects := Vector.ofFn fun i : Fin 16 => (defects[i.val]?.map loadDefect).getD blankDefect
        indicators := Vector.ofFn fun i : Fin 16 => (indicators[i.val]?.map loadIndicator).getD blankIndicator }
    bins := Vector.ofFn fun i : Fin 32 => (bins[i.val]?.map (loadBin i.val)).getD (blankBin i.val) }

/-- The members of the image that a part writes. -/
def writtenImage (tick : TickPeriod) (s : State) : Image :=
  loadImage tick s.store.settings.pairs s.store.target (s.tables.models.toList.map ModelEntry.kept)
    (s.tables.classify.toList.map ClassifyEntry.kept) (s.tables.defects.toList.map id) (s.sort.bins.toList.map Bin.fields)
    (s.tables.indicators.toList.map IndicatorEntry.fields)

theorem bins_of_storable {s : State} (h : s.storable) (i : Fin 32) :
    s.sort.bins[i].inRange ∧ (i.val % 8 = 7 → s.sort.bins[i].kind = .reject) := by
  obtain ⟨-, -, -, -, -, hbins, hreject⟩ := h
  have hi : i = binIndex ⟨i.val / 8, by omega⟩ ⟨i.val % 8, by omega⟩ := Fin.ext (by simp only [binIndex]; omega)
  rw [hi]
  refine ⟨hbins _ _, fun h7 => ?_⟩
  have hp : (⟨i.val % 8, by omega⟩ : Fin 8) = 7 := Fin.ext (by simpa [binIndex] using h7)
  rw [hp]
  exact hreject _

theorem decodeImage_imageBody {s : State} (h : s.storable) (tick : TickPeriod) :
    decodeImage tick (imageBody s) = some (writtenImage tick s) := by
  have hbin := bins_of_storable h
  obtain ⟨hset, htarget, hmodels, hclassify, hdefects, -, -⟩ := h
  have hids : (List.range 17).map (· + 1) = s.store.settings.pairs.map (·.1) := rfl
  have hbody : imageBody s = s.store.settings.pairs.flatMap settingBytes ++ (putNum 2 s.store.target
      ++ (s.tables.models.toList.flatMap (fun m => m.kept.bytes) ++ (s.tables.classify.toList.flatMap (fun e => e.kept.bytes)
      ++ (s.tables.defects.toList.flatMap DefectEntry.bytes ++ (s.sort.bins.toList.flatMap (fun b => b.kept.bytes)
      ++ (s.tables.indicators.toList.flatMap IndicatorEntry.bytes ++ [])))))) := by
    simp only [imageBody, settingsBytes, Settings.bytes_eq, List.append_assoc, List.append_nil]
    rfl
  have hsettings : ∀ (bs : Bytes) (f : List (Nat × Nat) × Bytes → Option Image),
      (getSettings (s.store.settings.pairs.map (·.1)) (s.store.settings.pairs.flatMap settingBytes ++ bs) >>= f)
        = f (s.store.settings.pairs, bs) := fun bs f => by
    rw [getSettings_settingBytes fun p hp => (s.store.settings.pairs_fit hset p hp).1]
    rfl
  unfold decodeImage
  rw [hids, hbody]
  refine (hsettings ..).trans ?_
  refine (getNum_bind (by omega) ..).trans ?_
  refine (getMany_toList getModel_kept _ (fun i => (hmodels i).1) ..).trans ?_
  refine (getMany_toList getClassify_kept _ (fun i => (hclassify i).1) ..).trans ?_
  refine (getMany_toList getDefect_readsBack _ (fun i => by have := hdefects i; omega) ..).trans ?_
  refine (getMany_toList getBin_kept _ (fun i => (hbin i).1) ..).trans ?_
  refine (getMany_toList getIndicator_readsBack _ (fun i => trivial) ..).trans ?_
  exact if_pos rfl

/-- Settles O8: the check sum passes, and the body decodes table by table. -/
theorem powerOnRestoresImage : Obligations.PowerOnRestoresImage := by
  unfold Obligations.PowerOnRestoresImage
  intro saved s straps warning hst hl hf
  obtain ⟨hpass, htake⟩ := crcPasses_withCrc (imageBody saved)
  have hread : readFlash true s.store.flash (tickDefault straps) = some (writtenImage (tickDefault straps) saved) := by
    rw [hf]
    unfold readFlash
    dsimp only
    unfold imageBytes
    rw [hpass, htake, decodeImage_imageBody hst]
    rfl
  have himg : startImage straps true s = writtenImage (tickDefault straps) saved := by
    unfold startImage
    rw [hl, hread]
    rfl
  obtain ⟨hk, -⟩ := powerOn_started straps warning true s
  have hbin := bins_of_storable hst
  obtain ⟨hsettings, htarget, hmodels, hclassify, hdefects, -, -⟩ := hst
  have hload : loadSettings (tickDefault straps) saved.store.settings.pairs = saved.store.settings := loadSettings_pairs hsettings _
  refine ⟨_, rfl, ?_⟩
  generalize powerOn straps warning true s = t at *
  have hset : t.store.settings = (startImage straps true s).settings := hk.same .settings (by simp) nofun
  have htgt : t.store.target = (startImage straps true s).target := hk.same .target (by simp) nofun
  have hbins : t.sort.bins = (startImage straps true s).bins := hk.same .bins (by simp) nofun
  have hm : t.tables.models = (startImage straps true s).tables.models := hk.same .models (by simp) nofun
  have hc : t.tables.classify = (startImage straps true s).tables.classify := hk.same .classify (by simp) nofun
  have hd : t.tables.defects = (startImage straps true s).tables.defects := hk.same .defects (by simp) nofun
  have hi : t.tables.indicators = (startImage straps true s).tables.indicators := hk.same .indicators (by simp) nofun
  obtain ⟨himage, -, -⟩ : sameIn _ t .image := hk.same _ (by simp) nofun
  rw [himg] at hset htgt hbins hm hc hd hi
  refine ⟨hset.trans hload, htgt.trans ?_, himage.trans ?_, fun i => ⟨?_, ?_, ?_⟩, fun i => ?_, fun set p => ?_⟩
  · exact if_pos (within_iff.2 htarget)
  · simp [powerOnCleared, clearedBlocks, startStore, hread]
  · rw [hm]
    change _ = saved.tables.models[i].kept
    simpa [writtenImage, loadImage, hload] using loadModel_kept (hmodels i).2
  · rw [hd]
    have hw : saved.tables.defects[i].inRange = true := within_iff.2 ⟨Nat.zero_le _, hdefects i⟩
    have hload : loadDefect saved.tables.defects[i] = saved.tables.defects[i] := if_pos hw
    simpa [writtenImage, loadImage] using hload
  · rw [hi]
    simp [writtenImage, loadImage, loadIndicator, IndicatorEntry.toEntry_fields]
  · rw [hc]
    change _ = saved.tables.classify[i].kept
    simpa [writtenImage, loadImage] using loadClassify_kept (hclassify i).2
  · unfold State.bin
    rw [hbins]
    change _ = saved.sort.bins[binIndex set p].kept
    have h := hbin (binIndex set p)
    simpa [writtenImage, loadImage] using loadBin_fields h.1 h.2

end Sys2Proof.Machine
end

section
/-! SUPPORT. The table requests: what is read, what is stored and what is refused (O26, O29, O30). -/

namespace Sys2Proof.Machine

/-! ### LOAD-TABLE -/

theorem serveLoad_of_serves {table : TableName} {f : QueuedRequest → State → State} {s : State} {q : QueuedRequest}
    {rest : List QueuedRequest} (hs : Serves s q rest 0x06) (ht : loadedTable q.operands = some table) :
    serveLoad table f s = finish (f q (s.taken rest)) := by
  obtain ⟨ha, hr, hk⟩ := hs
  unfold serveLoad
  exact serveHead_of_mine ha hr (by simp [hk, ht])

theorem readAll_of_all {α : Type} {read : Bytes → Option (α × Bytes)} {bs : Bytes} {x : α} (h : read bs = some (x, [])) :
    readAll read bs = some x := by
  unfold readAll
  rw [h]

/-- An entry with its index in front reads back. -/
theorem readAll_getIndexed {α β : Type} {read : Bytes → Option (β × Bytes)} {enc : α → Bytes} {dec : α → β} {p : α → Prop}
    (h : ReadsBack read enc dec p) {x : α} (hx : p x) {i : Nat} (hi : i < 256) :
    readAll (getIndexed read) (putNum 1 i ++ enc x) = some (i, dec x) := by
  refine readAll_of_all ?_
  have hread := h x hx []
  rw [List.append_nil] at hread
  refine (getNum_bind (by simpa using hi) ..).trans ?_
  simp [hread]

theorem getIndexed_readsBack {α β : Type} {read : Bytes → Option (β × Bytes)} {enc : α → Bytes} {dec : α → β} {p : α → Prop}
    (h : ReadsBack read enc dec p) :
    ReadsBack (getIndexed read) (fun x : Nat × α => putNum 1 x.1 ++ enc x.2) (fun x => (x.1, dec x.2))
      fun x => x.1 < 256 ∧ p x.2 := by
  intro x hx bs
  dsimp only
  rw [List.append_assoc]
  exact (getNum_bind (by simpa using hx.1) ..).trans (h.bind hx.2 ..)

theorem trimRight_eq_nil (bs : Bytes) : trimRight bs = [] ↔ ∀ b ∈ bs, b = 0x20 := by
  simp [trimRight]

theorem ThresholdSet.inRange_iff (t : ThresholdSet) :
    t.inRange = true ↔ t.kf ≤ 7 ∧ 1 ≤ t.tw ∧ t.tw ≤ 65535 ∧ 1 ≤ t.nw ∧ t.nw ≤ 15 ∧ 1 ≤ t.nx ∧ t.nx ≤ 15 ∧ 1 ≤ t.nf
      ∧ t.nf ≤ 15 ∧ 1 ≤ t.shockHold ∧ t.shockHold ≤ 255 ∧ t.watchPenalty ≤ 1000 ∧ t.faultAction ≤ 1 := by
  simp only [ThresholdSet.inRange, Bool.and_eq_true, within_iff, Nat.zero_le, true_and, and_assoc]

theorem ThresholdSet.related_iff (t : ThresholdSet) : t.related = true ↔ 2 ≤ t.kl ∧ t.kl ≤ 15 ∧ t.tw < t.tf ∧ t.h < t.tw := by
  simp only [ThresholdSet.related, Bool.and_eq_true, within_iff, decide_eq_true_eq, and_assoc]

theorem SpinProfile.inRange_iff (p : SpinProfile) :
    p.inRange = true ↔ 100 ≤ p.peak ∧ p.peak ≤ 4000 ∧ 1 ≤ p.spinTime ∧ p.spinTime ≤ 120 := by
  simp only [SpinProfile.inRange, Bool.and_eq_true, within_iff, and_assoc]

theorem ModelEntry.inRange_iff (m : ModelEntry) :
    m.inRange = true ↔ m.firmwareCount ≤ 2 ∧ m.standby ≤ 2000 ∧ m.run ≤ 4000 ∧ m.heavyIncrement ≤ 4000
      ∧ (∀ p ∈ m.profiles, p.inRange = true) ∧ 8 ≤ m.calibrationCount ∧ m.calibrationCount ≤ 255 ∧ m.shockPenalty ≤ 1000
      ∧ m.reseedPenalty ≤ 1000 ∧ m.binSet ≤ 3 ∧ ∀ t ∈ [m.temp, m.curr, m.vibe, m.defr], t.inRange = true := by
  simp only [ModelEntry.inRange, Bool.and_eq_true, within_iff, Nat.zero_le, true_and, and_assoc, List.all_eq_true,
    ModelEntry.profiles, List.forall_mem_cons, List.not_mem_nil, false_imp_iff, implies_true, and_true]

theorem withIndex_of_lt {b i : Nat} {q : QueuedRequest} {f : Fin b → State → State} {s : State} (h : i < b) :
    withIndex b i q f s = f ⟨i, h⟩ s := dif_pos h

theorem writeModel_stored {q : QueuedRequest} {i : Fin 16} {m : ModelEntry} {s : State} (hr : s.tables.models[i.val].refCount = 0)
    (hc : m.valid = true → modelCheck s.store.settings.settleReserve m = .none) :
    writeModel q i m s = answerOk q (.model m) (putModel i m s) := by
  have hnone : (if m.valid then modelCheck s.store.settings.settleReserve m else .none) = .none := by
    split
    · next h => exact hc h
    · rfl
  unfold writeModel
  rw [if_neg (not_not_intro hr), hnone]

theorem writeModel_refused {q : QueuedRequest} {i : Fin 16} {m : ModelEntry} {s : State} (hr : s.tables.models[i.val].refCount = 0)
    (hv : m.valid = true) (hc : modelCheck s.store.settings.settleReserve m ≠ .none) :
    writeModel q i m s = refuseTable q (modelCheck s.store.settings.settleReserve m) s := by
  unfold writeModel
  rw [if_neg (not_not_intro hr), if_pos hv]
  split
  · next h => exact absurd h hc
  · rfl

/-- Settles O29: the entry reads back from the operands, then the first failed check decides. -/
theorem loadTableModel : Obligations.LoadTableModel := by
  unfold Obligations.LoadTableModel
  refine ⟨fun s q rest i m hs hm hi ho hv => ?_, fun reserve m => ?_⟩
  · have htable : loadedTable q.operands = some .model := by rw [ho]; rfl
    have hread : (readLoadModel ·.tail) q.operands = some (i, { m with refCount := 0 }) := by
      dsimp only
      rw [ho]
      exact readAll_getIndexed getModel_readsBack hm hi
    have hwidth : zeroWidth q.kind q.operands = 172 := by rw [hs.2.2, ho]; rfl
    have hexec : exec .loadTableModel s
        = .next (finish (withIndex 16 i q (fun i => writeModel q i { m with refCount := 0 }) (s.taken rest))) := by
      change Host.Outcome.next (serveLoad .model _ s) = _
      rw [serveLoad_of_serves hs htable, withOperands_of_read hread, unlessSaving_of_none (s := s.taken rest) hv]
    dsimp only
    rw [hexec, ← hwidth]
    refine ⟨fun h => by rw [withIndex_of_beyond h, refuse_eq], fun h => ?_⟩
    rw [withIndex_of_lt h]
    exact ⟨fun hr => congrArg _ (congrArg finish (if_pos hr)),
      fun hr hval hc => congrArg _ (congrArg finish (writeModel_refused (s := s.taken rest) hr hval hc)),
      fun hr hc => congrArg _ (congrArg finish (writeModel_stored (s := s.taken rest) hr hc))⟩
  · have hrelated : (m.temp.related && m.curr.related && m.vibe.related && m.defr.related) = true
        ↔ ∀ t ∈ [m.temp, m.curr, m.vibe, m.defr], t.related = true := by
      simp only [Bool.and_eq_true, List.forall_mem_cons, and_assoc, List.not_mem_nil, false_imp_iff, implies_true, and_true]
    dsimp only
    simp only [← SpinProfile.inRange_iff, ← ThresholdSet.inRange_iff, ← ThresholdSet.related_iff, ← trimRight_eq_nil,
      ← ModelEntry.inRange_iff, ← hrelated, ← within_iff (x := m.profileCount)]
    unfold modelCheck
    refine ⟨fun he => if_pos he, fun he hc => ?_, fun he hc hr => ?_, fun he hc hr hs => ?_, fun he hc hr hs hl => ?_,
      fun he hc hr hs hl => ?_⟩
    all_goals rw [if_neg he]
    · simp [hc]
    · simp [hc, hr]
    · simp [hc, hr, hs]
    · simp [hc, hr, not_lt.2 hs, hl]
    · simp [hc, hr, not_lt.2 hs, hl]

/-! ### The other tables -/

theorem putNum_one_toNat (b : Byte) : putNum 1 b.toNat = [b] := by simp [putNum]

theorem writeClassify_stored {q : QueuedRequest} {i : Fin 64} {e : ClassifyEntry} {s : State}
    (hc : e.valid = true → classifyCheck e = .none) :
    writeClassify q i e s
      = answerOk q (.classify e) { s with tables := { s.tables with classify := s.tables.classify.set i.val e i.isLt } } := by
  have hnone : (if e.valid then classifyCheck e else .none) = .none := by
    split
    · next h => exact hc h
    · rfl
  unfold writeClassify
  rw [hnone]

theorem writeClassify_refused {q : QueuedRequest} {i : Fin 64} {e : ClassifyEntry} {s : State} {r : RefusalReason}
    (hv : e.valid = true) (hc : classifyCheck e = r) (hr : r ≠ .none) : writeClassify q i e s = refuseTable q r s := by
  unfold writeClassify
  rw [if_pos hv, hc]
  cases r
  case none => exact absurd rfl hr
  all_goals rfl

theorem classifyCheck_eq (e : ClassifyEntry) :
    classifyCheck e = if e.defectClass = 15 then .reservedClass
      else if e.statusMatch ≤ 6 ∧ e.commandMatch ≤ 5 ∧ e.defectClass ≤ 14 ∧ e.action ≤ 3 then .none else .fieldRange := by
  simp only [classifyCheck, Bool.and_eq_true, within_iff, Nat.zero_le, true_and, and_assoc]

theorem retryPass_of_none {s : State} (h : s.sort.waiting = []) : retryPass s = s := by
  unfold retryPass retryPasses
  rw [h]
  rfl

theorem binCheck_fields {b : Bin} (h : b.inRange) (old : Bin) (p : Fin 8) :
    binCheck old p b.fields
      = if p = 7 ∧ b.kind ≠ .reject then .error .rejectPosition
        else if b.capacity < old.fill then .error .capacityBelowFill
        else .ok { b with fill := old.fill, generation := old.generation } := by
  unfold binCheck
  rw [Bin.toBin_fields h]

theorem writeBin_error {q : QueuedRequest} {set : Fin 4} {p : Fin 8} {f : BinFields} {s : State} {r : RefusalReason}
    (h : binCheck (s.bin set p) p f = .error r) : writeBin q set p f s = refuseTable q r s := by
  unfold writeBin
  rw [h]

theorem writeBin_ok {q : QueuedRequest} {set : Fin 4} {p : Fin 8} {f : BinFields} {s : State} {b : Bin}
    (h : binCheck (s.bin set p) p f = .ok b) : writeBin q set p f s = retryPass (answerOk q (.bin b) (setBin set p b s)) := by
  unfold writeBin
  rw [h]

/-- A bin's fields out of their ranges are refused (R151). -/
theorem toBin_eq_none {f : BinFields} {fill generation : Nat}
    (h : 4 ≤ f.kind ∨ 10000 < f.minScore ∨ 15 < f.maxShed ∨ 7 < f.rank ∨ f.capacity = 0) : f.toBin fill generation = none := by
  unfold BinFields.toBin
  split
  · rfl
  · next k hk =>
    have hlt : f.kind < 4 := (List.getElem?_eq_some_iff.1 hk).1
    refine if_neg ?_
    simp only [Bool.and_eq_true, within_iff]
    omega

theorem toEntry_eq_none {f : IndicatorFields} (h : 14 ≤ f.condition ∨ 4 ≤ f.lampA ∨ 4 ≤ f.lampB) : f.toEntry = none := by
  have hnone : ∀ {α : Type} (l : List α) k, l.length ≤ k → l[k]? = none := fun l k hk => List.getElem?_eq_none hk
  unfold IndicatorFields.toEntry
  rcases h with h | h | h
  · rw [hnone Condition.names _ h]; rfl
  · rw [hnone LampPattern.names f.lampA h]; cases Condition.names[f.condition]? <;> rfl
  · rw [hnone LampPattern.names f.lampB h]
    cases Condition.names[f.condition]? <;> cases LampPattern.names[f.lampA]? <;> rfl

theorem exec_loadTableBin {s : State} {q : QueuedRequest} {rest : List QueuedRequest} {a c : Nat} {f : BinFields}
    (hs : Serves s q rest 0x06) (hv : s.store.save = none) (ht : loadedTable q.operands = some .bin)
    (hr : readLoadBin q.operands.tail = some (a, c, f)) :
    exec .loadTableBin s
      = .next (finish (withIndex 4 a q (fun set => withIndex 8 c q fun p => writeBin q set p f) (s.taken rest))) := by
  change Host.Outcome.next (serveLoad .bin _ s) = _
  rw [serveLoad_of_serves hs ht, withOperands_of_read (read := (readLoadBin ·.tail)) hr, unlessSaving_of_none (s := s.taken rest) hv]

theorem exec_loadTableIndicator {s : State} {q : QueuedRequest} {rest : List QueuedRequest} {i : Nat} {f : IndicatorFields}
    (hs : Serves s q rest 0x06) (hv : s.store.save = none) (ht : loadedTable q.operands = some .indicator)
    (hr : readLoadIndicator q.operands.tail = some (i, f)) :
    exec .loadTableIndicator s = .next (finish (withIndex 16 i q (fun i => writeIndicator q i f) (s.taken rest))) := by
  change Host.Outcome.next (serveLoad .indicator _ s) = _
  rw [serveLoad_of_serves hs ht, withOperands_of_read (read := (readLoadIndicator ·.tail)) hr,
    unlessSaving_of_none (s := s.taken rest) hv]

/-- An indicator map entry replaced, before the lamps follow. -/
def putIndicator (i : Fin 16) (e : IndicatorEntry) (s : State) : State :=
  { s with tables := { s.tables with indicators := s.tables.indicators.set i.val e i.isLt } }

theorem putIndicator_keeps (i : Fin 16) (e : IndicatorEntry) (s : State) : KeepsButSlots [.indicators] s (putIndicator i e s) :=
  ⟨fun g hg _ => by cases g <;> simp_all [sameIn, putIndicator]⟩

theorem relampAll_slot (s : State) (n : SlotId) : SlotKeepsBut [.lamps] (s.slot n) ((forSlots relamp s).slot n) := by
  rw [forSlots_relamp_slot]
  exact ⟨fun g hg => by cases g <;> simp_all [slotSameIn, Slot.lit]⟩

theorem writeIndicator_stored {q : QueuedRequest} {i : Fin 16} {f : IndicatorFields} {e : IndicatorEntry} {s : State}
    (h : f.toEntry = some e) :
    writeIndicator q i f s = answerOk q (.indicator e) (forSlots relamp (putIndicator i e s)) := by
  unfold writeIndicator
  rw [h]
  rfl

/-- An indicator entry stored, and every slot's lamps following it (R20). -/
theorem relampAll_putIndicator (i : Fin 16) (e : IndicatorEntry) (s : State) :
    ∃ u, forSlots relamp (putIndicator i e s) = u ∧ KeepsButSlots [.indicators] s u
      ∧ u.tables.indicators = s.tables.indicators.set i.val e i.isLt
      ∧ ∀ n, SlotKeepsBut [.lamps] (s.slot n) (u.slot n) ∧ LampsCurrent u n :=
  have hk := forSlots_relamp_keeps (putIndicator i e s)
  ⟨_, rfl, (putIndicator_keeps i e s).trans (hk.mono (by simp)), hk.same .indicators (by simp) nofun,
    fun n => ⟨relampAll_slot (putIndicator i e s) n, forSlots_relamp_lamps (putIndicator i e s) n⟩⟩

theorem writeIndicator_refused {q : QueuedRequest} {i : Fin 16} {f : IndicatorFields} {s : State} (h : f.toEntry = none) :
    writeIndicator q i f s = refuseTable q .fieldRange s := by
  unfold writeIndicator
  rw [h]

theorem anyMetric_iff (x : Slot) (st : MetricState) : x.anyMetric st = true ↔ ∃ m, (x.filter m).state = st := by
  constructor
  · intro h
    simp only [Slot.anyMetric, Bool.or_eq_true, beq_iff_eq] at h
    obtain ((h | h) | h) | h := h
    · exact ⟨.temp, h⟩
    · exact ⟨.curr, h⟩
    · exact ⟨.vibe, h⟩
    · exact ⟨.defr, h⟩
  · rintro ⟨m, h⟩
    cases m <;> simp_all [Slot.anyMetric, Slot.filter]

theorem inTest_iff (st : SlotState) : st.inTest = true ↔ st = .calibrating ∨ st = .burning := by
  cases st <;> simp [SlotState.inTest]

theorem sortedKind_eq_some (s : State) (x : Slot) (k : BinKind) :
    sortedKind s x = some k ↔ x.state = .sorted ∧ ∃ g, x.grading.grade = some g ∧ (s.bin g.binSet g.position).kind = k := by
  unfold sortedKind
  split
  · next h => simp [h]
  · next h => simp [h]

/-- The lamps follow the first entry that shows (R19). -/
theorem lampsFor_first {s : State} {x : Slot} {i : Fin 16}
    (h : (conditionHolds s x s.tables.indicators[i].condition != s.tables.indicators[i].invert) = true)
    (hf : ∀ j, j < i → ¬(conditionHolds s x s.tables.indicators[j].condition != s.tables.indicators[j].invert) = true) :
    lampsFor s x = (s.tables.indicators[i].lampA, s.tables.indicators[i].lampB) := by
  have hfind : s.tables.indicators.toList.find? (fun e => conditionHolds s x e.condition != e.invert) = some s.tables.indicators[i] := by
    rw [List.find?_eq_some_iff_getElem]
    refine ⟨h, i.val, by simp, by simp, fun j hj => ?_⟩
    have := hf ⟨j, by omega⟩ hj
    simpa using this
  unfold lampsFor
  rw [hfind]

theorem lampsFor_none {s : State} {x : Slot}
    (hf : ∀ j : Fin 16, ¬(conditionHolds s x s.tables.indicators[j].condition != s.tables.indicators[j].invert) = true) :
    lampsFor s x = (.off, .off) := by
  have hfind : s.tables.indicators.toList.find? (fun e => conditionHolds s x e.condition != e.invert) = none := by
    rw [List.find?_eq_none]
    intro e he
    obtain ⟨j, hj, rfl⟩ := Vector.getElem_of_mem (Vector.mem_toList_iff.1 he)
    exact hf ⟨j, hj⟩
  unfold lampsFor
  rw [hfind]

/-- Settles O30: each entry reads back from the operands, then the checks of its table decide. -/
theorem loadTableOthers : Obligations.LoadTableOthers := by
  unfold Obligations.LoadTableOthers
  refine ⟨fun s q rest i hs hi hv => ⟨fun e he ho => ?_, fun e he ho => ?_⟩, fun s q rest hs hv => ⟨fun set p b hb ho => ?_, ?_, fun i e ho => ?_⟩,
    fun s q rest hs hv => ⟨?_, ?_⟩, fun s x => ?_⟩
  · have hexec : exec .loadTableClassify s
        = .next (finish (withIndex 64 i q (fun i => writeClassify q i { e with matchCount := 0 }) (s.taken rest))) := by
      change Host.Outcome.next (serveLoad .classify _ s) = _
      rw [serveLoad_of_serves hs (by rw [ho]; rfl),
        withOperands_of_read (v := (i, { e with matchCount := 0 })) (by rw [ho]; exact readAll_getIndexed getClassify_readsBack he hi),
        unlessSaving_of_none (s := s.taken rest) hv]
    have hwidth : zeroWidth q.kind q.operands = 11 := by rw [hs.2.2, ho]; rfl
    dsimp only
    rw [hexec, ← hwidth]
    refine ⟨fun h => by rw [withIndex_of_beyond h, refuse_eq], fun h => ?_⟩
    rw [withIndex_of_lt h]
    have hcheck := classifyCheck_eq { e with matchCount := 0 }
    refine ⟨fun hval h15 => congrArg _ (congrArg finish (writeClassify_refused hval (hcheck.trans (if_pos h15)) nofun)),
      fun hval h15 hr => congrArg _ (congrArg finish (writeClassify_refused hval
        (hcheck.trans ((if_neg h15).trans (if_neg ?_))) nofun)),
      fun hok => congrArg _ (congrArg finish (writeClassify_stored fun hval => hcheck.trans ((if_neg ?_).trans (if_pos (hok hval)))))⟩
    · dsimp only; omega
    · obtain ⟨-, -, h14, -⟩ := hok hval; dsimp only; omega
  · have hexec : exec .loadTableDefect s
        = .next (finish (withIndex 16 i q (fun i => writeDefect q i e) (s.taken rest))) := by
      change Host.Outcome.next (serveLoad .defect _ s) = _
      rw [serveLoad_of_serves hs (by rw [ho]; rfl),
        withOperands_of_read (v := (i, e)) (by rw [ho]; exact readAll_getIndexed getDefect_readsBack he hi),
        unlessSaving_of_none (s := s.taken rest) hv]
    have hwidth : zeroWidth q.kind q.operands = 3 := by rw [hs.2.2, ho]; rfl
    have hrange : e.inRange = true ↔ e.weight ≤ 1000 := by simp [DefectEntry.inRange, within_iff]
    dsimp only
    rw [hexec, ← hwidth]
    refine ⟨fun h => by rw [withIndex_of_beyond h, refuse_eq], fun h => ?_⟩
    rw [withIndex_of_lt h]
    exact ⟨fun hw => congrArg _ (congrArg finish (if_neg (by rw [hrange]; omega))),
      fun hw => congrArg _ (congrArg finish (if_pos (hrange.2 hw)))⟩
  · have hread : readLoadBin q.operands.tail = some (set.val, p.val, b.fields) := by
      rw [ho, List.append_assoc]
      exact readAll_getIndexed (getIndexed_readsBack getBin_readsBack) (x := (p.val, b)) ⟨by dsimp only; omega, hb⟩ (by omega)
    have hexec : exec .loadTableBin s = .next (finish (writeBin q set p b.fields (s.taken rest))) := by
      rw [exec_loadTableBin hs hv (by rw [ho]; rfl) hread, withIndex_of_fin, withIndex_of_fin]
    have hwidth : zeroWidth q.kind q.operands = 11 := by rw [hs.2.2, ho]; rfl
    dsimp only
    rw [hexec, ← hwidth]
    have hcheck := binCheck_fields hb (s.bin set p) p
    refine ⟨fun h7 hk => congrArg _ (congrArg finish (writeBin_error (s := s.taken rest) (hcheck.trans (if_pos ⟨h7, hk⟩)))),
      fun h7 hc => congrArg _ (congrArg finish (writeBin_error (s := s.taken rest)
        (hcheck.trans ((if_neg fun h => h.2 (h7 h.1)).trans (if_pos hc))))),
      fun h7 hc => congrArg _ (congrArg finish (writeBin_ok (s := s.taken rest)
        (hcheck.trans ((if_neg fun h => h.2 (h7 h.1)).trans (if_neg (not_lt.2 hc))))))⟩
  · exact fun u hu => retryPass_of_none hu
  · have hread : readLoadIndicator q.operands.tail = some (i.val, e.fields) := by
      rw [ho]
      exact readAll_getIndexed getIndicator_readsBack trivial (by omega)
    have hexec := exec_loadTableIndicator hs hv (by rw [ho]; rfl) hread
    rw [withIndex_of_fin, writeIndicator_stored e.toEntry_fields] at hexec
    obtain ⟨u, hu, hk, hind, hslots⟩ := relampAll_putIndicator i e (s.taken rest)
    rw [hu, answerOk_eq] at hexec
    refine ⟨_, hexec, ?_, hind, hk.same .requests (by simp) nofun, ?_, fun n => ⟨(hslots n).1, ?_⟩⟩
    · exact (((taken_keeps rest s).toSlots.mono (by simp)).trans (hk.mono (by simp))).trans
        ((replied_keeps ..).toSlots.mono (by simp))
    · have hrep : u.port.replies = s.port.replies := hk.same .replies (by simp) nofun
      simp only [State.replied, hrep]
    · exact (hslots n).2.of_keeps (replied_keeps ..) (by simp) (by simp) (by simp)
  · intro set p kind rank maxShocks maxShed capacity fill minScore generation fw hm hg ho
    have hread : readLoadBin q.operands.tail = some (set.toNat, p.toNat,
        ⟨kind.toNat, minScore, maxShocks.toNat, maxShed.toNat, fw, rank.toNat, capacity.toNat⟩) := by
      have hlast : getNum 2 (putNum 2 generation) = some (generation, []) := by
        simpa using getNum_putNum (k := 2) (by simpa using hg) []
      rw [ho]
      simp [readLoadBin, readAll, getIndexed, getBin, getNum_one_cons, getNum_putNum, getFlag_putFlag, List.append_assoc, hm, hlast]
    have hexec := exec_loadTableBin hs hv (by rw [ho]; rfl) hread
    have hwidth : zeroWidth q.kind q.operands = 11 := by rw [hs.2.2, ho]; rfl
    dsimp only
    rw [hexec, ← hwidth]
    refine ⟨fun h => ?_, fun h1 h2 h => ?_⟩
    · by_cases h4 : set.toNat < 4
      · rw [withIndex_of_lt h4, withIndex_of_beyond (by omega), refuse_eq]
      · rw [withIndex_of_beyond (not_lt.1 h4), refuse_eq]
    · rw [withIndex_of_lt h1, withIndex_of_lt h2, writeBin_error (r := .fieldRange), refuseTable_eq]
      unfold binCheck
      rw [toBin_eq_none]
      rcases h with h | h | h | h | rfl
      · exact .inl h
      · exact .inr (.inl h)
      · exact .inr (.inr (.inl h))
      · exact .inr (.inr (.inr (.inl h)))
      · exact .inr (.inr (.inr (.inr rfl)))
  · intro i condition lampA lampB invert ho
    have hread : readLoadIndicator q.operands.tail = some (i.toNat, ⟨condition.toNat, lampA.toNat, lampB.toNat, invert⟩) := by
      have hlast : getFlag (putFlag invert) = some (invert, []) := by simpa using getFlag_putFlag invert []
      rw [ho]
      simp [readLoadIndicator, readAll, getIndexed, getIndicator, getNum_one_cons, hlast]
    have hexec := exec_loadTableIndicator hs hv (by rw [ho]; rfl) hread
    have hwidth : zeroWidth q.kind q.operands = 4 := by rw [hs.2.2, ho]; rfl
    dsimp only
    rw [hexec]
    exact ⟨fun h => by rw [withIndex_of_beyond h, refuse_eq, hwidth],
      fun h hr => by rw [withIndex_of_lt h, writeIndicator_refused (toEntry_eq_none hr), refuseTable_eq, hwidth]⟩
  · intro inTest some_ sorted holds shows
    have hholds : ∀ c, holds c ↔ conditionHolds s x c = true := by
      intro c
      have htest := inTest_iff x.state
      have hmetric := anyMetric_iff x
      have hnone : ∀ st, x.anyMetric st = false ↔ ∀ m, ¬(x.filter m).state = st := fun st => by
        rw [← Bool.not_eq_true, hmetric, not_exists]
      have hkind := sortedKind_eq_some s x
      cases c <;> simp [holds, conditionHolds, inTest, some_, sorted, htest, hmetric, hnone, hkind, or_assoc, and_assoc,
        ← Option.isSome_iff_ne_none]
    have hshows : ∀ i, shows i ↔ (conditionHolds s x s.tables.indicators[i].condition != s.tables.indicators[i].invert) = true := by
      intro i
      simp only [shows, hholds]
      cases conditionHolds s x s.tables.indicators[i].condition <;> cases s.tables.indicators[i].invert <;> simp
    exact ⟨fun i hi hf => lampsFor_first ((hshows i).1 hi) fun j hj => mt (hshows j).2 (hf j hj),
      fun hf => lampsFor_none fun j => mt (hshows j).2 (hf j)⟩

end Sys2Proof.Machine
end

section
/-! SUPPORT. The reads of the part, the manifest requests, the bin selection and the retry pass (O26, O41, O44, O45). -/

namespace Sys2Proof.Machine

/-! ### The bin selection -/

/-- Bin b at position p goes before bin c at position q: lower rank, then higher minimum score, then lower position (R141). -/
def GoesBefore (bins : Fin 8 → Bin) (p q : Fin 8) : Prop :=
  (bins p).rank < (bins q).rank
    ∨ (bins p).rank = (bins q).rank
      ∧ ((bins q).minScore < (bins p).minScore ∨ (bins q).minScore = (bins p).minScore ∧ p ≤ q)

theorem preferred_iff (b c : Bin) : preferred b c = true ↔ b.rank < c.rank ∨ b.rank = c.rank ∧ c.minScore < b.minScore := by
  simp [preferred]

/-- The better of the best so far and a later position. -/
def betterOf (bins : Fin 8 → Bin) (best : Option (Fin 8)) (p : Fin 8) : Option (Fin 8) :=
  match best with
  | none => some p
  | some q => if preferred (bins p) (bins q) then some p else some q

/-- Walking positions in rising order, the best of them remains. -/
theorem foldl_betterOf {bins : Fin 8 → Bin} {l : List (Fin 8)} {q : Fin 8} (h : (q :: l).Pairwise (· < ·)) :
    ∃ p ∈ q :: l, l.foldl (betterOf bins) (some q) = some p ∧ ∀ p' ∈ q :: l, GoesBefore bins p p' := by
  induction l generalizing q with
  | nil => exact ⟨q, by simp, rfl, by simp [GoesBefore]⟩
  | cons a l ih =>
    obtain ⟨hq, hal⟩ := List.pairwise_cons.mp h
    obtain ⟨ha, hl⟩ := List.pairwise_cons.mp hal
    have hqa : q < a := hq a (by simp)
    by_cases hp : preferred (bins a) (bins q) = true
    · obtain ⟨p, hmem, hfold, hbest⟩ := ih (q := a) hal
      refine ⟨p, List.mem_cons_of_mem _ hmem, by simpa [betterOf, hp] using hfold, ?_⟩
      rw [List.forall_mem_cons]
      refine ⟨?_, hbest⟩
      have hpa := hbest a (by simp)
      rw [preferred_iff] at hp
      unfold GoesBefore at *
      omega
    · obtain ⟨p, hmem, hfold, hbest⟩ := ih (q := q) (List.pairwise_cons.mpr ⟨fun x hx => hq x (by simp [hx]), hl⟩)
      refine ⟨p, ?_, by simpa [betterOf, hp] using hfold, ?_⟩
      · rcases List.mem_cons.1 hmem with rfl | hm
        · simp
        · simp [hm]
      · rw [List.forall_mem_cons] at hbest ⊢
        obtain ⟨hbq, hbl⟩ := hbest
        rw [List.forall_mem_cons]
        refine ⟨hbq, ?_, hbl⟩
        rw [preferred_iff] at hp
        unfold GoesBefore at *
        omega

/-- The positions of a bin set that are eligible, in rising order. -/
def eligiblePositions (s : State) (set : Fin 4) (g : GradeInputs) : List (Fin 8) :=
  (List.finRange 8).filter fun p => p != 7 && eligible (s.bin set p) g

theorem selectBin_unforced {s : State} {set : Fin 4} {g : GradeInputs} (h : g.forced = false) :
    selectBin s set g = ((eligiblePositions s set g).foldl (betterOf (s.bin set)) none).getD 7 := by
  unfold selectBin
  rw [h]
  rfl

theorem eligible_iff (b : Bin) (g : GradeInputs) :
    eligible b g = true ↔ b.kind ≠ .unused ∧ b.minScore ≤ g.score ∧ (b.maxShocks = 255 ∨ g.shocks ≤ b.maxShocks)
      ∧ (b.maxShed = 15 ∨ g.shed ≤ b.maxShed) ∧ (b.requiresFw = true → g.fwMismatch = false)
      ∧ (b.kind = .ship → g.fwMismatch = false ∧ g.capLow = false ∧ g.secBlock = false ∧ g.finalIdMissing = false) := by
  have hship : ∀ k : BinKind, ∀ c : Bool, (k != .ship || !c) = true ↔ (k = .ship → c = false) := by
    intro k c; cases k <;> simp
  have hfw : ∀ a c : Bool, (!a || !c) = true ↔ (a = true → c = false) := by
    intro a c; cases a <;> simp
  simp only [eligible, Bool.and_eq_true, hship, hfw, Bool.or_eq_true, beq_iff_eq, bne_iff_ne, decide_eq_true_eq,
    Bool.or_eq_false_iff, and_assoc]

/-- Settles O41: the walk over the eligible positions keeps the best of them. -/
theorem binSelected : Obligations.BinSelected := by
  unfold Obligations.BinSelected
  intro s set g fits p
  have hmem : ∀ p', p' ∈ eligiblePositions s set g ↔ fits p' := fun p' => by
    simp only [eligiblePositions, List.mem_filter, List.mem_finRange, true_and, Bool.and_eq_true, bne_iff_ne, eligible_iff]
    rfl
  refine ⟨fun hf => if_pos hf, fun hf hno => ?_, fun hf hex => ?_⟩
  · have hnil : eligiblePositions s set g = [] := List.eq_nil_iff_forall_not_mem.2 fun p' hp' => hno p' ((hmem p').1 hp')
    show selectBin s set g = 7
    rw [selectBin_unforced hf, hnil]
    rfl
  · have hsort : (eligiblePositions s set g).Pairwise (· < ·) := (List.pairwise_lt_finRange 8).filter _
    have hp : p = ((eligiblePositions s set g).foldl (betterOf (s.bin set)) none).getD 7 := selectBin_unforced hf
    cases hl : eligiblePositions s set g with
    | nil =>
      obtain ⟨p', hp'⟩ := hex
      have := (hmem p').2 hp'
      simp [hl] at this
    | cons a l =>
      rw [hl] at hsort hp
      obtain ⟨b, hb, hfold, hbest⟩ := foldl_betterOf (bins := s.bin set) hsort
      have hpb : p = b := by rw [hp, List.foldl_cons, show betterOf (s.bin set) none a = some a from rfl, hfold]; rfl
      rw [hpb]
      refine ⟨(hmem b).1 (by rw [hl]; exact hb), fun p' hp' => hbest p' ?_⟩
      rw [← hl]
      exact (hmem p').2 hp'

/-! ### READ-MANIFEST and RETIRE-MANIFEST -/

theorem readRange_putNum {a b : Nat} (ha : a < 256 ^ 4) (hb : b < 256) : readRange (putNum 4 a ++ putNum 1 b) = some (a, b) := by
  refine readAll_of_all ((getNum_bind ha ..).trans ?_)
  have hlast : getNum 1 (putNum 1 b) = some (b, []) := by simpa using getNum_putNum (k := 1) (by simpa using hb) []
  simp [hlast]

theorem readSequence_putNum {a : Nat} (ha : a < 256 ^ 4) : readSequence (putNum 4 a) = some a :=
  readAll_of_all (by simpa using getNum_putNum ha [])

/-- Settles O44: the operands read back, then the branches of the two requests. -/
theorem manifestRequests : Obligations.ManifestRequests := by
  unfold Obligations.ManifestRequests
  refine ⟨fun s q rest a c hs ha hc ho => ?_, fun s q rest a hs ha ho => ?_⟩
  · have hexec : exec .readManifest s = .next (finish (readManifest q a c (s.taken rest))) := by
      change Host.Outcome.next (serveKind 0x11 _ s) = _
      rw [serveKind_of_serves hs, withOperands_of_read (v := (a, c)) (by rw [ho]; exact readRange_putNum ha hc)]
    have hwidth : zeroWidth q.kind q.operands = 6 := by rw [hs.2.2]; rfl
    dsimp only
    rw [hexec]
    unfold readManifest
    dsimp only
    refine ⟨fun h => ?_, fun h1 h8 hf => ?_, fun h1 h8 hf => ?_⟩
    · rw [if_neg (by rw [within_iff]; omega), refuse_eq, hwidth]
    · rw [if_pos (within_iff.2 ⟨h1, h8⟩)]
      exact congrArg _ (congrArg finish (if_pos hf))
    · rw [if_pos (within_iff.2 ⟨h1, h8⟩)]
      exact congrArg _ (congrArg finish (if_neg hf))
  · have hexec : exec .retireManifest s = .next (finish (retireManifest q a (s.taken rest))) := by
      change Host.Outcome.next (serveKind 0x12 _ s) = _
      rw [serveKind_of_serves hs, withOperands_of_read (v := a) (by rw [ho]; exact readSequence_putNum ha)]
    have hcount : s.sort.manifest.length - (s.sort.manifest.filter fun e => decide (a < e.sequence)).length
        = (s.sort.manifest.filter fun e => decide (e.sequence ≤ a)).length := by
      have := List.length_eq_length_filter_add (l := s.sort.manifest) fun e => decide (a < e.sequence)
      have hnot : s.sort.manifest.filter (fun e => !decide (a < e.sequence))
          = s.sort.manifest.filter (fun e => decide (e.sequence ≤ a)) := by
        refine List.filter_congr fun e _ => ?_
        rw [← decide_not, decide_eq_decide]
        omega
      rw [hnot] at this
      omega
    dsimp only
    rw [hexec, ← hcount]
    rfl

/-! ### CART-SWAP and the retry pass -/

theorem readPlace_pair (a b : Byte) : readPlace [a, b] = some (a.toNat, b.toNat) := by
  simp [readPlace, readAll, getNum_one_cons]

theorem appendEntry_waiting (n : SlotId) (g : GradeInputs) (set : Fin 4) (p : Fin 8) (old : Option ManifestEntry) (s : State) :
    (appendEntry n g set p old s).sort.waiting = s.sort.waiting.filter (·.slot != n) := by
  obtain ⟨q, hq⟩ := appendEntry_eq n g set p old s
  obtain ⟨bins, e, he, -⟩ := appended_sort n g set p old s
  rw [hq]
  refine ((enterParking_keeps n _).same .waiting (by simp)).trans (((raiseSlot_keeps n _ _).same .waiting (by simp)).trans ?_)
  refine ((setGrade_keeps n ..).same .waiting (by simp)).trans ?_
  rw [he]

theorem keepWaiting_waiting (n : SlotId) (w : WaitEntry) (p : Fin 8) (r : WaitReason) (s : State) :
    (keepWaiting n w p r s).sort.waiting = s.sort.waiting.map fun v => if v.slot = n then { w with reason := r } else v :=
  (setGrade_keeps n ..).same .waiting (by simp)

/-- Serving a waiting slot never lengthens the list; an append as a regrade shortens it (R147). -/
theorem serveWaiting_length {n : SlotId} {w : WaitEntry} {s : State} (hw : s.sort.waiting.find? (·.slot == n) = some w) :
    (serveWaiting n w s).2.sort.waiting.length ≤ s.sort.waiting.length
      ∧ ((serveWaiting n w s).1 = true → (serveWaiting n w s).2.sort.waiting.length < s.sort.waiting.length) := by
  have hmem : w ∈ s.sort.waiting := List.mem_of_find?_eq_some hw
  have hslot : w.slot = n := by simpa using List.find?_some hw
  unfold serveWaiting
  dsimp only
  split
  · next regrade _ =>
    have hlt : (s.sort.waiting.filter (·.slot != n)).length < s.sort.waiting.length :=
      List.length_filter_lt_length_iff_exists.2 ⟨w, hmem, by simp [hslot]⟩
    rw [appendEntry_waiting]
    exact ⟨Nat.le_of_lt hlt, fun _ => hlt⟩
  · rw [keepWaiting_waiting, List.length_map]
    exact ⟨le_refl _, nofun⟩

theorem retryWalk_length (l : List SlotId) (again : Bool) (s : State) :
    (retryWalk l again s).2.sort.waiting.length ≤ s.sort.waiting.length
      ∧ ((retryWalk l again s).1 = true → again = true ∨ (retryWalk l again s).2.sort.waiting.length < s.sort.waiting.length) := by
  induction l generalizing again s with
  | nil => exact ⟨le_refl _, .inl⟩
  | cons n l ih =>
    unfold retryWalk
    split
    · exact ih again s
    · next w hw =>
      obtain ⟨h1, h2⟩ := serveWaiting_length hw
      obtain ⟨i1, i2⟩ := ih (again || (serveWaiting n w s).1) (serveWaiting n w s).2
      refine ⟨le_trans i1 h1, fun h => ?_⟩
      rcases i2 h with h | h
      · rcases (Bool.or_eq_true _ _).mp h with h | h
        · exact .inl h
        · exact .inr (lt_of_le_of_lt i1 (h2 h))
      · exact .inr (lt_of_lt_of_le h h1)

/-- The number of passes allowed does not matter once it exceeds the slots that wait (log entry 31). -/
theorem retryPasses_of_enough {k j : Nat} {s : State} (hk : s.sort.waiting.length < k) (hj : s.sort.waiting.length < j) :
    retryPasses k s = retryPasses j s := by
  induction k generalizing j s with
  | zero => omega
  | succ k ih =>
    obtain ⟨j, rfl⟩ : ∃ i, j = i + 1 := ⟨j - 1, by omega⟩
    unfold retryPasses
    dsimp only
    split
    · next h =>
      obtain ⟨-, h2⟩ := retryWalk_length (s.sort.waiting.map (·.slot)) false s
      have hlt := (h2 h).resolve_left (by simp)
      exact ih (by omega) (by omega)
    · rfl

theorem retryPass_eq {s : State} (h : s.sort.waiting.length ≤ 48) :
    retryPass s = if (retryWalk (s.sort.waiting.map (·.slot)) false s).1 = true
      then retryPass (retryWalk (s.sort.waiting.map (·.slot)) false s).2
      else (retryWalk (s.sort.waiting.map (·.slot)) false s).2 := by
  have hstep : retryPass s = if (retryWalk (s.sort.waiting.map (·.slot)) false s).1 = true
      then retryPasses 48 (retryWalk (s.sort.waiting.map (·.slot)) false s).2
      else (retryWalk (s.sort.waiting.map (·.slot)) false s).2 := rfl
  rw [hstep]
  split
  · next hr =>
    obtain ⟨-, h2⟩ := retryWalk_length (s.sort.waiting.map (·.slot)) false s
    have hlt := (h2 hr).resolve_left (by simp)
    exact retryPasses_of_enough (by omega) (by omega)
  · rfl

/-- Settles O45: the place reads back from the operands; the retry pass unfolds one entry at a time. -/
theorem cartSwapped : Obligations.CartSwap := by
  unfold Obligations.CartSwap
  refine ⟨fun s q rest hs => ⟨fun set p ho => ?_, fun a b ho hb => ?_⟩, fun s => ⟨fun h => retryPass_eq h, fun _ => rfl, fun n rest again => ⟨fun hn => ?_, fun w hw => ?_⟩⟩⟩
  · change Host.Outcome.next (serveKind 0x13 _ s) = _
    have hread : readPlace q.operands = some (set.val, p.val) := by
      rw [ho, readPlace_pair]
      simp only [BitVec.toNat_ofNat, Option.some.injEq, Prod.mk.injEq]
      omega
    rw [serveKind_of_serves hs, withOperands_of_read hread, withIndex_of_fin, withIndex_of_fin]
    rfl
  · change Host.Outcome.next (serveKind 0x13 _ s) = _
    have hread : readPlace q.operands = some (a.toNat, b.toNat) := by rw [ho, readPlace_pair]
    have hwidth : zeroWidth q.kind q.operands = 3 := by rw [hs.2.2]; rfl
    rw [serveKind_of_serves hs, withOperands_of_read hread, ← hwidth]
    by_cases h4 : a.toNat < 4
    · rw [withIndex_of_lt h4, withIndex_of_beyond (by omega), refuse_eq]
    · rw [withIndex_of_beyond (not_lt.1 h4), refuse_eq]
  · rw [retryWalk, hn]
  · have hwalk : retryWalk (n :: rest) again s = retryWalk rest (again || (serveWaiting n w s).1) (serveWaiting n w s).2 := by
      rw [retryWalk, hw]
    dsimp only
    rw [hwalk]
    refine ⟨fun regrade hm => ?_, fun reason hr => ?_⟩
    · have hserve : serveWaiting n w s = (regrade, appendEntry n w.inputs (((s.slot n).grading.grade.map (·.binSet)).getD 0)
          (selectBin s (((s.slot n).grading.grade.map (·.binSet)).getD 0) w.inputs)
          (entryWithSerial s (serialOf (s.slot n))) s) := by
        unfold serveWaiting
        dsimp only
        rw [hm]
      rw [hserve]
      rfl
    · have hserve : serveWaiting n w s = (false, keepWaiting n w
          (selectBin s (((s.slot n).grading.grade.map (·.binSet)).getD 0) w.inputs) reason s) := by
        unfold serveWaiting
        dsimp only
        rw [hr]
      rw [hserve, Bool.or_false]
      refine ⟨_, rfl, ?_, setGrade_slot .., keepWaiting_waiting ..⟩
      refine KeepsBut.trans (t := { s with sort.waiting := s.sort.waiting.map fun v => if v.slot = n then { w with reason := reason } else v })
        ?_ ((setGrade_keeps ..).mono (by simp))
      exact ⟨fun g hg => by cases g <;> simp_all [sameIn]; rfl⟩

/-! ### The reads of the part -/

theorem readNothing_nil : readNothing [] = some () := rfl

/-- A withdrawn notice of the part leaves nothing that asks for its place (R177, R181). -/
theorem settleNotice_part_zero (s : State) :
    settleNotice .part { s with notices := { s.notices with part := 0 } }
      = { s with notices := { s.notices with part := 0, partState := .quiet, queue := s.notices.queue.filter (· ≠ .part) } } := by
  have hempty : sourceEmpty { s with notices := { s.notices with part := 0 } } .part = true := by simp [sourceEmpty, unmaskedPart]
  unfold settleNotice
  rw [if_pos hempty]
  have hset : setNoticeState .part .quiet
      { s with notices := { s.notices with part := 0, queue := s.notices.queue.filter (· != .part) } }
        = { s with notices := { s.notices with part := 0, partState := .quiet, queue := s.notices.queue.filter (· ≠ .part) } } := by
    simp only [setNoticeState, bne, beq_eq_decide, decide_not, ne_eq]
  unfold withdrawNotice
  dsimp only
  rw [hset]
  split
  · exact if_neg (by simp)
  · rfl

theorem partStatus_cause {s : State} (h : s.notices.part.getLsbD 0 = true) : (partStatus s).cause = s.notices.cause :=
  if_pos h

theorem exec_readTable {s : State} {q : QueuedRequest} {rest : List QueuedRequest} {v : TableName × Nat × Nat}
    (hs : Serves s q rest 0x07) (hr : readTableOperand q.operands = some v) :
    exec .readTable s = .next (finish (readEntry q v (s.taken rest))) := by
  change Host.Outcome.next (serveKind 0x07 _ s) = _
  rw [serveKind_of_serves hs, withOperands_of_read hr]

theorem readTableOperand_index {t : Byte} {table : TableName} (ht : TableName.ofCode t.toNat = some table) (hb : table ≠ .bin) (i : Byte) :
    readTableOperand [t, i] = some (table, i.toNat, 0) := by
  cases table
  case bin => exact absurd rfl hb
  all_goals simp [readTableOperand, getNum_one_cons, ht, readSlotOnly_single]

theorem readTableOperand_bin (a b : Byte) : readTableOperand [4, a, b] = some (.bin, a.toNat, b.toNat) := by
  simp [readTableOperand, getNum_one_cons, readPlace_pair, TableName.ofCode]

/-- Settles O26: each read answers from the state that the request left behind it. -/
theorem partAndTableReads : Obligations.PartAndTableReads := by
  unfold Obligations.PartAndTableReads
  refine ⟨fun s q rest hs ho => ?_, fun s q rest hs ho => ?_, fun s q rest hs ho => ?_, fun s q rest hs => ?_⟩
  · have hexec : exec .discover s = .next (finish (discover q (s.taken rest))) := by
      change Host.Outcome.next (serveKind 0x01 _ s) = _
      rw [serveKind_of_serves hs, withOperands_of_read (v := ()) (by rw [ho]; rfl)]
    dsimp only
    rw [hexec]
    have hinv := strapsInvalid_iff s.store.straps
    refine ⟨fun h => congrArg _ (congrArg finish (if_neg ?_)), fun h => congrArg _ (congrArg finish (if_pos (hinv.2 h)))⟩
    exact fun hi => absurd (hinv.1 hi) (not_lt.2 h)
  · refine ⟨_, partStatus (s.taken rest), ?_, settleNotice_part_zero ((s.taken rest).replied q .ok .none (.partStatus (partStatus (s.taken rest)))),
      rfl, rfl, rfl, partStatus_cause (s := s.taken rest), fun at_ h => ?_, fun h => ?_, rfl, rfl, rfl, rfl, rfl, rfl, rfl, rfl, rfl, rfl, rfl, rfl, rfl,
      rfl, rfl, rfl, rfl⟩
    · change Host.Outcome.next (serveKind 0x02 _ s) = _
      rw [serveKind_of_serves hs, withOperands_of_read (v := ()) (by rw [ho]; rfl)]
      rfl
    · exact congrArg (fun o : Option Nat => (o.map (timeLeft s)).getD 0) h
    · exact congrArg (fun o : Option Nat => (o.map (timeLeft s)).getD 0) h
  · change Host.Outcome.next (serveKind 0x03 _ s) = _
    rw [serveKind_of_serves hs, withOperands_of_read (v := ()) (by rw [ho]; rfl)]
    rfl
  · have hbyte : ∀ {k : Nat} (i : Fin k), k ≤ 256 → (BitVec.ofNat 8 i.val).toNat = i.val := fun i hk => by
      simp only [BitVec.toNat_ofNat]
      omega
    dsimp only
    refine ⟨fun i ho => ?_, fun i ho => ?_, fun i ho => ?_, fun set p ho => ?_, fun i ho => ?_, fun i => ⟨fun ho hi => ?_, fun ho hi => ?_, fun p ho hi => ?_⟩⟩
    · rw [exec_readTable hs (by rw [ho]; exact readTableOperand_index (table := .model) rfl nofun _)]
      simp only [readEntry, hbyte i (by decide), withIndex_of_fin]
      rfl
    · rw [exec_readTable hs (by rw [ho]; exact readTableOperand_index (table := .classify) rfl nofun _)]
      simp only [readEntry, hbyte i (by decide), withIndex_of_fin]
      rfl
    · rw [exec_readTable hs (by rw [ho]; exact readTableOperand_index (table := .defect) rfl nofun _)]
      simp only [readEntry, hbyte i (by decide), withIndex_of_fin]
      rfl
    · rw [exec_readTable hs (by rw [ho]; exact readTableOperand_bin _ _)]
      simp only [readEntry, hbyte set (by decide), hbyte p (by decide), withIndex_of_fin]
      rfl
    · rw [exec_readTable hs (by rw [ho]; exact readTableOperand_index (table := .indicator) rfl nofun _)]
      simp only [readEntry, hbyte i (by decide), withIndex_of_fin]
      rfl
    · rcases ho with ho | ho | ho
      · rw [exec_readTable hs (by rw [ho]; exact readTableOperand_index (table := .model) rfl nofun _)]
        simp only [readEntry, withIndex_of_beyond hi, refuse_eq]
      · rw [exec_readTable hs (by rw [ho]; exact readTableOperand_index (table := .defect) rfl nofun _)]
        simp only [readEntry, withIndex_of_beyond hi, refuse_eq]
      · rw [exec_readTable hs (by rw [ho]; exact readTableOperand_index (table := .indicator) rfl nofun _)]
        simp only [readEntry, withIndex_of_beyond hi, refuse_eq]
    · rw [exec_readTable hs (by rw [ho]; exact readTableOperand_index (table := .classify) rfl nofun _)]
      simp only [readEntry, withIndex_of_beyond hi, refuse_eq]
    · rw [exec_readTable hs (by rw [ho]; exact readTableOperand_bin _ _)]
      simp only [readEntry]
      by_cases h4 : i.toNat < 4
      · simp only [withIndex_of_lt h4, withIndex_of_beyond (show 8 ≤ p.toNat by omega), refuse_eq]
      · simp only [withIndex_of_beyond (not_lt.1 h4), refuse_eq]

end Sys2Proof.Machine
end

section
/-! SUPPORT. WRITE-SETTINGS and SET-BUDGET (O27). -/

namespace Sys2Proof.Machine

/-! ### A new mask moves notices alone -/

/-- Notices have moved: nothing else but the part set has changed. -/
structure MovesNotices (s t : State) : Prop where
  keeps : KeepsButSlots [.partSet, .noticeQueue] s t
  slots : ∀ n, SlotKeepsBut [.notice] (s.slot n) (t.slot n)

theorem MovesNotices.refl (s : State) : MovesNotices s s := ⟨KeepsButSlots.refl _ _, fun _ => SlotKeepsBut.refl _ _⟩

theorem MovesNotices.trans {s t u : State} (h : MovesNotices s t) (h' : MovesNotices t u) : MovesNotices s u :=
  ⟨h.keeps.trans h'.keeps, fun n => (h.slots n).trans (h'.slots n)⟩

theorem MovesNotices.of_keeps {s t : State} (h : KeepsBut [.partSet, .noticeQueue] s t) : MovesNotices s t :=
  ⟨h.toSlots, fun n => h.slot_keeps (by simp) _⟩

theorem setNoticeState_moves (src : Source) (st : NoticeState) (s : State) : MovesNotices s (setNoticeState src st s) :=
  ⟨(setNoticeState_keeps src st s).mono (by simp), setNoticeState_slot src st s⟩

theorem setQueue_moves (q : List Source) (s : State) : MovesNotices s { s with notices.queue := q } :=
  .of_keeps ⟨fun g hg => by cases g <;> simp_all [sameIn]; rfl⟩

theorem withdrawNotice_moves (src : Source) (s : State) : MovesNotices s (withdrawNotice src s) := by
  have h := (setQueue_moves (s.notices.queue.filter (· != src)) s).trans (setNoticeState_moves src .quiet _)
  unfold withdrawNotice
  dsimp only
  split
  · exact h.trans (.of_keeps (noticeLeft_keeps _))
  · exact h

theorem joinNotice_moves (src : Source) (s : State) : MovesNotices s (joinNotice src s) := by
  cases src with
  | part => exact .of_keeps (joinPart_keeps s)
  | slot n =>
    change MovesNotices s (joinSlot n s)
    unfold joinSlot
    split
    · exact (setQueue_moves _ s).trans (setNoticeState_moves ..)
    · exact (setNoticeState_moves ..).trans (.of_keeps (raisePart_keeps ..))

theorem foldl_moves {f : Source → State → State} (h : ∀ o s, MovesNotices s (f o s)) (l : List Source) (s : State) :
    MovesNotices s (l.foldl (fun s o => f o s) s) := by
  induction l generalizing s with
  | nil => exact .refl s
  | cons o l ih => exact (h o s).trans (ih _)

/-- The mask of the settings. -/
def withMask (mask : EventMask) (s : State) : State :=
  { s with store.settings := { s.store.settings with eventMask := mask } }

theorem changeMask_moves (mask : EventMask) (s : State) : MovesNotices (withMask mask s) (changeMask mask s) := by
  rw [changeMask_eq]
  exact (foldl_moves withdrawNotice_moves _ _).trans (foldl_moves joinNotice_moves _ _)

/-- The mask as it was moves nothing. -/
theorem changeMask_same (s : State) : changeMask s.store.settings.eventMask s = s := by
  rw [changeMask_eq]
  dsimp only
  have h1 : (allSources.filter fun o => !sourceEmpty s o && sourceEmpty s o) = [] := by simp
  have h2 : (allSources.filter fun o => sourceEmpty s o && !sourceEmpty s o) = [] := by simp
  rw [h1, h2]
  rfl

/-! ### The list of settings -/

/-- The bytes of a setting by identifier (11.2). -/
def widthOf (id : Nat) : Nat := [0, 1, 2, 1, 2, 2, 1, 1, 2, 2, 1, 1, 1, 2, 3, 1, 1, 1].getD id 0

/-- A setting of 11.2 with a value that fits its bytes. -/
def NamedSetting (p : Nat × Nat) : Prop := 1 ≤ p.1 ∧ p.1 ≤ 17 ∧ p.2 < 256 ^ widthOf p.1

theorem settingWidth_eq {id : Nat} (h1 : 1 ≤ id) (h17 : id ≤ 17) : settingWidth id = some (widthOf id) := by
  have h : ∀ k : Fin 18, 1 ≤ k.val → settingWidth k = some (widthOf k) := by decide
  exact h ⟨id, by omega⟩ h1

theorem getPair_readsBack : ReadsBack getPair (fun p => putNum 1 p.1 ++ putNum (widthOf p.1) p.2) id NamedSetting := by
  rintro ⟨k, x⟩ ⟨h1, h17, hx⟩ bs
  dsimp only at *
  rw [List.append_assoc]
  refine (getNum_bind (show k < 256 ^ 1 by omega) ..).trans ?_
  dsimp only
  rw [settingWidth_eq h1 h17]
  exact getNum_bind hx ..

theorem length_le_of_named {pairs : List (Nat × Nat)} (hn : (pairs.map (·.1)).Nodup) (h : ∀ p ∈ pairs, NamedSetting p) :
    pairs.length ≤ 17 := by
  have hsub : (pairs.map (·.1)).toFinset ⊆ Finset.Icc 1 17 := fun k hk => by
    obtain ⟨p, hp, rfl⟩ := List.mem_map.1 (List.mem_toFinset.1 hk)
    exact Finset.mem_Icc.2 ⟨(h p hp).1, (h p hp).2.1⟩
  have hcard := Finset.card_le_card hsub
  rw [List.toFinset_card_of_nodup hn] at hcard
  simpa using hcard

theorem readPairs_bytes {pairs : List (Nat × Nat)} (h0 : 1 ≤ pairs.length) (hn : (pairs.map (·.1)).Nodup)
    (h : ∀ p ∈ pairs, NamedSetting p) :
    readPairs (putNum 1 pairs.length ++ pairs.flatMap fun p => putNum 1 p.1 ++ putNum (widthOf p.1) p.2) = some pairs := by
  have hlen := length_le_of_named hn h
  have hmany := getMany_flatMap getPair_readsBack h []
  rw [List.append_nil, List.map_id] at hmany
  refine (getNum_bind (show pairs.length < 256 ^ 1 by omega) ..).trans ?_
  dsimp only
  rw [readAll_of_all hmany]
  exact if_pos (by simp [within_iff, h0, hlen, hn])

/-- The value that a list of settings gives an identifier. -/
def valueIn (pairs : List (Nat × Nat)) (id : Nat) : Option Nat := (pairs.find? (·.1 == id)).map (·.2)

/-- The settings with the values that a list gives (R161). -/
def Settings.given (was : Settings) (value : Nat → Option Nat) : Settings :=
  { settleTime := (value 1).getD was.settleTime
    settleReserve := (value 2).getD was.settleReserve
    resetRundown := (value 3).getD was.resetRundown
    lightTimeout := (value 4).getD was.lightTimeout
    heavyTimeout := (value 5).getD was.heavyTimeout
    identifyTimeout := (value 6).getD was.identifyTimeout
    spinDownTimeout := (value 7).getD was.spinDownTimeout
    repeatSpinUpTimeout := (value 8).getD was.repeatSpinUpTimeout
    overdrawMargin := (value 9).getD was.overdrawMargin
    restoreDelay := (value 10).getD was.restoreDelay
    autoResume := ((value 11).map fun v => decide (v = 1)).getD was.autoResume
    tickPeriod := ((value 12).bind fun v => [TickPeriod.ms100, .ms250, .s1, .s4][v]?).getD was.tickPeriod
    idleTime := (value 13).getD was.idleTime
    eventMask := ((value 14).map fun v => ⟨BitVec.ofNat 16 v, BitVec.ofNat 8 (v / 65536)⟩).getD was.eventMask
    reportMode := ((value 15).bind fun v => [ReportMode.event, .stream][v]?).getD was.reportMode
    streamInterval := (value 16).getD was.streamInterval
    reportStation := (value 17).getD was.reportStation }

/-- A value written first and not again is that of the whole list. -/
theorem given_writeSetting (was : Settings) {k x : Nat} (h1 : 1 ≤ k) (h17 : k ≤ 17) {value : Nat → Option Nat} (hv : value k = none) :
    (writeSetting was (k, x)).given value = was.given fun id => if k = id then some x else value id := by
  interval_cases k <;> simp [Settings.given, writeSetting, hv, maskOf, TickPeriod.names, ReportMode.names, beq_eq_decide]

theorem foldl_writeSetting_given {pairs : List (Nat × Nat)} (hn : (pairs.map (·.1)).Nodup) (h : ∀ p ∈ pairs, NamedSetting p)
    (was : Settings) : pairs.foldl writeSetting was = was.given (valueIn pairs) := by
  induction pairs generalizing was with
  | nil => rfl
  | cons p pairs ih =>
    rw [List.forall_mem_cons] at h
    obtain ⟨⟨h1, h17, -⟩, hps⟩ := h
    rw [List.map_cons, List.nodup_cons] at hn
    obtain ⟨hp, hn⟩ := hn
    have hnone : valueIn pairs p.1 = none := by
      simp only [valueIn, Option.map_eq_none_iff, List.find?_eq_none, beq_iff_eq]
      exact fun q hq e => hp (List.mem_map.2 ⟨q, hq, e⟩)
    rw [List.foldl_cons, ih hn hps, given_writeSetting was h1 h17 hnone]
    congr 1
    funext id
    simp only [valueIn, List.find?_cons]
    by_cases he : p.1 = id
    · simp [he]
    · simp [he, beq_false_of_ne he]

/-- The new settings but for the mask, before the notices move. -/
def settingsPut (v : Settings) (s : State) : State :=
  { s with store := { s.store with settings := { v with eventMask := s.store.settings.eventMask } } }

/-- The settings written (R161, R176, R182). -/
theorem putSettings_leaves (pairs : List (Nat × Nat)) (s : State) :
    let v := pairs.foldl writeSetting s.store.settings
    let u := putSettings pairs s
    KeepsButSlots [.settings, .partSet, .noticeQueue, .streamTimer] s u ∧ (∀ n, SlotKeepsBut [.notice] (s.slot n) (u.slot n))
      ∧ u.store.settings = v ∧ u.notices.streamNumber = s.notices.streamNumber
      ∧ u.notices.streamCount = (if pairs.any (·.1 == 15) then 0 else s.notices.streamCount)
      ∧ (v.eventMask = s.store.settings.eventMask → sameIn s u .partSet ∧ sameIn s u .noticeQueue ∧ ∀ n, u.slot n = s.slot n) := by
  intro v u
  have hput : KeepsButSlots [.settings] s (withMask v.eventMask (settingsPut v s)) :=
    ⟨fun g hg _ => by cases g <;> simp_all [sameIn, withMask, settingsPut]⟩
  obtain ⟨hk, hslots⟩ := changeMask_moves v.eventMask (settingsPut v s)
  have hset : (changeMask v.eventMask (settingsPut v s)).store.settings = v := hk.same .settings (by simp) nofun
  obtain ⟨hcount, hnumber⟩ : sameIn _ (changeMask v.eventMask (settingsPut v s)) .streamTimer := hk.same _ (by simp) nofun
  have hu : u = if pairs.any (·.1 == 15) then
      { changeMask v.eventMask (settingsPut v s) with
        notices := { (changeMask v.eventMask (settingsPut v s)).notices with streamCount := 0 } }
      else changeMask v.eventMask (settingsPut v s) := rfl
  have hsame : v.eventMask = s.store.settings.eventMask → changeMask v.eventMask (settingsPut v s) = settingsPut v s := fun he => by
    have h := changeMask_same (settingsPut v s)
    rwa [show (settingsPut v s).store.settings.eventMask = v.eventMask from he.symm] at h
  generalize changeMask v.eventMask (settingsPut v s) = w at *
  rw [hu]
  have hw : KeepsButSlots [.settings, .partSet, .noticeQueue, .streamTimer] s w := (hput.mono (by simp)).trans (hk.mono (by simp))
  split
  · refine ⟨hw.trans ⟨fun g hg _ => by cases g <;> simp_all [sameIn]⟩, hslots, hset, hnumber, rfl, fun he => ?_⟩
    rw [hsame he]
    exact ⟨⟨rfl, rfl⟩, ⟨rfl, rfl⟩, fun n => rfl⟩
  · refine ⟨hw, hslots, hset, hnumber, hcount, fun he => ?_⟩
    rw [hsame he]
    exact ⟨⟨rfl, rfl⟩, ⟨rfl, rfl⟩, fun n => rfl⟩

theorem settingOk_iff {p : Nat × Nat} (h : NamedSetting p) :
    settingOk p = true ↔ ([(1, 0), (1, 10), (200, 2000), (1, 120), (1, 600), (60, 7200), (1, 60), (5, 120), (10, 300), (0, 2000),
      (1, 60), (0, 1), (0, 3), (5, 600), (0, 16777215), (0, 1), (1, 255), (1, 63)].getD p.1 (1, 0)).1 ≤ p.2
      ∧ p.2 ≤ ([(1, 0), (1, 10), (200, 2000), (1, 120), (1, 600), (60, 7200), (1, 60), (5, 120), (10, 300), (0, 2000),
      (1, 60), (0, 1), (0, 3), (5, 600), (0, 16777215), (0, 1), (1, 255), (1, 63)].getD p.1 (1, 0)).2 := by
  have hr : ∀ k : Fin 18, settingRange k = [(1, 0), (1, 10), (200, 2000), (1, 120), (1, 600), (60, 7200), (1, 60), (5, 120),
      (10, 300), (0, 2000), (1, 60), (0, 1), (0, 3), (5, 600), (0, 16777215), (0, 1), (1, 255), (1, 63)].getD k.val (1, 0) := by decide
  obtain ⟨-, h17, -⟩ := h
  have := hr ⟨p.1, by omega⟩
  unfold settingOk
  rw [within_iff, this]

theorem belowStandby_iff (s : State) (r : Nat) :
    belowStandby s r = true ↔ ∃ i : Fin 16, s.tables.models[i].valid = true ∧ r < s.tables.models[i].standby := by
  simp only [belowStandby, List.any_eq_true, Bool.and_eq_true, decide_eq_true_eq]
  constructor
  · rintro ⟨m, hm, h⟩
    obtain ⟨i, hi, rfl⟩ := Vector.getElem_of_mem (Vector.mem_toList_iff.1 hm)
    exact ⟨⟨i, hi⟩, h⟩
  · rintro ⟨i, h⟩
    exact ⟨_, Vector.mem_toList_iff.2 (Vector.getElem_mem i.isLt), h⟩

theorem writeList_refused {q : QueuedRequest} {pairs : List (Nat × Nat)} {s : State} {r : RefusalReason} (hr : r ≠ .none)
    (hc : settingsCheck s pairs = r) : writeList q pairs s = refuseTable q r s := by
  unfold writeList
  rw [hc]
  cases r
  case none => exact absurd rfl hr
  all_goals rfl

theorem writeList_stored {q : QueuedRequest} {pairs : List (Nat × Nat)} {s : State} (hc : settingsCheck s pairs = .none) :
    writeList q pairs s
      = (putSettings pairs s).replied q .ok .none
          (.settings (putSettings pairs s).store.settings (putSettings pairs s).store.target) := by
  unfold writeList
  rw [hc]
  rfl

/-- Settles O27: the list of settings reads back; the checks and the writes go over it pair by pair. -/
theorem settingsAndBudget : Obligations.SettingsAndBudget := by
  unfold Obligations.SettingsAndBudget
  refine ⟨fun s q rest pairs => ?_, fun s q rest x hs hx ho => ?_⟩
  · intro width range hs h0 hn hnamed ho hv ok below refused value was new
    have hexec : exec .writeSettings s = .next (finish (writeList q pairs (s.taken rest))) := by
      change Host.Outcome.next (serveKind 0x04 _ s) = _
      rw [serveKind_of_serves hs, withOperands_of_read (v := pairs) (by rw [ho]; exact readPairs_bytes h0 hn hnamed),
        unlessSaving_of_none (s := s.taken rest) hv]
    have hwidth : zeroWidth q.kind q.operands = 27 := by rw [hs.2.2]; rfl
    have hok : pairs.all settingOk = true ↔ ok := by
      rw [List.all_eq_true]
      exact forall₂_congr fun p hp => settingOk_iff (hnamed p hp)
    have hbelow : (pairs.any fun p => p.1 == 2 && belowStandby s p.2) = true ↔ below := by
      simp only [List.any_eq_true, Bool.and_eq_true, beq_iff_eq, belowStandby_iff]
      rfl
    have hnew : pairs.foldl writeSetting s.store.settings = new := foldl_writeSetting_given hn hnamed _
    have hrefused : ∀ r, r ≠ .none → settingsCheck s pairs = r → refused r := fun r hr hc => by
      show exec .writeSettings s = _
      rw [hexec, writeList_refused (s := s.taken rest) hr hc, refuseTable_eq, hwidth]
    refine ⟨fun h => hrefused _ nofun (if_pos (by simpa using mt hok.1 h)),
      fun h hb => hrefused _ nofun ((if_neg (by simpa using hok.2 h)).trans (if_pos (hbelow.2 hb))), fun h hb => ?_⟩
    have hcheck : settingsCheck s pairs = .none := (if_neg (by simpa using hok.2 h)).trans (if_neg (mt hbelow.1 hb))
    obtain ⟨hk, hslots, hset, hnumber, hcount, hsame⟩ := putSettings_leaves pairs (s.taken rest)
    refine ⟨_, hexec.trans (congrArg (fun t => Host.Outcome.next (finish t)) (writeList_stored (s := s.taken rest) hcheck)), ?_⟩
    generalize putSettings pairs (s.taken rest) = u at *
    change u.store.settings = pairs.foldl writeSetting s.store.settings at hset
    rw [hnew] at hset
    have htarget : u.store.target = s.store.target := hk.same .target (by simp) nofun
    have hreplies : u.port.replies = s.port.replies := hk.same .replies (by simp) nofun
    refine ⟨?_, hslots, hset, hk.same .requests (by simp) nofun, ?_, hnumber, ?_, fun h14 => hsame ?_⟩
    · exact (((taken_keeps rest s).toSlots.mono (by simp)).trans (hk.mono (by simp))).trans ((replied_keeps ..).toSlots.mono (by simp))
    · simp only [State.replied, hreplies, hset, htarget]
    · refine hcount.trans ?_
      simp only [List.any_eq_true, beq_iff_eq]
      rfl
    · change (pairs.foldl writeSetting s.store.settings).eventMask = s.store.settings.eventMask
      rw [hnew]
      have hnone : value 14 = none := by
        simp only [value, Option.map_eq_none_iff, List.find?_eq_none, beq_iff_eq]
        exact h14
      show ((value 14).map _).getD _ = _
      rw [hnone]
      rfl
  · have hread : readTarget q.operands = some x := by
      rw [ho]
      exact readAll_of_all (by simpa using getNum_putNum (k := 2) (by simpa using hx) [])
    have hexec : exec .setBudget s = .next (finish (putTarget q x (s.taken rest))) := by
      change Host.Outcome.next (serveKind 0x05 _ s) = _
      rw [serveKind_of_serves hs, withOperands_of_read hread]
    have hwidth : zeroWidth q.kind q.operands = 4 := by rw [hs.2.2]; rfl
    rw [hexec]
    refine ⟨fun h1 h2 => congrArg _ (congrArg finish (if_pos (within_iff.2 ⟨h1, h2⟩))), fun h => ?_⟩
    have hno : ¬ targetOk x = true := by unfold targetOk; rw [within_iff]; omega
    unfold putTarget
    rw [if_neg hno, refuseTable_eq, hwidth]

end Sys2Proof.Machine
end

section
/-! SUPPORT. The presence line (R3, R4), the removal (R21), and the rundown and park timers (R13, R18). -/

namespace Sys2Proof.Machine

/-! ### The presence line -/

theorem modLines_keeps (n : SlotId) (f : SlotLines → SlotLines) (s : State) : KeepsBut [.slot n] s (modLines n f s) :=
  modSlot_keeps ..

/-- What the presence line does in a state with a removal check (R4). -/
theorem assertPresence_of_held {n : SlotId} {s : State} (he : (s.slot n).state ≠ .empty) (hs : (s.slot n).state ≠ .settling) :
    assertPresence n s = modLines n (fun l => { l with removal := none }) (modLines n (fun l => { l with line := true }) s) := by
  have h : ((modLines n (fun l => { l with line := true }) s).slot n).state = (s.slot n).state := by
    rw [modLines_slot]
  unfold assertPresence
  dsimp only
  rw [h]
  split
  · exact absurd ‹_› he
  · exact absurd ‹_› hs
  · rfl

theorem assertPresence_of_empty {n : SlotId} {s : State} (he : (s.slot n).state = .empty) :
    assertPresence n s = startSettling n (modLines n (fun l => { l with line := true }) s) := by
  have h : ((modLines n (fun l => { l with line := true }) s).slot n).state = .empty := by rw [modLines_slot, ← he]
  unfold assertPresence
  dsimp only
  rw [h]

theorem assertPresence_of_settling {n : SlotId} {s : State} (hs : (s.slot n).state = .settling) :
    assertPresence n s = modLines n (fun l => { l with line := true }) s := by
  have h : ((modLines n (fun l => { l with line := true }) s).slot n).state = .settling := by rw [modLines_slot, ← hs]
  unfold assertPresence
  dsimp only
  rw [h]

theorem deassertPresence_of_held {n : SlotId} {s : State} (he : (s.slot n).state ≠ .empty) (hs : (s.slot n).state ≠ .settling) :
    deassertPresence n s
      = modLines n (fun l => { l with removal := some (l.removal.getD (s.now + 100)) })
          (modLines n (fun l => { l with line := false }) s) := by
  have h : ((modLines n (fun l => { l with line := false }) s).slot n).state = (s.slot n).state := by
    rw [modLines_slot]
  unfold deassertPresence
  dsimp only
  rw [h]
  split
  · exact absurd ‹_› he
  · exact absurd ‹_› hs
  · rfl

theorem deassertPresence_of_empty {n : SlotId} {s : State} (he : (s.slot n).state = .empty) :
    deassertPresence n s = modLines n (fun l => { l with line := false }) s := by
  have h : ((modLines n (fun l => { l with line := false }) s).slot n).state = .empty := by rw [modLines_slot, ← he]
  unfold deassertPresence
  dsimp only
  rw [h]

theorem deassertPresence_of_settling {n : SlotId} {s : State} (hs : (s.slot n).state = .settling) :
    deassertPresence n s = abandonSettling n (modLines n (fun l => { l with line := false }) s) := by
  have h : ((modLines n (fun l => { l with line := false }) s).slot n).state = .settling := by rw [modLines_slot, ← hs]
  unfold deassertPresence
  dsimp only
  rw [h]

theorem setState_modLines_slot (n : SlotId) (st : SlotState) (f : SlotLines → SlotLines) (s : State) :
    (setState n st (modLines n f s)).slot n
      = { s.slot n with state := st, lines := f (s.slot n).lines }.lampsOf ((setState n st (modLines n f s)).slot n) := by
  have h := setState_slot_same n st (modLines n f s)
  rwa [modLines_slot] at h

theorem presenceAsserted (n : SlotId) (s : State) :
    KeepsBut [.slot n] s (assertPresence n s)
      ∧ ((s.slot n).state = .empty →
          (assertPresence n s).slot n =
              { s.slot n with
                state := .settling
                lines := { (s.slot n).lines with
                  line := true, latch := .locked, settle := some (s.now + s.store.settings.settleTime * 1000) } }.lampsOf
                ((assertPresence n s).slot n)
            ∧ LampsCurrent (assertPresence n s) n)
      ∧ ((s.slot n).state = .settling → (assertPresence n s).slot n = { s.slot n with lines.line := true })
      ∧ ((s.slot n).state ≠ .empty → (s.slot n).state ≠ .settling →
          (assertPresence n s).slot n = { s.slot n with lines := { (s.slot n).lines with line := true, removal := none } }) := by
  have hline := modLines_keeps n (fun l => { l with line := true }) s
  refine ⟨?_, fun he => ?_, fun hs => ?_, fun he hs => ?_⟩
  · by_cases he : (s.slot n).state = .empty
    · rw [assertPresence_of_empty he]
      exact hline.trans ((modLines_keeps ..).trans (setState_keeps ..))
    · by_cases hs : (s.slot n).state = .settling
      · rw [assertPresence_of_settling hs]
        exact hline
      · rw [assertPresence_of_held he hs]
        exact hline.trans (modLines_keeps ..)
  · rw [assertPresence_of_empty he]
    refine ⟨?_, setState_lamps ..⟩
    have h := setState_modLines_slot n .settling
      (fun l => { l with latch := .locked, settle := some (s.now + s.store.settings.settleTime * 1000) })
      (modLines n (fun l => { l with line := true }) s)
    rwa [modLines_slot] at h
  · rw [assertPresence_of_settling hs, modLines_slot]
  · rw [assertPresence_of_held he hs, modLines_slot, modLines_slot]

theorem presenceDeasserted (n : SlotId) (s : State) :
    KeepsBut [.slot n] s (deassertPresence n s)
      ∧ ((s.slot n).state = .empty → (deassertPresence n s).slot n = { s.slot n with lines.line := false })
      ∧ ((s.slot n).state = .settling →
          (deassertPresence n s).slot n =
              { s.slot n with
                state := .empty
                lines := { (s.slot n).lines with
                  line := false, settle := none
                  latch := if (s.slot n).lines.rundown = Rundown.expired then .opened else (s.slot n).lines.latch } }.lampsOf
                ((deassertPresence n s).slot n)
            ∧ LampsCurrent (deassertPresence n s) n)
      ∧ ((s.slot n).state ≠ .empty → (s.slot n).state ≠ .settling →
          (deassertPresence n s).slot n
            = { s.slot n with
                lines := { (s.slot n).lines with
                  line := false, removal := some ((s.slot n).lines.removal.getD (s.now + 100)) } }) := by
  have hline := modLines_keeps n (fun l => { l with line := false }) s
  refine ⟨?_, fun he => ?_, fun hs => ?_, fun he hs => ?_⟩
  · by_cases he : (s.slot n).state = .empty
    · rw [deassertPresence_of_empty he]
      exact hline
    · by_cases hs : (s.slot n).state = .settling
      · rw [deassertPresence_of_settling hs]
        exact hline.trans ((modLines_keeps ..).trans (setState_keeps ..))
      · rw [deassertPresence_of_held he hs]
        exact hline.trans (modLines_keeps ..)
  · rw [deassertPresence_of_empty he, modLines_slot]
  · rw [deassertPresence_of_settling hs]
    refine ⟨?_, setState_lamps ..⟩
    have h := setState_modLines_slot n .empty
      (fun l => { l with settle := none, latch := if l.rundown = .expired then .opened else l.latch })
      (modLines n (fun l => { l with line := false }) s)
    rwa [modLines_slot] at h
  · rw [deassertPresence_of_held he hs, modLines_slot, modLines_slot]

/-! ### The end of SETTLING -/

theorem entryOf_of_queue {s t : State} (h : t.power.queue = s.power.queue) (n : SlotId) : entryOf t n = entryOf s n := by
  unfold entryOf
  rw [h]

/-- A request of a slot without an admission entry joins the tail, and a pass is due (R71). -/
theorem joinAdmission_of_none {n : SlotId} {s : State} (h : entryOf s n = none) (k : AdmissionKind) (o : Origin) :
    (joinAdmission n k o s).power.queue = s.power.queue ++ [⟨n, k, o, 0, false⟩]
      ∧ (joinAdmission n k o s).power.passDue = true := by
  simp [joinAdmission, h]

theorem joinAdmission_of_some {n : SlotId} {s : State} (h : (entryOf s n).isSome) (k : AdmissionKind) (o : Origin) :
    joinAdmission n k o s = s := if_pos h

/-- An event raised and then a state entered: the record, but for its notice state and its lamps. -/
theorem setState_raiseSlot_slot (n : SlotId) (st : SlotState) (e : SlotEvent) (s : State) :
    (setState n st (raiseSlot n e s)).slot n
      = { s.slot n with
          state := st, events := (s.slot n).events ||| e.set
          notice := ((setState n st (raiseSlot n e s)).slot n).notice }.lampsOf
          ((setState n st (raiseSlot n e s)).slot n) := by
  obtain ⟨v, hv⟩ := raiseSlot_slot n e s
  have h := setState_slot_same n st (raiseSlot n e s)
  have hn : ((setState n st (raiseSlot n e s)).slot n).notice = v := by rw [h, hv]; rfl
  rw [hn]
  rwa [hv] at h

theorem settlingEnded (n : SlotId) (s : State) :
    KeepsBut [.slot n, .partSet, .noticeQueue, .admission, .passDue] s (endSettling n s)
      ∧ (endSettling n s).slot n =
          { s.slot n with
            state := .powerWait
            lines := { (s.slot n).lines with presence := .present, change := true, settle := none }
            events := (s.slot n).events ||| SlotEvent.inserted.set
            notice := ((endSettling n s).slot n).notice }.lampsOf ((endSettling n s).slot n)
      ∧ LampsCurrent (endSettling n s) n
      ∧ (entryOf s n = none →
          (endSettling n s).power.queue = s.power.queue ++ [⟨n, .slotPower, .part, 0, false⟩]
            ∧ (endSettling n s).power.passDue = true)
      ∧ ((entryOf s n).isSome → (endSettling n s).power.queue = s.power.queue) := by
  let lines := modLines n (fun l => { l with presence := .present, change := true, settle := none }) s
  let entered := setState n .powerWait (raiseSlot n .inserted lines)
  have hlines : KeepsBut [.slot n] s lines := modLines_keeps ..
  have hentered : KeepsBut [.slot n, .partSet, .noticeQueue] lines entered :=
    (raiseSlot_keeps ..).trans ((setState_keeps ..).mono (by simp))
  have hkeep : KeepsBut [.slot n, .partSet, .noticeQueue] s entered := (hlines.mono (by simp)).trans hentered
  have hqueue : entered.power.queue = s.power.queue := hkeep.same .admission (by simp)
  have hentry : entryOf entered n = entryOf s n := entryOf_of_queue hqueue n
  have hjoin : KeepsBut [.admission, .passDue] entered (endSettling n s) := joinAdmission_keeps ..
  have hslot : (endSettling n s).slot n = entered.slot n := hjoin.slot_eq (by simp)
  refine ⟨(hkeep.mono (by simp)).trans (hjoin.mono (by simp)), ?_,
    LampsCurrent.of_keeps hjoin (setState_lamps ..) (by simp) (by simp) (by simp), fun hn => ?_, fun hn => ?_⟩
  · have h : entered.slot n = _ := setState_raiseSlot_slot n .powerWait .inserted lines
    have hl : lines.slot n = _ := modLines_slot ..
    rw [hslot]
    rw [hl] at h
    exact h
  · have h := joinAdmission_of_none (hentry.trans hn) .slotPower .part
    rwa [hqueue] at h
  · exact (congrArg (fun t : State => t.power.queue) (joinAdmission_of_some (hentry ▸ hn) .slotPower .part)).trans hqueue

theorem exec_settleTimerExpiry {n : SlotId} {s : State} {t : Nat} (hs : (s.slot n).state = .settling)
    (hl : (s.slot n).lines.line = true) (ht : (s.slot n).lines.settle = some t) :
    exec (.settleTimerExpiry n) s = .next (finish (endSettling n (reach t s))) := by
  change execSettleTimerExpiry n s = _
  unfold execSettleTimerExpiry
  dsimp only
  rw [ht]
  exact congrArg _ (if_pos ⟨hs, hl⟩)

/-- Settles O12: the presence line by the state it finds, and the settled drive's way into POWER_WAIT. -/
theorem presenceLine : Obligations.PresenceLine := by
  unfold Obligations.PresenceLine
  refine ⟨fun n s => ⟨_, rfl, presenceAsserted n s⟩, fun n s => ⟨_, rfl, presenceDeasserted n s⟩,
    fun n s t hs hl ht => ?_⟩
  obtain ⟨hk, hslot, hlamps, hjoin, hstay⟩ := settlingEnded n (reach t s)
  exact ⟨_, exec_settleTimerExpiry hs hl ht, ((reach_keeps t s).mono (by simp)).trans (hk.mono (by simp)),
    hk.same .now (by simp), hslot, hlamps, hjoin, hstay⟩

end Sys2Proof.Machine
end

section
/-! SUPPORT. The removal (R21), and the rundown and park timers (R13, R18), with the rules they need about the
answers, the in-flight table, power and the bindings. -/

namespace Sys2Proof.Machine

/-! ### The answers to queued frames and to commands in flight -/

theorem answerAll_responses (n : SlotId) (c : PartCode) (l : List QueuedCmd) (s : State) :
    (l.foldl (fun s q => answerPart q.source n q.tag c s) s).port.responses
      = s.port.responses ++ l.map fun q => .partMade q.source (slotByte n) (BitVec.ofNat 8 q.tag) c := by
  induction l generalizing s with
  | nil => simp
  | cons q l ih =>
    rw [List.foldl_cons, ih]
    simp [answerPart, pushResponse]

theorem answerAll_slot (n : SlotId) (c : PartCode) (l : List QueuedCmd) (s : State) (m : SlotId) :
    (l.foldl (fun s q => answerPart q.source n q.tag c s) s).slot m = s.slot m :=
  (foldl_keeps _ (fun _ _ => answerPart_keeps ..) l s).slot_eq (by simp)

theorem answerQueue_responses (n : SlotId) (c : PartCode) (s : State) :
    (answerQueue n c s).port.responses = s.port.responses ++ queueAnswers n (s.slot n) c := answerAll_responses ..

theorem answerQueue_slot_same (n : SlotId) (c : PartCode) (s : State) :
    (answerQueue n c s).slot n = { s.slot n with traffic.queue := [] } := by
  unfold answerQueue
  dsimp only
  rw [slot_modSlot_same, answerAll_slot]

theorem answerInFlight_responses (n : SlotId) (c : PartCode) (s : State) :
    (answerInFlight n c s).port.responses = s.port.responses ++ inFlightAnswers n (s.slot n) c := by
  unfold answerInFlight inFlightAnswers
  generalize (s.slot n).inFlightList = l
  induction l generalizing s with
  | nil => simp
  | cons e l ih =>
    rw [List.foldl_cons, ih, List.filterMap_cons]
    cases e.source with
    | none => rfl
    | some dest => simp [answerPart, pushResponse]

theorem answerInFlight_slot (n : SlotId) (c : PartCode) (s : State) (m : SlotId) :
    (answerInFlight n c s).slot m = s.slot m := (answerInFlight_keeps n c s).slot_eq (by simp)

theorem inFlightAnswers_of_table {x y : Slot} (h : y.traffic.inFlight = x.traffic.inFlight) (n : SlotId) (c : PartCode) :
    inFlightAnswers n y c = inFlightAnswers n x c := by
  unfold inFlightAnswers Slot.inFlightList
  rw [h]

/-! ### A record whose allocation follows its figure -/

/-- Following the figure, the record is what the change makes it, with an allocation no higher (R67). -/
theorem followFigure_slot_lowered (n : SlotId) (f : Slot → Slot) (s : State) :
    ∃ a ≤ (f (s.slot n)).power.allocation,
      (followFigure n f s).slot n = { f (s.slot n) with power := { (f (s.slot n)).power with allocation := a } } := by
  rw [followFigure_slot_same]
  split
  · exact ⟨_, le_rfl, rfl⟩
  · exact ⟨_, Nat.min_le_right .., rfl⟩

theorem retireEntry_inFlight (n : SlotId) (k : Fin 4) (s : State) :
    ((retireEntry n k s).slot n).traffic.inFlight = (s.slot n).traffic.inFlight.set k.val none k.isLt := by
  obtain ⟨a, -, h⟩ := followFigure_slot_lowered n (fun x => { x with traffic.inFlight := x.traffic.inFlight.set k.val none k.isLt }) s
  exact congrArg (fun x : Slot => x.traffic.inFlight) h

theorem clearTable_inFlight (n : SlotId) (s : State) :
    ((clearTable n s).slot n).traffic.inFlight = Vector.replicate 4 none := by
  obtain ⟨a, -, h⟩ := followFigure_slot_lowered n (fun x => { x with traffic.inFlight := Vector.replicate 4 none }) s
  exact congrArg (fun x : Slot => x.traffic.inFlight) h

/-- A pass that was due stays due, and is due where slot n's allocation has fallen (R74). -/
structure FallsStartPass (n : SlotId) (s t : State) : Prop where
  stays : s.power.passDue = true → t.power.passDue = true
  starts : (t.slot n).power.allocation < (s.slot n).power.allocation → t.power.passDue = true

theorem FallsStartPass.trans {n : SlotId} {s t u : State} (h : FallsStartPass n s t) (h' : FallsStartPass n t u) :
    FallsStartPass n s u where
  stays hs := h'.stays (h.stays hs)
  starts hf := by
    by_cases ht : (t.slot n).power.allocation < (s.slot n).power.allocation
    · exact h'.stays (h.starts ht)
    · exact h'.starts (by omega)

theorem FallsStartPass.of_same {n : SlotId} {s t : State} (hp : t.power.passDue = s.power.passDue)
    (ha : (t.slot n).power.allocation = (s.slot n).power.allocation) : FallsStartPass n s t :=
  ⟨fun h => hp.trans h, fun h => absurd h (by omega)⟩

theorem setAllocation_fallsStartPass (n : SlotId) (a : Nat) (s : State) : FallsStartPass n s (setAllocation n a s) where
  stays h := by simp [setAllocation, h]
  starts h := by
    rw [setAllocation_slot_same] at h
    simp only [setAllocation, modSlot_power, Bool.or_eq_true, decide_eq_true_eq]
    exact .inr h

theorem followFigure_fallsStartPass {n : SlotId} {f : Slot → Slot} {s : State}
    (h : (f (s.slot n)).power.allocation = (s.slot n).power.allocation) : FallsStartPass n s (followFigure n f s) := by
  have hmod : FallsStartPass n s (modSlot n f s) := .of_same rfl (by rw [slot_modSlot_same, h])
  unfold followFigure
  dsimp only
  split
  · exact hmod
  · exact hmod.trans (setAllocation_fallsStartPass ..)

/-! ### Power OFF -/

theorem applyPending_model (x : Slot) : (applyPending x).identity.model = x.identity.model := by
  unfold applyPending
  split <;> rfl

theorem applyPending_power (x : Slot) : (applyPending x).power = x.power := by
  unfold applyPending
  split <;> rfl

theorem powerOff_model (n : SlotId) (s : State) :
    ((powerOff n s).slot n).identity.model = (s.slot n).identity.model := by
  unfold powerOff
  rw [setAllocation_slot_same, slot_modSlot_same]
  exact applyPending_model _

/-- What power OFF leaves of a slot's power (R6). -/
structure PoweredOff (y : Slot) : Prop where
  powered : y.lines.powered = false
  allocation : y.power.allocation = 0
  spindle : y.power.spindle = .stopped
  chosen : y.power.chosen = none
  held : y.power.held = none
  injections : y.traffic.injections = []

theorem powerOff_poweredOff (n : SlotId) (s : State) : PoweredOff ((powerOff n s).slot n) := by
  unfold powerOff applyPending
  rw [setAllocation_slot_same, slot_modSlot_same]
  constructor <;> dsimp only <;> split <;> rfl

theorem powerOff_passDue {n : SlotId} {s : State} (h : 0 < (s.slot n).power.allocation) :
    (powerOff n s).power.passDue = true := by
  refine (setAllocation_fallsStartPass ..).starts ?_
  rw [setAllocation_slot_same, slot_modSlot_same, applyPending_power]
  exact h

/-! ### The end of the parking spin-down -/

theorem rundownMs_congr {s t : State} {x y : Slot} (hm : t.tables.models = s.tables.models)
    (hs : t.store.settings = s.store.settings) (hx : y.identity.model = x.identity.model) : rundownMs t y = rundownMs s x := by
  unfold rundownMs modelOf
  rw [hm, hs, hx]

theorem startRundown_slot_same (n : SlotId) (s : State) :
    (startRundown n s).slot n
      = { s.slot n with lines := { (s.slot n).lines with rundown := .running (s.now + rundownMs s (s.slot n)) } } :=
  slot_modSlot_same ..

/-- The end of the parking spin-down (R18). -/
structure SpunDown (n : SlotId) (s u : State) : Prop where
  keeps : KeepsBut [.slot n, .passDue] s u
  slot : SlotKeepsBut [.power, .rundown, .park, .allocation, .spindle, .injections, .identity, .tallies, .idle] (s.slot n) (u.slot n)
  off : PoweredOff (u.slot n)
  park : (u.slot n).lines.park = none
  late : (u.slot n).lines.late = (s.slot n).lines.late
  rundown : (u.slot n).lines.rundown = .running (s.now + rundownMs s (s.slot n))
  passDue : 0 < (s.slot n).power.allocation → u.power.passDue = true
  model : (u.slot n).identity.model = (s.slot n).identity.model

theorem modSlot_fallsStartPass {n : SlotId} {f : Slot → Slot} {s : State}
    (h : (f (s.slot n)).power.allocation = (s.slot n).power.allocation) : FallsStartPass n s (modSlot n f s) :=
  .of_same rfl (by rw [slot_modSlot_same, h])

theorem powerOff_fallsStartPass (n : SlotId) (s : State) : FallsStartPass n s (powerOff n s) := by
  unfold powerOff
  refine FallsStartPass.trans (modSlot_fallsStartPass ?_) (setAllocation_fallsStartPass ..)
  rw [applyPending_power]

theorem spinDownEnd_fallsStartPass (n : SlotId) (s : State) : FallsStartPass n s (spinDownEnd n s) := by
  have h1 : FallsStartPass n s (modSlot n (fun x => { x with lines.park := none }) s) := modSlot_fallsStartPass rfl
  unfold spinDownEnd
  generalize modSlot n (fun x => { x with lines.park := none }) s = t at *
  have h2 := h1.trans (powerOff_fallsStartPass n t)
  generalize powerOff n t = u at *
  exact h2.trans (.of_same rfl (by rw [startRundown_slot_same]))

theorem spinDownEnd_spunDown (n : SlotId) (s : State) : SpunDown n s (spinDownEnd n s) := by
  have hkeeps := spinDownEnd_keeps n s
  have hparked : (modSlot n (fun x => { x with lines.park := none }) s).slot n = { s.slot n with lines.park := none } :=
    slot_modSlot_same ..
  have hparkedKeeps := modSlot_keeps n (fun x => { x with lines.park := none }) s
  unfold spinDownEnd at *
  generalize modSlot n (fun x => { x with lines.park := none }) s = parked at *
  have hmodel : ((powerOff n parked).slot n).identity.model = (s.slot n).identity.model := by rw [powerOff_model, hparked]
  have hkeep : KeepsBut [.slot n, .passDue] s (powerOff n parked) := (hparkedKeeps.mono (by simp)).trans (powerOff_keeps ..)
  have hlines := powerOff_lines n parked
  have hoff := powerOff_poweredOff n parked
  have hpslot := powerOff_slot n parked
  have hdue : 0 < (parked.slot n).power.allocation → (powerOff n parked).power.passDue = true := powerOff_passDue
  generalize powerOff n parked = off at *
  have hslot := startRundown_slot_same n off
  have hrslot := startRundown_slot n off
  have hrdue : (startRundown n off).power = off.power := rfl
  generalize startRundown n off = u at *
  have hulines : (u.slot n).lines = { (off.slot n).lines with rundown := .running (off.now + rundownMs off (off.slot n)) } := by
    rw [hslot]
  constructor
  · exact hkeeps
  · have h1 : SlotKeepsBut [.park] (s.slot n) (parked.slot n) := by
      rw [hparked]
      exact ⟨fun g hg => by cases g <;> simp_all [slotSameIn]⟩
    exact (h1.mono (by simp)).trans ((hpslot.mono (by simp)).trans (hrslot.mono (by simp)))
  · rw [hslot]
    exact ⟨hoff.powered, hoff.allocation, hoff.spindle, hoff.chosen, hoff.held, hoff.injections⟩
  · rw [hulines, hlines, hparked]
  · rw [hulines, hlines, hparked]
  · have hr : rundownMs off (off.slot n) = rundownMs s (s.slot n) :=
      rundownMs_congr (hkeep.same .models (by simp)) (hkeep.same .settings (by simp)) hmodel
    have hn : off.now = s.now := hkeep.same .now (by simp)
    rw [hulines, hr, hn]
  · intro ha
    rw [hrdue]
    exact hdue (by rw [hparked]; exact ha)
  · rw [hslot]
    exact hmodel

/-! ### The park timer -/

/-- An in-flight table without its SPIN_DOWNs (R18). -/
def withoutSpinDown : Option InFlight → Option InFlight
  | some e => if e.cls = .spinDown then none else some e
  | none => none

theorem retireSpinDowns_keeps (n : SlotId) (s : State) : KeepsBut [.slot n, .passDue] s (retireSpinDowns n s) :=
  foldl_keeps _ (fun _ _ => .ite (retireEntry_keeps ..) (.refl ..)) ..

theorem retireSpinDowns_fallsStartPass (n : SlotId) (s : State) : FallsStartPass n s (retireSpinDowns n s) := by
  unfold retireSpinDowns
  generalize List.finRange 4 = l
  induction l generalizing s with
  | nil => exact .of_same rfl rfl
  | cons k l ih =>
    refine FallsStartPass.trans ?_ (ih _)
    dsimp only
    split
    · exact followFigure_fallsStartPass rfl
    · exact .of_same rfl rfl

theorem retireEntry_inFlight_get (n : SlotId) (k j : Fin 4) (s : State) :
    ((retireEntry n k s).slot n).traffic.inFlight[j] = if j = k then none else (s.slot n).traffic.inFlight[j] :=
  (congrArg (fun v : Vector (Option InFlight) 4 => v[j]) (retireEntry_inFlight n k s)).trans (inFlight_set ..)

theorem holdsSpinDown_iff (o : Option InFlight) :
    (o.map (·.cls == .spinDown)).getD false = true ↔ withoutSpinDown o ≠ o := by
  rcases o with _ | e
  · simp [withoutSpinDown]
  · by_cases h : e.cls = .spinDown <;> simp [withoutSpinDown, h]

theorem withoutSpinDown_of_ne {o : Option InFlight} (h : withoutSpinDown o ≠ o) : withoutSpinDown o = none := by
  rcases o with _ | e
  · rfl
  · unfold withoutSpinDown at h ⊢
    dsimp only at h ⊢
    split
    · rfl
    · next hc => exact absurd (if_neg hc) h

/-- One entry looked at: it is freed where it holds a SPIN_DOWN. -/
theorem retireSpinDown_inFlight (n : SlotId) (k j : Fin 4) (s : State) :
    ((if ((s.slot n).traffic.inFlight[k.val].map (·.cls == .spinDown)).getD false then retireEntry n k s else s).slot n).traffic.inFlight[j]
      = if j = k then withoutSpinDown (s.slot n).traffic.inFlight[j] else (s.slot n).traffic.inFlight[j] := by
  by_cases h : ((s.slot n).traffic.inFlight[k.val].map (·.cls == .spinDown)).getD false = true
  · simp only [if_pos h]
    refine (retireEntry_inFlight_get ..).trans ?_
    split
    · next e =>
      subst e
      exact (withoutSpinDown_of_ne ((holdsSpinDown_iff _).1 h)).symm
    · rfl
  · simp only [if_neg h]
    split
    · next e =>
      subst e
      exact (not_not.1 (mt (holdsSpinDown_iff _).2 h)).symm
    · rfl

theorem withoutSpinDown_twice (o : Option InFlight) : withoutSpinDown (withoutSpinDown o) = withoutSpinDown o := by
  rcases o with _ | e
  · rfl
  · unfold withoutSpinDown
    dsimp only
    split <;> simp_all

theorem retireSpinDowns_inFlight (n : SlotId) (j : Fin 4) (s : State) :
    ((retireSpinDowns n s).slot n).traffic.inFlight[j] = withoutSpinDown (s.slot n).traffic.inFlight[j] := by
  have h : ∀ (l : List (Fin 4)) (s : State),
      ((l.foldl (fun s k => if ((s.slot n).traffic.inFlight[k.val].map (·.cls == .spinDown)).getD false then retireEntry n k s else s)
          s).slot n).traffic.inFlight[j]
        = if j ∈ l then withoutSpinDown (s.slot n).traffic.inFlight[j] else (s.slot n).traffic.inFlight[j] := by
    intro l
    induction l with
    | nil => exact fun s => (if_neg List.not_mem_nil).symm
    | cons k l ih =>
      intro s
      rw [List.foldl_cons]
      refine (ih _).trans ?_
      simp only [retireSpinDown_inFlight, List.mem_cons]
      split_ifs <;> simp_all [withoutSpinDown_twice]
  have hall := h (List.finRange 4) s
  rw [if_pos (List.mem_finRange j)] at hall
  unfold retireSpinDowns
  generalize withoutSpinDown (s.slot n).traffic.inFlight[j] = o at *
  convert hall

theorem exec_parkTimerExpiry {n : SlotId} {s : State} {t : Nat} (hs : (s.slot n).state = .parking)
    (ht : (s.slot n).lines.park = some t) :
    exec (.parkTimerExpiry n) s
      = .next (finish (spinDownEnd n (retireSpinDowns n (noteLate n (reach t s))))) := by
  change execParkTimerExpiry n s = _
  unfold execParkTimerExpiry
  rw [ht]
  exact congrArg Host.Outcome.next (if_pos hs)

theorem noteLate_slot_same (n : SlotId) (s : State) :
    (noteLate n s).slot n
      = { s.slot n with
          lines := { (s.slot n).lines with
            late := ((s.slot n).inFlightList.filter (·.cls == .spinDown)).map fun e => (e.tag, s.now) } } :=
  slot_modSlot_same ..

/-- What the park timer leaves (R18). -/
structure ParkEnded (n : SlotId) (s u : State) : Prop where
  keeps : KeepsBut [.slot n, .passDue] s u
  slot : SlotKeepsBut [.power, .rundown, .park, .allocation, .spindle, .inFlight, .injections, .identity, .tallies, .idle]
    (s.slot n) (u.slot n)
  off : PoweredOff (u.slot n)
  park : (u.slot n).lines.park = none
  rundown : (u.slot n).lines.rundown = .running (s.now + rundownMs s (s.slot n))
  inFlight : ∀ k : Fin 4, (u.slot n).traffic.inFlight[k] = withoutSpinDown (s.slot n).traffic.inFlight[k]
  late : (u.slot n).lines.late = ((s.slot n).inFlightList.filter (·.cls == .spinDown)).map fun e => (e.tag, u.now)
  passDue : 0 < (s.slot n).power.allocation → u.power.passDue = true

theorem parkTimer_parkEnded (n : SlotId) (s : State) :
    ParkEnded n s (spinDownEnd n (retireSpinDowns n (noteLate n s))) := by
  have hnoted := noteLate_slot_same n s
  have hnkeep : KeepsBut [.slot n] s (noteLate n s) := modSlot_keeps ..
  generalize noteLate n s = noted at *
  have hslot : SlotKeepsBut [.park] (s.slot n) (noted.slot n) := by
    rw [hnoted]
    exact ⟨fun g hg => by cases g <;> simp_all [slotSameIn]⟩
  have hrslot := retireSpinDowns_slot n noted
  have hkeep : KeepsBut [.slot n, .passDue] s (retireSpinDowns n noted) :=
    (hnkeep.mono (by simp)).trans (retireSpinDowns_keeps ..)
  have hfall := retireSpinDowns_fallsStartPass n noted
  have hin := fun k => retireSpinDowns_inFlight n k noted
  generalize retireSpinDowns n noted = retired at *
  have hend := spinDownEnd_spunDown n retired
  have hstays := spinDownEnd_fallsStartPass n retired
  generalize spinDownEnd n retired = u at *
  have hmodel : (retired.slot n).identity.model = (s.slot n).identity.model :=
    (hrslot.same .identity (by simp)).2.1.trans (hslot.same .identity (by simp)).2.1
  have hrun : rundownMs retired (retired.slot n) = rundownMs s (s.slot n) :=
    rundownMs_congr (hkeep.same .models (by simp)) (hkeep.same .settings (by simp)) hmodel
  have hnow : retired.now = s.now := hkeep.same .now (by simp)
  have hall : (noted.slot n).power.allocation = (s.slot n).power.allocation := by rw [hnoted]
  constructor
  · exact hkeep.trans hend.keeps
  · exact (hslot.mono (by simp)).trans ((hrslot.mono (by simp)).trans (hend.slot.mono (by simp)))
  · exact hend.off
  · exact hend.park
  · exact hrun ▸ hnow ▸ hend.rundown
  · intro k
    have he : (u.slot n).traffic.inFlight = (retired.slot n).traffic.inFlight := hend.slot.same .inFlight (by simp)
    rw [he, hin k, hnoted]
  · have hu : u.now = s.now := (hend.keeps.same .now (by simp)).trans hnow
    rw [hend.late, (hrslot.same .park (by simp)).2, hnoted, hu]
  · intro ha
    by_cases hf : (retired.slot n).power.allocation < (noted.slot n).power.allocation
    · exact hstays.stays (hfall.starts hf)
    · exact hend.passDue (by omega)

/-! ### The rundown timer -/

theorem endRundown_of_parking {n : SlotId} {s : State} (h : (s.slot n).state = .parking) :
    endRundown n s
      = raiseSlot n .sorted (setState n .sorted
          (modLines n (fun l => { l with latch := .opened }) (modLines n (fun l => { l with rundown := .expired }) s))) := by
  have hst : ((modLines n (fun l => { l with rundown := .expired }) s).slot n).state = .parking := by rw [modLines_slot, ← h]
  unfold endRundown
  dsimp only
  rw [hst]

theorem endRundown_of_empty {n : SlotId} {s : State} (h : (s.slot n).state = .empty) :
    endRundown n s = modLines n (fun l => { l with latch := .opened }) (modLines n (fun l => { l with rundown := .expired }) s) := by
  have hst : ((modLines n (fun l => { l with rundown := .expired }) s).slot n).state = .empty := by rw [modLines_slot, ← h]
  unfold endRundown
  dsimp only
  rw [hst]

theorem endRundown_of_other {n : SlotId} {s : State} (hp : (s.slot n).state ≠ .parking) (he : (s.slot n).state ≠ .empty) :
    endRundown n s = modLines n (fun l => { l with rundown := .expired }) s := by
  have hst : ((modLines n (fun l => { l with rundown := .expired }) s).slot n).state = (s.slot n).state := by rw [modLines_slot]
  unfold endRundown
  dsimp only
  rw [hst]
  split
  · exact absurd ‹_› hp
  · exact absurd ‹_› he
  · rfl

/-- Lamps stay current while nothing that the indicator conditions read has changed. -/
theorem LampsCurrent.of_slot {ch : List Group} {chs : List SlotGroup} {s t : State} {n : SlotId} (h : KeepsBut ch s t)
    (hs : SlotKeepsBut chs (s.slot n) (t.slot n)) (hl : LampsCurrent s n)
    (h1 : Group.indicators ∉ ch) (h2 : Group.bins ∉ ch) (h3 : SlotGroup.state ∉ chs ∧ SlotGroup.lamps ∉ chs)
    (h4 : SlotGroup.samples ∉ chs ∧ SlotGroup.reason ∉ chs ∧ SlotGroup.grading ∉ chs) : LampsCurrent t n := by
  have e1 : t.tables.indicators = s.tables.indicators := h.same .indicators h1
  have e2 : t.sort.bins = s.sort.bins := h.same .bins h2
  have e3 : (t.slot n).state = (s.slot n).state := hs.same .state h3.1
  obtain ⟨e4, e5⟩ := hs.same .lamps h3.2
  obtain ⟨f1, f2, f3, f4, -⟩ := hs.same .samples h4.1
  have e6 : (t.slot n).grading.reason = (s.slot n).grading.reason := hs.same .reason h4.2.1
  obtain ⟨-, -, e7⟩ := hs.same .grading h4.2.2
  unfold LampsCurrent at *
  have hc : conditionHolds t (t.slot n) = conditionHolds s (s.slot n) := by
    funext c
    simp only [conditionHolds, sortedKind, State.bin, Slot.anyMetric, e2, e3, e6, e7, f1, f2, f3, f4]
  rw [e4, e5, hl]
  unfold lampsFor
  rw [hc, e1]

/-- A state entered and then an event raised: the record, but for its notice state and its lamps. -/
theorem raiseSlot_setState_slot (n : SlotId) (st : SlotState) (e : SlotEvent) (s : State) :
    (raiseSlot n e (setState n st s)).slot n
      = { s.slot n with
          state := st, events := (s.slot n).events ||| e.set
          notice := ((raiseSlot n e (setState n st s)).slot n).notice }.lampsOf
          ((raiseSlot n e (setState n st s)).slot n) := by
  obtain ⟨v, hv⟩ := raiseSlot_slot n e (setState n st s)
  rw [hv, setState_slot_same]
  rfl

theorem endRundown_spec (n : SlotId) (s : State) :
    KeepsBut [.slot n, .partSet, .noticeQueue] s (endRundown n s)
      ∧ ((s.slot n).state = .parking →
          (endRundown n s).slot n =
              { s.slot n with
                state := .sorted
                lines := { (s.slot n).lines with latch := .opened, rundown := .expired }
                events := (s.slot n).events ||| SlotEvent.sorted.set
                notice := ((endRundown n s).slot n).notice }.lampsOf ((endRundown n s).slot n)
            ∧ LampsCurrent (endRundown n s) n)
      ∧ ((s.slot n).state = .empty →
          (endRundown n s).slot n = { s.slot n with lines := { (s.slot n).lines with latch := .opened, rundown := .expired } })
      ∧ ((s.slot n).state ≠ .parking → (s.slot n).state ≠ .empty →
          (endRundown n s).slot n = { s.slot n with lines.rundown := .expired }) := by
  have hexp := modLines_keeps n (fun l => { l with rundown := .expired }) s
  refine ⟨?_, fun hp => ?_, fun he => ?_, fun hp he => ?_⟩
  · by_cases hp : (s.slot n).state = .parking
    · rw [endRundown_of_parking hp]
      exact (hexp.mono (by simp)).trans (((modLines_keeps ..).mono (by simp)).trans
        (((setState_keeps ..).mono (by simp)).trans ((raiseSlot_keeps ..).mono (by simp))))
    · by_cases he : (s.slot n).state = .empty
      · rw [endRundown_of_empty he]
        exact (hexp.mono (by simp)).trans ((modLines_keeps ..).mono (by simp))
      · rw [endRundown_of_other hp he]
        exact hexp.mono (by simp)
  · rw [endRundown_of_parking hp]
    refine ⟨?_, LampsCurrent.of_slot (raiseSlot_keeps ..) (raiseSlot_slot_keeps ..) (setState_lamps ..)
      (by simp) (by simp) (by simp) (by simp)⟩
    have h := raiseSlot_setState_slot n .sorted .sorted
      (modLines n (fun l => { l with latch := .opened }) (modLines n (fun l => { l with rundown := .expired }) s))
    rwa [modLines_slot, modLines_slot] at h
  · rw [endRundown_of_empty he, modLines_slot, modLines_slot]
  · rw [endRundown_of_other hp he, modLines_slot]

/-- Settles O14: the rundown timer and the park timer. -/
theorem parkingTimers : Obligations.ParkingTimers := by
  unfold Obligations.ParkingTimers
  refine ⟨fun n s t hr => ?_, fun n s t hs ht => ?_⟩
  · obtain ⟨hk, hparking, hempty, hother⟩ := endRundown_spec n (reach t s)
    refine ⟨_, ?_, ((reach_keeps t s).mono (by simp)).trans (hk.mono (by simp)), hk.same .now (by simp), hparking, hempty, hother⟩
    change execRundownTimerExpiry n s = _
    unfold execRundownTimerExpiry
    rw [hr]
  · have hu := parkTimer_parkEnded n (reach t s)
    have he := exec_parkTimerExpiry hs ht
    generalize spinDownEnd n (retireSpinDowns n (noteLate n (reach t s))) = u at *
    refine ⟨u, he, ((reach_keeps t s).mono (by simp)).trans (hu.keeps.mono (by simp)), hu.keeps.same .now (by simp), hu.slot,
      hu.off.powered, hu.park, hu.rundown, fun hm => ?_, fun m hm => ?_, hu.off.allocation, hu.off.spindle, hu.off.chosen,
      hu.off.held, hu.off.injections, hu.inFlight, hu.late, hu.passDue⟩
    · unfold rundownMs
      rw [hm]
    · unfold rundownMs
      rw [hm]

/-! ### Removal -/

theorem leaveAdmission_queue (n : SlotId) (s : State) :
    (leaveAdmission n s).power.queue = s.power.queue.filter (·.slot ≠ n) := by
  unfold leaveAdmission
  split
  · next h =>
    refine (List.filter_eq_self.2 fun e he => ?_).symm
    simpa using entryOf_eq_none.1 h e he
  · exact congrArg (fun p : AdmissionEntry → Bool => s.power.queue.filter p) (funext fun e => by simp [bne, beq_eq_decide])

theorem unbindSlot_models (n : SlotId) (s : State) (j : Fin 16) :
    (unbindSlot n s).tables.models[j]
      = if (s.slot n).identity.model = some j then { s.tables.models[j] with refCount := s.tables.models[j].refCount - 1 }
        else s.tables.models[j] := by
  unfold unbindSlot
  split
  · next h => simp [h]
  · next i h =>
    rw [modSlot_tables, countReference_models, h]
    by_cases hij : j = i
    · subst hij; simp
    · rw [if_neg hij, if_neg fun e => hij (Option.some.inj e).symm]

/-- What the first steps of a removal leave (R21, steps 1 to 4): the commands answered, the table free, the admission and
sort-wait entries gone, power OFF and the binding released. -/
structure Emptied (n : SlotId) (s t : State) : Prop where
  keeps : KeepsBut [.slot n, .responses, .admission, .passDue, .waiting, .models] s t
  slot : SlotKeepsBut [.queue, .inFlight, .allocation, .reserved, .power, .spindle, .injections, .identity, .tallies, .idle]
    (s.slot n) (t.slot n)
  responses : t.port.responses
    = s.port.responses ++ queueAnswers n (s.slot n) .removed ++ inFlightAnswers n (s.slot n) .removed
  admission : t.power.queue = s.power.queue.filter (·.slot ≠ n)
  waiting : t.sort.waiting = s.sort.waiting.filter (·.slot ≠ n)
  models : ∀ i : Fin 16, t.tables.models[i]
    = if (s.slot n).identity.model = some i then { s.tables.models[i] with refCount := s.tables.models[i].refCount - 1 }
      else s.tables.models[i]

theorem unbindSlot_slot (n : SlotId) (s : State) : SlotKeepsBut [.identity] (s.slot n) ((unbindSlot n s).slot n) := by
  unfold unbindSlot
  split
  · exact .refl ..
  · next i _ =>
    have h : (countReference i (· - 1) s).slot n = s.slot n := rfl
    rw [slot_modSlot_same, h]
    exact ⟨fun g hg => by cases g <;> simp_all [slotSameIn]⟩

/-- The commands of a slot answered and its in-flight table freed (R21, R23). -/
theorem answerAndClear_spec (n : SlotId) (c : PartCode) (s : State) :
    ∃ t, clearTable n (answerInFlight n c (answerQueue n c s)) = t
      ∧ KeepsBut [.slot n, .responses, .passDue] s t
      ∧ SlotKeepsBut [.queue, .inFlight, .allocation] (s.slot n) (t.slot n)
      ∧ t.port.responses = s.port.responses ++ queueAnswers n (s.slot n) c ++ inFlightAnswers n (s.slot n) c := by
  have h1 := answerQueue_responses n c s
  have h2 := answerQueue_slot_same n c s
  have h3 := answerQueue_keeps n c s
  generalize answerQueue n c s = t at *
  have h4 := answerInFlight_responses n c t
  have h5 := answerInFlight_slot n c t n
  have h6 := answerInFlight_keeps n c t
  rw [inFlightAnswers_of_table (x := s.slot n) (by rw [h2]), h1] at h4
  generalize answerInFlight n c t = u at *
  have h7 := clearTable_keeps n u
  refine ⟨_, rfl, (h3.mono (by simp)).trans ((h6.mono (by simp)).trans (h7.mono (by simp))), ?_,
    (h7.same .responses (by simp)).trans h4⟩
  have h8 : SlotKeepsBut [.queue] (s.slot n) (u.slot n) := by
    rw [h5, h2]
    exact ⟨fun g hg => by cases g <;> simp_all [slotSameIn]⟩
  exact (h8.mono (by simp)).trans ((clearTable_slot n u).mono (by simp))

/-- The slot's sort-wait entry goes (R21). -/
def dropWaiting (n : SlotId) (s : State) : State :=
  { s with sort := { s.sort with waiting := s.sort.waiting.filter (·.slot != n) } }

/-- The first steps of a removal (R21). -/
def emptySlot (n : SlotId) (s : State) : State :=
  unbindSlot n (powerOff n (dropWaiting n (dropAdmission n (clearTable n (answerInFlight n .removed (answerQueue n .removed s))))))

theorem takeRemoval_eq (n : SlotId) (s : State) :
    takeRemoval n s
      = let t := raiseSlot n (if (s.slot n).state == .sorted then .removed else .pulledEarly) (emptySlot n s)
        relamp n (modSlot n (removedSlot t.now) (dropTransit n t)) := rfl

theorem dropWaiting_keeps (n : SlotId) (s : State) : KeepsBut [.waiting] s (dropWaiting n s) :=
  ⟨fun g hg => by cases g <;> simp_all [sameIn, dropWaiting]; rfl⟩

theorem dropWaiting_waiting (n : SlotId) (s : State) :
    (dropWaiting n s).sort.waiting = s.sort.waiting.filter (·.slot ≠ n) :=
  congrArg (fun p : WaitEntry → Bool => s.sort.waiting.filter p) (funext fun e => by simp [bne, beq_eq_decide])

theorem emptySlot_emptied (n : SlotId) (s : State) : Emptied n s (emptySlot n s) := by
  obtain ⟨a, ha, hka, hsa, hra⟩ := answerAndClear_spec n .removed s
  unfold emptySlot
  rw [ha]
  have hkb := dropAdmission_keeps n a
  have hsb := dropAdmission_slot n a
  have hqb : (dropAdmission n a).power.queue = a.power.queue.filter (·.slot ≠ n) := leaveAdmission_queue n a
  generalize dropAdmission n a = b at *
  have hkc := dropWaiting_keeps n b
  have hwc := dropWaiting_waiting n b
  generalize dropWaiting n b = c at *
  have hkd := powerOff_keeps n c
  have hsd := powerOff_slot n c
  have hmd := powerOff_model n c
  generalize powerOff n c = d at *
  have hke := unbindSlot_keeps n d
  have hse := unbindSlot_slot n d
  have hme := unbindSlot_models n d
  generalize unbindSlot n d = u at *
  have hslotc : c.slot n = b.slot n := hkc.slot_eq (by simp)
  have hslot : SlotKeepsBut [.queue, .inFlight, .allocation, .reserved] (s.slot n) (c.slot n) := by
    rw [hslotc]
    exact (hsa.mono (by simp)).trans (hsb.mono (by simp))
  have hmodel : (d.slot n).identity.model = (s.slot n).identity.model := hmd.trans (hslot.same .identity (by simp)).2.1
  have hkeep : KeepsBut [.slot n, .responses, .admission, .passDue, .waiting] s d :=
    (hka.mono (by simp)).trans ((hkb.mono (by simp)).trans ((hkc.mono (by simp)).trans (hkd.mono (by simp))))
  constructor
  · exact (hkeep.mono (by simp)).trans (hke.mono (by simp))
  · exact (hslot.mono (by simp)).trans ((hsd.mono (by simp)).trans (hse.mono (by simp)))
  · have hlater : KeepsBut [.slot n, .admission, .passDue, .waiting, .models] a u :=
      (hkb.mono (by simp)).trans ((hkc.mono (by simp)).trans ((hkd.mono (by simp)).trans (hke.mono (by simp))))
    exact (hlater.same .responses (by simp)).trans hra
  · have hlater : KeepsBut [.slot n, .passDue, .waiting, .models] b u :=
      (hkc.mono (by simp)).trans ((hkd.mono (by simp)).trans (hke.mono (by simp)))
    have haq : a.power.queue = s.power.queue := hka.same .admission (by simp)
    rw [(hlater.same .admission (by simp) : u.power.queue = b.power.queue), hqb, haq]
  · have hlater : KeepsBut [.slot n, .passDue, .models] c u := (hkd.mono (by simp)).trans (hke.mono (by simp))
    have hbw : b.sort.waiting = s.sort.waiting := (hkb.same .waiting (by simp)).trans (hka.same .waiting (by simp))
    rw [(hlater.same .waiting (by simp) : u.sort.waiting = c.sort.waiting), hwc, hbw]
  · intro i
    have hdm : d.tables.models = s.tables.models := hkeep.same .models (by simp)
    rw [hme, hmodel, hdm]

theorem dropTransit_keeps (n : SlotId) (s : State) : KeepsBut [.transit] s (dropTransit n s) :=
  ⟨fun g hg => by cases g <;> simp_all [sameIn, dropTransit]; rfl⟩

theorem dropTransit_transit (n : SlotId) (s : State) :
    (dropTransit n s).transit
      = { quarantines := s.transit.quarantines.filter (·.1 ≠ n)
          calibrations := s.transit.calibrations.filter (· ≠ n)
          handOvers := s.transit.handOvers.filter (· ≠ n) } := by
  simp [dropTransit, bne, beq_eq_decide]

theorem exec_removalCheckEnd {n : SlotId} {s : State} {t : Nat} (he : (s.slot n).state ≠ .empty)
    (hs : (s.slot n).state ≠ .settling) (hl : (s.slot n).lines.line = false) (ht : (s.slot n).lines.removal = some t) :
    exec (.removalCheckEnd n) s = .next (finish (takeRemoval n (reach t s))) := by
  change execRemovalCheckEnd n s = _
  unfold execRemovalCheckEnd
  dsimp only
  rw [ht]
  exact congrArg Host.Outcome.next (if_pos ⟨he, hs, hl⟩)

/-- Settles O13: the commands answered, the slot emptied and its record cleared, step by step of R21. -/
theorem removalCheckEnd : Obligations.RemovalCheckEnd := by
  unfold Obligations.RemovalCheckEnd
  intro n s t he hs hl ht
  refine ⟨_, exec_removalCheckEnd he hs hl ht, ?_⟩
  rw [takeRemoval_eq]
  dsimp only
  have hempty := emptySlot_emptied n (reach t s)
  generalize emptySlot n (reach t s) = e at *
  obtain ⟨v, hv⟩ := raiseSlot_slot n (if ((reach t s).slot n).state == .sorted then .removed else .pulledEarly) e
  have hkr := raiseSlot_keeps n (if ((reach t s).slot n).state == .sorted then .removed else .pulledEarly) e
  generalize raiseSlot n (if ((reach t s).slot n).state == .sorted then .removed else .pulledEarly) e = r at *
  have hkt := dropTransit_keeps n r
  have htt := dropTransit_transit n r
  have hst : (dropTransit n r).slot n = r.slot n := hkt.slot_eq (by simp)
  generalize dropTransit n r = d at *
  have hkm : KeepsBut [.slot n] d (relamp n (modSlot n (removedSlot r.now) d)) := (modSlot_keeps ..).trans (relamp_keeps ..)
  have hlamps := relamp_lamps n (modSlot n (removedSlot r.now) d)
  have hslot := relamp_slot_same n (modSlot n (removedSlot r.now) d)
  rw [slot_modSlot_same] at hslot
  generalize relamp n (modSlot n (removedSlot r.now) d) = u at *
  have hke : KeepsBut [.slot n, .partSet, .noticeQueue, .transit] e u :=
    (hkr.mono (by simp)).trans ((hkt.mono (by simp)).trans (hkm.mono (by simp)))
  have hres := hempty.responses
  have hadm := hempty.admission
  have hwait := hempty.waiting
  have hmod := hempty.models
  have hnow : r.now = max s.now t := (hkr.same .now (by simp)).trans (hempty.keeps.same .now (by simp))
  have htransit : r.transit = s.transit := (hkr.same .transit (by simp)).trans (hempty.keeps.same .transit (by simp))
  refine ⟨?_, ?_, hlamps, (hke.same .now (by simp)).trans (hempty.keeps.same .now (by simp)),
    (hke.same .responses (by simp)).trans hres, (hke.same .admission (by simp)).trans hadm,
    (hke.same .waiting (by simp)).trans hwait, fun i => ?_, ?_⟩
  · exact ((reach_keeps t s).mono (by simp)).trans ((hempty.keeps.mono (by simp)).trans (hke.mono (by simp)))
  · have hline : (r.slot n).lines.line = false := by
      rw [hv]
      exact (hempty.slot.same .presence (by simp)).1.trans hl
    have hevents : (r.slot n).events
        = (s.slot n).events ||| (if (s.slot n).state = .sorted then SlotEvent.removed.set else SlotEvent.pulledEarly.set) := by
      have hee : (e.slot n).events = (s.slot n).events := hempty.slot.same .events (by simp)
      rw [hv, hee]
      by_cases hsort : (s.slot n).state = .sorted <;> simp [hsort]
    rw [hslot, hst, hnow]
    simp only [removedSlot, clearedSlot, hline, hevents]
  · have hm : u.tables.models = e.tables.models := hke.same .models (by simp)
    rw [hm]
    exact hmod i
  · rw [(hkm.same .transit (by simp) : u.transit = d.transit), htt, htransit]

end Sys2Proof.Machine
end

section
/-! SUPPORT. What the Slot Engine's operations do to a slot's commands: sending a listed command, serving the list, the
drain in GRADING and the entry into it (R28, R133, R135, R136). -/

namespace Sys2Proof.Machine

/-! ### The in-flight table -/

theorem tableEmpty_iff {x : Slot} : x.tableEmpty = true ↔ ∀ k : Fin 4, x.traffic.inFlight[k] = none := by
  unfold Slot.tableEmpty
  rw [Bool.not_eq_true', anyInFlight_eq_false]
  constructor
  · intro h k
    obtain he | ⟨e, he⟩ := x.traffic.inFlight[k].eq_none_or_eq_some
    · exact he
    · exact absurd (h k e he) (by simp)
  · intro h j e he
    rw [h j] at he
    cases he

theorem tableEmpty_congr {x y : Slot} (h : y.traffic.inFlight = x.traffic.inFlight) : y.tableEmpty = x.tableEmpty := by
  unfold Slot.tableEmpty Slot.anyInFlight
  rw [h]

/-- An empty table holds nothing of any kind. -/
theorem anyInFlight_of_tableEmpty {x : Slot} (h : x.tableEmpty = true) (p : InFlight → Bool) : x.anyInFlight p = false :=
  anyInFlight_eq_false.2 fun j e he => by rw [tableEmpty_iff.1 h j] at he; cases he

theorem anyInFlight_eq_true {x : Slot} {p : InFlight → Bool} :
    x.anyInFlight p = true ↔ ∃ (j : Fin 4) (e : InFlight), x.traffic.inFlight[j] = some e ∧ p e = true := by
  rw [← not_iff_not, Bool.not_eq_true, anyInFlight_eq_false]
  simp

theorem tableEmpty_eq_false {x : Slot} : x.tableEmpty = false ↔ ∃ (j : Fin 4) (e : InFlight), x.traffic.inFlight[j] = some e := by
  unfold Slot.tableEmpty
  rw [Bool.not_eq_false', anyInFlight_eq_true]
  simp

/-! ### The spindle -/

/-- The record with the spindle set (R33, R53). -/
def spunTo (sp : Spindle) (x : Slot) : Slot :=
  let left := x.power.spindle == .spinningUp && sp != .spinningUp
  let x := { x with power := { x.power with spindle := sp
                                            chosen := if sp = .stopped then none else x.power.chosen } }
  if left then applyPending x else x

theorem setSpindle_eq (n : SlotId) (sp : Spindle) (s : State) : setSpindle n sp s = followFigure n (spunTo sp) s := rfl

theorem spunTo_power (sp : Spindle) (x : Slot) :
    (spunTo sp x).power = { x.power with spindle := sp, chosen := if sp = .stopped then none else x.power.chosen } := by
  unfold spunTo
  dsimp only
  split
  · exact applyPending_power _
  · rfl

theorem spunTo_traffic (sp : Spindle) (x : Slot) : (spunTo sp x).traffic = x.traffic := by
  unfold spunTo applyPending
  dsimp only
  split
  · split <;> rfl
  · rfl

/-- What setting the spindle does to the slot's power (R33, R67). -/
theorem setSpindle_power (n : SlotId) (sp : Spindle) (s : State) :
    ∃ a ≤ (s.slot n).power.allocation, ((setSpindle n sp s).slot n).power
      = { (s.slot n).power with
          spindle := sp, chosen := if sp = .stopped then none else (s.slot n).power.chosen, allocation := a } := by
  obtain ⟨a, ha, h⟩ := followFigure_slot_lowered n (spunTo sp) s
  rw [spunTo_power] at ha
  refine ⟨a, ha, ?_⟩
  rw [setSpindle_eq, h]
  dsimp only
  rw [spunTo_power]

/-- Setting the spindle sets it, and leaves the commands of the slot alone. -/
theorem setSpindle_spindle (n : SlotId) (sp : Spindle) (s : State) :
    ((setSpindle n sp s).slot n).power.spindle = sp ∧ ((setSpindle n sp s).slot n).traffic = (s.slot n).traffic := by
  obtain ⟨a, -, hp⟩ := setSpindle_power n sp s
  obtain ⟨b, -, h⟩ := followFigure_slot_lowered n (spunTo sp) s
  refine ⟨by rw [hp], ?_⟩
  rw [setSpindle_eq, h]
  exact spunTo_traffic ..

/-! ### A listed command is sent -/

/-- The record as a listed command about to be sent finds it (R80). -/
def beforeSending (x : Slot) (i : Injection) : Slot := if i.cls = .spinUp then takeHeld x else x

/-- The entry that a listed command takes (R28, R36). -/
def sentEntry (s : State) (x : Slot) (i : Injection) : InFlight :=
  ⟨31, i.cls, .part, i.cls == .spinUp, s.now, classTimeout s (beforeSending x i) i.cls (i.cls == .spinUp), none, i.final⟩

/-- Sending a listed command, but for what it does to the spindle (R28). -/
def launch (n : SlotId) (k : Fin 4) (i : Injection) (s : State) : State :=
  let t := if i.cls = .spinUp then modSlot n takeHeld (unlist n i.cls s) else unlist n i.cls s
  let u := fillEntry n k
    ⟨Config.partTag, i.cls, .part, i.cls == .spinUp, t.now, classTimeout t (t.slot n) i.cls (i.cls == .spinUp), none, i.final⟩ t
  sendLink n (.command Config.partTag i.cls (injectedPayload (chosenMode u (t.slot n)) i.cls)) u

theorem sendInjection_eq (n : SlotId) (k : Fin 4) (i : Injection) (s : State) :
    sendInjection n k i s
      = match i.cls with
        | .spinUp => setSpindle n .spinningUp (launch n k i s)
        | .spinDown =>
          if ((launch n k i s).slot n).power.spindle = .spinning then setSpindle n .spinningDown (launch n k i s)
          else launch n k i s
        | .identify | .light | .heavy => launch n k i s := by
  have hp : ((launch n k i s).slot n).power
      = ((if i.cls = .spinUp then modSlot n takeHeld (unlist n i.cls s) else unlist n i.cls s).slot n).power :=
    fillEntry_slot_power ..
  rw [hp]
  rfl

theorem launch_slot (n : SlotId) (k : Fin 4) (i : Injection) (s : State) :
    (launch n k i s).slot n
      = { beforeSending (s.slot n) i with
          traffic := { (s.slot n).traffic with
            injections := (s.slot n).traffic.injections.filter (·.cls != i.cls)
            inFlight := (s.slot n).traffic.inFlight.set k.val (some (sentEntry s (s.slot n) i)) k.isLt } } := by
  unfold launch sentEntry beforeSending
  by_cases h : i.cls = .spinUp
  · simp only [if_pos h]
    rw [show ∀ (f : LinkFrame) (t : State), (sendLink n f t).slot n = t.slot n from fun _ _ => rfl]
    simp only [fillEntry, slot_modSlot_same, unlist, takeHeld, h]
    rfl
  · simp only [if_neg h]
    rw [show ∀ (f : LinkFrame) (t : State), (sendLink n f t).slot n = t.slot n from fun _ _ => rfl]
    simp only [fillEntry, slot_modSlot_same, unlist]
    have hg : (i.cls == .spinUp) = false := by simp [h]
    have hc : ∀ x y : Slot, classTimeout s x i.cls false = classTimeout s y i.cls false := fun x y => by
      cases i.cls <;> simp [classTimeout]
    rw [hg, hc _ (s.slot n)]
    rfl

theorem launch_sent (n : SlotId) (k : Fin 4) (i : Injection) (s : State) :
    (launch n k i s).sent
      = s.sent ++ [(n, .command 31 i.cls (injectedPayload (chosenMode s (beforeSending (s.slot n) i)) i.cls))] := by
  unfold launch beforeSending
  by_cases h : i.cls = .spinUp
  · simp only [if_pos h, slot_modSlot_same, unlist]
    rfl
  · simp only [if_neg h, slot_modSlot_same, unlist]
    rfl

theorem launch_keeps (n : SlotId) (k : Fin 4) (i : Injection) (s : State) : KeepsBut [.slot n, .sent] s (launch n k i s) := by
  unfold launch
  dsimp only
  have h : KeepsBut [.slot n] s (if i.cls = .spinUp then modSlot n takeHeld (unlist n i.cls s) else unlist n i.cls s) :=
    .ite ((unlist_keeps ..).trans (modSlot_keeps ..)) (unlist_keeps ..)
  exact (h.mono (by simp)).trans (((fillEntry_keeps ..).mono (by simp)).trans ((sendLink_keeps ..).mono (by simp)))

/-- The spindle as the sending of a listed command leaves it (R31, R33). -/
def spindleSent (cls : CmdClass) (sp : Spindle) : Spindle :=
  match cls with
  | .spinUp => .spinningUp
  | .spinDown => if sp = .spinning then .spinningDown else sp
  | .identify | .light | .heavy => sp

/-- Sending is the launch, and the spindle set where the command moves it. -/
theorem sendInjection_cases (n : SlotId) (k : Fin 4) (i : Injection) (s : State) :
    (sendInjection n k i s = launch n k i s ∧ spindleSent i.cls (s.slot n).power.spindle = (s.slot n).power.spindle)
      ∨ sendInjection n k i s = setSpindle n (spindleSent i.cls (s.slot n).power.spindle) (launch n k i s) := by
  have hp : ((launch n k i s).slot n).power.spindle = (s.slot n).power.spindle := by
    rw [launch_slot]
    unfold beforeSending
    split <;> rfl
  rw [sendInjection_eq, hp]
  unfold spindleSent
  cases i.cls
  case spinUp => exact .inr rfl
  case spinDown =>
    dsimp only
    split
    · exact .inr rfl
    · exact .inl ⟨rfl, rfl⟩
  all_goals exact .inl ⟨rfl, rfl⟩

theorem sendInjection_traffic (n : SlotId) (k : Fin 4) (i : Injection) (s : State) :
    ((sendInjection n k i s).slot n).traffic
        = { (s.slot n).traffic with
            injections := (s.slot n).traffic.injections.filter (·.cls != i.cls)
            inFlight := (s.slot n).traffic.inFlight.set k.val (some (sentEntry s (s.slot n) i)) k.isLt }
      ∧ ((sendInjection n k i s).slot n).power.spindle = spindleSent i.cls (s.slot n).power.spindle
      ∧ (sendInjection n k i s).sent
          = s.sent ++ [(n, .command 31 i.cls (injectedPayload (chosenMode s (beforeSending (s.slot n) i)) i.cls))] := by
  have ht := congrArg Slot.traffic (launch_slot n k i s)
  have hp : ((launch n k i s).slot n).power.spindle = (s.slot n).power.spindle := by
    rw [launch_slot]
    unfold beforeSending
    split <;> rfl
  have hs := launch_sent n k i s
  obtain ⟨he, hsp⟩ | he := sendInjection_cases n k i s
  · rw [he, hsp]
    exact ⟨ht, hp, hs⟩
  · rw [he]
    generalize launch n k i s = t at *
    obtain ⟨h1, h2⟩ := setSpindle_spindle n (spindleSent i.cls (s.slot n).power.spindle) t
    exact ⟨h2.trans ht, h1, ((setSpindle_keeps n _ t).same .sent (by simp)).trans hs⟩

/-- No held grant comes of a sending. -/
theorem sendInjection_held {n : SlotId} {k : Fin 4} {i : Injection} {s : State} (h : (s.slot n).power.held = none) :
    ((sendInjection n k i s).slot n).power.held = none := by
  have hl : ((launch n k i s).slot n).power.held = none := by
    rw [launch_slot]
    unfold beforeSending
    dsimp only
    split
    · rfl
    · exact h
  obtain ⟨he, -⟩ | he := sendInjection_cases n k i s
  · rw [he]; exact hl
  · obtain ⟨a, -, hp⟩ := setSpindle_power n (spindleSent i.cls (s.slot n).power.spindle) (launch n k i s)
    rw [he, hp]
    exact hl

/-! ### The injection list is served -/

theorem unlist_injections (n : SlotId) (c : CmdClass) (s : State) :
    (unlist n c s).slot n
      = { s.slot n with traffic := { (s.slot n).traffic with
            injections := (s.slot n).traffic.injections.filter (·.cls != c) } } := slot_modSlot_same ..

theorem listed_eq_false {x : Slot} {c : CmdClass} : x.listed c = false ↔ ∀ i ∈ x.traffic.injections, i.cls ≠ c := by
  simp [Slot.listed]

/-- Serving lists nothing new (R28). -/
theorem serveInjections_subset (n : SlotId) (s : State) :
    ∀ i ∈ ((serveInjections n s).slot n).traffic.injections, i ∈ (s.slot n).traffic.injections := by
  obtain ⟨h, -⟩ | ⟨j, -, k, -, -, -, -, h⟩ := serveInjections_cases n s
  · rw [h]; exact fun _ hi => hi
  · rw [h, (sendInjection_traffic n k j s).1]
    exact fun i hi => List.mem_of_mem_filter hi

/-- Nothing is served with nothing listed or slot power OFF (R28). -/
theorem serveInjections_of_quiet {n : SlotId} {s : State}
    (h : (s.slot n).traffic.injections = [] ∨ (s.slot n).lines.powered = false) : serveInjections n s = s := by
  obtain ⟨he, -⟩ | ⟨i, rest, k, hi, hp, -⟩ := serveInjections_cases n s
  · exact he
  · obtain h | h := h
    · rw [hi] at h; cases h
    · rw [hp] at h; cases h

/-- A listed command of a class stays listed, or is in flight as the part's own (R28). -/
theorem serveInjections_listed {n : SlotId} {s : State} {i : Injection} (hi : i ∈ (s.slot n).traffic.injections) :
    i ∈ ((serveInjections n s).slot n).traffic.injections
      ∨ ∃ j ∈ (s.slot n).traffic.injections, ∃ k : Fin 4, j.cls = i.cls ∧
          ((serveInjections n s).slot n).traffic.inFlight[k] = some (sentEntry s (s.slot n) j) := by
  obtain ⟨h, -⟩ | ⟨j, rest, k, hj, -, -, -, h⟩ := serveInjections_cases n s
  · rw [h]; exact .inl hi
  · have ht := (sendInjection_traffic n k j s).1
    rw [h, ht]
    by_cases hc : j.cls = i.cls
    · refine .inr ⟨j, by simp [hj], k, hc, (inFlight_set ..).trans (if_pos rfl)⟩
    · exact .inl (List.mem_filter.2 ⟨hi, by simpa using fun e => hc e.symm⟩)

theorem serveInjections_held {n : SlotId} {s : State} (h : (s.slot n).power.held = none) :
    ((serveInjections n s).slot n).power.held = none := by
  obtain ⟨he, -⟩ | ⟨i, -, k, -, -, -, -, he⟩ := serveInjections_cases n s
  · rw [he]; exact h
  · rw [he]; exact sendInjection_held h

/-! ### The drain -/

/-- Hand-overs sent: one for slot n, or none. -/
def HandsOver (n : SlotId) (s t : State) : Prop :=
  t.transit = { s.transit with handOvers := s.transit.handOvers ++ [n] } ∧ (t.slot n).grading.handedOver = true

/-- The final IDENTIFY made due where it falls due (R135). -/
def drainStart (n : SlotId) (s : State) : State := if finalIdentifyDue (s.slot n) then injectFinal n s else s

theorem gradingProgress_eq {n : SlotId} {s : State} (hs : (s.slot n).state = .grading)
    (ho : (s.slot n).grading.handedOver = false) :
    gradingProgress n s
      = if gradePoint ((serveInjections n (drainStart n s)).slot n) then sendHandOver n (serveInjections n (drainStart n s))
        else serveInjections n (drainStart n s) := if_neg (by simp [hs, ho])

theorem gradingProgress_of_done {n : SlotId} {s : State}
    (h : (s.slot n).state ≠ .grading ∨ (s.slot n).grading.handedOver = true) : gradingProgress n s = s := if_pos h

/-- A command put in the list stands in it, with its marks (R28). -/
theorem inject_mem (n : SlotId) (i : Injection) (s : State) :
    ∃ j ∈ ((inject n i s).slot n).traffic.injections, j.cls = i.cls ∧ (i.final = true → j.final = true)
      ∧ (i.parking = true → j.parking = true) ∧ (i.orphan = true → j.orphan = true)
      ∧ (i.recovery = true → j.recovery = true) ∧ (i.shed = true → j.shed = true) := by
  unfold inject
  rw [slot_modSlot_same]
  dsimp only
  split
  · next h =>
    obtain ⟨j, hj, hc⟩ := List.any_eq_true.1 h
    have hc' : j.cls = i.cls := by simpa using hc
    refine ⟨j.merge i, List.mem_map.2 ⟨j, hj, if_pos hc'⟩, hc', ?_, ?_, ?_, ?_, ?_⟩ <;>
      exact fun e => by simp [Injection.merge, e]
  · exact ⟨i, by simp, rfl, id, id, id, id, id⟩

theorem injectFinal_slot (n : SlotId) (s : State) :
    SlotKeepsBut [.grading, .injections] (s.slot n) ((injectFinal n s).slot n)
      ∧ ((injectFinal n s).slot n).grading = { (s.slot n).grading with finalIdentify := .due }
      ∧ ∃ j ∈ ((injectFinal n s).slot n).traffic.injections, j.cls = .identify ∧ j.final = true := by
  have hd : (modSlot n (fun x => { x with grading.finalIdentify := .due }) s).slot n
      = { s.slot n with grading.finalIdentify := .due } := slot_modSlot_same ..
  unfold injectFinal
  generalize modSlot n (fun x => { x with grading.finalIdentify := .due }) s = t at *
  have h1 : SlotKeepsBut [.grading] (s.slot n) (t.slot n) := by
    rw [hd]
    exact ⟨fun g hg => by cases g <;> simp_all [slotSameIn]⟩
  obtain ⟨j, hj, hc, hf, -⟩ := inject_mem n { bareInjection .identify with final := true } t
  refine ⟨(h1.mono (by simp)).trans ((inject_slot ..).mono (by simp)), ?_, j, hj, hc, hf rfl⟩
  have hg : ((inject n { bareInjection .identify with final := true } t).slot n).grading = (t.slot n).grading := by
    unfold inject
    rw [slot_modSlot_same]
  rw [hg, hd]

/-- A final IDENTIFY is listed or in flight. -/
def finalPending (y : Slot) : Prop :=
  (∃ i ∈ y.traffic.injections, i.cls = .identify)
    ∨ ∃ (k : Fin 4) (e : InFlight), y.traffic.inFlight[k] = some e ∧ e.cls = .identify ∧ e.origin = .part

/-- What the drain does in GRADING before the hand-over (R135, R136). -/
structure Drained (n : SlotId) (s t : State) : Prop where
  keeps : KeepsBut [.slot n, .passDue, .sent, .transit] s t
  grading : (t.slot n).grading
    = { (s.slot n).grading with
        finalIdentify := if finalIdentifyDue (s.slot n) then .due else (s.slot n).grading.finalIdentify
        handedOver := gradePoint (t.slot n) }
  sends : gradePoint (t.slot n) = true → t.transit = { s.transit with handOvers := s.transit.handOvers ++ [n] }
  holds : gradePoint (t.slot n) = false → t.transit = s.transit
  quiet : finalIdentifyDue (s.slot n) = false → (s.slot n).traffic.injections = [] ∨ (s.slot n).lines.powered = false →
    (t.slot n).traffic = (s.slot n).traffic ∧ (t.slot n).power = (s.slot n).power ∧ t.sent = s.sent
      ∧ t.power = s.power
  due : finalIdentifyDue (s.slot n) = true → finalPending (t.slot n)
  listed : finalIdentifyDue (s.slot n) = false →
    ∀ i ∈ (t.slot n).traffic.injections, i ∈ (s.slot n).traffic.injections
  held : (s.slot n).power.held = none → (t.slot n).power.held = none

theorem gradePoint_congr {x y : Slot} (hf : y.traffic.inFlight = x.traffic.inFlight)
    (hr : y.grading.reason = x.grading.reason) (hi : y.grading.finalIdentify = x.grading.finalIdentify) :
    gradePoint y = gradePoint x := by
  unfold gradePoint
  rw [tableEmpty_congr hf, hr, hi]

theorem drainStart_slot (n : SlotId) (s : State) :
    KeepsBut [.slot n] s (drainStart n s)
      ∧ SlotKeepsBut [.grading, .injections] (s.slot n) ((drainStart n s).slot n)
      ∧ ((drainStart n s).slot n).grading
        = { (s.slot n).grading with
            finalIdentify := if finalIdentifyDue (s.slot n) then .due else (s.slot n).grading.finalIdentify }
      ∧ (finalIdentifyDue (s.slot n) = true → ∃ j ∈ ((drainStart n s).slot n).traffic.injections, j.cls = .identify)
      ∧ (finalIdentifyDue (s.slot n) = false → drainStart n s = s) := by
  unfold drainStart
  cases hd : finalIdentifyDue (s.slot n)
  · exact ⟨.refl .., .refl .., rfl, nofun, fun _ => rfl⟩
  · obtain ⟨h1, h2, j, hj, hc, -⟩ := injectFinal_slot n s
    exact ⟨(modSlot_keeps ..).trans (inject_keeps ..), h1, h2, fun _ => ⟨j, hj, hc⟩, nofun⟩

theorem sendHandOver_keeps (n : SlotId) (s : State) : KeepsBut [.slot n, .transit] s (sendHandOver n s) :=
  ((modSlot_keeps n (fun x => { x with grading.handedOver := true }) s).mono (by simp)).trans
    ⟨fun g hg => by cases g <;> simp_all [sameIn, sendHandOver]; rfl⟩

theorem sendHandOver_slot (n : SlotId) (s : State) :
    (sendHandOver n s).slot n = { s.slot n with grading.handedOver := true } :=
  slot_modSlot_same (f := fun x => { x with grading.handedOver := true }) ..

theorem gradingProgress_drained {n : SlotId} {s : State} (hs : (s.slot n).state = .grading)
    (ho : (s.slot n).grading.handedOver = false) : Drained n s (gradingProgress n s) := by
  rw [gradingProgress_eq hs ho]
  obtain ⟨hk1, hs1, hg1, hdue, hnot⟩ := drainStart_slot n s
  generalize drainStart n s = d at *
  have hk2 := serveInjections_keeps n d
  have hs2 := serveInjections_slot n d
  have hsub := serveInjections_subset n d
  have hheld := serveInjections_held (n := n) (s := d)
  have hquiet := serveInjections_of_quiet (n := n) (s := d)
  have hlisted : ∀ j ∈ (d.slot n).traffic.injections, j.cls = .identify → finalPending ((serveInjections n d).slot n) := by
    intro j hj hc
    obtain h | ⟨i, -, k, hi, hk⟩ := serveInjections_listed hj
    · exact .inl ⟨j, h, hc⟩
    · exact .inr ⟨k, _, hk, hi.trans hc, rfl⟩
  generalize serveInjections n d = u at *
  obtain ⟨hg2a, hg2b, hg2c⟩ := hs2.same .grading (by simp)
  have hg2r : (u.slot n).grading.reason = (d.slot n).grading.reason := hs2.same .reason (by simp)
  have hg2 : (u.slot n).grading = (d.slot n).grading := by
    generalize (u.slot n).grading = g at *
    generalize (d.slot n).grading = g' at *
    cases g; cases g'; simp_all
  have hho : (u.slot n).grading.handedOver = false := by rw [hg2, hg1]; exact ho
  have hkeep : KeepsBut [.slot n, .passDue, .sent] s u := (hk1.mono (by simp)).trans (hk2.mono (by simp))
  have hh : (s.slot n).power.held = none → (u.slot n).power.held = none := fun h =>
    hheld ((hs1.same .spindle (by simp)).2.2.trans h)
  have hq : finalIdentifyDue (s.slot n) = false → (s.slot n).traffic.injections = [] ∨ (s.slot n).lines.powered = false →
      u = s := fun h1 h2 => by
    rw [hnot h1] at hquiet
    exact hquiet h2
  have hl : finalIdentifyDue (s.slot n) = false → ∀ i ∈ (u.slot n).traffic.injections, i ∈ (s.slot n).traffic.injections :=
    fun h => by rw [hnot h] at hsub; exact hsub
  cases hgp : gradePoint (u.slot n)
  · rw [if_neg (by simp)]
    refine ⟨hkeep.mono (by simp), ?_, fun h => absurd (hgp.symm.trans h) (by simp), fun _ => hkeep.same .transit (by simp), fun h1 h2 => ?_,
      fun h => ?_, hl, hh⟩
    · rw [hgp, hg2, hg1]
      generalize (s.slot n).grading = g at *
      cases g; simp_all
    · rw [hq h1 h2]
      exact ⟨rfl, rfl, rfl, rfl⟩
    · obtain ⟨j, hj, hc⟩ := hdue h
      exact hlisted j hj hc
  · rw [if_pos rfl]
    have hsl := sendHandOver_slot n u
    have hkh := sendHandOver_keeps n u
    have htr : (sendHandOver n u).transit = { u.transit with handOvers := u.transit.handOvers ++ [n] } := rfl
    have hpw : (sendHandOver n u).power = u.power := rfl
    generalize sendHandOver n u = v at *
    have hgv : gradePoint (v.slot n) = true := by
      rw [← hgp]
      exact gradePoint_congr (by rw [hsl]) (by rw [hsl]) (by rw [hsl])
    refine ⟨(hkeep.mono (by simp)).trans (hkh.mono (by simp)), ?_, fun _ => ?_, fun h => absurd (hgv.symm.trans h) (by simp), fun h1 h2 => ?_,
      fun h => ?_, ?_, ?_⟩
    · rw [hgv, hsl]
      dsimp only
      rw [hg2, hg1]
    · rw [htr, (hkeep.same .transit (by simp) : u.transit = s.transit)]
    · rw [hsl, hpw, (hkh.same .sent (by simp) : v.sent = u.sent), hq h1 h2]
      exact ⟨rfl, rfl, rfl, rfl⟩
    · obtain ⟨j, hj, hc⟩ := hdue h
      have := hlisted j hj hc
      rw [hsl]
      exact this
    · rw [hsl]
      exact hl
    · rw [hsl]
      exact hh

end Sys2Proof.Machine
end

section
/-! SUPPORT. Entering GRADING (R133), END-TEST (O35) and quarantines (O37). -/

namespace Sys2Proof.Machine

/-! ### A held grant lapses -/

theorem applyPending_identity (x : Slot) :
    (applyPending x).identity
      = { x.identity with peaks := x.identity.pendingPeaks.getD x.identity.peaks, pendingPeaks := none } := by
  unfold applyPending
  split
  · next h =>
    generalize x.identity = i at *
    cases i; simp_all
  · next ps h => simp [h]

theorem applyPending_traffic (x : Slot) : (applyPending x).traffic = x.traffic := by
  unfold applyPending
  split <;> rfl

/-- A held grant that lapses (R80): it is gone, its SPIN_UP is not listed, and pending peaks take effect (R53). -/
structure Lapsed (n : SlotId) (s t : State) : Prop where
  held : (t.slot n).power.held = none
  spindle : (t.slot n).power.spindle = (s.slot n).power.spindle ∧ (t.slot n).power.chosen = (s.slot n).power.chosen
  injections : ∀ i ∈ (t.slot n).traffic.injections, i ∈ (s.slot n).traffic.injections
  identity : (t.slot n).identity
    = if (s.slot n).power.held = none then (s.slot n).identity
      else { (s.slot n).identity with
        peaks := (s.slot n).identity.pendingPeaks.getD (s.slot n).identity.peaks, pendingPeaks := none }

theorem lapseHeld_lapsed (n : SlotId) (s : State) : Lapsed n s (lapseHeld n s) := by
  unfold lapseHeld
  by_cases hh : (s.slot n).power.held = none
  · rw [if_pos (by simp [hh])]
    exact ⟨hh, ⟨rfl, rfl⟩, fun _ => id, (if_pos hh).symm⟩
  · rw [if_neg (by simpa [Option.isNone_iff_eq_none] using hh)]
    have hu := unlist_injections n .spinUp s
    generalize unlist n .spinUp s = u at *
    obtain ⟨a, -, h⟩ := followFigure_slot_lowered n (fun x => applyPending { x with power.held := none }) u
    generalize followFigure n (fun x => applyPending { x with power.held := none }) u = t at *
    constructor
    · rw [h]; dsimp only; rw [applyPending_power]
    · rw [h]; dsimp only; rw [applyPending_power, hu]; exact ⟨rfl, rfl⟩
    · rw [h]; dsimp only; rw [applyPending_traffic, hu]
      exact fun i hi => List.mem_of_mem_filter hi
    · rw [h, if_neg hh]; dsimp only; rw [applyPending_identity, hu]

/-! ### Leaving the test -/

theorem dropAdmission_same (n : SlotId) (s : State) :
    (dropAdmission n s).power.queue = s.power.queue.filter (·.slot ≠ n)
      ∧ (dropAdmission n s).slot n = { s.slot n with traffic.reserved := none } := by
  refine ⟨leaveAdmission_queue n s, ?_⟩
  unfold dropAdmission releaseReserved
  rw [slot_modSlot_same, (leaveAdmission_keeps n s).slot_eq (by simp)]

/-- What the part does with a slot before it moves it to GRADING (R133, R15). -/
structure LeftTest (n : SlotId) (s t : State) : Prop where
  keeps : KeepsBut [.slot n, .responses, .admission, .passDue] s t
  responses : t.port.responses = s.port.responses ++ queueAnswers n (s.slot n) .endOfTest
  admission : t.power.queue = s.power.queue.filter (·.slot ≠ n)
  queue : (t.slot n).traffic.queue = [] ∧ (t.slot n).traffic.reserved = none
  held : (t.slot n).power.held = none
  spindle : (t.slot n).power.spindle = (s.slot n).power.spindle
  grading : (t.slot n).grading = ⟨(s.slot n).grading.reason, .notDue, false, none⟩
  recovery : (t.slot n).recovery
    = if (s.slot n).state = .recovering then
        { (s.slot n).recovery with resume := none, breakLatch := false, attempts := 0, wait := none }
      else (s.slot n).recovery
  unlisted : ∀ i ∈ (t.slot n).traffic.injections, i.cls ≠ .identify
  listed : (s.slot n).state ≠ .recovering → ∀ i ∈ (t.slot n).traffic.injections, i ∈ (s.slot n).traffic.injections

/-- The end of an episode on the way into GRADING, and the end of the spin-up that it orphaned (R15, R38, R40). -/
def leaveEpisode (n : SlotId) (recovering : Bool) (s : State) : State :=
  let s := if recovering then endEpisode n s else s
  if recovering && (s.slot n).orphaned then injectOrphan n s else s

theorem leaveTest_eq (n : SlotId) (s : State) :
    leaveTest n s
      = modSlot n (fun x => { x with grading := ⟨x.grading.reason, .notDue, false, none⟩ })
          (leaveEpisode n ((s.slot n).state == .recovering)
            (unlist n .identify (lapseHeld n (dropAdmission n (answerQueue n .endOfTest s))))) := rfl

theorem inject_slot_same (n : SlotId) (i : Injection) (s : State) :
    ∃ l, (inject n i s).slot n = { s.slot n with traffic := { (s.slot n).traffic with injections := l } }
      ∧ ∀ j ∈ l, j.cls = i.cls ∨ j ∈ (s.slot n).traffic.injections := by
  refine ⟨_, slot_modSlot_same .., ?_⟩
  split
  · intro j hj
    obtain ⟨o, ho, rfl⟩ := List.mem_map.1 hj
    split
    · next h => exact .inl h
    · exact .inr ho
  · intro j hj
    obtain h | h := List.mem_append.1 hj
    · exact .inr h
    · exact .inl (by rw [List.mem_singleton.1 h])

theorem leaveEpisode_spec (n : SlotId) (b : Bool) (s : State) :
    ∃ l, (leaveEpisode n b s).slot n
        = { s.slot n with
            traffic := { (s.slot n).traffic with injections := l }
            recovery := if b = true then
                { (s.slot n).recovery with resume := none, breakLatch := false, attempts := 0, wait := none }
              else (s.slot n).recovery }
      ∧ (∀ i ∈ l, i.cls = .spinDown ∨ i ∈ (s.slot n).traffic.injections)
      ∧ (b = false → l = (s.slot n).traffic.injections) := by
  cases b
  · exact ⟨_, rfl, fun _ => .inr, fun _ => rfl⟩
  · have he : (endEpisode n s).slot n
        = { s.slot n with
            recovery := { (s.slot n).recovery with resume := none, breakLatch := false, attempts := 0, wait := none } } :=
      slot_modSlot_same ..
    change ∃ l, (if (true && ((endEpisode n s).slot n).orphaned) = true then injectOrphan n (endEpisode n s) else endEpisode n s).slot n
        = _ ∧ _
    generalize endEpisode n s = t at *
    split
    · obtain ⟨l, hl, hm⟩ := inject_slot_same n { bareInjection .spinDown with orphan := true } t
      refine ⟨l, ?_, fun i hi => ?_, nofun⟩
      · rw [show injectOrphan n t = inject n _ t from rfl, hl, he]
        rfl
      · rw [he] at hm
        exact hm i hi
    · exact ⟨(s.slot n).traffic.injections, by rw [he]; rfl, fun _ => .inr, nofun⟩

theorem leaveEpisode_keeps (n : SlotId) (b : Bool) (s : State) : KeepsBut [.slot n] s (leaveEpisode n b s) := by
  unfold leaveEpisode
  dsimp only
  exact KeepsBut.trans (.ite (modSlot_keeps ..) (.refl ..)) (.ite (inject_keeps ..) (.refl ..))

theorem leaveTest_leftTest (n : SlotId) (s : State) : LeftTest n s (leaveTest n s) := by
  rw [leaveTest_eq]
  have hra := answerQueue_responses n .endOfTest s
  have hsa := answerQueue_slot_same n .endOfTest s
  have hka := answerQueue_keeps n .endOfTest s
  generalize answerQueue n .endOfTest s = a at *
  obtain ⟨hqb, hsb⟩ := dropAdmission_same n a
  have hkb := dropAdmission_keeps n a
  generalize dropAdmission n a = b at *
  have hc := lapseHeld_lapsed n b
  have hsc := lapseHeld_slot n b
  have hkc := lapseHeld_keeps n b
  generalize lapseHeld n b = c at *
  have hsd := unlist_injections n .identify c
  have hkd := unlist_keeps n .identify c
  generalize unlist n .identify c = d at *
  obtain ⟨l, hse, hle, hne⟩ := leaveEpisode_spec n ((s.slot n).state == .recovering) d
  have hke := leaveEpisode_keeps n ((s.slot n).state == .recovering) d
  generalize leaveEpisode n ((s.slot n).state == .recovering) d = e at *
  have hst := slot_modSlot_same e n (fun x => { x with grading := ⟨x.grading.reason, .notDue, false, none⟩ })
  have hkt := modSlot_keeps n (fun x => { x with grading := ⟨x.grading.reason, .notDue, false, none⟩ }) e
  generalize modSlot n (fun x => { x with grading := ⟨x.grading.reason, .notDue, false, none⟩ }) e = t at *
  have hkct : KeepsBut [.slot n] c t := hkd.trans (hke.trans hkt)
  have hkbt : KeepsBut [.slot n, .passDue] b t := hkc.trans (hkct.mono (by simp))
  have hkat : KeepsBut [.slot n, .admission, .passDue] a t := hkb.trans (hkbt.mono (by simp))
  have hinj : ∀ i ∈ (d.slot n).traffic.injections, i.cls ≠ .identify ∧ i ∈ (s.slot n).traffic.injections := by
    intro i hi
    rw [hsd] at hi
    obtain ⟨h1, h2⟩ := List.mem_filter.1 hi
    have h3 := hc.injections i h1
    rw [hsb, hsa] at h3
    exact ⟨by simpa using h2, h3⟩
  have hrec : (d.slot n).recovery = (s.slot n).recovery := by
    rw [hsd]
    exact (hsc.same .recovery (by simp)).trans (by rw [hsb, hsa])
  have hreason : (d.slot n).grading.reason = (s.slot n).grading.reason := by
    rw [hsd]
    exact (hsc.same .reason (by simp)).trans (by rw [hsb, hsa])
  constructor
  · exact (hka.mono (by simp)).trans (hkat.mono (by simp))
  · exact (hkat.same .responses (by simp)).trans hra
  · rw [(hkbt.same .admission (by simp) : t.power.queue = b.power.queue), hqb,
      (hka.same .admission (by simp) : a.power.queue = s.power.queue)]
  · rw [hst, hse, hsd]
    refine ⟨(hsc.same .queue (by simp)).trans ?_, (hsc.same .reserved (by simp)).trans ?_⟩
    · rw [hsb, hsa]
    · rw [hsb]
  · rw [hst, hse, hsd]
    exact hc.held
  · rw [hst, hse, hsd]
    exact hc.spindle.1.trans (by rw [hsb, hsa])
  · rw [hst, hse]
    dsimp only
    rw [hreason]
  · rw [hst, hse]
    dsimp only
    rw [hrec]
    simp only [beq_iff_eq]
  · rw [hst, hse]
    intro i hi
    obtain h | h := hle i hi
    · rw [h]; simp
    · exact (hinj i h).1
  · intro hr
    rw [hst, hse]
    dsimp only
    rw [hne (by simpa using hr)]
    exact fun i hi => (hinj i hi).2

/-! ### Entering GRADING -/

/-- The entry into GRADING (R133, R15), in terms of the drain that ends it. -/
structure EnteredGrading (n : SlotId) (s t : State) : Prop where
  keeps : KeepsBut [.slot n, .responses, .admission, .passDue, .sent, .transit] s t
  slot : SlotKeepsBut
    [.state, .lamps, .identity, .allocation, .spindle, .queue, .reserved, .inFlight, .injections, .recovery, .grading]
    (s.slot n) (t.slot n)
  state : (t.slot n).state = .grading
  responses : t.port.responses = s.port.responses ++ queueAnswers n (s.slot n) .endOfTest
  admission : t.power.queue = s.power.queue.filter (·.slot ≠ n)
  queue : (t.slot n).traffic.queue = [] ∧ (t.slot n).traffic.reserved = none
  held : (t.slot n).power.held = none
  grade : (t.slot n).grading.grade = none
  recovery : (t.slot n).recovery
    = if (s.slot n).state = .recovering then
        { (s.slot n).recovery with resume := none, breakLatch := false, attempts := 0, wait := none }
      else (s.slot n).recovery
  final : (t.slot n).grading.finalIdentify
    = if (s.slot n).grading.reason.isNone && !(s.slot n).serverInFlight then .due else .notDue
  handedOver : (t.slot n).grading.handedOver = gradePoint (t.slot n)
  sends : gradePoint (t.slot n) = true → t.transit = { s.transit with handOvers := s.transit.handOvers ++ [n] }
  holds : gradePoint (t.slot n) = false → t.transit = s.transit
  quiet : (s.slot n).grading.reason.isSome →
    (s.slot n).lines.powered = false ∨ (s.slot n).traffic.injections = [] ∧ (s.slot n).state ≠ .recovering →
    (t.slot n).traffic.inFlight = (s.slot n).traffic.inFlight
  unlisted : (s.slot n).grading.reason.isSome → ∀ i ∈ (t.slot n).traffic.injections, i.cls ≠ .identify

theorem serverInFlight_congr {x y : Slot} (h : y.traffic.inFlight = x.traffic.inFlight) :
    y.serverInFlight = x.serverInFlight := by
  unfold Slot.serverInFlight Slot.anyInFlight
  rw [h]

theorem enterGrading_entered (n : SlotId) (s : State) : EnteredGrading n s (enterGrading n s) := by
  rw [enterGrading_eq]
  have hl := leaveTest_leftTest n s
  have hsl := leaveTest_slot n s
  generalize leaveTest n s = a at *
  have hsb : SlotKeepsBut [.state, .lamps] (a.slot n) ((setState n .grading a).slot n) := setState_slot ..
  have hst := setState_slot_same n .grading a
  have hkb := setState_keeps n .grading a
  have hstate : ((setState n .grading a).slot n).state = .grading := setState_slot_state ..
  generalize setState n .grading a = b at *
  have hgb : (b.slot n).grading = ⟨(s.slot n).grading.reason, .notDue, false, none⟩ := by rw [hst]; exact hl.grading
  have htb : (b.slot n).traffic = (a.slot n).traffic := by rw [hst]; rfl
  have hpb : (b.slot n).power = (a.slot n).power := by rw [hst]; rfl
  have hfl : (b.slot n).traffic.inFlight = (s.slot n).traffic.inFlight := by
    rw [htb]; exact hsl.same .inFlight (by simp)
  have hd : Drained n b (gradingProgress n b) := gradingProgress_drained hstate (by rw [hgb])
  have hsd := gradingProgress_slot n b
  generalize gradingProgress n b = t at *
  have hkbt := hkb.mono (ch' := [.slot n, .passDue, .sent, .transit]) (by simp)
  have hkat := hkbt.trans hd.keeps
  have hdue : finalIdentifyDue (b.slot n) = ((s.slot n).grading.reason.isNone && !(s.slot n).serverInFlight) := by
    unfold finalIdentifyDue
    rw [hgb, serverInFlight_congr hfl]
    simp
  have hnd : (s.slot n).grading.reason.isSome → finalIdentifyDue (b.slot n) = false := fun h => by
    rw [hdue]
    obtain ⟨r, hr⟩ := Option.isSome_iff_exists.1 h
    simp [hr]
  have hab : b.transit = s.transit := (hkb.same .transit (by simp)).trans (hl.keeps.same .transit (by simp))
  constructor
  · exact (hl.keeps.mono (by simp)).trans (hkat.mono (by simp))
  · exact (hsl.mono (by simp)).trans ((hsb.mono (by simp)).trans (hsd.mono (by simp)))
  · exact (hsd.same .state (by simp)).trans hstate
  · exact (hkat.same .responses (by simp)).trans hl.responses
  · exact (hkat.same .admission (by simp)).trans hl.admission
  · obtain ⟨h1, h2⟩ := hl.queue
    exact ⟨(hsd.same .queue (by simp)).trans (htb ▸ h1), (hsd.same .reserved (by simp)).trans (htb ▸ h2)⟩
  · exact hd.held (hpb ▸ hl.held)
  · rw [hd.grading, hgb]
  · exact (hsd.same .recovery (by simp)).trans ((hsb.same .recovery (by simp)).trans hl.recovery)
  · rw [hd.grading, hdue, hgb]
  · rw [hd.grading]
  · intro h
    rw [hd.sends h, hab]
  · intro h
    rw [hd.holds h, hab]
  · intro hr hq
    have hquiet : (b.slot n).traffic.injections = [] ∨ (b.slot n).lines.powered = false := by
      obtain h | ⟨h1, h2⟩ := hq
      · exact .inr ((hsb.same .power (by simp)).trans ((hsl.same .power (by simp)).trans h))
      · refine .inl (List.eq_nil_iff_forall_not_mem.2 fun i hi => ?_)
        have := hl.listed h2 i (htb ▸ hi)
        rw [h1] at this
        cases this
    rw [(hd.quiet (hnd hr) hquiet).1, hfl]
  · intro hr i hi
    exact hl.unlisted i (htb ▸ hd.listed (hnd hr) i hi)

/-! ### END-TEST -/

theorem endTest_inTest {q : QueuedRequest} {n : SlotId} {s : State} (h : (s.slot n).state.inTest = true) :
    endTest q n s
      = (enterGrading n s).replied q .ok .none
          (.endTest .grading (s.slot n).traffic.queue.length (s.slot n).inFlightList.length) := if_pos h

/-- Entered from the test, GRADING keeps the recovery record. -/
theorem EnteredGrading.slot_of_test {n : SlotId} {s t : State} (he : EnteredGrading n s t) (hnr : (s.slot n).state ≠ .recovering) :
    SlotKeepsBut [.state, .lamps, .identity, .allocation, .spindle, .queue, .reserved, .inFlight, .injections, .grading]
      (s.slot n) (t.slot n) := by
  refine ⟨fun g hg => ?_⟩
  by_cases hg' : g = .recovery
  · subst hg'
    exact he.recovery.trans (if_neg hnr)
  · exact he.slot.same g (by simp_all)

/-- With nothing recorded no hand-over is sent, and the final IDENTIFY is due where no server command is in flight (R135). -/
theorem EnteredGrading.of_unrecorded {n : SlotId} {s t : State} (he : EnteredGrading n s t) (hr : (s.slot n).grading.reason = none) :
    (t.slot n).grading.handedOver = false ∧ t.transit = s.transit
      ∧ (t.slot n).grading.finalIdentify = (if (s.slot n).serverInFlight = true then .notDue else .due) := by
  have hreason : (t.slot n).grading.reason = (s.slot n).grading.reason := he.slot.same .reason (by simp)
  have hfin : (t.slot n).grading.finalIdentify = if (s.slot n).serverInFlight = true then .notDue else .due := by
    rw [he.final, hr]
    cases (s.slot n).serverInFlight <;> rfl
  have hgp : gradePoint (t.slot n) = false := by
    unfold gradePoint
    rw [hreason, hr, hfin]
    split <;> simp
  exact ⟨he.handedOver.trans hgp, he.holds hgp, hfin⟩

/-- With a reason recorded the hand-over is sent at once, where nothing is in flight and nothing can be sent (R136). -/
theorem EnteredGrading.of_recorded {n : SlotId} {s t : State} (he : EnteredGrading n s t) (hr : (s.slot n).grading.reason ≠ none)
    (hempty : ∀ k : Fin 4, (s.slot n).traffic.inFlight[k] = none)
    (hq : (s.slot n).lines.powered = false ∨ (s.slot n).traffic.injections = [] ∧ (s.slot n).state ≠ .recovering) :
    t.transit = { s.transit with handOvers := s.transit.handOvers ++ [n] } ∧ (t.slot n).grading.handedOver = true := by
  have hsome : (s.slot n).grading.reason.isSome = true := Option.isSome_iff_ne_none.2 hr
  have hreason : (t.slot n).grading.reason = (s.slot n).grading.reason := he.slot.same .reason (by simp)
  have hgp : gradePoint (t.slot n) = true := by
    unfold gradePoint
    rw [tableEmpty_congr (he.quiet hsome hq), tableEmpty_iff.2 hempty, hreason, hsome]
    rfl
  exact ⟨he.sends hgp, he.handedOver.trans hgp⟩

/-- Settles O35: END-TEST enters GRADING, and the drain begins. -/
theorem endTestTaken : Obligations.EndTest := by
  unfold Obligations.EndTest
  intro s q rest n hs ho hst
  have hin : ((s.taken rest).slot n).state.inTest = true := by
    rw [taken_slot]
    rcases hst with h | h <;> simp [h, SlotState.inTest]
  have hnr : ((s.taken rest).slot n).state ≠ .recovering := by rcases hst with h | h <;> simp [taken_slot, h]
  refine ⟨_, (congrArg Host.Outcome.next (serveKind_of_slot hs ho)).trans
    (congrArg (fun t => Host.Outcome.next (finish t)) (endTest_inTest hin)), ?_⟩
  have he := enterGrading_entered n (s.taken rest)
  generalize enterGrading n (s.taken rest) = t at *
  have hall : KeepsBut [.slot n, .requests, .responses, .admission, .passDue, .sent, .transit] s t :=
    ((taken_keeps rest s).mono (by simp)).trans (he.keeps.mono (by simp))
  have hrep : t.port.replies = s.port.replies := hall.same .replies (by simp)
  refine ⟨(hall.mono (by simp)).trans ((replied_keeps ..).mono (by simp)), congrArg (· ++ _) hrep, he.responses, he.admission,
    he.slot_of_test hnr, he.state, he.queue.1, he.queue.2, he.held, he.grade, he.of_unrecorded, fun hr hempty hq => ?_⟩
  exact he.of_recorded hr hempty (hq.symm.imp id fun h => ⟨h, hnr⟩)

/-! ### Quarantines -/

theorem quarantineDiscarded_iff {x : Slot} :
    quarantineDiscarded x = true ↔ x.state = .empty ∨ x.state = .settling ∨ x.grading.reason ≠ none := by
  simp [quarantineDiscarded, Option.isSome_iff_ne_none, or_assoc]

theorem takeQuarantine_discarded {n : SlotId} {s : State} (r : QuarantineReason)
    (h : (s.slot n).state = .empty ∨ (s.slot n).state = .settling ∨ (s.slot n).grading.reason ≠ none) :
    takeQuarantine n r s = s := if_pos (quarantineDiscarded_iff.2 h)

/-- A quarantine taken records its reason, and then does what the state gives (R15, R16). -/
theorem takeQuarantine_taken {n : SlotId} {s : State} (r : QuarantineReason) (he : (s.slot n).state ≠ .empty)
    (hs : (s.slot n).state ≠ .settling) (hr : (s.slot n).grading.reason = none) :
    takeQuarantine n r s
      = match (s.slot n).state with
        | .powerWait | .identifying | .unmatched | .ready | .calibrating | .burning | .recovering =>
          enterGrading n (recordReason n r s)
        | .grading => quarantineGrading n (recordReason n r s)
        | .sortWait => replaceForced n (recordReason n r s)
        | .parking | .sorted | .empty | .settling => recordReason n r s := by
  have hd : ¬ quarantineDiscarded (s.slot n) = true := fun h => by
    obtain h | h | h := quarantineDiscarded_iff.1 h
    · exact he h
    · exact hs h
    · exact h hr
  rw [← recordReason_state n r s]
  exact if_neg hd

theorem recordReason_spec (n : SlotId) (r : QuarantineReason) (s : State) :
    KeepsBut [.slot n, .partSet, .noticeQueue] s (recordReason n r s)
      ∧ SlotKeepsBut [.lamps, .reason, .events, .notice] (s.slot n) ((recordReason n r s).slot n)
      ∧ ((recordReason n r s).slot n).grading.reason = some r
      ∧ ((recordReason n r s).slot n).events = (s.slot n).events ||| SlotEvent.quarantine.set
      ∧ LampsCurrent (recordReason n r s) n := by
  unfold recordReason
  have ha : (modSlot n (fun x => { x with grading.reason := some r }) s).slot n = { s.slot n with grading.reason := some r } :=
    slot_modSlot_same ..
  have hka := modSlot_keeps n (fun x => { x with grading.reason := some r }) s
  generalize modSlot n (fun x => { x with grading.reason := some r }) s = a at *
  obtain ⟨v, hb⟩ := raiseSlot_slot n .quarantine a
  have hkb := raiseSlot_keeps n .quarantine a
  generalize raiseSlot n .quarantine a = b at *
  have hc := relamp_slot_same n b
  have hkc := relamp_keeps n b
  have hlc := relamp_lamps n b
  generalize relamp n b = c at *
  refine ⟨(hka.mono (by simp)).trans (hkb.trans (hkc.mono (by simp))), ?_, ?_, ?_, hlc⟩
  · rw [hc, hb, ha]
    exact ⟨fun g hg => by cases g <;> simp_all [slotSameIn]⟩
  · rw [hc, hb, ha]
  · rw [hc, hb, ha]

end Sys2Proof.Machine
end

section
/-! SUPPORT. How a recovery episode begins, and RECOVER (O38). -/

namespace Sys2Proof.Machine

/-! ### The list emptied, an attempt begun -/

/-- The injection list emptied and the held grant lapsed (R43, R80). -/
theorem emptyInjections_spec (n : SlotId) (s : State) :
    KeepsBut [.slot n, .passDue] s (emptyInjections n s)
      ∧ SlotKeepsBut [.injections, .spindle, .allocation, .identity] (s.slot n) ((emptyInjections n s).slot n)
      ∧ ((emptyInjections n s).slot n).traffic.injections = []
      ∧ Lapsed n s (emptyInjections n s) := by
  have hl := lapseHeld_lapsed n s
  have hsl := lapseHeld_slot n s
  have hkl := lapseHeld_keeps n s
  unfold emptyInjections
  generalize lapseHeld n s = t at *
  have hm := slot_modSlot_same t n (fun x => { x with traffic.injections := [] })
  have hkm := modSlot_keeps n (fun x => { x with traffic.injections := [] }) t
  generalize modSlot n (fun x => { x with traffic.injections := [] }) t = u at *
  refine ⟨hkl.trans (hkm.mono (by simp)), hsl.trans ?_, by rw [hm], ?_⟩
  · rw [hm]
    exact ⟨fun g hg => by cases g <;> simp_all [slotSameIn]⟩
  · constructor
    · rw [hm]; exact hl.held
    · rw [hm]; exact hl.spindle
    · rw [hm]; exact nofun
    · rw [hm]; exact hl.identity

/-- The record as the beginning of an attempt leaves it (R44). -/
theorem beginAttempt_slot_same (n : SlotId) (s : State) :
    (beginAttempt n s).slot n
      = { s.slot n with recovery := { (s.slot n).recovery with
            attempts := (s.slot n).recovery.attempts + 1, wait := some (s.now + 10000) } } :=
  slot_modSlot_same (f := fun x => { x with recovery := { x.recovery with
    attempts := x.recovery.attempts + 1, wait := some (s.now + 10000) } }) ..

theorem beginAttempt_keeps (n : SlotId) (s : State) :
    KeepsBut [.slot n, .sent] s (beginAttempt n s) ∧ (beginAttempt n s).sent = s.sent ++ [(n, .linkReset)] :=
  ⟨((modSlot_keeps n (fun x => { x with recovery := { x.recovery with
      attempts := x.recovery.attempts + 1, wait := some (s.now + 10000) } }) s).mono (by simp)).trans
      ((sendLink_keeps n .linkReset _).mono (by simp)), rfl⟩

/-! ### The episode -/

/-- A slot's episode begun (R43). -/
structure Begun (n : SlotId) (r : RecoveryReason) (s t : State) : Prop where
  keeps : KeepsBut [.slot n, .responses, .admission, .passDue, .sent, .partSet, .noticeQueue] s t
  slot : SlotKeepsBut
    [.state, .lamps, .identity, .allocation, .spindle, .reserved, .inFlight, .injections, .recovery, .events, .notice]
    (s.slot n) (t.slot n)
  lamps : LampsCurrent t n
  identity : (t.slot n).identity
    = (if (s.slot n).power.held = none then (s.slot n).identity
       else { (s.slot n).identity with
        peaks := (s.slot n).identity.pendingPeaks.getD (s.slot n).identity.peaks, pendingPeaks := none })
  state : (t.slot n).state = .recovering
  recovery : (t.slot n).recovery
    = { (s.slot n).recovery with
        lastReason := some r, resume := some (s.slot n).state, attempts := 1, wait := some (s.now + 10000) }
  events : (t.slot n).events = (s.slot n).events ||| SlotEvent.recovery.set
  inFlight : (t.slot n).traffic.inFlight = Vector.replicate 4 none
  injections : (t.slot n).traffic.injections = []
  reserved : (t.slot n).traffic.reserved = none
  held : (t.slot n).power.held = none
  spindle : (t.slot n).power.spindle = (s.slot n).power.spindle ∧ (t.slot n).power.chosen = (s.slot n).power.chosen
  responses : t.port.responses = s.port.responses ++ inFlightAnswers n (s.slot n) .recovery
  admission : t.power.queue = s.power.queue.filter (·.slot ≠ n)
  sent : t.sent = s.sent ++ [(n, .linkReset)]

theorem clearTable_slot_same (n : SlotId) (s : State) :
    ∃ a ≤ (s.slot n).power.allocation, (clearTable n s).slot n
      = { s.slot n with
          traffic := { (s.slot n).traffic with inFlight := Vector.replicate 4 none }
          power := { (s.slot n).power with allocation := a } } :=
  followFigure_slot_lowered n (fun x => { x with traffic.inFlight := Vector.replicate 4 none }) s

theorem beginEpisode_begun (n : SlotId) (r : RecoveryReason) (s : State) : Begun n r s (beginEpisode n r s) := by
  rw [beginEpisode_eq]
  unfold leaveForRecovery
  dsimp only
  have ha := slot_modSlot_same s n (fun x =>
    { x with recovery := { x.recovery with lastReason := some r, resume := some (s.slot n).state, attempts := 0 } })
  have hka := modSlot_keeps n (fun x =>
    { x with recovery := { x.recovery with lastReason := some r, resume := some (s.slot n).state, attempts := 0 } }) s
  generalize modSlot n (fun x =>
    { x with recovery := { x.recovery with lastReason := some r, resume := some (s.slot n).state, attempts := 0 } }) s = a at *
  have hrb := answerInFlight_responses n .recovery a
  have hb := answerInFlight_slot n .recovery a n
  have hkb := answerInFlight_keeps n .recovery a
  rw [inFlightAnswers_of_table (x := s.slot n) (by rw [ha])] at hrb
  generalize answerInFlight n .recovery a = b at *
  obtain ⟨al, -, hc⟩ := clearTable_slot_same n b
  have hkc := clearTable_keeps n b
  generalize clearTable n b = c at *
  obtain ⟨hkd, hsd, hid, hld⟩ := emptyInjections_spec n c
  generalize emptyInjections n c = d at *
  obtain ⟨hqe, he⟩ := dropAdmission_same n d
  have hke := dropAdmission_keeps n d
  generalize dropAdmission n d = e at *
  obtain ⟨v, hf⟩ := raiseSlot_slot n .recovery e
  have hkf := raiseSlot_keeps n .recovery e
  generalize raiseSlot n .recovery e = f at *
  have hg := setState_slot_same n .recovering f
  have hkg := setState_keeps n .recovering f
  have hlg := setState_lamps n .recovering f
  generalize setState n .recovering f = g at *
  have ht := beginAttempt_slot_same n g
  obtain ⟨hkt, hsent⟩ := beginAttempt_keeps n g
  generalize beginAttempt n g = t at *
  have hkac : KeepsBut [.slot n, .responses, .passDue] s c := (hka.mono (by simp)).trans ((hkb.mono (by simp)).trans (hkc.mono (by simp)))
  have hkad : KeepsBut [.slot n, .responses, .passDue] s d := hkac.trans (hkd.mono (by simp))
  have hkeg : KeepsBut [.slot n, .partSet, .noticeQueue] e g := hkf.trans (hkg.mono (by simp))
  have hket : KeepsBut [.slot n, .partSet, .noticeQueue, .sent] e t := (hkeg.mono (by simp)).trans (hkt.mono (by simp))
  have hkdt : KeepsBut [.slot n, .admission, .passDue, .partSet, .noticeQueue, .sent] d t :=
    (hke.mono (by simp)).trans (hket.mono (by simp))
  have hcs : c.slot n
      = { s.slot n with
          recovery := { (s.slot n).recovery with lastReason := some r, resume := some (s.slot n).state, attempts := 0 }
          traffic := { (s.slot n).traffic with inFlight := Vector.replicate 4 none }
          power := { (s.slot n).power with allocation := al } } := by rw [hc, hb, ha]
  have hgs : g.slot n
      = { d.slot n with
          state := .recovering
          traffic := { (d.slot n).traffic with reserved := none }
          events := (d.slot n).events ||| SlotEvent.recovery.set
          notice := v }.lampsOf (g.slot n) := by rw [hf, he] at hg; exact hg
  have hdrec : (d.slot n).recovery = _ := (hsd.same .recovery (by simp)).trans (congrArg Slot.recovery hcs)
  have hnow : g.now = s.now :=
    (hkeg.same .now (by simp)).trans ((hke.same .now (by simp)).trans (hkad.same .now (by simp)))
  have hslotd : SlotKeepsBut [.inFlight, .allocation, .recovery, .injections, .spindle, .identity] (s.slot n) (d.slot n) := by
    refine SlotKeepsBut.trans (y := c.slot n) ?_ (hsd.mono (by simp))
    rw [hcs]
    exact ⟨fun g hg => by clear * - hg; cases g <;> simp_all [slotSameIn]⟩
  have hslotg : SlotKeepsBut [.state, .lamps, .reserved, .events, .notice] (d.slot n) (g.slot n) := by
    rw [hgs]
    exact ⟨fun g hg => by clear * - hg; cases g <;> simp_all [slotSameIn, Slot.lampsOf]⟩
  have hslott : SlotKeepsBut [.recovery] (g.slot n) (t.slot n) := by
    rw [ht]
    exact ⟨fun g hg => by clear * - hg; cases g <;> simp_all [slotSameIn]⟩
  constructor
  · exact (hkad.mono (by simp)).trans (hkdt.mono (by simp))
  · exact (hslotd.mono (by simp)).trans ((hslotg.mono (by simp)).trans (hslott.mono (by simp)))
  · exact LampsCurrent.of_slot hkt hslott hlg (by simp) (by simp) (by simp) (by simp)
  · rw [ht, hgs]
    exact hld.identity.trans (by rw [hcs])
  · rw [ht, hgs]
    rfl
  · rw [ht, hgs, hnow]
    dsimp only [Slot.lampsOf]
    rw [hdrec]
  · rw [ht, hgs]
    exact congrArg (· ||| _) (hslotd.same .events (by simp) : (d.slot n).events = _)
  · rw [ht, hgs]
    exact (hsd.same .inFlight (by simp) : (d.slot n).traffic.inFlight = _).trans (by rw [hcs])
  · rw [ht, hgs]
    exact hid
  · rw [ht, hgs]
    rfl
  · rw [ht, hgs]
    exact hld.held
  · rw [ht, hgs]
    obtain ⟨h1, h2⟩ := hld.spindle
    exact ⟨h1.trans (by rw [hcs]), h2.trans (by rw [hcs])⟩
  · have hra : a.port.responses = s.port.responses := hka.same .responses (by simp)
    have hcb : c.port.responses = b.port.responses := hkc.same .responses (by simp)
    rw [(hkdt.same .responses (by simp) : t.port.responses = d.port.responses),
      (hkd.same .responses (by simp) : d.port.responses = c.port.responses), hcb, hrb, hra]
  · rw [(hket.same .admission (by simp) : t.power.queue = e.power.queue), hqe,
      (hkad.same .admission (by simp) : d.power.queue = s.power.queue)]
  · have hgsent : g.sent = s.sent :=
      (hkeg.same .sent (by simp)).trans ((hke.same .sent (by simp)).trans (hkad.same .sent (by simp)))
    rw [hsent, hgsent]

theorem startRecovery_of_none {n : SlotId} {s : State} (r : RecoveryReason) (h : (s.slot n).state.allowsRecovery = false) :
    startRecovery n r s = s := if_pos (by simp [h])

theorem startRecovery_of_limit {n : SlotId} {s : State} (r : RecoveryReason) (h : (s.slot n).state.allowsRecovery = true)
    (hl : 4 ≤ (s.slot n).recovery.episodes) : startRecovery n r s = takeQuarantine n .recoveryLimit s :=
  (if_neg (by simp [h])).trans (if_pos hl)

theorem startRecovery_of_begun {n : SlotId} {s : State} (r : RecoveryReason) (h : (s.slot n).state.allowsRecovery = true)
    (hl : (s.slot n).recovery.episodes < 4) : startRecovery n r s = beginEpisode n r s :=
  (if_neg (by simp [h])).trans (if_neg (by simpa [Config.episodeLimit] using hl))

/-! ### RECOVER -/

theorem enterGrading_reason (n : SlotId) (s : State) :
    ((enterGrading n s).slot n).grading.reason = (s.slot n).grading.reason :=
  (enterGrading_entered n s).slot.same .reason (by simp)

/-- In the states that allow a recovery a quarantine leaves the reason recorded first (R14). -/
theorem takeQuarantine_reason {n : SlotId} {s : State} (r : QuarantineReason) (h : (s.slot n).state.allowsRecovery = true) :
    ((takeQuarantine n r s).slot n).grading.reason = some ((s.slot n).grading.reason.getD r) := by
  cases hr : (s.slot n).grading.reason with
  | some q => rw [takeQuarantine_discarded r (.inr (.inr (by simp [hr]))), hr]; rfl
  | none =>
    have hg : takeQuarantine n r s = enterGrading n (recordReason n r s) := by
      have hm := (allowsRecovery_iff _).1 h
      simp only [List.mem_cons, List.not_mem_nil, or_false] at hm
      obtain hs | hs | hs | hs | hs := hm <;> rw [takeQuarantine_taken r (by simp [hs]) (by simp [hs]) hr, hs]
    obtain ⟨-, -, hrec, -⟩ := recordReason_spec n r s
    rw [hg, enterGrading_reason, hrec]
    rfl

theorem takesRecover_allows {st : SlotState} (h : takesRecover st = true) : st.allowsRecovery = true := by
  cases st <;> simp_all [takesRecover, SlotState.inTest, SlotState.allowsRecovery]

theorem recover_taken {q : QueuedRequest} {n : SlotId} {s : State} (h : takesRecover (s.slot n).state = true) :
    recover q n s
      = if 4 ≤ (s.slot n).recovery.episodes then
          (startRecovery n .serverRequest s).replied q .ok .none
            (.recoverLimit ((startRecovery n .serverRequest s).slot n).grading.reason ((startRecovery n .serverRequest s).slot n).state)
        else
          (startRecovery n .serverRequest s).replied q .ok .none
            (.recoverStarted ((startRecovery n .serverRequest s).slot n).state
              ((startRecovery n .serverRequest s).slot n).recovery.resume (s.slot n).recovery.episodes) := if_pos h

/-- Settles O38: what a recovery that falls due does, and RECOVER. -/
theorem recoveryEpisode : Obligations.RecoveryEpisode := by
  unfold Obligations.RecoveryEpisode
  refine ⟨fun n r s => ⟨fun h => startRecovery_of_none r ?_, fun h => ?_⟩, fun s q rest n hs ho hst => ?_⟩
  · rw [← Bool.not_eq_true]
    exact mt (allowsRecovery_iff _).1 h
  · have ha : (s.slot n).state.allowsRecovery = true := (allowsRecovery_iff _).2 h
    refine ⟨fun hl => startRecovery_of_limit r ha hl, fun hl => ?_⟩
    rw [startRecovery_of_begun r ha hl]
    have hb := beginEpisode_begun n r s
    exact ⟨hb.keeps, hb.slot, hb.lamps, hb.identity, hb.state, hb.recovery, hb.events, hb.inFlight, hb.injections, hb.reserved,
      hb.held, hb.spindle.1, hb.spindle.2, hb.responses, hb.admission, hb.sent⟩
  · have ht : takesRecover ((s.taken rest).slot n).state = true := by
      rw [taken_slot]
      rcases hst with h | h | h <;> rw [h] <;> rfl
    have ha := takesRecover_allows ht
    have he : exec .recover s = .next (finish (recover q n (s.taken rest))) :=
      congrArg Host.Outcome.next (serveKind_of_slot hs ho)
    rw [recover_taken ht] at he
    refine ⟨fun hl => ?_, fun hl => ?_⟩
    · rw [if_neg (by rw [taken_slot]; omega)] at he
      rw [he]
      have hb := startRecovery_of_begun .serverRequest ha (by rw [taken_slot]; exact hl)
      have hbegun := beginEpisode_begun n .serverRequest (s.taken rest)
      rw [hb, hbegun.state, hbegun.recovery, taken_slot]
    · rw [if_pos (by rw [taken_slot]; exact hl)] at he
      rw [he]
      have hb := startRecovery_of_limit .serverRequest ha (by rw [taken_slot]; exact hl)
      have hr := takeQuarantine_reason .recoveryLimit ha
      rw [taken_slot] at hr
      rw [hb, hr]

end Sys2Proof.Machine
end

section
/-! SUPPORT. Entering PARKING, the room tests, and the append (O42). -/

namespace Sys2Proof.Machine

/-! ### The listed command that can be sent is sent -/

theorem serveInjections_of_ready {n : SlotId} {s : State} {i : Injection} {rest : List Injection} {k : Fin 4}
    (hi : (s.slot n).traffic.injections = i :: rest) (hp : (s.slot n).lines.powered = true)
    (hf : (s.slot n).partInFlight = false) (hk : (s.slot n).freeEntry = some k) :
    serveInjections n s = sendInjection n k i s := by
  unfold serveInjections
  dsimp only
  rw [hi, hp, hf, hk]
  rfl

theorem partInFlight_congr {x y : Slot} (h : y.traffic.inFlight = x.traffic.inFlight) : y.partInFlight = x.partInFlight := by
  unfold Slot.partInFlight Slot.anyInFlight
  rw [h]

theorem spinDownInFlight_congr {x y : Slot} (h : y.traffic.inFlight = x.traffic.inFlight) :
    y.spinDownInFlight = x.spinDownInFlight := by
  unfold Slot.spinDownInFlight Slot.anyInFlight
  rw [h]

theorem grantedSpinUpInFlight_congr {x y : Slot} (h : y.traffic.inFlight = x.traffic.inFlight) :
    y.grantedSpinUpInFlight = x.grantedSpinUpInFlight := by
  unfold Slot.grantedSpinUpInFlight Slot.anyInFlight
  rw [h]

theorem freeEntry_congr {x y : Slot} (h : y.traffic.inFlight = x.traffic.inFlight)
    (hr : y.traffic.reserved = x.traffic.reserved) : y.freeEntry = x.freeEntry := by
  unfold Slot.freeEntry
  rw [h, hr]

/-! ### The parking SPIN_DOWN -/

/-- A SPIN_DOWN for the parking is listed, or was sent at this time (R18). -/
def ParkingDue (n : SlotId) (s t : State) : Prop :=
  (∃ i ∈ (t.slot n).traffic.injections, i.cls = .spinDown ∧ i.parking = true)
    ∨ ∃ k : Fin 4, ∃ e, (t.slot n).traffic.inFlight[k] = some e ∧ e.cls = .spinDown ∧ e.origin = .part ∧ e.start = s.now

/-- With nothing listed and the list servable, SPIN_DOWN is sent at once, in the lowest free entry (R18, R28). -/
def SentAtOnce (n : SlotId) (s t : State) : Prop :=
  ∀ k : Fin 4, (s.slot n).traffic.injections = [] → (s.slot n).partInFlight = false → (s.slot n).freeEntry = some k →
    (t.slot n).traffic.injections = [] ∧ t.sent = s.sent ++ [(n, .command 31 .spinDown [0x20])]
      ∧ (t.slot n).traffic.inFlight
          = (s.slot n).traffic.inFlight.set k
              (some ⟨31, .spinDown, .part, false, s.now, s.store.settings.spinDownTimeout * 1000, none, false⟩)

/-- SPIN_DOWN put in the list and the list served (R18). -/
structure ParkingServed (n : SlotId) (s t : State) : Prop where
  keeps : KeepsBut [.slot n, .passDue, .sent] s t
  slot : SlotKeepsBut [.injections, .spindle, .inFlight, .allocation] (s.slot n) (t.slot n)
  due : ParkingDue n s t
  atOnce : SentAtOnce n s t
  spindle : (s.slot n).traffic.injections = [] → (s.slot n).power.spindle ≠ .spinning →
    (t.slot n).power.spindle = (s.slot n).power.spindle
  spun : ∀ k : Fin 4, (s.slot n).traffic.injections = [] → (s.slot n).partInFlight = false → (s.slot n).freeEntry = some k →
    (s.slot n).power.spindle = .spinning → (t.slot n).power.spindle = .spinningDown
  length : (s.slot n).listed .spinDown = true →
    (t.slot n).traffic.injections.length ≤ (s.slot n).traffic.injections.length

/-- The parking's entry of the injection list. -/
def parkingInjection : Injection := { bareInjection .spinDown with parking := true }

theorem inject_length {n : SlotId} {s : State} {i : Injection} (h : (s.slot n).listed i.cls = true) :
    ((inject n i s).slot n).traffic.injections.length = (s.slot n).traffic.injections.length := by
  have h' : ((s.slot n).traffic.injections.any fun j => j.cls == i.cls) = true := h
  unfold inject
  rw [slot_modSlot_same]
  dsimp only
  rw [if_pos h', List.length_map]

theorem serveInjections_length (n : SlotId) (s : State) :
    ((serveInjections n s).slot n).traffic.injections.length ≤ (s.slot n).traffic.injections.length := by
  obtain ⟨h, -⟩ | ⟨j, -, k, -, -, -, -, h⟩ := serveInjections_cases n s
  · rw [h]
  · rw [h, (sendInjection_traffic n k j s).1]
    exact List.length_filter_le ..

theorem inject_others (n : SlotId) (i : Injection) (s : State) :
    ((inject n i s).slot n).traffic.inFlight = (s.slot n).traffic.inFlight
      ∧ ((inject n i s).slot n).traffic.reserved = (s.slot n).traffic.reserved
      ∧ ((inject n i s).slot n).power = (s.slot n).power ∧ ((inject n i s).slot n).lines = (s.slot n).lines := by
  unfold inject
  rw [slot_modSlot_same]
  exact ⟨rfl, rfl, rfl, rfl⟩

theorem parkingServed_of_inject {n : SlotId} {s : State} (hp : (s.slot n).lines.powered = true) :
    ParkingServed n s (serveInjections n (inject n parkingInjection s)) := by
  obtain ⟨hfl, hres, hpow, hlin⟩ := inject_others n parkingInjection s
  obtain ⟨j, hj, hjc, -, hjp, -⟩ := inject_mem n parkingInjection s
  have hemp : (s.slot n).traffic.injections = [] → ((inject n parkingInjection s).slot n).traffic.injections = [parkingInjection] :=
    fun h => inject_injections_empty h _
  have hlen : (s.slot n).listed .spinDown = true → _ := fun h => inject_length (i := parkingInjection) h
  have hki := inject_keeps n parkingInjection s
  have hsi := inject_slot n parkingInjection s
  have hnow : (inject n parkingInjection s).now = s.now := rfl
  generalize inject n parkingInjection s = u at *
  have hready : ∀ k : Fin 4, (s.slot n).traffic.injections = [] → (s.slot n).partInFlight = false →
      (s.slot n).freeEntry = some k → serveInjections n u = sendInjection n k parkingInjection u := fun k h1 h2 h3 =>
    serveInjections_of_ready (hemp h1) (by rw [hlin, hp]) ((partInFlight_congr hfl).trans h2) ((freeEntry_congr hfl hres).trans h3)
  constructor
  · exact (hki.mono (by simp)).trans ((serveInjections_keeps ..).mono (by simp))
  · exact (hsi.mono (by simp)).trans ((serveInjections_slot ..).mono (by simp))
  · obtain h | ⟨i, -, k, hc, hk⟩ := serveInjections_listed hj
    · exact .inl ⟨j, h, hjc, hjp rfl⟩
    · exact .inr ⟨k, _, hk, hc.trans hjc, rfl, hnow⟩
  · intro k h1 h2 h3
    obtain ⟨ht, -, hsent⟩ := sendInjection_traffic n k parkingInjection u
    rw [hready k h1 h2 h3, hsent, ht]
    refine ⟨?_, ?_, ?_⟩
    · dsimp only
      rw [hemp h1]
      rfl
    · rw [(hki.same .sent (by simp) : u.sent = s.sent)]
      rfl
    · have hset : u.store.settings = s.store.settings := hki.same .settings (by simp)
      dsimp only [sentEntry]
      rw [hfl, hnow, show parkingInjection.cls = .spinDown from rfl]
      dsimp only [classTimeout]
      rw [hset]
      rfl
  · intro h1 h2
    obtain ⟨he, -⟩ | ⟨i, rest, k, hi, -, -, -, he⟩ := serveInjections_cases n u
    · rw [he, hpow]
    · rw [hemp h1] at hi
      obtain ⟨rfl, -⟩ := List.cons.inj hi
      rw [he, (sendInjection_traffic n k parkingInjection u).2.1, hpow]
      exact if_neg h2
  · intro k h1 h2 h3 h4
    rw [hready k h1 h2 h3, (sendInjection_traffic n k parkingInjection u).2.1, hpow, h4]
    rfl
  · intro h
    exact (serveInjections_length n u).trans (hlen h).le

/-! ### Entering PARKING -/

/-- The record as PARKING with power ON finds it (R18): its state, its lamps and its park timer. -/
def parkStarted (n : SlotId) (s : State) : State :=
  modSlot n (fun x => { x with lines.park := some ((setState n .parking s).now + Config.parkMs) }) (setState n .parking s)

theorem enterParking_of_off {n : SlotId} {s : State} (h : (s.slot n).lines.powered = false) :
    enterParking n s = startRundown n (setState n .parking s) :=
  if_pos (((setState_slot n .parking s).same .power (by simp)).trans h)

theorem parkStarted_spec (n : SlotId) (s : State) :
    KeepsBut [.slot n] s (parkStarted n s) ∧ SlotKeepsBut [.state, .lamps, .park] (s.slot n) ((parkStarted n s).slot n)
      ∧ ((parkStarted n s).slot n).state = .parking ∧ ((parkStarted n s).slot n).lines.park = some (s.now + 30000)
      ∧ ((parkStarted n s).slot n).traffic = (s.slot n).traffic ∧ ((parkStarted n s).slot n).power = (s.slot n).power
      ∧ ((parkStarted n s).slot n).identity = (s.slot n).identity
      ∧ LampsCurrent (parkStarted n s) n := by
  have hsl := setState_slot n .parking s
  have hs := setState_slot_same n .parking s
  have hk := setState_keeps n .parking s
  have hl := setState_lamps n .parking s
  have hst := setState_slot_state n .parking s
  have hnow : (setState n .parking s).now = s.now := rfl
  unfold parkStarted
  rw [hnow]
  generalize setState n .parking s = a at *
  have hm := slot_modSlot_same a n (fun x => { x with lines.park := some (s.now + Config.parkMs) })
  have hkm := modSlot_keeps n (fun x => { x with lines.park := some (s.now + Config.parkMs) }) a
  generalize modSlot n (fun x => { x with lines.park := some (s.now + Config.parkMs) }) a = b at *
  have hab : SlotKeepsBut [.park] (a.slot n) (b.slot n) := by
    rw [hm]
    exact ⟨fun g hg => by clear * - hg; cases g <;> simp_all [slotSameIn]⟩
  refine ⟨hk.trans hkm, (hsl.mono (by simp)).trans (hab.mono (by simp)), by rw [hm]; exact hst, by rw [hm]; rfl, ?_, ?_, ?_,
    LampsCurrent.of_slot hkm hab hl (by simp) (by simp) (by simp) (by simp)⟩
  · rw [hm, hs]; rfl
  · rw [hm, hs]; rfl
  · rw [hm, hs]; rfl

theorem enterParking_of_on {n : SlotId} {s : State} (h : (s.slot n).lines.powered = true) :
    enterParking n s
      = match (s.slot n).power.spindle with
        | .stopped => spinDownEnd n (parkStarted n s)
        | .spinning | .spinningDown => serveInjections n (injectParking n (parkStarted n s))
        | .spinningUp =>
          if (s.slot n).grantedSpinUpInFlight then parkStarted n s
          else serveInjections n (injectParking n (parkStarted n s)) := by
  obtain ⟨-, -, -, -, ht, hp, -⟩ := parkStarted_spec n s
  rw [← hp, ← grantedSpinUpInFlight_congr (congrArg (·.inFlight) ht)]
  exact if_neg (by rw [(setState_slot n .parking s).same .power (by simp), h]; simp)

theorem injectParking_of_waits {n : SlotId} {s : State} (h : (s.slot n).spinDownInFlight = true)
    (hs : (s.slot n).power.spindle ≠ .spinning) : injectParking n s = s := if_pos (by simp [h, hs])

theorem injectParking_of_injects {n : SlotId} {s : State}
    (h : (s.slot n).spinDownInFlight = false ∨ (s.slot n).power.spindle = .spinning) :
    injectParking n s = inject n parkingInjection s := if_neg (by obtain h | h := h <;> simp [h])

/-- What entering PARKING leaves of the record in every case. -/
structure Parked (n : SlotId) (s t : State) : Prop where
  keeps : KeepsBut [.slot n, .passDue, .sent] s t
  slot : SlotKeepsBut
    [.state, .lamps, .power, .rundown, .park, .allocation, .spindle, .inFlight, .injections, .identity, .tallies, .idle]
    (s.slot n) (t.slot n)
  lamps : LampsCurrent t n
  record : (t.slot n).identity.record = (s.slot n).identity.record
  counters : (t.slot n).tallies.counters = (s.slot n).tallies.counters

theorem powerOff_record (n : SlotId) (s : State) :
    ((powerOff n s).slot n).identity.record = (s.slot n).identity.record
      ∧ ((powerOff n s).slot n).tallies.counters = (s.slot n).tallies.counters := by
  unfold powerOff applyPending
  rw [setAllocation_slot_same, slot_modSlot_same]
  dsimp only
  split <;> exact ⟨rfl, rfl⟩

theorem spinDownEnd_record (n : SlotId) (s : State) :
    ((spinDownEnd n s).slot n).identity.record = (s.slot n).identity.record
      ∧ ((spinDownEnd n s).slot n).tallies.counters = (s.slot n).tallies.counters := by
  unfold spinDownEnd
  have h := slot_modSlot_same s n (fun x => { x with lines.park := none })
  generalize modSlot n (fun x => { x with lines.park := none }) s = a at *
  obtain ⟨h1, h2⟩ := powerOff_record n a
  generalize powerOff n a = b at *
  rw [startRundown_slot_same, h1, h2, h]
  exact ⟨rfl, rfl⟩

/-- What a step within PARKING leaves makes a slot parked. -/
theorem parked_of_started {n : SlotId} {s t : State} (hk : KeepsBut [.slot n, .passDue, .sent] (parkStarted n s) t)
    (hs : SlotKeepsBut [.power, .rundown, .park, .allocation, .spindle, .inFlight, .injections, .identity, .tallies, .idle]
      ((parkStarted n s).slot n) (t.slot n))
    (hr : (t.slot n).identity.record = ((parkStarted n s).slot n).identity.record)
    (hc : (t.slot n).tallies.counters = ((parkStarted n s).slot n).tallies.counters) : Parked n s t := by
  obtain ⟨hk0, hs0, -, -, -, -, hi, hl⟩ := parkStarted_spec n s
  have ht : ((parkStarted n s).slot n).tallies = (s.slot n).tallies := hs0.same .tallies (by simp)
  generalize parkStarted n s = p at *
  exact ⟨(hk0.mono (by simp)).trans hk, (hs0.mono (by simp)).trans (hs.mono (by simp)),
    LampsCurrent.of_slot hk hs hl (by simp) (by simp) (by simp) (by simp), hr.trans (by rw [hi]), hc.trans (by rw [ht])⟩

theorem parked_of_quiet {n : SlotId} {s t : State} (hk : KeepsBut [.slot n, .passDue, .sent] (parkStarted n s) t)
    (hs : SlotKeepsBut [.injections, .spindle, .inFlight, .allocation] ((parkStarted n s).slot n) (t.slot n)) : Parked n s t :=
  parked_of_started hk (hs.mono (by simp)) (hs.same .identity (by simp)).1
    (congrArg (·.counters) (hs.same .tallies (by simp) : (t.slot n).tallies = _))

theorem served_slot (n : SlotId) (s : State) :
    KeepsBut [.slot n, .passDue, .sent] s (serveInjections n (injectParking n s))
      ∧ SlotKeepsBut [.injections, .spindle, .inFlight, .allocation] (s.slot n) ((serveInjections n (injectParking n s)).slot n) := by
  have hk := injectParking_keeps n s
  have hs : SlotKeepsBut [.injections] (s.slot n) ((injectParking n s).slot n) := by
    unfold injectParking
    split
    · exact .refl ..
    · exact inject_slot ..
  generalize injectParking n s = u at *
  exact ⟨(hk.mono (by simp)).trans ((serveInjections_keeps ..).mono (by simp)),
    (hs.mono (by simp)).trans ((serveInjections_slot ..).mono (by simp))⟩

theorem enterParking_parked (n : SlotId) (s : State) : Parked n s (enterParking n s) := by
  cases hp : (s.slot n).lines.powered
  · rw [enterParking_of_off hp]
    have hs := setState_slot_same n .parking s
    have hk := setState_keeps n .parking s
    have hl := setState_lamps n .parking s
    have hss := setState_slot n .parking s
    generalize setState n .parking s = a at *
    have hr := startRundown_slot n a
    have hrs := startRundown_slot_same n a
    have hrk := startRundown_keeps n a
    generalize startRundown n a = t at *
    refine ⟨(hk.mono (by simp)).trans (hrk.mono (by simp)), (hss.mono (by simp)).trans (hr.mono (by simp)),
      LampsCurrent.of_slot hrk hr hl (by simp) (by simp) (by simp) (by simp), ?_, ?_⟩
    · rw [hrs, hs]; rfl
    · rw [hrs, hs]; rfl
  · rw [enterParking_of_on hp]
    have hserve := served_slot n (parkStarted n s)
    split
    · have he := spinDownEnd_spunDown n (parkStarted n s)
      obtain ⟨h1, h2⟩ := spinDownEnd_record n (parkStarted n s)
      exact parked_of_started (he.keeps.mono (by simp)) (he.slot.mono (by simp)) h1 h2
    · exact parked_of_quiet hserve.1 hserve.2
    · exact parked_of_quiet hserve.1 hserve.2
    · split
      · exact parked_of_quiet (.refl ..) (.refl ..)
      · exact parked_of_quiet hserve.1 hserve.2

/-! ### The entry into PARKING, case by case -/

/-- The cases of the entry into PARKING with power ON and the spindle not STOPPED (R18). -/
structure ParkRuns (n : SlotId) (s t : State) : Prop where
  powered : (t.slot n).lines.powered = true
  park : (t.slot n).lines.park = some (s.now + 30000)
  rundown : (t.slot n).lines.rundown = (s.slot n).lines.rundown

/-- SPIN_DOWN asked for, as the record before PARKING has it. -/
theorem parkingServed_of_started {n : SlotId} {s t : State} (h : ParkingServed n (parkStarted n s) t) :
    ParkingDue n s t ∧ SentAtOnce n s t
      ∧ ((s.slot n).traffic.injections = [] → (s.slot n).power.spindle ≠ .spinning →
          (t.slot n).power.spindle = (s.slot n).power.spindle)
      ∧ (∀ k : Fin 4, (s.slot n).traffic.injections = [] → (s.slot n).partInFlight = false → (s.slot n).freeEntry = some k →
          (s.slot n).power.spindle = .spinning → (t.slot n).power.spindle = .spinningDown)
      ∧ ((s.slot n).listed .spinDown = true →
          (t.slot n).traffic.injections.length ≤ (s.slot n).traffic.injections.length) := by
  obtain ⟨hk, -, -, -, ht, hp, -, -⟩ := parkStarted_spec n s
  have hdue := h.due
  have honce := h.atOnce
  have hspin := h.spindle
  have hspun := h.spun
  have hlen := h.length
  have hnow : (parkStarted n s).now = s.now := hk.same .now (by simp)
  have hsent : (parkStarted n s).sent = s.sent := hk.same .sent (by simp)
  have hset : (parkStarted n s).store.settings = s.store.settings := hk.same .settings (by simp)
  unfold ParkingDue at *
  unfold SentAtOnce at *
  have hpf : ((parkStarted n s).slot n).partInFlight = (s.slot n).partInFlight := partInFlight_congr (by rw [ht])
  have hfe : ((parkStarted n s).slot n).freeEntry = (s.slot n).freeEntry := freeEntry_congr (by rw [ht]) (by rw [ht])
  have hli : ((parkStarted n s).slot n).listed .spinDown = (s.slot n).listed .spinDown := by
    unfold Slot.listed
    rw [ht]
  rw [hnow] at hdue
  rw [hpf, hfe, ht, hnow, hsent, hset] at honce
  rw [ht, hp] at hspin
  rw [ht, hpf, hfe, hp] at hspun
  rw [hli, ht] at hlen
  exact ⟨hdue, honce, hspin, hspun, hlen⟩

theorem parkRuns_of_quiet {n : SlotId} {s t : State} (hp : (s.slot n).lines.powered = true)
    (hs : SlotKeepsBut [.injections, .spindle, .inFlight, .allocation] ((parkStarted n s).slot n) (t.slot n)) :
    ParkRuns n s t := by
  obtain ⟨-, hs0, -, hpark, -⟩ := parkStarted_spec n s
  exact ⟨(hs.same .power (by simp)).trans ((hs0.same .power (by simp)).trans hp),
    (hs.same .park (by simp)).1.trans hpark, (hs.same .rundown (by simp)).trans (hs0.same .rundown (by simp))⟩

theorem enterParking_off {n : SlotId} {s : State} (hp : (s.slot n).lines.powered = false) :
    KeepsBut [.slot n] s (enterParking n s)
      ∧ SlotKeepsBut [.state, .lamps, .rundown] (s.slot n) ((enterParking n s).slot n)
      ∧ ((enterParking n s).slot n).lines.rundown = .running (s.now + rundownMs s (s.slot n)) := by
  rw [enterParking_of_off hp]
  have hs := setState_slot n .parking s
  have hk := setState_keeps n .parking s
  have hm : ((setState n .parking s).slot n).identity = (s.slot n).identity := by rw [setState_slot_same]; rfl
  generalize setState n .parking s = a at *
  have hr : rundownMs a (a.slot n) = rundownMs s (s.slot n) :=
    rundownMs_congr (hk.same .models (by simp)) (hk.same .settings (by simp)) (by rw [hm])
  have hn : a.now = s.now := hk.same .now (by simp)
  have ht := startRundown_slot_same n a
  have hts := startRundown_slot n a
  have htk := startRundown_keeps n a
  generalize startRundown n a = t at *
  refine ⟨hk.trans htk, (hs.mono (by simp)).trans (hts.mono (by simp)), ?_⟩
  rw [ht, hr, hn]

theorem enterParking_stopped {n : SlotId} {s : State} (hp : (s.slot n).lines.powered = true)
    (hsp : (s.slot n).power.spindle = .stopped) :
    KeepsBut [.slot n, .passDue] s (enterParking n s)
      ∧ ((enterParking n s).slot n).lines.rundown = .running (s.now + rundownMs s (s.slot n))
      ∧ SlotKeepsBut
          [.state, .lamps, .power, .rundown, .park, .allocation, .spindle, .injections, .identity, .tallies, .idle]
          (s.slot n) ((enterParking n s).slot n)
      ∧ PoweredOff ((enterParking n s).slot n) ∧ ((enterParking n s).slot n).lines.park = none
      ∧ (0 < (s.slot n).power.allocation → (enterParking n s).power.passDue = true) := by
  rw [enterParking_of_on hp, hsp]
  dsimp only
  obtain ⟨hk, hs, -, -, -, hpow, hi, -⟩ := parkStarted_spec n s
  generalize parkStarted n s = a at *
  have hr : rundownMs a (a.slot n) = rundownMs s (s.slot n) :=
    rundownMs_congr (hk.same .models (by simp)) (hk.same .settings (by simp)) (by rw [hi])
  have hn : a.now = s.now := hk.same .now (by simp)
  have he := spinDownEnd_spunDown n a
  generalize spinDownEnd n a = t at *
  refine ⟨(hk.mono (by simp)).trans he.keeps, by rw [he.rundown, hr, hn], (hs.mono (by simp)).trans (he.slot.mono (by simp)),
    he.off, he.park, fun ha => he.passDue (by rw [hpow]; exact ha)⟩

/-- The spindle turns, and no granted SPIN_UP is in flight: SPIN_DOWN falls due (R18). -/
theorem enterParking_serves {n : SlotId} {s : State} (hp : (s.slot n).lines.powered = true)
    (hsp : (s.slot n).power.spindle = .spinning ∨ (s.slot n).power.spindle = .spinningDown
      ∨ (s.slot n).power.spindle = .spinningUp ∧ (s.slot n).grantedSpinUpInFlight = false) :
    enterParking n s = serveInjections n (injectParking n (parkStarted n s)) := by
  rw [enterParking_of_on hp]
  obtain h | h | ⟨h, hg⟩ := hsp <;> rw [h]
  simp only [hg, Bool.false_eq_true, if_false]

theorem enterParking_injects {n : SlotId} {s : State} (hp : (s.slot n).lines.powered = true)
    (hsp : (s.slot n).power.spindle = .spinning ∨ (s.slot n).spinDownInFlight = false
      ∧ ((s.slot n).power.spindle = .spinningDown
        ∨ (s.slot n).power.spindle = .spinningUp ∧ (s.slot n).grantedSpinUpInFlight = false)) :
    ParkingServed n (parkStarted n s) (enterParking n s) := by
  obtain ⟨-, hs0, -, -, ht, hpow, -, -⟩ := parkStarted_spec n s
  rw [enterParking_serves hp (hsp.imp id fun h => h.2), injectParking_of_injects]
  · exact parkingServed_of_inject ((hs0.same .power (by simp)).trans hp)
  · rw [hpow, spinDownInFlight_congr (congrArg (·.inFlight) ht)]
    exact hsp.symm.imp (fun h => h.1) id

/-- A SPIN_DOWN in flight is waited on (R18). -/
theorem enterParking_waits {n : SlotId} {s : State} (hp : (s.slot n).lines.powered = true)
    (hsp : (s.slot n).power.spindle = .spinningDown
        ∨ (s.slot n).power.spindle = .spinningUp ∧ (s.slot n).grantedSpinUpInFlight = false)
    (hd : (s.slot n).spinDownInFlight = true) :
    enterParking n s = serveInjections n (parkStarted n s) := by
  obtain ⟨-, -, -, -, ht, hpow, -, -⟩ := parkStarted_spec n s
  rw [enterParking_serves hp (.inr hsp), injectParking_of_waits]
  · rw [spinDownInFlight_congr (congrArg (·.inFlight) ht)]
    exact hd
  · rw [hpow]
    obtain h | ⟨h, -⟩ := hsp <;> simp [h]

theorem enterParking_runs {n : SlotId} {s : State} (hp : (s.slot n).lines.powered = true)
    (hsp : (s.slot n).power.spindle ≠ .stopped) : ParkRuns n s (enterParking n s) := by
  have hserve := served_slot n (parkStarted n s)
  rw [enterParking_of_on hp]
  split
  · exact absurd ‹_› hsp
  · exact parkRuns_of_quiet hp hserve.2
  · exact parkRuns_of_quiet hp hserve.2
  · split
    · exact parkRuns_of_quiet hp (.refl ..)
    · exact parkRuns_of_quiet hp hserve.2

/-- The third part of O42: the entry into PARKING. -/
theorem enterParking_entry (n : SlotId) (s : State) :
    let x := s.slot n
    let t := enterParking n s
    let y := t.slot n
    let ends := y.lines.rundown = .running (s.now + rundownMs s x)
    y.state = .parking ∧ LampsCurrent t n ∧ KeepsBut [.slot n, .passDue, .sent] s t
      ∧ (x.lines.powered = false →
          KeepsBut [.slot n] s t ∧ SlotKeepsBut [.state, .lamps, .rundown] x y ∧ ends)
      ∧ (x.lines.powered = true → x.power.spindle = .stopped →
          KeepsBut [.slot n, .passDue] s t ∧ ends
            ∧ SlotKeepsBut
                [.state, .lamps, .power, .rundown, .park, .allocation, .spindle, .injections, .identity, .tallies, .idle] x y
            ∧ y.lines.powered = false ∧ y.lines.park = none ∧ y.power.allocation = 0 ∧ y.power.spindle = .stopped
            ∧ y.power.chosen = none ∧ y.power.held = none ∧ y.traffic.injections = []
            ∧ (0 < x.power.allocation → t.power.passDue = true))
      ∧ (x.lines.powered = true → x.power.spindle ≠ .stopped →
          y.lines.powered = true ∧ y.lines.park = some (s.now + 30000) ∧ y.lines.rundown = x.lines.rundown
            ∧ (x.power.spindle = .spinning →
                ParkingDue n s t ∧ SentAtOnce n s t
                  ∧ ∀ k : Fin 4, x.traffic.injections = [] → x.partInFlight = false → x.freeEntry = some k →
                      y.power.spindle = .spinningDown)
            ∧ (x.power.spindle = .spinningDown ∨ x.power.spindle = .spinningUp ∧ x.grantedSpinUpInFlight = false →
                (x.spinDownInFlight = true →
                    (∀ i ∈ y.traffic.injections, i ∈ x.traffic.injections)
                      ∧ (x.traffic.injections = [] → KeepsBut [.slot n] s t ∧ SlotKeepsBut [.state, .lamps, .park] x y))
                  ∧ (x.spinDownInFlight = false →
                      ParkingDue n s t ∧ SentAtOnce n s t ∧ (x.traffic.injections = [] → y.power.spindle = x.power.spindle)
                        ∧ (x.listed .spinDown = true → y.traffic.injections.length ≤ x.traffic.injections.length)))
            ∧ (x.power.spindle = .spinningUp → x.grantedSpinUpInFlight = true →
                KeepsBut [.slot n] s t ∧ SlotKeepsBut [.state, .lamps, .park] x y)) := by
  have hparked := enterParking_parked n s
  obtain ⟨hk0, hs0, -, -, ht0, -, -, -⟩ := parkStarted_spec n s
  refine ⟨enterParking_state n s, hparked.lamps, hparked.keeps, enterParking_off, fun hp hsp => ?_, fun hp hsp => ?_⟩
  · obtain ⟨h1, h2, h3, h4, h5, h6⟩ := enterParking_stopped hp hsp
    exact ⟨h1, h2, h3, h4.powered, h5, h4.allocation, h4.spindle, h4.chosen, h4.held, h4.injections, h6⟩
  · obtain ⟨h1, h2, h3⟩ := enterParking_runs hp hsp
    refine ⟨h1, h2, h3, fun hs => ?_, fun hs => ⟨fun hd => ?_, fun hd => ?_⟩, fun hs hg => ?_⟩
    · obtain ⟨hdue, honce, -, hspun, -⟩ := parkingServed_of_started (enterParking_injects hp (.inl hs))
      exact ⟨hdue, honce, fun k a b c => hspun k a b c hs⟩
    · rw [enterParking_waits hp hs hd]
      refine ⟨fun i hi => ?_, fun he => ?_⟩
      · have := serveInjections_subset n _ i hi
        rwa [ht0] at this
      · rw [serveInjections_of_quiet (.inl (by rw [ht0]; exact he))]
        exact ⟨hk0, hs0⟩
    · obtain ⟨hdue, honce, hspin, -, hlen⟩ := parkingServed_of_started (enterParking_injects hp (.inr ⟨hd, hs⟩))
      exact ⟨hdue, honce, fun he => hspin he (by obtain h | ⟨h, -⟩ := hs <;> simp [h]), hlen⟩
    · rw [enterParking_of_on hp, hs]
      simp only [hg, if_true]
      exact ⟨hk0, hs0⟩

/-! ### The room tests and the append -/

/-- What an append gives back to a bin, and what it takes of it (R142, R145). -/
theorem givesBack_bin {s : State} {o : ManifestEntry} {set : Fin 4} {p : Fin 8} (hs : o.binSet = set) (hp : o.position = p) :
    givesBack s o = true ↔ o.generation = (s.bin set p).generation ∧ 0 < (s.bin set p).fill := by
  subst hs hp
  unfold givesBack
  dsimp only
  rw [Bool.and_eq_true, beq_iff_eq, decide_eq_true_eq]
  exact and_congr_left' eq_comm

/-- The place that a regrade gives back to the bin that it is to be put in (R142). -/
theorem binRoom_iff (s : State) (set : Fin 4) (p : Fin 8) (old : Option ManifestEntry) (back : Nat)
    (hb : (∃ o, old = some o ∧ o.binSet = set ∧ o.position = p ∧ o.generation = (s.bin set p).generation ∧ 0 < (s.bin set p).fill)
      → back = 1)
    (hn : ¬ (∃ o, old = some o ∧ o.binSet = set ∧ o.position = p ∧ o.generation = (s.bin set p).generation ∧ 0 < (s.bin set p).fill)
      → back = 0) :
    binRoom s set p old = true ↔ (s.bin set p).fill - back < (s.bin set p).capacity := by
  unfold binRoom
  dsimp only
  rw [decide_eq_true_eq]
  cases old with
  | none => rw [hn (by rintro ⟨o, h, -⟩; cases h)]
  | some o =>
    dsimp only
    split
    · next h =>
      obtain ⟨h1, h2, h3⟩ := h
      rw [hb ⟨o, rfl, h1, h2, (givesBack_bin h1 h2).1 h3⟩]
    · next h =>
      rw [hn]
      rintro ⟨o', ho, h1, h2, h3⟩
      cases ho
      exact h ⟨h1, h2, (givesBack_bin h1 h2).2 h3⟩

theorem manifestRoom_iff (s : State) (old : Option ManifestEntry) :
    manifestRoom s old = true ↔ (s.sort.manifest.length < 64 ∨ old ≠ none) ∧ s.sort.next ≤ 4294967295 := by
  unfold manifestRoom
  rw [Bool.and_eq_true, Bool.or_eq_true, decide_eq_true_eq, decide_eq_true_eq, Option.isSome_iff_ne_none]
  rfl

theorem sortOutcome_eq (s : State) (n : SlotId) (set : Fin 4) (p : Fin 8) :
    sortOutcome s n set p
      = if ¬ binRoom s set p (entryWithSerial s ((s.slot n).identity.record.map (·.serial))) = true then .waits .binFull
        else if ¬ manifestRoom s (entryWithSerial s ((s.slot n).identity.record.map (·.serial))) = true then .waits .manifestFull
        else .made (entryWithSerial s ((s.slot n).identity.record.map (·.serial))).isSome := by
  simp [sortOutcome, serialOf]

theorem sortOutcome_room (s : State) (n : SlotId) (set : Fin 4) (p : Fin 8) (back : Nat)
    (hb : (∃ o, entryWithSerial s ((s.slot n).identity.record.map (·.serial)) = some o ∧ o.binSet = set ∧ o.position = p
        ∧ o.generation = (s.bin set p).generation ∧ 0 < (s.bin set p).fill) → back = 1)
    (hn : ¬ (∃ o, entryWithSerial s ((s.slot n).identity.record.map (·.serial)) = some o ∧ o.binSet = set ∧ o.position = p
        ∧ o.generation = (s.bin set p).generation ∧ 0 < (s.bin set p).fill) → back = 0) :
    let old := entryWithSerial s ((s.slot n).identity.record.map (·.serial))
    let manifest := (s.sort.manifest.length < 64 ∨ old ≠ none) ∧ s.sort.next ≤ 4294967295
    ((s.bin set p).capacity ≤ (s.bin set p).fill - back → sortOutcome s n set p = .waits .binFull)
      ∧ ((s.bin set p).fill - back < (s.bin set p).capacity → ¬manifest → sortOutcome s n set p = .waits .manifestFull)
      ∧ ((s.bin set p).fill - back < (s.bin set p).capacity → manifest → sortOutcome s n set p = .made old.isSome) := by
  have hroom := binRoom_iff s set p _ back hb hn
  have hman := manifestRoom_iff s (entryWithSerial s ((s.slot n).identity.record.map (·.serial)))
  dsimp only
  rw [sortOutcome_eq, ← hman, ← hroom]
  refine ⟨fun h => if_pos fun hr => ?_, fun h hm => ?_, fun h hm => ?_⟩
  · have := hroom.1 hr
    omega
  · rw [if_neg (not_not.2 h), if_pos hm]
  · rw [if_neg (not_not.2 h), if_neg (not_not.2 hm)]

/-- What an append writes, before the slot enters PARKING (R143, R144, R145). -/
structure AppendedEntry (n : SlotId) (g : GradeInputs) (set : Fin 4) (p : Fin 8) (old : Option ManifestEntry) (s : State)
    (e : ManifestEntry) : Prop where
  sequence : e.sequence = s.sort.next
  slot : e.slot = n
  serial : e.serial = (s.slot n).identity.record.map (·.serial)
  model : e.model = (s.slot n).identity.model
  place : e.binSet = set ∧ e.position = p
  generation : e.generation = (s.bin set p).generation
  grade : e.score = g.score ∧ e.forced = g.forced ∧ e.regraded = old.isSome
  flags : e.fwMismatch = g.fwMismatch ∧ e.shed = decide (1 ≤ g.shed) ∧ e.finalIdMissing = g.finalIdMissing
  reason : e.reason = if g.forced then g.reason else none

/-- The old entry of a regrade removed (R144, R145). -/
def withoutOld (old : Option ManifestEntry) (s : State) : State :=
  match old with
  | none => s
  | some o => removeOld o s

theorem withoutOld_eq (old : Option ManifestEntry) (s : State) :
    ∃ bins, withoutOld old s
      = { s with sort := { s.sort with bins := bins
                                       manifest := s.sort.manifest.filter fun o => ∀ x ∈ old, o.sequence ≠ x.sequence } } := by
  cases old with
  | none => exact ⟨s.sort.bins, by simp [withoutOld]⟩
  | some o =>
    obtain ⟨bins, h⟩ := removeOld_eq o s
    refine ⟨bins, h.trans ?_⟩
    simp [bne, beq_eq_decide]

theorem withoutOld_bin (old : Option ManifestEntry) (s : State) (b : Fin 4) (q : Fin 8) (back : Nat)
    (hb : (∃ o, old = some o ∧ o.binSet = b ∧ o.position = q ∧ o.generation = (s.bin b q).generation) → back = 1)
    (hn : ¬ (∃ o, old = some o ∧ o.binSet = b ∧ o.position = q ∧ o.generation = (s.bin b q).generation) → back = 0) :
    (withoutOld old s).bin b q = { s.bin b q with fill := (s.bin b q).fill - back } := by
  cases old with
  | none => rw [hn (by rintro ⟨o, h, -⟩; cases h)]; rfl
  | some o =>
    refine (bin_removeOld o s b q).trans ?_
    split
    · next h =>
      obtain ⟨h1, h2, h3⟩ := h
      rw [hb ⟨o, rfl, h1, h2, ((givesBack_bin h1 h2).1 h3).1⟩]
    · next h =>
      by_cases hg : o.binSet = b ∧ o.position = q ∧ o.generation = (s.bin b q).generation
      · obtain ⟨h1, h2, h3⟩ := hg
        have hz : (s.bin b q).fill = 0 := by
          by_contra hc
          exact h ⟨h1, h2, (givesBack_bin h1 h2).2 ⟨h3, Nat.pos_of_ne_zero hc⟩⟩
        rw [hz, Nat.zero_sub, ← hz]
      · rw [hn (by rintro ⟨o', ho, h'⟩; cases ho; exact hg h')]
        rfl

/-- The manifest, the bins and the waiting list after an append (R142 to R145). -/
theorem appended_spec (n : SlotId) (g : GradeInputs) (set : Fin 4) (p : Fin 8) (old : Option ManifestEntry) (s : State) :
    KeepsBut [.bins, .manifest, .waiting] s (appended n g set p old s)
      ∧ (appended n g set p old s).sort.next = s.sort.next + 1
      ∧ (appended n g set p old s).sort.waiting = s.sort.waiting.filter (·.slot ≠ n)
      ∧ (∃ e, (appended n g set p old s).sort.manifest
            = s.sort.manifest.filter (fun o => ∀ x ∈ old, o.sequence ≠ x.sequence) ++ [e]
          ∧ AppendedEntry n g set p old s e)
      ∧ ∀ b q, (appended n g set p old s).bin b q
          = { (withoutOld old s).bin b q with
              fill := ((withoutOld old s).bin b q).fill + if b = set ∧ q = p then 1 else 0 } := by
  have hgen : ((withoutOld old s).bin set p).generation = (s.bin set p).generation := by
    cases old with
    | none => rfl
    | some o =>
      refine (congrArg Bin.generation (bin_removeOld o s set p)).trans ?_
      split <;> rfl
  obtain ⟨bins, hw⟩ := withoutOld_eq old s
  have hbin : ∀ b q, (appended n g set p old s).bin b q = _ := fun b q => bin_setFill set b p q (· + 1) (withoutOld old s)
  have happ : appended n g set p old s
      = { setFill set p (· + 1) (withoutOld old s) with
          sort := { (setFill set p (· + 1) (withoutOld old s)).sort with
            manifest := (withoutOld old s).sort.manifest ++ [newEntry (withoutOld old s) n g set p old.isSome]
            next := (withoutOld old s).sort.next + 1
            waiting := (withoutOld old s).sort.waiting.filter (·.slot != n) } } := rfl
  generalize appended n g set p old s = t at *
  refine ⟨?_, ?_, ?_, ⟨newEntry (withoutOld old s) n g set p old.isSome, ?_, ?_⟩, fun b q => ?_⟩
  · rw [happ, hw]
    exact ⟨fun g hg => by clear * - hg; cases g <;> simp_all [sameIn, setFill, setBin]; rfl⟩
  · rw [happ, hw]
  · rw [happ, hw]
    exact congrArg (fun f : WaitEntry → Bool => s.sort.waiting.filter f) (funext fun e => by simp [bne, beq_eq_decide])
  · rw [happ]
    dsimp only
    exact congrArg (fun u : State => u.sort.manifest ++ [newEntry (withoutOld old s) n g set p old.isSome]) hw
  · constructor
    · have h := congrArg (fun u : State => u.sort.next) hw
      exact h
    · rfl
    · have h := congrArg (fun u : State => serialOf (u.slot n)) hw
      exact h
    · have h := congrArg (fun u : State => (u.slot n).identity.model) hw
      exact h
    · exact ⟨rfl, rfl⟩
    · exact hgen
    · exact ⟨rfl, rfl, rfl⟩
    · exact ⟨rfl, rfl, rfl⟩
    · rfl
  · rw [hbin]
    split <;> rfl

/-- What happens to the slot between the append and PARKING: its grade and its event (R142). -/
theorem graded_spec (n : SlotId) (g : GradeInputs) (set : Fin 4) (p : Fin 8) (q : Option Nat) (s : State) :
    KeepsBut [.slot n, .partSet, .noticeQueue] s (raiseSlot n .graded (setGrade n g set p q s))
      ∧ ∃ v, (raiseSlot n .graded (setGrade n g set p q s)).slot n
        = { s.slot n with
            grading.grade := some ⟨g.score, set, p, g.forced, q⟩
            events := (s.slot n).events ||| SlotEvent.graded.set
            notice := v } := by
  have h1 := setGrade_slot n g set p q s
  have hk1 := setGrade_keeps n g set p q s
  generalize setGrade n g set p q s = t at *
  obtain ⟨v, hv⟩ := raiseSlot_slot n .graded t
  exact ⟨(hk1.mono (by simp)).trans (raiseSlot_keeps ..), v, by rw [hv, h1]⟩

/-- The state from which an appended slot enters PARKING. -/
def beforeParking (n : SlotId) (g : GradeInputs) (set : Fin 4) (p : Fin 8) (old : Option ManifestEntry) (s : State) : State :=
  raiseSlot n .graded (setGrade n g set p (some s.sort.next) (appended n g set p old s))

theorem appendEntry_parking (n : SlotId) (g : GradeInputs) (set : Fin 4) (p : Fin 8) (old : Option ManifestEntry) (s : State) :
    appendEntry n g set p old s = enterParking n (beforeParking n g set p old s) := by
  have h : (newEntry (withoutOld old s) n g set p old.isSome).sequence = s.sort.next := by
    obtain ⟨bins, hw⟩ := withoutOld_eq old s
    have h := congrArg (fun u : State => u.sort.next) hw
    exact h
  unfold beforeParking
  rw [← h]
  rfl

theorem beforeParking_spec (n : SlotId) (g : GradeInputs) (set : Fin 4) (p : Fin 8) (old : Option ManifestEntry) (s : State) :
    KeepsBut [.slot n, .partSet, .noticeQueue] (appended n g set p old s) (beforeParking n g set p old s)
      ∧ ∃ v, (beforeParking n g set p old s).slot n
        = { s.slot n with
            grading.grade := some ⟨g.score, set, p, g.forced, some s.sort.next⟩
            events := (s.slot n).events ||| SlotEvent.graded.set
            notice := v } := by
  obtain ⟨hk, v, hv⟩ := graded_spec n g set p (some s.sort.next) (appended n g set p old s)
  refine ⟨hk, v, hv.trans ?_⟩
  rw [((appended_spec n g set p old s).1.slot_eq (by simp) : (appended n g set p old s).slot n = s.slot n)]

/-- Settles O42: the room tests, the append, and the entry into PARKING. -/
theorem entryAppended : Obligations.EntryAppended := by
  unfold Obligations.EntryAppended
  refine ⟨fun s n set p => sortOutcome_room s n set p _ (fun h => if_pos h) fun h => if_neg h, fun s n g set p old => ?_,
    enterParking_entry⟩
  obtain ⟨hka, hnext, hwait, ⟨e, hman, he⟩, hbins⟩ := appended_spec n g set p old s
  obtain ⟨hkb, v, hslot⟩ := beforeParking_spec n g set p old s
  have hkv : KeepsBut [.slot n, .bins, .manifest, .waiting, .partSet, .noticeQueue] s (beforeParking n g set p old s) :=
    (hka.mono (by simp)).trans (hkb.mono (by simp))
  have hbinsv : ∀ b q, (beforeParking n g set p old s).bin b q = (appended n g set p old s).bin b q := fun b q => by
    unfold State.bin
    rw [(hkb.same .bins (by simp) : (beforeParking n g set p old s).sort.bins = _)]
  have hmanv := hkb.same .manifest (by simp)
  have hwaitv : (beforeParking n g set p old s).sort.waiting = _ := hkb.same .waiting (by simp)
  dsimp only
  rw [appendEntry_parking]
  generalize beforeParking n g set p old s = b at *
  have hp := enterParking_parked n b
  have hst := enterParking_state n b
  have hpt : ∃ v, enterParking n b = enterParking n v ∧ KeepsBut [.slot n, .bins, .manifest, .waiting, .partSet, .noticeQueue] s v
      ∧ SlotKeepsBut [.grading, .events, .notice] (s.slot n) (v.slot n) :=
    ⟨b, rfl, hkv, by rw [hslot]; exact ⟨fun g hg => by clear * - hg; cases g <;> simp_all [slotSameIn]⟩⟩
  generalize enterParking n b = t at *
  obtain ⟨hm1, hm2⟩ := hp.keeps.same .manifest (by simp)
  have hbt : ∀ b' q, t.bin b' q = b.bin b' q := fun b' q => by
    unfold State.bin
    rw [(hp.keeps.same .bins (by simp) : t.sort.bins = _)]
  refine ⟨(hkv.mono (by simp)).trans (hp.keeps.mono (by simp)), hm2.trans (hmanv.2.trans hnext),
    (hp.keeps.same .waiting (by simp)).trans (hwaitv.trans hwait),
    ⟨e, hm1.trans (hmanv.1.trans hman), he.sequence, he.slot, he.serial, he.model, he.place.1, he.place.2, he.generation,
      he.grade.1, he.grade.2.1, he.grade.2.2, he.flags.1, he.flags.2.1, he.flags.2.2, he.reason⟩,
    fun b' q => ?_, hpt, hst, ?_, ?_, ?_, ?_⟩
  · rw [hbt, hbinsv, hbins, withoutOld_bin old s b' q _ (fun h => if_pos h) fun h => if_neg h]
  · exact (hp.slot.same .grading (by simp)).2.2.trans (by rw [hslot])
  · exact (hp.slot.same .events (by simp)).trans (by rw [hslot])
  · exact hp.record.trans (by rw [hslot])
  · exact hp.counters.trans (by rw [hslot])

end Sys2Proof.Machine
end

section
/-! SUPPORT. HAND_OVER (O43) and quarantines (O37). -/

namespace Sys2Proof.Machine

/-! ### The hand-over -/

/-- The state with one hand-over of slot n taken from the list (R136). -/
def State.handOverTaken (s : State) (n : SlotId) : State :=
  { s with transit := { s.transit with handOvers := s.transit.handOvers.erase n } }

theorem exec_handOver {n : SlotId} {s : State} (h : n ∈ s.transit.handOvers) :
    exec (.handOver n) s = .next (finish (takeHandOver n (s.handOverTaken n))) :=
  congrArg Host.Outcome.next (if_pos (by simpa using h))

theorem takeHandOver_stale {n : SlotId} {s : State} (h : (s.slot n).state ≠ .grading ∨ (s.slot n).grading.handedOver = false) :
    takeHandOver n s = s := if_neg (by obtain h | h := h <;> simp [h])

theorem takeHandOver_taken {n : SlotId} {s : State} (h : (s.slot n).state = .grading) (ho : (s.slot n).grading.handedOver = true) :
    takeHandOver n s = sortSlot n s := if_pos ⟨h, ho⟩

/-- What a slot that finds no room leaves (R146). -/
structure Waits (n : SlotId) (reason : WaitReason) (g : GradeInputs) (set : Fin 4) (p : Fin 8) (s u : State) : Prop where
  keeps : KeepsBut [.slot n, .waiting, .partSet, .noticeQueue] s u
  slot : SlotKeepsBut [.state, .lamps, .grading, .events, .notice] (s.slot n) (u.slot n)
  waiting : u.sort.waiting = s.sort.waiting ++ [⟨n, reason, g⟩]
  state : (u.slot n).state = .sortWait
  lamps : LampsCurrent u n
  grade : (u.slot n).grading.grade = some ⟨g.score, set, p, g.forced, none⟩
  events : (u.slot n).events = (s.slot n).events ||| SlotEvent.sortWait.set

/-- A slot joins the sort-wait list (R146). -/
def joinWaiting (n : SlotId) (reason : WaitReason) (g : GradeInputs) (s : State) : State :=
  { s with sort.waiting := s.sort.waiting ++ [⟨n, reason, g⟩] }

theorem joinWaiting_keeps (n : SlotId) (reason : WaitReason) (g : GradeInputs) (s : State) :
    KeepsBut [.waiting] s (joinWaiting n reason g s) :=
  ⟨fun g hg => by cases g <;> simp_all [sameIn, joinWaiting]; rfl⟩

theorem waits_of_joined (n : SlotId) (reason : WaitReason) (g : GradeInputs) (set : Fin 4) (p : Fin 8) (s : State) :
    Waits n reason g set p s
      (setState n .sortWait (raiseSlot n .sortWait (joinWaiting n reason g (setGrade n g set p none s)))) := by
  have ha := setGrade_slot n g set p none s
  have hka := setGrade_keeps n g set p none s
  generalize setGrade n g set p none s = a at *
  have hkb := joinWaiting_keeps n reason g a
  have hwb : (joinWaiting n reason g a).sort.waiting = a.sort.waiting ++ [⟨n, reason, g⟩] := rfl
  have hb : (joinWaiting n reason g a).slot n = a.slot n := rfl
  generalize joinWaiting n reason g a = b at *
  have hs := setState_raiseSlot_slot n .sortWait .sortWait b
  have hl := setState_lamps n .sortWait (raiseSlot n .sortWait b)
  have hk : KeepsBut [.slot n, .partSet, .noticeQueue] b (setState n .sortWait (raiseSlot n .sortWait b)) :=
    (raiseSlot_keeps ..).trans ((setState_keeps ..).mono (by simp))
  generalize setState n .sortWait (raiseSlot n .sortWait b) = u at *
  rw [hb, ha] at hs
  refine ⟨(hka.mono (by simp)).trans ((hkb.mono (by simp)).trans (hk.mono (by simp))), ?_, ?_, ?_, hl, ?_, ?_⟩
  · rw [hs]
    exact ⟨fun g hg => by clear * - hg; cases g <;> simp_all [slotSameIn, Slot.lampsOf]⟩
  · rw [(hk.same .waiting (by simp) : u.sort.waiting = b.sort.waiting), hwb,
      (hka.same .waiting (by simp) : a.sort.waiting = s.sort.waiting)]
  · rw [hs]; rfl
  · rw [hs]; rfl
  · rw [hs]; rfl

theorem sortSlot_made {n : SlotId} {s : State} {b : Bool}
    (h : sortOutcome s n (binSetOf s (s.slot n)) (selectBin s (binSetOf s (s.slot n)) (gradeInputs s (s.slot n))) = .made b) :
    let g := gradeInputs s (s.slot n)
    let t := appendEntry n g (binSetOf s (s.slot n)) (selectBin s (binSetOf s (s.slot n)) g)
      (entryWithSerial s (serialOf (s.slot n))) s
    sortSlot n s = if b = true then retryPass t else t := by
  unfold sortSlot
  dsimp only
  rw [h]

theorem sortSlot_waits {n : SlotId} {s : State} {reason : WaitReason}
    (h : sortOutcome s n (binSetOf s (s.slot n)) (selectBin s (binSetOf s (s.slot n)) (gradeInputs s (s.slot n))) = .waits reason) :
    let g := gradeInputs s (s.slot n)
    sortSlot n s
      = setState n .sortWait (raiseSlot n .sortWait (joinWaiting n reason g
          (setGrade n g (binSetOf s (s.slot n)) (selectBin s (binSetOf s (s.slot n)) g) none s))) := by
  unfold sortSlot
  dsimp only
  rw [h]
  rfl

theorem score_unbound {s : State} {x : Slot} (h : modelOf s x = none) :
    score s x = 10000 - ((List.finRange 16).map fun c => s.tables.defects[c].weight * x.tallies.counters[c]).sum := by
  unfold score penaltySum defectPenalty
  rw [h]
  dsimp only [Fin.getElem_fin]
  omega

theorem handOverTaken_keeps (s : State) (n : SlotId) : KeepsBut [.transit] s (s.handOverTaken n) :=
  ⟨fun g hg => by cases g <;> simp_all [sameIn, State.handOverTaken]; rfl⟩

theorem binSetOf_val (s : State) (x : Slot) : (binSetOf s x).val = ((modelOf s x).map (·.binSet)).getD 0 % 4 := rfl

/-- Settles O43: a hand-over is graded, appended or left waiting. -/
theorem handOver : Obligations.HandOver := by
  unfold Obligations.HandOver
  intro n s hmem
  have hexec := exec_handOver hmem
  refine ⟨fun h => ?_, fun hs ho => ⟨fun h => ?_, fun h => ?_, fun reason h => ?_⟩, fun m hm hlt => ?_, rfl, ?_, rfl, rfl, rfl, rfl, rfl,
    fun hr => ?_, fun hr => ?_, fun hm => ⟨?_, score_unbound hm⟩⟩
  · rw [takeHandOver_stale (s := s.handOverTaken n) h] at hexec
    exact hexec
  · rw [takeHandOver_taken (s := s.handOverTaken n) hs ho, sortSlot_made (s := s.handOverTaken n) (b := false) h] at hexec
    exact hexec
  · rw [takeHandOver_taken (s := s.handOverTaken n) hs ho, sortSlot_made (s := s.handOverTaken n) (b := true) h] at hexec
    exact hexec
  · rw [takeHandOver_taken (s := s.handOverTaken n) hs ho, sortSlot_waits (s := s.handOverTaken n) h] at hexec
    have hw := waits_of_joined n reason (gradeInputs s (s.slot n)) (binSetOf s (s.slot n))
      (selectBin s (binSetOf s (s.slot n)) (gradeInputs s (s.slot n))) (s.handOverTaken n)
    refine ⟨_, hexec, ((handOverTaken_keeps s n).mono (by simp)).trans (hw.keeps.mono (by simp)), hw.slot, hw.waiting,
      hw.keeps.same .transit (by simp), hw.state, hw.lamps, hw.grade, hw.events⟩
  · rw [binSetOf_val, hm]
    exact Nat.mod_eq_of_lt hlt
  · simp [gradeInputs, totalShocks, allMetrics, Slot.filter, Nat.add_assoc]
  · simp [gradeInputs, hr]
  · obtain ⟨r, hr'⟩ := Option.ne_none_iff_exists'.1 hr
    simp [gradeInputs, hr']
  · refine Fin.ext ?_
    rw [binSetOf_val, hm]
    rfl

/-! ### What the Sort Unit keeps of every slot -/

/-- Every slot keeps its quarantine reason and its pending events. -/
def KeepsReason (x y : Slot) : Prop :=
  y.grading.reason = x.grading.reason ∧ ∀ i, x.events.getLsbD i = true → y.events.getLsbD i = true

theorem KeepsReason.refl (x : Slot) : KeepsReason x x := ⟨rfl, fun _ => id⟩

theorem KeepsReason.trans {x y z : Slot} (a : KeepsReason x y) (b : KeepsReason y z) : KeepsReason x z :=
  ⟨b.1.trans a.1, fun i h => b.2 i (a.2 i h)⟩

theorem appendEntry_keepsReason (n : SlotId) (g : GradeInputs) (set : Fin 4) (p : Fin 8) (old : Option ManifestEntry) (s : State)
    (m : SlotId) : KeepsReason (s.slot m) ((appendEntry n g set p old s).slot m) := by
  obtain ⟨hka, -⟩ := appended_spec n g set p old s
  obtain ⟨hkb, v, hslot⟩ := beforeParking_spec n g set p old s
  have hkv := (hka.mono (ch' := [.slot n, .bins, .manifest, .waiting, .partSet, .noticeQueue]) (by simp)).trans (hkb.mono (by simp))
  rw [appendEntry_parking]
  generalize beforeParking n g set p old s = b at *
  have hp := enterParking_parked n b
  generalize enterParking n b = t at *
  by_cases hm : m = n
  · subst hm
    refine ⟨(hp.slot.same .reason (by simp)).trans (by rw [hslot]), fun i hi => ?_⟩
    rw [(hp.slot.same .events (by simp) : (t.slot m).events = _), hslot, BitVec.getLsbD_or, hi, Bool.true_or]
  · rw [hp.keeps.slot_eq (by simpa using hm), hkv.slot_eq (by simpa using hm)]
    exact .refl _

theorem keepWaiting_slot (n : SlotId) (w : WaitEntry) (p : Fin 8) (r : WaitReason) (s : State) :
    KeepsBut [.slot n, .waiting] s (keepWaiting n w p r s)
      ∧ (keepWaiting n w p r s).slot n
        = { s.slot n with
            grading.grade := some ⟨w.inputs.score, ((s.slot n).grading.grade.map (·.binSet)).getD 0, p, w.inputs.forced, none⟩ } := by
  have hk : KeepsBut [.waiting] s
      { s with sort.waiting := s.sort.waiting.map fun v => if v.slot = n then { w with reason := r } else v } :=
    ⟨fun g hg => by cases g <;> simp_all [sameIn]; rfl⟩
  exact ⟨(hk.mono (by simp)).trans ((setGrade_keeps ..).mono (by simp)), setGrade_slot ..⟩

theorem serveWaiting_keepsReason (n : SlotId) (w : WaitEntry) (s : State) (m : SlotId) :
    KeepsReason (s.slot m) ((serveWaiting n w s).2.slot m) := by
  unfold serveWaiting
  dsimp only
  split
  · exact appendEntry_keepsReason ..
  · next r _ =>
    obtain ⟨hk, hs⟩ := keepWaiting_slot n w (selectBin s (((s.slot n).grading.grade.map (·.binSet)).getD 0) w.inputs) r s
    by_cases hm : m = n
    · subst hm
      rw [hs]
      exact ⟨rfl, fun _ => id⟩
    · rw [hk.slot_eq (by simpa using hm)]
      exact .refl _

theorem retryWalk_keepsReason (l : List SlotId) (again : Bool) (s : State) (m : SlotId) :
    KeepsReason (s.slot m) ((retryWalk l again s).2.slot m) := by
  induction l generalizing again s with
  | nil => exact .refl _
  | cons n l ih =>
    unfold retryWalk
    split
    · exact ih ..
    · exact (serveWaiting_keepsReason ..).trans (ih ..)

theorem retryPasses_keepsReason (fuel : Nat) (s : State) (m : SlotId) :
    KeepsReason (s.slot m) ((retryPasses fuel s).slot m) := by
  induction fuel generalizing s with
  | zero => exact .refl _
  | succ fuel ih =>
    unfold retryPasses
    dsimp only
    split
    · exact (retryWalk_keepsReason ..).trans (ih _)
    · exact retryWalk_keepsReason ..

theorem replaceForced_keepsReason (n : SlotId) (s : State) : KeepsReason (s.slot n) ((replaceForced n s).slot n) := by
  unfold replaceForced
  split
  · exact .refl _
  · dsimp only
    split
    · exact (serveWaiting_keepsReason ..).trans (retryPasses_keepsReason ..)
    · exact serveWaiting_keepsReason ..

/-! ### A quarantine, by the state it finds -/

theorem SlotState.beforeGrading_iff (st : SlotState) :
    st.beforeGrading = true
      ↔ st ∈ [SlotState.powerWait, .identifying, .unmatched, .ready, .calibrating, .burning, .recovering] := by
  cases st <;> decide

theorem takeQuarantine_early {n : SlotId} {s : State} (r : QuarantineReason) (h : (s.slot n).state.beforeGrading = true)
    (hr : (s.slot n).grading.reason = none) : takeQuarantine n r s = enterGrading n (recordReason n r s) := by
  have hm := (SlotState.beforeGrading_iff _).1 h
  simp only [List.mem_cons, List.not_mem_nil, or_false] at hm
  obtain hs | hs | hs | hs | hs | hs | hs := hm <;> rw [takeQuarantine_taken r (by simp [hs]) (by simp [hs]) hr, hs]

theorem takeQuarantine_grading {n : SlotId} {s : State} (r : QuarantineReason) (h : (s.slot n).state = .grading)
    (hr : (s.slot n).grading.reason = none) : takeQuarantine n r s = quarantineGrading n (recordReason n r s) := by
  rw [takeQuarantine_taken r (by simp [h]) (by simp [h]) hr, h]

theorem takeQuarantine_sortWait {n : SlotId} {s : State} (r : QuarantineReason) (h : (s.slot n).state = .sortWait)
    (hr : (s.slot n).grading.reason = none) : takeQuarantine n r s = replaceForced n (recordReason n r s) := by
  rw [takeQuarantine_taken r (by simp [h]) (by simp [h]) hr, h]

theorem takeQuarantine_late {n : SlotId} {s : State} (r : QuarantineReason)
    (h : (s.slot n).state = .parking ∨ (s.slot n).state = .sorted)
    (hr : (s.slot n).grading.reason = none) : takeQuarantine n r s = recordReason n r s := by
  obtain h | h := h <;> rw [takeQuarantine_taken r (by simp [h]) (by simp [h]) hr, h]

/-- The states of a slot with a drive record. -/
theorem SlotState.cases_of_record {st : SlotState} (he : st ≠ .empty) (hs : st ≠ .settling) :
    st.beforeGrading = true ∨ st = .grading ∨ st = .sortWait ∨ st = .parking ∨ st = .sorted := by
  cases st <;> simp_all [SlotState.beforeGrading]

/-- A quarantine taken in GRADING before the hand-over: the drain goes on without the final IDENTIFY (R16, R136). -/
theorem quarantineGrading_drained {n : SlotId} {s : State} (hs : (s.slot n).state = .grading)
    (ho : (s.slot n).grading.handedOver = false) :
    quarantineGrading n s = gradingProgress n (unlist n .identify s)
      ∧ Drained n (unlist n .identify s) (gradingProgress n (unlist n .identify s)) := by
  refine ⟨congrArg (gradingProgress n) (if_neg (by simp [ho])), gradingProgress_drained ?_ ?_⟩
  · exact ((unlist_slot ..).same .state (by simp)).trans hs
  · exact ((unlist_slot ..).same .grading (by simp)).2.1.trans ho

theorem quarantineGrading_done {n : SlotId} {s : State} (ho : (s.slot n).grading.handedOver = true) :
    quarantineGrading n s = s := by
  unfold quarantineGrading
  rw [if_pos ho, gradingProgress_of_done (.inr ho)]

theorem quarantineGrading_keeps (n : SlotId) (s : State) :
    KeepsBut [.slot n, .passDue, .sent, .transit] s (quarantineGrading n s)
      ∧ SlotKeepsBut [.grading, .injections, .spindle, .inFlight, .allocation] (s.slot n) ((quarantineGrading n s).slot n) := by
  by_cases h : (s.slot n).state = .grading ∧ (s.slot n).grading.handedOver = false
  · obtain ⟨he, hd⟩ := quarantineGrading_drained h.1 h.2
    have hsl := gradingProgress_slot n (unlist n .identify s)
    rw [he]
    exact ⟨((unlist_keeps ..).mono (by simp)).trans hd.keeps, ((unlist_slot ..).mono (by simp)).trans hsl⟩
  · have hst : ((unlist n .identify s).slot n).state = (s.slot n).state := (unlist_slot ..).same .state (by simp)
    unfold quarantineGrading
    split
    · next ho =>
      rw [gradingProgress_of_done (.inr ho)]
      exact ⟨.refl .., .refl ..⟩
    · next ho =>
      rw [gradingProgress_of_done (.inl (by rw [hst]; exact fun e => h ⟨e, by simpa using ho⟩))]
      exact ⟨(unlist_keeps ..).mono (by simp), (unlist_slot ..).mono (by simp)⟩

end Sys2Proof.Machine
end

section
/-! SUPPORT. Quarantines (O37). -/

namespace Sys2Proof.Machine

/-- A hand-over of slot n sent to the Sort Unit (R136). -/
def SentOver (n : SlotId) (s t : State) : Prop :=
  t.transit = { s.transit with handOvers := s.transit.handOvers ++ [n] } ∧ (t.slot n).grading.handedOver = true

/-- With a reason recorded the grade point is the empty table (R136). -/
theorem gradePoint_recorded {y : Slot} (h : y.grading.reason ≠ none) : gradePoint y = y.tableEmpty := by
  unfold gradePoint
  rw [Option.isSome_iff_ne_none.2 h]
  simp

theorem quarantine_bit (b : BitVec 16) : (b ||| SlotEvent.quarantine.set).getLsbD 10 = true := by
  rw [BitVec.getLsbD_or]
  have h : SlotEvent.quarantine.set.getLsbD 10 = true := by decide
  rw [h, Bool.or_true]

/-- What a quarantine that is taken leaves in every state (R14, R15, R16). -/
theorem takeQuarantine_common {n : SlotId} {r : QuarantineReason} {s : State} (he : (s.slot n).state ≠ .empty)
    (hs : (s.slot n).state ≠ .settling) (hr : (s.slot n).grading.reason = none) :
    ((takeQuarantine n r s).slot n).grading.reason = some r ∧ ((takeQuarantine n r s).slot n).events.getLsbD 10 = true := by
  obtain ⟨-, -, hrec, hev, -⟩ := recordReason_spec n r s
  have hbit : ((recordReason n r s).slot n).events.getLsbD 10 = true := by rw [hev]; exact quarantine_bit _
  have hkeep : KeepsReason ((recordReason n r s).slot n) ((takeQuarantine n r s).slot n) := by
    have of_slot : ∀ {ch : List SlotGroup} {t : State}, SlotKeepsBut ch ((recordReason n r s).slot n) (t.slot n) →
        SlotGroup.reason ∉ ch → SlotGroup.events ∉ ch → KeepsReason ((recordReason n r s).slot n) (t.slot n) := fun h h1 h2 =>
      ⟨h.same .reason h1, fun i hi => by rw [(h.same .events h2 : _ = _)]; exact hi⟩
    obtain h | h | h | h := SlotState.cases_of_record he hs
    · rw [takeQuarantine_early r h hr]
      exact of_slot (enterGrading_entered n _).slot (by simp) (by simp)
    · rw [takeQuarantine_grading r h hr]
      exact of_slot (quarantineGrading_keeps n _).2 (by simp) (by simp)
    · rw [takeQuarantine_sortWait r h hr]
      exact replaceForced_keepsReason ..
    · rw [takeQuarantine_late r h hr]
      exact .refl _
  exact ⟨hkeep.1.trans hrec, hkeep.2 10 hbit⟩

theorem quarantine_firstClause (n : SlotId) (r : QuarantineReason) (s : State) :
    let x := s.slot n
    let t := takeQuarantine n r s
    (x.state = .empty ∨ x.state = .settling ∨ x.grading.reason ≠ none → t = s)
      ∧ (x.state ≠ .empty → x.state ≠ .settling → x.grading.reason = none →
          (t.slot n).grading.reason = some r
            ∧ (t.slot n).events.getLsbD 10 = true
            ∧ (x.state ∈ [SlotState.powerWait, .identifying, .unmatched, .ready, .calibrating, .burning, .recovering, .grading] →
                (t.slot n).state = .grading)
            ∧ (x.state = .parking ∨ x.state = .sorted → (t.slot n).state = x.state)
            ∧ (x.state = .sortWait → (t.slot n).state = .sortWait ∨ (t.slot n).state = .parking)
            ∧ (x.state ≠ .sortWait →
                KeepsBut [.slot n, .responses, .admission, .passDue, .sent, .transit, .partSet, .noticeQueue] s t)
            ∧ (x.state ∈ [SlotState.powerWait, .identifying, .unmatched, .ready, .calibrating, .burning, .recovering] →
                (t.slot n).traffic.queue = [] ∧ (t.slot n).power.held = none
                  ∧ t.port.responses = s.port.responses ++ queueAnswers n x .endOfTest
                  ∧ t.power.queue = s.power.queue.filter (·.slot ≠ n)
                  ∧ (x.state = .recovering →
                      (t.slot n).recovery.resume = none ∧ (t.slot n).recovery.breakLatch = false
                        ∧ (t.slot n).recovery.wait = none))) := by
  refine ⟨takeQuarantine_discarded r, fun he hs hr => ?_⟩
  obtain ⟨hreason, hbit⟩ := takeQuarantine_common (r := r) he hs hr
  have hst := recordReason_state n r s
  obtain ⟨hk, hsl, -⟩ := recordReason_spec n r s
  have hq : queueAnswers n ((recordReason n r s).slot n) .endOfTest = queueAnswers n (s.slot n) .endOfTest := by
    unfold queueAnswers
    rw [(hsl.same .queue (by simp) : ((recordReason n r s).slot n).traffic.queue = _)]
  refine ⟨hreason, hbit, fun h => ?_, fun h => ?_, fun h => ?_, fun h => ?_, fun h => ?_⟩
  · by_cases hg : (s.slot n).state = .grading
    · rw [takeQuarantine_grading r hg hr, quarantineGrading_state, hst, hg]
    · rw [takeQuarantine_early r ((SlotState.beforeGrading_iff _).2 (by simp_all)) hr, enterGrading_state]
  · rw [takeQuarantine_late r h hr, hst]
  · rw [takeQuarantine_sortWait r h hr]
    have := replaceForced_sortedOn n (recordReason n r s)
    rwa [sortedOn, hst, h] at this
  · obtain h' | h' | h' | h' := SlotState.cases_of_record he hs
    · rw [takeQuarantine_early r h' hr]
      exact (hk.mono (by simp)).trans ((enterGrading_entered n _).keeps.mono (by simp))
    · rw [takeQuarantine_grading r h' hr]
      exact (hk.mono (by simp)).trans ((quarantineGrading_keeps n _).1.mono (by simp))
    · exact absurd h' h
    · rw [takeQuarantine_late r h' hr]
      exact hk.mono (by simp)
  · rw [takeQuarantine_early r ((SlotState.beforeGrading_iff _).2 h) hr]
    have hent := enterGrading_entered n (recordReason n r s)
    refine ⟨hent.queue.1, hent.held, ?_, ?_, fun hrec => ?_⟩
    · rw [hent.responses, hq, (hk.same .responses (by simp) : (recordReason n r s).port.responses = _)]
    · rw [hent.admission, (hk.same .admission (by simp) : (recordReason n r s).power.queue = _)]
    · rw [hent.recovery, if_pos (hst.trans hrec)]
      exact ⟨rfl, rfl, rfl⟩

/-- A drain with a reason recorded: the hand-over is sent exactly where the table is empty (R136). -/
theorem sentOver_of_drain {n : SlotId} {s t : State} (hreason : (t.slot n).grading.reason ≠ none)
    (ho : (t.slot n).grading.handedOver = gradePoint (t.slot n))
    (hsends : gradePoint (t.slot n) = true → t.transit = { s.transit with handOvers := s.transit.handOvers ++ [n] })
    (hholds : gradePoint (t.slot n) = false → t.transit = s.transit) :
    ((∀ k : Fin 4, (t.slot n).traffic.inFlight[k] = none) → SentOver n s t)
      ∧ (¬(∀ k : Fin 4, (t.slot n).traffic.inFlight[k] = none) → t.transit = s.transit ∧ (t.slot n).grading.handedOver = false) := by
  rw [gradePoint_recorded hreason] at ho hsends hholds
  refine ⟨fun h => ⟨hsends (tableEmpty_iff.2 h), ho.trans (tableEmpty_iff.2 h)⟩, fun h => ?_⟩
  have hf : (t.slot n).tableEmpty = false := by
    rw [← Bool.not_eq_true]
    exact mt tableEmpty_iff.1 h
  exact ⟨hholds hf, ho.trans hf⟩

theorem quarantine_gradePoint (n : SlotId) (r : QuarantineReason) (s : State) (hr : (s.slot n).grading.reason = none) :
    let x := s.slot n
    let t := takeQuarantine n r s
    let empty (y : Slot) : Prop := ∀ k : Fin 4, y.traffic.inFlight[k] = none
    (x.state ∈ [SlotState.powerWait, .identifying, .unmatched, .ready, .calibrating, .burning, .recovering]
          ∨ x.state = .grading ∧ x.grading.handedOver = false →
        (t.slot n).listed .identify = false
          ∧ (empty (t.slot n) → SentOver n s t)
          ∧ (¬empty (t.slot n) → t.transit = s.transit ∧ (t.slot n).grading.handedOver = false)
          ∧ (empty x → x.lines.powered = false ∨ x.traffic.injections = [] ∧ x.state ≠ .recovering → SentOver n s t))
      ∧ (x.state = .grading → x.grading.handedOver = true → t.transit = s.transit) := by
  obtain ⟨hk, hsl, hrec, -⟩ := recordReason_spec n r s
  have htr : (recordReason n r s).transit = s.transit := hk.same .transit (by simp)
  have hsome : ((recordReason n r s).slot n).grading.reason.isSome = true := by rw [hrec]; rfl
  have hlate : ∀ {t : State}, t.transit = (recordReason n r s).transit → t.transit = s.transit := fun h => h.trans htr
  have hfl : ((recordReason n r s).slot n).traffic.inFlight = (s.slot n).traffic.inFlight := hsl.same .inFlight (by simp)
  have hinj : ((recordReason n r s).slot n).traffic.injections = (s.slot n).traffic.injections := hsl.same .injections (by simp)
  have hpow : ((recordReason n r s).slot n).lines.powered = (s.slot n).lines.powered := hsl.same .power (by simp)
  have hst : ((recordReason n r s).slot n).state = (s.slot n).state := hsl.same .state (by simp)
  have hho : ((recordReason n r s).slot n).grading.handedOver = (s.slot n).grading.handedOver :=
    (hsl.same .grading (by simp)).2.1
  refine ⟨fun h => ?_, fun hg ho => ?_⟩
  · obtain h | ⟨hg, ho⟩ := h
    · have hreason : ((takeQuarantine n r s).slot n).grading.reason ≠ none := by
        rw [(takeQuarantine_common (r := r) (by intro e; simp [e] at h) (by intro e; simp [e] at h) hr).1]
        simp
      rw [takeQuarantine_early r ((SlotState.beforeGrading_iff _).2 h) hr] at hreason ⊢
      have hent := enterGrading_entered n (recordReason n r s)
      have hdrain := sentOver_of_drain hreason hent.handedOver hent.sends hent.holds
      unfold SentOver at *
      rw [htr] at hdrain
      refine ⟨listed_eq_false.2 (hent.unlisted hsome), hdrain.1, hdrain.2, fun hempty hq => hdrain.1 ?_⟩
      have hsame := hent.quiet hsome (by rw [hpow, hinj, hst]; exact hq)
      rw [hsame, hfl]
      exact hempty
    · have hreason : ((takeQuarantine n r s).slot n).grading.reason ≠ none := by
        rw [(takeQuarantine_common (r := r) (by simp [hg]) (by simp [hg]) hr).1]
        simp
      obtain ⟨heq, hd⟩ := quarantineGrading_drained (n := n) (s := recordReason n r s) (hst.trans hg) (hho.trans ho)
      rw [takeQuarantine_grading r hg hr, heq] at hreason ⊢
      have hu := unlist_injections n .identify (recordReason n r s)
      have htu : (unlist n .identify (recordReason n r s)).transit = s.transit := htr
      generalize unlist n .identify (recordReason n r s) = u at *
      have hdrain := sentOver_of_drain hreason (by rw [hd.grading]) hd.sends hd.holds
      have hnd : finalIdentifyDue (u.slot n) = false := by
        unfold finalIdentifyDue
        rw [hu]
        dsimp only
        rw [hrec]
        rfl
      unfold SentOver at *
      rw [htu] at hdrain
      refine ⟨listed_eq_false.2 fun i hi => ?_, hdrain.1, hdrain.2, fun hempty hq => hdrain.1 ?_⟩
      · have := hd.listed hnd i hi
        rw [hu] at this
        simpa using (List.mem_filter.1 this).2
      · have hquiet : (u.slot n).traffic.injections = [] ∨ (u.slot n).lines.powered = false := by
          rw [hu]
          dsimp only
          rw [hpow, hinj]
          obtain h | ⟨h, -⟩ := hq
          · exact .inr h
          · exact .inl (by rw [h]; rfl)
        rw [(hd.quiet hnd hquiet).1, hu]
        dsimp only
        rw [hfl]
        exact hempty
  · rw [takeQuarantine_grading r hg hr, quarantineGrading_done (hho.trans ho)]
    exact htr

theorem sortOutcome_congr {s t : State} {n : SlotId} (hm : t.sort = s.sort)
    (hr : (t.slot n).identity.record = (s.slot n).identity.record) (set : Fin 4) (p : Fin 8) :
    sortOutcome t n set p = sortOutcome s n set p := by
  unfold sortOutcome entryWithSerial serialOf binRoom manifestRoom givesBack State.bin
  rw [hm, hr]

theorem sort_of_keeps {ch : List Group} {s t : State} (h : KeepsBut ch s t) (h1 : Group.bins ∉ ch) (h2 : Group.manifest ∉ ch)
    (h3 : Group.waiting ∉ ch) : t.sort = s.sort := by
  have e1 : t.sort.bins = s.sort.bins := h.same .bins h1
  obtain ⟨e2, e3⟩ := h.same .manifest h2
  have e4 : t.sort.waiting = s.sort.waiting := h.same .waiting h3
  generalize t.sort = u at *
  generalize s.sort = v at *
  cases u; cases v; simp_all

theorem serveWaiting_made {n : SlotId} {w : WaitEntry} {s : State} {p : Fin 8} {b : Bool}
    (hp : selectBin s (((s.slot n).grading.grade.map (·.binSet)).getD 0) w.inputs = p)
    (h : sortOutcome s n (((s.slot n).grading.grade.map (·.binSet)).getD 0) p = .made b) :
    serveWaiting n w s
      = (b, appendEntry n w.inputs (((s.slot n).grading.grade.map (·.binSet)).getD 0) p
          (entryWithSerial s (serialOf (s.slot n))) s) := by
  unfold serveWaiting
  dsimp only
  rw [hp, h]

theorem serveWaiting_waits {n : SlotId} {w : WaitEntry} {s : State} {p : Fin 8} {r : WaitReason}
    (hp : selectBin s (((s.slot n).grading.grade.map (·.binSet)).getD 0) w.inputs = p)
    (h : sortOutcome s n (((s.slot n).grading.grade.map (·.binSet)).getD 0) p = .waits r) :
    serveWaiting n w s = (false, keepWaiting n w p r s) := by
  unfold serveWaiting
  dsimp only
  rw [hp, h]

/-- The forced replacement of a waiting slot (R148), by what the room tests come to. -/
theorem replaceForced_cases {n : SlotId} {r : QuarantineReason} {s v : State} {w : WaitEntry}
    (hv : v = recordReason n r s) (hw : s.sort.waiting.find? (·.slot == n) = some w) :
    let x := s.slot n
    let set := (x.grading.grade.map (·.binSet)).getD 0
    let inputs := { w.inputs with score := 0, forced := true, reason := some r }
    let old := entryWithSerial s (x.identity.record.map (·.serial))
    (sortOutcome s n set 7 = .made false → replaceForced n v = appendEntry n inputs set 7 old v)
      ∧ (sortOutcome s n set 7 = .made true → replaceForced n v = retryPass (appendEntry n inputs set 7 old v))
      ∧ ∀ reason, sortOutcome s n set 7 = .waits reason →
          KeepsBut [.slot n, .waiting] v (replaceForced n v)
            ∧ (replaceForced n v).slot n = { v.slot n with grading.grade := some ⟨0, set, 7, true, none⟩ }
            ∧ (replaceForced n v).sort.waiting
                = s.sort.waiting.map fun o => if o.slot = n then { slot := w.slot, reason := reason, inputs := inputs } else o := by
  obtain ⟨hk, hsl, hrec, -⟩ := recordReason_spec n r s
  rw [← hv] at hk hsl hrec
  have hsort : v.sort = s.sort := sort_of_keeps hk (by simp) (by simp) (by simp)
  have hgrade : (v.slot n).grading.grade = (s.slot n).grading.grade := (hsl.same .grading (by simp)).2.2
  have hrecord : (v.slot n).identity.record = (s.slot n).identity.record := (hsl.same .identity (by simp)).1
  have hold : entryWithSerial v (serialOf (v.slot n)) = entryWithSerial s ((s.slot n).identity.record.map (·.serial)) := by
    unfold entryWithSerial serialOf
    rw [hsort, hrecord]
  have hout := sortOutcome_congr hsort hrecord (((s.slot n).grading.grade.map (·.binSet)).getD 0) 7
  have hrep : replaceForced n v
      = if (serveWaiting n { w with inputs := { w.inputs with score := 0, forced := true, reason := some r } } v).1 = true then
          retryPass (serveWaiting n { w with inputs := { w.inputs with score := 0, forced := true, reason := some r } } v).2
        else (serveWaiting n { w with inputs := { w.inputs with score := 0, forced := true, reason := some r } } v).2 := by
    unfold replaceForced
    rw [hsort, hw, hrec]
  have hsel : selectBin v (((v.slot n).grading.grade.map (·.binSet)).getD 0)
      { w.inputs with score := 0, forced := true, reason := some r } = 7 := if_pos rfl
  have houtv : ∀ o, sortOutcome s n (((s.slot n).grading.grade.map (·.binSet)).getD 0) 7 = o →
      sortOutcome v n (((v.slot n).grading.grade.map (·.binSet)).getD 0) 7 = o := fun o h => by
    rw [hgrade, hout, h]
  dsimp only
  rw [hrep]
  refine ⟨fun h => ?_, fun h => ?_, fun reason h => ?_⟩
  · rw [serveWaiting_made (w := { w with inputs := { w.inputs with score := 0, forced := true, reason := some r } }) hsel
      (houtv _ h), hgrade, hold]
    rfl
  · rw [serveWaiting_made (w := { w with inputs := { w.inputs with score := 0, forced := true, reason := some r } }) hsel
      (houtv _ h), hgrade, hold]
    rfl
  · rw [serveWaiting_waits (w := { w with inputs := { w.inputs with score := 0, forced := true, reason := some r } }) hsel
      (houtv _ h)]
    obtain ⟨hk', hs'⟩ := keepWaiting_slot n { w with inputs := { w.inputs with score := 0, forced := true, reason := some r } } 7 reason v
    refine ⟨hk', hs'.trans ?_, (keepWaiting_waiting ..).trans ?_⟩
    · rw [hgrade]
    · rw [hsort]

theorem quarantine_takes {q : QueuedRequest} {n : SlotId} {s : State} (he : (s.slot n).state ≠ .empty)
    (hs : (s.slot n).state ≠ .settling) :
    quarantine q n s
      = (takeQuarantine n .requested s).replied q .ok .none
          (.quarantine (s.slot n).grading.reason.isNone ((takeQuarantine n .requested s).slot n).grading.reason
            ((takeQuarantine n .requested s).slot n).state) := if_neg (by simp [he, hs])

/-- Settles O37: what a quarantine does in every state, and the commands that bring one. -/
theorem quarantineTaken : Obligations.QuarantineTaken := by
  unfold Obligations.QuarantineTaken
  refine ⟨quarantine_firstClause, quarantine_gradePoint, fun n r s w hs hr hw => ?_, fun s q rest n hs ho he hset => ⟨?_, ?_, ?_⟩,
    fun n r s hm => congrArg Host.Outcome.next (if_pos (by simpa using hm))⟩
  · obtain ⟨hk, hsl, hrec, hev, hl⟩ := recordReason_spec n r s
    obtain ⟨h1, h2, h3⟩ := replaceForced_cases (n := n) (r := r) (s := s) rfl hw
    refine ⟨recordReason n r s, hk, hsl, hrec, hev, hl, ?_⟩
    rw [takeQuarantine_sortWait r hs hr]
    exact ⟨h1, h2, h3⟩
  · exact (congrArg Host.Outcome.next (serveKind_of_slot hs ho)).trans
      (congrArg (fun t => Host.Outcome.next (finish t)) (quarantine_takes (s := s.taken rest) he hset))
  · cases hr : (s.slot n).grading.reason with
    | none => exact (takeQuarantine_common (s := s.taken rest) he hset hr).1
    | some r =>
      have hd : takeQuarantine n .requested (s.taken rest) = s.taken rest :=
        takeQuarantine_discarded _ (.inr (.inr (by rw [taken_slot, hr]; simp)))
      rw [hd, taken_slot, hr]
      rfl
  · exact fun hr => takeQuarantine_discarded _ (.inr (.inr hr))

end Sys2Proof.Machine
end

section
/-! SUPPORT. The errors of a slot link and the responses that match no entry (O49, O50). -/

namespace Sys2Proof.Machine

/-! ### The counts of a link -/

theorem countGood_eq (x : Slot) :
    countGood x =
      if x.tallies.goodRun < 63 then { x with tallies.goodRun := x.tallies.goodRun + 1 }
      else { x with tallies := { x.tallies with goodRun := 0, badFrames := 0 } } := by
  unfold countGood
  by_cases h : x.tallies.goodRun < 63
  · rw [if_neg (by omega), if_pos h]
  · rw [if_pos (by omega), if_neg h]

theorem countGood_same (x : Slot) : SlotKeepsBut [.tallies] x (countGood x) := by
  refine ⟨fun g hg => ?_⟩
  unfold countGood
  split <;> cases g <;> simp_all [slotSameIn]

theorem countGood_unexpected (x : Slot) : (countGood x).tallies.unexpected = x.tallies.unexpected := by
  unfold countGood
  split <;> rfl

theorem countUnexpected_same (x : Slot) : SlotKeepsBut [.tallies] x (countUnexpected x) :=
  ⟨fun g hg => by cases g <;> simp_all [slotSameIn, countUnexpected]⟩

theorem countBad_same (x : Slot) : SlotKeepsBut [.tallies] x (countBad x) :=
  ⟨fun g hg => by cases g <;> simp_all [slotSameIn, countBad]⟩

/-- Classifying a response counts a class and its weight: the counters of the link are left alone (R124). -/
theorem classify_slot_tallies (n : SlotId) (status : StatusClass) (code : BitVec 16) (cls : Option CmdClass) (s : State) :
    ∃ counters accumulator, ((classify n status code cls s).1.slot n).tallies =
      { (s.slot n).tallies with counters := counters, accumulator := accumulator } := by
  rw [classify_fst]
  obtain ignored | ⟨d, hd, ha⟩ := (classification s.tables.classify status code cls).ignored_or_counted
  · rw [applyAction_of_ignored ignored, countMatch_slot]
    exact ⟨_, _, rfl⟩
  · rw [applyAction_slot_of_counted hd ha, countNoted_slot_tallies, countMatch_slot]
    exact ⟨_, _, rfl⟩

theorem classify_unexpected (n : SlotId) (status : StatusClass) (code : BitVec 16) (cls : Option CmdClass) (s : State) :
    ((classify n status code cls s).1.slot n).tallies.unexpected = (s.slot n).tallies.unexpected := by
  obtain ⟨c, a, h⟩ := classify_slot_tallies n status code cls s
  rw [h]

/-! ### Responses that match no entry -/

theorem consumeUnexpected_unexpected (n : SlotId) (status : StatusClass) (code : BitVec 16) (s : State) :
    ((consumeUnexpected n status code s).slot n).tallies.unexpected = min 255 ((s.slot n).tallies.unexpected + 1) := by
  rw [consumeUnexpected, classify_unexpected, slot_modSlot_same]
  rfl

theorem consumeUnexpected_state (n : SlotId) (status : StatusClass) (code : BitVec 16) (s : State) :
    ((consumeUnexpected n status code s).slot n).state = (s.slot n).state := by
  have h := (classify_slot_keeps n status code none (modSlot n countUnexpected s)).same .state (by simp)
  rw [slot_modSlot_same] at h
  exact h.trans ((countUnexpected_same _).same .state (by simp))

theorem takeUnexpected_few {n : SlotId} {s : State} (status : StatusClass) (code : BitVec 16)
    (h : (s.slot n).tallies.unexpected < 2) : takeUnexpected n status code s = consumeUnexpected n status code s :=
  if_neg (by rw [consumeUnexpected_unexpected]; omega)

theorem takeUnexpected_many {n : SlotId} {s : State} (status : StatusClass) (code : BitVec 16)
    (h : 2 ≤ (s.slot n).tallies.unexpected) :
    takeUnexpected n status code s = startRecovery n .unexpectedTag (consumeUnexpected n status code s) :=
  if_pos (by rw [consumeUnexpected_unexpected]; omega)

theorem takeUnexpected_recovering {n : SlotId} {s : State} (status : StatusClass) (code : BitVec 16)
    (h : (s.slot n).state = .recovering) : takeUnexpected n status code s = consumeUnexpected n status code s := by
  by_cases hu : (s.slot n).tallies.unexpected < 2
  · exact takeUnexpected_few status code hu
  · rw [takeUnexpected_many status code (by omega)]
    exact startRecovery_of_none _ (by rw [consumeUnexpected_state, h]; rfl)

theorem entryWithTag_congr {x y : Slot} (tag : Nat) (h : y.traffic = x.traffic) : y.entryWithTag tag = x.entryWithTag tag := by
  simp only [Slot.entryWithTag, h]

theorem matchResponse_none {n : SlotId} {tag : Byte} {s : State} (status : StatusClass) (code : BitVec 16) (payload : Bytes)
    (v : SensorReading) (h : (s.slot n).entryWithTag tag.toNat = none) :
    matchResponse n tag status code payload v s = takeUnexpected n status code (modSlot n countGood s) := by
  have hg : ((modSlot n countGood s).slot n).entryWithTag tag.toNat = none := by
    rw [slot_modSlot_same, entryWithTag_congr _ ?_, h]
    unfold countGood
    split <;> rfl
  simp only [matchResponse, hg]

/-- Settles O49: the classification leaves the counter of unexpected tags as the count of this response set it. -/
theorem responseUnexpected : Obligations.ResponseUnexpected := by
  unfold Obligations.ResponseUnexpected
  refine ⟨fun n tag status code payload sensor s on => ?_, fun n tag status code payload sensor s off late => ?_⟩
  · have hexec : exec (.driveResponse n tag status code payload sensor) s =
        .next (finish (if (s.slot n).state = .recovering then takeUnexpected n status code s
          else matchResponse n tag status code payload sensor s)) := congrArg Host.Outcome.next (if_pos on)
    refine ⟨fun rec => ?_, fun out unmatched => ?_⟩
    · rw [hexec, if_pos rec, takeUnexpected_recovering status code rec]
      rfl
    · rw [hexec, if_neg out, matchResponse_none status code payload sensor unmatched,
        show countGood = _ from funext countGood_eq]
      have hu : ((modSlot n countGood s).slot n).tallies.unexpected = (s.slot n).tallies.unexpected := by
        rw [slot_modSlot_same, countGood_unexpected]
      rw [show countGood = _ from funext countGood_eq] at hu
      exact ⟨fun few => by rw [takeUnexpected_few status code (hu ▸ few)]; rfl,
        fun many => by rw [takeUnexpected_many status code (hu ▸ many)]; rfl⟩
  · have hexec : exec (.driveResponse n tag status code payload sensor) s = .next (finish (takeLate n tag.toNat status code s)) :=
      congrArg Host.Outcome.next ((if_neg (by simp [off])).trans (if_pos late))
    rw [hexec, takeLate, consumeUnexpected, modSlot_modSlot]
    rfl

/-! ### The bytes of a drive frame -/

theorem statusName_readBack (status : StatusClass) :
    codeIn StatusClass.names status ≤ 5 ∧ StatusClass.names.getD (codeIn StatusClass.names status) .good = status := by
  cases status <;> decide

/-- The receive check passes a frame built by R196, and its places read back as what they were built from. -/
theorem driveFrame_readBack (kind tag : Byte) (status : StatusClass) (code : BitVec 16) (payload : Bytes)
    (h : payload.length < 65536) :
    let bs := withCrc ([kind, tag, BitVec.ofNat 8 (codeIn StatusClass.names status)] ++ putNum 2 code.toNat
      ++ putNum 2 payload.length ++ payload)
    driveFramePasses bs = true ∧ bs.headD 0 = kind ∧ bs.getD 1 0 = tag
      ∧ StatusClass.names.getD (bs.getD 2 0).toNat .good = status ∧ BitVec.ofNat 16 (leNat ((bs.drop 3).take 2)) = code
      ∧ (bs.drop 7).take (bs.length - 11) = payload := by
  intro bs
  obtain ⟨hcode, hname⟩ := statusName_readBack status
  have hst : (BitVec.ofNat 8 (codeIn StatusClass.names status)).toNat = codeIn StatusClass.names status := by
    rw [BitVec.toNat_ofNat]; omega
  have hbs : bs = kind :: tag :: BitVec.ofNat 8 (codeIn StatusClass.names status) :: (putNum 2 code.toNat
      ++ (putNum 2 payload.length ++ (payload ++ putNum 4
        (crc32 ([kind, tag, BitVec.ofNat 8 (codeIn StatusClass.names status)] ++ putNum 2 code.toNat
          ++ putNum 2 payload.length ++ payload)).toNat))) := by
    simp [bs, withCrc]
  have hcrc : crcPasses bs = true := (crcPasses_withCrc _).1
  generalize (crc32 ([kind, tag, BitVec.ofNat 8 (codeIn StatusClass.names status)] ++ putNum 2 code.toNat
          ++ putNum 2 payload.length ++ payload)).toNat = c at hbs
  clear_value bs
  have hlen : bs.length = payload.length + 11 := by rw [hbs]; simp; omega
  have hdrop3 : (bs.drop 3).take 2 = putNum 2 code.toNat := by
    rw [hbs]; exact List.take_left' (length_putNum 2 _)
  have hdrop5 : bs.drop 5 = putNum 2 payload.length ++ (payload ++ putNum 4 c) := by
    rw [hbs]; exact List.drop_left' (length_putNum 2 _)
  have hdrop7 : bs.drop 7 = payload ++ putNum 4 c := by
    have h7 : bs.drop 7 = (bs.drop 5).drop 2 := by rw [List.drop_drop]
    rw [h7, hdrop5]; exact List.drop_left' (length_putNum 2 _)
  have h2 : (bs.drop 2).take 1 = [BitVec.ofNat 8 (codeIn StatusClass.names status)] := by rw [hbs]; rfl
  refine ⟨?_, by rw [hbs]; rfl, by rw [hbs]; rfl, ?_, ?_, ?_⟩
  · have hl : leNat ((bs.drop 5).take 2) = payload.length := by
      rw [hdrop5, List.take_left' (length_putNum 2 _), leNat_putNum (by omega)]
    have hs5 : leNat ((bs.drop 2).take 1) ≤ 5 := by rw [h2]; simp only [leNat, hst]; omega
    rw [driveFramePasses, hl, hlen, hcrc]
    simp [hs5]
  · have hget : bs.getD 2 0 = BitVec.ofNat 8 (codeIn StatusClass.names status) := by rw [hbs]; rfl
    rw [hget, hst, hname]
  · rw [hdrop3, leNat_putNum code.isLt]
    simp
  · rw [hdrop7, hlen]
    exact List.take_left' (by omega)

/-! ### The errors of the link -/

/-- Settles O50: the counters by R39, the latch by R40, and a drive frame by its bytes (R196). -/
theorem linkErrors : Obligations.LinkErrors := by
  unfold Obligations.LinkErrors
  refine ⟨fun n frame s on => ⟨fun rec => ?_, fun out => ?_⟩, fun n s on => ?_, ?_, fun n frame v bad => if_pos bad⟩
  · exact congrArg Host.Outcome.next (if_pos (.inr rec))
  · have hexec : exec (.badFrame n frame) s =
        .next (finish (if 8 ≤ ((modSlot n countBad s).slot n).tallies.badFrames then startRecovery n .badFrames (modSlot n countBad s)
          else modSlot n countBad s)) := congrArg Host.Outcome.next (if_neg (by simp [on, out]))
    have hb : ((modSlot n countBad s).slot n).tallies.badFrames = min 255 ((s.slot n).tallies.badFrames + 1) := by
      rw [slot_modSlot_same]; rfl
    rw [hexec, hb]
    exact ⟨fun few => by rw [if_neg (by omega)]; rfl, fun many => by rw [if_pos (by omega)]; rfl⟩
  · refine ⟨fun latched => congrArg Host.Outcome.next (if_pos (.inr latched)),
      fun clear => congrArg Host.Outcome.next (if_neg (by simp [on, clear])),
      fun allows => congrArg Host.Outcome.next (if_pos (.inr ((allowsRecovery_iff _).2 allows))),
      fun forbids => congrArg Host.Outcome.next (if_neg ?_)⟩
    rintro (off | allows)
    · exact absurd (on.symm.trans off) (by simp)
    · exact forbids ((allowsRecovery_iff _).1 allows)
  · intro n tag status code payload v hlen
    refine ⟨?_, ?_, ?_⟩
    · obtain ⟨hpass, hkind, htag, hstatus, hcode, hpayload⟩ := driveFrame_readBack 0x81 tag status code payload hlen
      simp only [driveFrameCommand, driveFrameKind, hpass, hkind, htag, hstatus, hcode, hpayload]
      rfl
    · obtain ⟨hpass, hkind, -⟩ := driveFrame_readBack 0x82 tag status code payload hlen
      simp only [driveFrameCommand, driveFrameKind, hpass, hkind]
      rfl
    · obtain ⟨hpass, hkind, -⟩ := driveFrame_readBack 0x83 tag status code payload hlen
      simp only [driveFrameCommand, driveFrameKind, hpass, hkind]
      rfl

end Sys2Proof.Machine
end

section
/-! SUPPORT. The queue head is considered (R29 to R31), and a SLOT_CMD that passes its checks (O23). -/

namespace Sys2Proof.Machine

/-! ### The queue head is forwarded -/

/-- The entry that the queue head takes (R29, R31, R36). -/
def headEntry (s : State) (x : Slot) (q : QueuedCmd) (granted : Bool) : InFlight :=
  ⟨q.tag, q.cls, .server, granted, s.now, classTimeout s x q.cls granted, some q.source, false⟩

/-- The bytes that the queue head is sent with: a granted SPIN_UP names the chosen profile's mode (R31). -/
def headPayload (s : State) (x : Slot) (q : QueuedCmd) (granted : Bool) : Bytes :=
  if granted && q.cls == .spinUp then q.payload.set 1 (BitVec.ofNat 8 (chosenMode s x)) else q.payload

/-- Forwarding the head, but for what it does to the spindle (R29). -/
def handed (n : SlotId) (k : Fin 4) (granted : Bool) (q : QueuedCmd) (rest : List QueuedCmd) (s : State) : State :=
  sendLink n (.command q.tag q.cls (headPayload s (s.slot n) q granted))
    (fillEntry n k (headEntry s (s.slot n) q granted)
      (modSlot n (fun x => { x with traffic.queue := rest, drift.lastForward := s.now }) s))

theorem handed_slot (n : SlotId) (k : Fin 4) (g : Bool) (q : QueuedCmd) (rest : List QueuedCmd) (s : State) :
    (handed n k g q rest s).slot n
      = { s.slot n with
          traffic := { (s.slot n).traffic with
            queue := rest
            inFlight := (s.slot n).traffic.inFlight.set k.val (some (headEntry s (s.slot n) q g)) k.isLt }
          drift.lastForward := s.now } := by
  unfold handed fillEntry
  rw [show ∀ (f : LinkFrame) (t : State), (sendLink n f t).slot n = t.slot n from fun _ _ => rfl, slot_modSlot_same,
    slot_modSlot_same]

theorem handed_sent (n : SlotId) (k : Fin 4) (g : Bool) (q : QueuedCmd) (rest : List QueuedCmd) (s : State) :
    (handed n k g q rest s).sent = s.sent ++ [(n, .command q.tag q.cls (headPayload s (s.slot n) q g))] := rfl

theorem handed_keeps (n : SlotId) (k : Fin 4) (g : Bool) (q : QueuedCmd) (rest : List QueuedCmd) (s : State) :
    KeepsBut [.slot n, .sent] s (handed n k g q rest s) := by
  unfold handed
  exact ((modSlot_keeps ..).mono (by simp)).trans (((fillEntry_keeps ..).mono (by simp)).trans ((sendLink_keeps ..).mono (by simp)))

/-- The spindle as forwarding the head leaves it (R31, R33). -/
def spindleHanded (cls : CmdClass) (granted : Bool) (sp : Spindle) : Spindle :=
  match cls with
  | .spinUp => if granted then .spinningUp else sp
  | .spinDown => if sp = .spinning then .spinningDown else sp
  | .identify | .light | .heavy => sp

/-- Forwarding is the handing, and the spindle set where the command moves it. -/
theorem forwardHead_cases {n : SlotId} {s : State} {q : QueuedCmd} {rest : List QueuedCmd} (k : Fin 4) (g : Bool)
    (h : (s.slot n).traffic.queue = q :: rest) :
    (forwardHead n k g s = handed n k g q rest s ∧ spindleHanded q.cls g (s.slot n).power.spindle = (s.slot n).power.spindle)
      ∨ (forwardHead n k g s = setSpindle n (spindleHanded q.cls g (s.slot n).power.spindle) (handed n k g q rest s)
          ∧ spindleHanded q.cls g (s.slot n).power.spindle ≠ .stopped ∧ (q.cls = .spinUp ∨ q.cls = .spinDown)) := by
  have hf : forwardHead n k g s =
      match q.cls with
      | .spinUp => if g then setSpindle n .spinningUp (handed n k g q rest s) else handed n k g q rest s
      | .spinDown =>
        if (s.slot n).power.spindle = .spinning then setSpindle n .spinningDown (handed n k g q rest s)
        else handed n k g q rest s
      | .light | .heavy | .identify => handed n k g q rest s := by
    unfold forwardHead
    simp only [h]
    rfl
  rw [hf]
  unfold spindleHanded
  cases q.cls
  case spinUp =>
    cases g
    · exact .inl ⟨rfl, rfl⟩
    · exact .inr ⟨rfl, by simp, .inl rfl⟩
  case spinDown =>
    dsimp only
    split
    · exact .inr ⟨rfl, by simp, .inr rfl⟩
    · exact .inl ⟨rfl, rfl⟩
  all_goals exact .inl ⟨rfl, rfl⟩

/-- What forwarding the head leaves of its slot's commands and power (R29, R31). -/
structure Forwarded (n : SlotId) (k : Fin 4) (g : Bool) (q : QueuedCmd) (rest : List QueuedCmd) (s t : State) : Prop where
  keeps : KeepsBut [.slot n, .passDue, .sent] s t
  slot : SlotKeepsBut [.queue, .lastForward, .spindle, .inFlight, .allocation] (s.slot n) (t.slot n)
  traffic : (t.slot n).traffic = { (s.slot n).traffic with
    queue := rest
    inFlight := (s.slot n).traffic.inFlight.set k.val (some (headEntry s (s.slot n) q g)) k.isLt }
  forwarded : (t.slot n).drift.lastForward = s.now
  power : ∃ a ≤ (s.slot n).power.allocation, (t.slot n).power = { (s.slot n).power with
    spindle := spindleHanded q.cls g (s.slot n).power.spindle, allocation := a }
  sent : t.sent = s.sent ++ [(n, .command q.tag q.cls (headPayload s (s.slot n) q g))]

theorem forwardHead_forwarded {n : SlotId} {s : State} {q : QueuedCmd} {rest : List QueuedCmd} (k : Fin 4) (g : Bool)
    (h : (s.slot n).traffic.queue = q :: rest) : Forwarded n k g q rest s (forwardHead n k g s) := by
  have hx := handed_slot n k g q rest s
  have ht := congrArg Slot.traffic hx
  have hd : ((handed n k g q rest s).slot n).drift.lastForward = s.now := congrArg (fun x : Slot => x.drift.lastForward) hx
  have hp := congrArg Slot.power hx
  have hs := handed_sent n k g q rest s
  refine ⟨forwardHead_keeps .., forwardHead_slot .., ?_, ?_, ?_, ?_⟩ <;>
    obtain ⟨he, hsp⟩ | ⟨he, hne, -⟩ := forwardHead_cases k g h <;> rw [he] <;>
    generalize handed n k g q rest s = t at *
  · exact ht
  · exact (setSpindle_spindle n _ t).2.trans ht
  · exact hd
  · exact ((setSpindle_slot_leaving n _ t).same .lastForward (by simp)).trans hd
  · exact ⟨_, le_rfl, hp.trans (by rw [hsp])⟩
  · obtain ⟨a, ha, hp'⟩ := setSpindle_power n (spindleHanded q.cls g (s.slot n).power.spindle) t
    rw [hp] at ha hp'
    refine ⟨a, ha, hp'.trans ?_⟩
    rw [if_neg hne]
  · exact hs
  · exact ((setSpindle_keeps n _ t).same .sent (by simp)).trans hs

/-! ### The queue head is considered -/

theorem considerHead_idle {n : SlotId} {s : State} (fuel : Nat)
    (h : (s.slot n).state.servesQueue = false ∨ (s.slot n).traffic.queue = []) : considerHead fuel n s = s := by
  cases fuel with
  | zero => rfl
  | succ fuel =>
    unfold considerHead
    obtain h | h := h
    · exact if_pos (by simp [h])
    · simp only [h, ite_self]

/-- The decision on the head q (R29). -/
def decisionOn (x : Slot) (q : QueuedCmd) : HeadDecision := headDecision q.cls x.power.spindle x.heavyInFlight

section
variable {n : SlotId} {s : State} {q : QueuedCmd} {rest : List QueuedCmd} (fuel : Nat)
  (hs : (s.slot n).state.servesQueue = true) (hq : (s.slot n).traffic.queue = q :: rest)
include hs hq

theorem considerHead_waits (h : decisionOn (s.slot n) q = .waits) : considerHead (fuel + 1) n s = s := by
  unfold decisionOn at h
  simp [considerHead, hs, hq, h]

theorem considerHead_full (h : decisionOn (s.slot n) q ≠ .refuse) (hk : (s.slot n).freeEntry = none) :
    considerHead (fuel + 1) n s = s := by
  unfold decisionOn at h
  cases hd : headDecision q.cls (s.slot n).power.spindle (s.slot n).heavyInFlight with
  | refuse => exact absurd hd h
  | forward | waits | needsGrant => simp [considerHead, hs, hq, hd, hk]

theorem considerHead_forwards {k : Fin 4} (h : decisionOn (s.slot n) q = .forward) (hk : (s.slot n).freeEntry = some k) :
    considerHead (fuel + 1) n s = considerHead fuel n (forwardHead n k false s) := by
  unfold decisionOn at h
  simp [considerHead, hs, hq, h, hk]

theorem considerHead_asks {k : Fin 4} (h : decisionOn (s.slot n) q = .needsGrant) (hk : (s.slot n).freeEntry = some k) :
    considerHead (fuel + 1) n s = requestHead n k q.cls s := by
  unfold decisionOn at h
  simp [considerHead, hs, hq, h, hk]

theorem considerHead_refuses (h : decisionOn (s.slot n) q = .refuse) :
    considerHead (fuel + 1) n s = considerHead fuel n (refuseHead n s) := by
  unfold decisionOn at h
  simp [considerHead, hs, hq, h]

end

theorem requestHead_none {n : SlotId} {s : State} (k : Fin 4) (c : CmdClass) (he : entryOf s n = none)
    (hh : (s.slot n).power.held = none) :
    (requestHead n k c s).power.queue = s.power.queue ++ [⟨n, if c = .heavy then .heavy else .spinUp, .server, 0, false⟩]
      ∧ (requestHead n k c s).power.passDue = true
      ∧ (requestHead n k c s).slot n = { s.slot n with traffic.reserved := some k } := by
  have hr : requestHead n k c s = joinAdmission n (if c = .heavy then .heavy else .spinUp) .server
      (modSlot n (fun x => { x with traffic.reserved := some k }) s) := if_neg (by simp [he, hh])
  have hx : (modSlot n (fun x => { x with traffic.reserved := some k }) s).slot n
      = { s.slot n with traffic.reserved := some k } := slot_modSlot_same ..
  have hq : (modSlot n (fun x => { x with traffic.reserved := some k }) s).power = s.power := rfl
  rw [hr]
  generalize modSlot n (fun x => { x with traffic.reserved := some k }) s = t at *
  obtain ⟨h1, h2⟩ := joinAdmission_of_none (n := n) (s := t) (by unfold entryOf; rw [hq]; exact he)
    (if c = .heavy then .heavy else .spinUp) .server
  exact ⟨h1.trans (by rw [hq]), h2, ((joinAdmission_keeps ..).slot_eq (by simp)).trans hx⟩

theorem requestHead_held {n : SlotId} {s : State} (k : Fin 4) (c : CmdClass)
    (h : entryOf s n ≠ none ∨ (s.slot n).power.held ≠ none) : requestHead n k c s = s :=
  if_pos (by simpa [← Option.isSome_iff_ne_none] using h)

theorem refuseHead_spec {n : SlotId} {s : State} {q : QueuedCmd} {rest : List QueuedCmd}
    (h : (s.slot n).traffic.queue = q :: rest) :
    (refuseHead n s).port.responses
        = s.port.responses ++ [.partMade q.source (slotByte n) (BitVec.ofNat 8 q.tag) .spindleStopped]
      ∧ ((refuseHead n s).slot n).traffic.queue = rest := by
  have hr : refuseHead n s = withdrawHead n (answerPart q.source n q.tag .spindleStopped
      (modSlot n (fun x => { x with traffic.queue := rest }) s)) := by
    unfold refuseHead
    simp only [h]
  have hresp : (answerPart q.source n q.tag .spindleStopped (modSlot n (fun x => { x with traffic.queue := rest }) s)).port.responses
      = s.port.responses ++ [.partMade q.source (slotByte n) (BitVec.ofNat 8 q.tag) .spindleStopped] := rfl
  have hx : (answerPart q.source n q.tag .spindleStopped (modSlot n (fun x => { x with traffic.queue := rest }) s)).slot n
      = { s.slot n with traffic.queue := rest } := slot_modSlot_same s n fun x => { x with traffic.queue := rest }
  rw [hr]
  generalize answerPart q.source n q.tag .spindleStopped (modSlot n (fun x => { x with traffic.queue := rest }) s) = t at *
  exact ⟨((withdrawHead_keeps n t).same .responses (by simp)).trans hresp,
    ((withdrawHead_slot n t).same .queue (by simp)).trans (congrArg (fun x : Slot => x.traffic.queue) hx)⟩

/-! ### Serving the list does not look at the queue -/

/-- A record with its slot command queue replaced. -/
def withQueue (l : List QueuedCmd) (x : Slot) : Slot := { x with traffic.queue := l }

theorem modSlot_withQueue {n : SlotId} {f : Slot → Slot} (s : State) {l : List QueuedCmd}
    (h : ∀ x, f (withQueue l x) = withQueue l (f x)) :
    modSlot n f (modSlot n (withQueue l) s) = modSlot n (withQueue l) (modSlot n f s) := by
  rw [modSlot_modSlot, modSlot_modSlot]
  exact congrArg (fun g => modSlot n g s) (funext h)

theorem figureParts_withQueue (s : State) (n : SlotId) (l : List QueuedCmd) (x : Slot) :
    figureParts (modSlot n (withQueue l) s) (withQueue l x) = figureParts s x := rfl

theorem setAllocation_withQueue (n : SlotId) (a : Nat) (l : List QueuedCmd) (s : State) :
    setAllocation n a (modSlot n (withQueue l) s) = modSlot n (withQueue l) (setAllocation n a s) := by
  have hm : modSlot n (fun x => { x with power.allocation := a }) (modSlot n (withQueue l) s)
      = modSlot n (withQueue l) (modSlot n (fun x => { x with power.allocation := a }) s) := modSlot_withQueue s fun _ => rfl
  have ha : ((modSlot n (withQueue l) s).slot n).power.allocation = (s.slot n).power.allocation := by
    rw [slot_modSlot_same]; rfl
  unfold setAllocation
  simp only [hm, ha]
  rfl

theorem followFigure_withQueue {n : SlotId} {f : Slot → Slot} (s : State) {l : List QueuedCmd}
    (h : ∀ x, f (withQueue l x) = withQueue l (f x)) :
    followFigure n f (modSlot n (withQueue l) s) = modSlot n (withQueue l) (followFigure n f s) := by
  unfold followFigure
  dsimp only
  rw [modSlot_withQueue s h]
  generalize modSlot n f s = t
  have hx : (modSlot n (withQueue l) t).slot n = withQueue l (t.slot n) := slot_modSlot_same ..
  have hy : (modSlot n (withQueue l) s).slot n = withQueue l (s.slot n) := slot_modSlot_same ..
  rw [hx, hy, figureParts_withQueue, figureParts_withQueue]
  split
  · rfl
  · unfold lowerAllocation
    rw [hx]
    exact setAllocation_withQueue ..

theorem setSpindle_withQueue (n : SlotId) (sp : Spindle) (l : List QueuedCmd) (s : State) :
    setSpindle n sp (modSlot n (withQueue l) s) = modSlot n (withQueue l) (setSpindle n sp s) := by
  refine followFigure_withQueue s fun x => ?_
  dsimp only [withQueue]
  split
  · unfold applyPending
    dsimp only
    split <;> rfl
  · rfl

theorem launch_withQueue (n : SlotId) (k : Fin 4) (i : Injection) (l : List QueuedCmd) (s : State) :
    launch n k i (modSlot n (withQueue l) s) = modSlot n (withQueue l) (launch n k i s) := by
  have hu : unlist n i.cls (modSlot n (withQueue l) s) = modSlot n (withQueue l) (unlist n i.cls s) :=
    modSlot_withQueue s fun _ => rfl
  have ht : (if i.cls = .spinUp then modSlot n takeHeld (unlist n i.cls (modSlot n (withQueue l) s))
        else unlist n i.cls (modSlot n (withQueue l) s))
      = modSlot n (withQueue l) (if i.cls = .spinUp then modSlot n takeHeld (unlist n i.cls s) else unlist n i.cls s) := by
    rw [hu]
    split
    · exact modSlot_withQueue _ fun _ => rfl
    · rfl
  unfold launch
  dsimp only
  rw [ht]
  generalize (if i.cls = .spinUp then modSlot n takeHeld (unlist n i.cls s) else unlist n i.cls s) = t
  have hx : (modSlot n (withQueue l) t).slot n = withQueue l (t.slot n) := slot_modSlot_same ..
  have hc : ∀ c g, classTimeout (modSlot n (withQueue l) t) (withQueue l (t.slot n)) c g = classTimeout t (t.slot n) c g :=
    fun _ _ => rfl
  rw [hx, hc]
  have hfill : ∀ e, fillEntry n k e (modSlot n (withQueue l) t) = modSlot n (withQueue l) (fillEntry n k e t) :=
    fun _ => modSlot_withQueue t fun _ => rfl
  simp only [modSlot_now, hfill]
  rfl

theorem serveInjections_withQueue (n : SlotId) (l : List QueuedCmd) (s : State) :
    serveInjections n (modSlot n (withQueue l) s) = modSlot n (withQueue l) (serveInjections n s) := by
  have hx : (modSlot n (withQueue l) s).slot n = withQueue l (s.slot n) := slot_modSlot_same ..
  have hsend : ∀ k i, sendInjection n k i (modSlot n (withQueue l) s) = modSlot n (withQueue l) (sendInjection n k i s) := by
    intro k i
    have hp : ((launch n k i (modSlot n (withQueue l) s)).slot n).power = ((launch n k i s).slot n).power := by
      rw [launch_withQueue, slot_modSlot_same]; rfl
    rw [sendInjection_eq, sendInjection_eq, hp, launch_withQueue]
    cases i.cls with
    | spinUp => exact setSpindle_withQueue ..
    | spinDown =>
      dsimp only
      split
      · exact setSpindle_withQueue ..
      · rfl
    | light | heavy | identify => rfl
  unfold serveInjections
  dsimp only
  rw [hx]
  have hi : (withQueue l (s.slot n)).traffic.injections = (s.slot n).traffic.injections := rfl
  have hpow : (withQueue l (s.slot n)).lines.powered = (s.slot n).lines.powered := rfl
  have hpart : (withQueue l (s.slot n)).partInFlight = (s.slot n).partInFlight := rfl
  have hfree : (withQueue l (s.slot n)).freeEntry = (s.slot n).freeEntry := rfl
  rw [hi, hpow, hpart, hfree]
  split
  · rfl
  · split
    · split
      · rfl
      · exact hsend ..
    · rfl

/-! ### A SLOT_CMD that passes its checks -/

theorem servesQueue_of_accepts {st : SlotState} {c : CmdClass} (h : st.accepts c = true) : st.servesQueue = true := by
  cases st <;> simp_all [SlotState.accepts, SlotState.servesQueue]

theorem servesQueue_of_ok {x : Slot} {tag : Nat} {cls : Option CmdClass} {c : CmdClass} (h : checkCommand x tag cls = .ok c) :
    x.state.servesQueue = true := by
  obtain ⟨-, -, ha, -⟩ := checkCommand_ok h
  exact servesQueue_of_accepts ha

/-- A frame that passes joins the queue; behind others it waits. -/
theorem takeSlotCmd_behind {n : SlotId} {source : Byte} {payload : Bytes} {s : State} {c : CmdClass}
    (h : checkCommand (s.slot n) (payload.getD 1 0).toNat (frameCommand payload) = .ok c) (hq : (s.slot n).traffic.queue ≠ []) :
    takeSlotCmd n source payload s
      = queueCommand n ⟨(payload.getD 1 0).toNat, c, payload.drop 5, source⟩ s := by
  unfold takeSlotCmd
  dsimp only
  rw [h]
  exact if_neg hq

/-- A frame that passes into an empty queue is its head: the injection list is served first. -/
theorem takeSlotCmd_head {n : SlotId} {source : Byte} {payload : Bytes} {s : State} {c : CmdClass}
    (h : checkCommand (s.slot n) (payload.getD 1 0).toNat (frameCommand payload) = .ok c) (hq : (s.slot n).traffic.queue = []) :
    takeSlotCmd n source payload s
      = considerHead 9 n (modSlot n (withQueue [⟨(payload.getD 1 0).toNat, c, payload.drop 5, source⟩]) (serveInjections n s)) := by
  have hj : queueCommand n ⟨(payload.getD 1 0).toNat, c, payload.drop 5, source⟩ s
      = modSlot n (withQueue [⟨(payload.getD 1 0).toNat, c, payload.drop 5, source⟩]) s := by
    unfold queueCommand modSlot withQueue
    dsimp only
    rw [hq]
    rfl
  unfold takeSlotCmd
  dsimp only
  rw [h]
  refine (if_pos hq).trans ?_
  rw [← serveInjections_withQueue, ← hj]
  rfl

/-- The class timeouts of the settings, in seconds (R36). -/
def timeoutSeconds (s : State) : CmdClass → Nat
  | .light => s.store.settings.lightTimeout
  | .heavy => s.store.settings.heavyTimeout
  | .identify => s.store.settings.identifyTimeout
  | .spinDown => s.store.settings.spinDownTimeout
  | .spinUp => s.store.settings.repeatSpinUpTimeout

theorem classTimeout_ungranted (s : State) (x : Slot) (c : CmdClass) :
    classTimeout s x c false = timeoutSeconds s c * 1000 := by
  cases c <;> rfl

section
variable {n : SlotId} {v : State} {q : QueuedCmd} (hs : (v.slot n).state.servesQueue = true)
include hs

/-- A lone head that is forwarded. -/
theorem considerHead_lone_forwarded {k : Fin 4} (h : decisionOn (v.slot n) q = .forward) (hk : (v.slot n).freeEntry = some k) :
    considerHead 9 n (modSlot n (withQueue [q]) v) = forwardHead n k false (modSlot n (withQueue [q]) v) := by
  have hx : (modSlot n (withQueue [q]) v).slot n = withQueue [q] (v.slot n) := slot_modSlot_same ..
  generalize modSlot n (withQueue [q]) v = t at *
  have hq : (t.slot n).traffic.queue = [q] := by rw [hx]; rfl
  rw [considerHead_forwards 8 (by rw [hx]; exact hs) hq (by rw [hx]; exact h) (by rw [hx]; exact hk)]
  refine considerHead_idle 8 (.inr ?_)
  rw [(forwardHead_forwarded k false hq).traffic]

theorem considerHead_lone_waits
    (h : decisionOn (v.slot n) q = .waits ∨ decisionOn (v.slot n) q ≠ .refuse ∧ (v.slot n).freeEntry = none) :
    considerHead 9 n (modSlot n (withQueue [q]) v) = modSlot n (withQueue [q]) v := by
  have hx : (modSlot n (withQueue [q]) v).slot n = withQueue [q] (v.slot n) := slot_modSlot_same ..
  generalize modSlot n (withQueue [q]) v = t at *
  have hq : (t.slot n).traffic.queue = [q] := by rw [hx]; rfl
  obtain h | ⟨h, hk⟩ := h
  · exact considerHead_waits 8 (by rw [hx]; exact hs) hq (by rw [hx]; exact h)
  · exact considerHead_full 8 (by rw [hx]; exact hs) hq (by rw [hx]; exact h) (by rw [hx]; exact hk)

theorem considerHead_lone_asks {k : Fin 4} (h : decisionOn (v.slot n) q = .needsGrant) (hk : (v.slot n).freeEntry = some k) :
    considerHead 9 n (modSlot n (withQueue [q]) v) = requestHead n k q.cls (modSlot n (withQueue [q]) v) := by
  have hx : (modSlot n (withQueue [q]) v).slot n = withQueue [q] (v.slot n) := slot_modSlot_same ..
  generalize modSlot n (withQueue [q]) v = t at *
  have hq : (t.slot n).traffic.queue = [q] := by rw [hx]; rfl
  exact considerHead_asks 8 (by rw [hx]; exact hs) hq (by rw [hx]; exact h) (by rw [hx]; exact hk)

theorem considerHead_lone_refused (h : decisionOn (v.slot n) q = .refuse) :
    considerHead 9 n (modSlot n (withQueue [q]) v) = refuseHead n (modSlot n (withQueue [q]) v) := by
  have hx : (modSlot n (withQueue [q]) v).slot n = withQueue [q] (v.slot n) := slot_modSlot_same ..
  generalize modSlot n (withQueue [q]) v = t at *
  have hq : (t.slot n).traffic.queue = [q] := by rw [hx]; rfl
  rw [considerHead_refuses 8 (by rw [hx]; exact hs) hq (by rw [hx]; exact h)]
  exact considerHead_idle 8 (.inr (refuseHead_spec hq).2)

end

theorem decisionOn_forward {x : Slot} {q : QueuedCmd} (c : CmdClass) (hc : q.cls = c)
    (h : c = .light ∨ c = .identify ∨ c = .spinDown ∧ x.power.spindle ≠ .spinningUp ∨ c = .spinUp ∧ x.power.spindle = .spinning
      ∨ c = .heavy ∧ x.power.spindle = .spinning ∧ x.heavyInFlight = true) : decisionOn x q = .forward := by
  unfold decisionOn
  rw [hc]
  obtain rfl | rfl | ⟨rfl, hsp⟩ | ⟨rfl, hsp⟩ | ⟨rfl, hsp, hh⟩ := h
  · rfl
  · rfl
  · cases hx : x.power.spindle <;> simp_all [headDecision]
  · rw [hsp]; rfl
  · rw [hsp, hh]; rfl

theorem decisionOn_asks {x : Slot} {q : QueuedCmd} (c : CmdClass) (hc : q.cls = c)
    (h : c = .spinUp ∧ (x.power.spindle = .stopped ∨ x.power.spindle = .spinningDown)
      ∨ c = .heavy ∧ x.power.spindle = .spinning ∧ x.heavyInFlight = false) : decisionOn x q = .needsGrant := by
  unfold decisionOn
  rw [hc]
  obtain ⟨rfl, hsp | hsp⟩ | ⟨rfl, hsp, hh⟩ := h
  · rw [hsp]; rfl
  · rw [hsp]; rfl
  · rw [hsp, hh]; rfl

theorem decisionOn_waits {x : Slot} {q : QueuedCmd} (c : CmdClass) (hc : q.cls = c) (hsp : x.power.spindle = .spinningUp)
    (h : c = .spinDown ∨ c = .spinUp ∨ c = .heavy) : decisionOn x q = .waits := by
  unfold decisionOn
  rw [hc, hsp]
  obtain rfl | rfl | rfl := h <;> rfl

theorem decisionOn_refuse {x : Slot} {q : QueuedCmd} (c : CmdClass) (hc : q.cls = c) :
    decisionOn x q = .refuse ↔ c = .heavy ∧ (x.power.spindle = .stopped ∨ x.power.spindle = .spinningDown) := by
  unfold decisionOn
  rw [hc]
  cases c <;> cases x.power.spindle <;> cases x.heavyInFlight <;> simp [headDecision]

/-- Settles O23: the list does not look at the queue, so the frame meets the slot as serving the list leaves it; what
becomes of it is one row of R29. -/
theorem slotCmdAccepted : Obligations.SlotCmdAccepted := by
  unfold Obligations.SlotCmdAccepted
  refine ⟨fun dest source payload s n c hv hd hn ok => ?_, fun dest source payload s n c hv hd hn ok hempty => ?_⟩
  · have hsv := servesQueue_of_ok ok
    refine ⟨_, exec_slotCmd hv hd hn, ?_, fun hq => takeSlotCmd_behind ok hq, fun hq hi hc k hk => ?_⟩
    · by_cases hq : (s.slot n).traffic.queue = []
      · rw [takeSlotCmd_head ok hq]
        exact ((serveInjections_keeps ..).mono (by simp)).trans
          (((modSlot_keeps ..).mono (by simp)).trans (considerHead_keeps ..))
      · rw [takeSlotCmd_behind ok hq]
        exact (modSlot_keeps ..).mono (by simp)
    · have hdec : decisionOn (s.slot n) ⟨(payload.getD 1 0).toNat, c, payload.drop 5, source⟩ = .forward :=
        decisionOn_forward c rfl (by tauto)
      have hx : (modSlot n (withQueue [⟨(payload.getD 1 0).toNat, c, payload.drop 5, source⟩]) s).slot n
          = withQueue [⟨(payload.getD 1 0).toNat, c, payload.drop 5, source⟩] (s.slot n) := slot_modSlot_same ..
      have hkm := modSlot_keeps n (withQueue [⟨(payload.getD 1 0).toNat, c, payload.drop 5, source⟩]) s
      have hst : (modSlot n (withQueue [⟨(payload.getD 1 0).toNat, c, payload.drop 5, source⟩]) s).store = s.store := rfl
      rw [takeSlotCmd_head ok hq, serveInjections_of_quiet (.inl hi), considerHead_lone_forwarded hsv hdec hk]
      generalize modSlot n (withQueue [⟨(payload.getD 1 0).toNat, c, payload.drop 5, source⟩]) s = t at *
      have htq : (t.slot n).traffic.queue = [⟨(payload.getD 1 0).toNat, c, payload.drop 5, source⟩] := by rw [hx]; rfl
      have hf : forwardHead n k false t = handed n k false ⟨(payload.getD 1 0).toNat, c, payload.drop 5, source⟩ [] t := by
        obtain ⟨he, -⟩ | ⟨-, -, hcls⟩ := forwardHead_cases k false htq
        · exact he
        · obtain rfl | rfl := hc <;> simp at hcls
      have hnow : t.now = s.now := hkm.same .now (by simp)
      have hset : timeoutSeconds t c
          = (if c = .light then s.store.settings.lightTimeout else s.store.settings.identifyTimeout) := by
        obtain rfl | rfl := hc <;> simp [timeoutSeconds, hst]
      rw [hf]
      refine ⟨?_, ?_, (hkm.mono (by simp)).trans (handed_keeps ..)⟩
      · rw [handed_slot, hx, headEntry, classTimeout_ungranted, hset, hnow]
        rfl
      · rw [handed_sent, (hkm.same .sent (by simp) : t.sent = s.sent)]
        rfl
  · have hkv := serveInjections_keeps n s
    have hxv := serveInjections_slot n s
    have hsv : ((serveInjections n s).slot n).state.servesQueue = true := by
      rw [(hxv.same .state (by simp) : _ = (s.slot n).state)]
      exact servesQueue_of_ok ok
    have hstore : (serveInjections n s).store.settings = s.store.settings := hkv.same .settings (by simp)
    have hnow : (serveInjections n s).now = s.now := hkv.same .now (by simp)
    have hqv : ((serveInjections n s).slot n).traffic.queue = [] := (hxv.same .queue (by simp)).trans hempty
    refine ⟨_, (exec_slotCmd hv hd hn).trans (congrArg (fun t => Host.Outcome.next (finish t)) (takeSlotCmd_head ok hempty)), ?_⟩
    generalize serveInjections n s = v at *
    have hx := slot_modSlot_same v n (withQueue [⟨(payload.getD 1 0).toNat, c, payload.drop 5, source⟩])
    have hkm := modSlot_keeps n (withQueue [⟨(payload.getD 1 0).toNat, c, payload.drop 5, source⟩]) v
    have hpow : (modSlot n (withQueue [⟨(payload.getD 1 0).toNat, c, payload.drop 5, source⟩]) v).power = v.power := rfl
    refine ⟨fun hfull hr => considerHead_lone_waits hsv (.inr ⟨fun h => hr ((decisionOn_refuse c rfl).1 h), hfull⟩),
      fun hsp hc => considerHead_lone_waits hsv (.inl (decisionOn_waits c rfl hsp hc)), fun hfw k hk => ?_, fun has k hk => ?_,
      fun href => ?_⟩
    · rw [considerHead_lone_forwarded hsv (decisionOn_forward c rfl hfw) hk]
      generalize modSlot n (withQueue [⟨(payload.getD 1 0).toNat, c, payload.drop 5, source⟩]) v = t at *
      have htq : (t.slot n).traffic.queue = [⟨(payload.getD 1 0).toNat, c, payload.drop 5, source⟩] := by rw [hx]; rfl
      have hf := forwardHead_forwarded k false htq
      obtain ⟨a, -, hp⟩ := hf.power
      have htp : (t.slot n).power = (v.slot n).power := by rw [hx]; rfl
      have htn : t.now = s.now := (hkm.same .now (by simp)).trans hnow
      have hts : timeoutSeconds t c = timeoutSeconds s c := by
        unfold timeoutSeconds
        rw [(hkm.same .settings (by simp) : t.store.settings = v.store.settings), hstore]
      have hy : SlotKeepsBut [.queue] (v.slot n) (t.slot n) := by
        rw [hx]
        exact ⟨fun g hg => by cases g <;> simp_all [slotSameIn, withQueue]⟩
      have hyq := (hy.mono (by simp : _ ⊆ [.queue, .lastForward, .spindle, .inFlight, .allocation])).trans hf.slot
      generalize forwardHead n k false t = u at *
      have htraffic := hf.traffic
      refine ⟨(hkm.mono (by simp)).trans hf.keeps, ⟨fun g hg => ?_⟩, ?_, hf.forwarded.trans htn, ?_, ?_, ?_, ?_⟩
      · by_cases hg' : g = .queue
        · subst hg'
          have : (u.slot n).traffic.queue = [] := by rw [htraffic]
          exact this.trans hqv.symm
        · exact hyq.same g (by simp_all)
      · rw [hf.sent, (hkm.same .sent (by simp) : t.sent = v.sent)]
        rfl
      · have hE : headEntry t (t.slot n) ⟨(payload.getD 1 0).toNat, c, payload.drop 5, source⟩ false
            = ⟨(payload.getD 1 0).toNat, c, .server, false, s.now, timeoutSeconds s c * 1000, some source, false⟩ := by
          rw [headEntry, classTimeout_ungranted, hts, htn]
        rw [htraffic, hE, hx]
        cases c <;> rfl
      · rw [hp, htp]
        unfold spindleHanded
        cases c <;> simp
      · rw [hp, htp]
      · rw [hp, htp]
    · rw [considerHead_lone_asks hsv (decisionOn_asks c rfl has) hk]
      have hent : entryOf (modSlot n (withQueue [⟨(payload.getD 1 0).toNat, c, payload.drop 5, source⟩]) v) n = entryOf v n := rfl
      generalize ht : modSlot n (withQueue [⟨(payload.getD 1 0).toNat, c, payload.drop 5, source⟩]) v = t at *
      have htp : (t.slot n).power = (v.slot n).power := by rw [hx]; rfl
      refine ⟨fun hno hh => ?_, fun h => (requestHead_held k c (by rw [hent, htp]; exact h)).trans ht.symm⟩
      obtain ⟨h1, h2, h3⟩ := requestHead_none (s := t) k c (hent.trans hno) (by rw [htp]; exact hh)
      refine ⟨(hkm.mono (by simp)).trans (requestHead_keeps ..), h1.trans (by rw [hpow]), h2, h3.trans ?_⟩
      rw [hx]
      rfl
    · rw [considerHead_lone_refused hsv ((decisionOn_refuse c rfl).2 href)]
      generalize modSlot n (withQueue [⟨(payload.getD 1 0).toNat, c, payload.drop 5, source⟩]) v = t at *
      have htq : (t.slot n).traffic.queue = [⟨(payload.getD 1 0).toNat, c, payload.drop 5, source⟩] := by rw [hx]; rfl
      obtain ⟨h1, h2⟩ := refuseHead_spec htq
      refine ⟨?_, h2, ?_, ?_⟩
      · rw [h1, (hkm.same .responses (by simp) : t.port.responses = v.port.responses)]
        simp only [BitVec.ofNat_toNat, BitVec.setWidth_eq]
      · exact ((refuseHead_keeps n t).same .sent (by simp)).trans (hkm.same .sent (by simp))
      · have hin := (refuseHead_slot n t).same .inFlight (by simp)
        refine hin.trans ?_
        rw [hx]
        rfl

end Sys2Proof.Machine
end

section
/-! SUPPORT. What serving the queue head keeps of the table, and the success of a recovery episode (O51). -/

namespace Sys2Proof.Machine

/-! ### The free entry -/

theorem freeEntry_of_free {x : Slot} {j : Fin 4} (h : x.traffic.inFlight[j] = none) (hr : x.traffic.reserved ≠ some j) :
    ∃ k, x.freeEntry = some k := by
  refine Option.isSome_iff_exists.1 (List.find?_isSome.2 ⟨j, List.mem_finRange j, ?_⟩)
  have h' : x.traffic.inFlight[j.val] = none := h
  simp [h', hr]

theorem freeEntry_zero {x : Slot} (h : x.traffic.inFlight[(0 : Fin 4)] = none) (hr : x.traffic.reserved ≠ some 0) :
    x.freeEntry = some 0 := by
  have h' : x.traffic.inFlight[(0 : Fin 4).val] = none := h
  unfold Slot.freeEntry
  rw [List.finRange_succ]
  exact List.find?_cons_of_pos (by simpa [hr] using h')

/-! ### Serving the head fills free entries and sends -/

/-- What considering heads does to the table and the link: held entries stay, new ones are a server's, and the frames
are put on the link behind those sent. -/
structure HeadsTaken (n : SlotId) (s t : State) : Prop where
  held : ∀ (k : Fin 4) (e : InFlight), (s.slot n).traffic.inFlight[k] = some e → (t.slot n).traffic.inFlight[k] = some e
  fresh : ∀ (k : Fin 4) (e : InFlight), (t.slot n).traffic.inFlight[k] = some e →
    (s.slot n).traffic.inFlight[k] = some e ∨ e.origin = .server
  sent : ∀ f ∈ s.sent, f ∈ t.sent

theorem HeadsTaken.of_same {n : SlotId} {s t : State} (h : (t.slot n).traffic.inFlight = (s.slot n).traffic.inFlight)
    (hs : t.sent = s.sent) : HeadsTaken n s t :=
  ⟨fun k e he => by rw [h]; exact he, fun k e he => .inl (by rw [← h]; exact he), fun f hf => by rw [hs]; exact hf⟩

theorem HeadsTaken.trans {n : SlotId} {s t u : State} (h : HeadsTaken n s t) (h' : HeadsTaken n t u) : HeadsTaken n s u := by
  refine ⟨fun k e he => h'.held k e (h.held k e he), fun k e he => ?_, fun f hf => h'.sent f (h.sent f hf)⟩
  obtain he' | ho := h'.fresh k e he
  · exact h.fresh k e he'
  · exact .inr ho

theorem forwardHead_headsTaken {n : SlotId} {s : State} {k : Fin 4} {q : QueuedCmd} {rest : List QueuedCmd} (g : Bool)
    (hq : (s.slot n).traffic.queue = q :: rest) (hk : (s.slot n).traffic.inFlight[k] = none) :
    HeadsTaken n s (forwardHead n k g s) := by
  have hf := forwardHead_forwarded k g hq
  generalize forwardHead n k g s = t at hf ⊢
  have hin : ∀ j : Fin 4, (t.slot n).traffic.inFlight[j]
      = if j = k then some (headEntry s (s.slot n) q g) else (s.slot n).traffic.inFlight[j] := fun j => by
    rw [hf.traffic]
    exact inFlight_set ..
  refine ⟨fun j e he => ?_, fun j e he => ?_, fun f hm => by rw [hf.sent]; exact List.mem_append_left _ hm⟩
  · rw [hin, if_neg (by rintro rfl; rw [hk] at he; cases he)]
    exact he
  · rw [hin] at he
    split at he
    · cases he
      exact .inr rfl
    · exact .inl he

theorem considerHead_headsTaken (fuel : Nat) (n : SlotId) (s : State) : HeadsTaken n s (considerHead fuel n s) := by
  induction fuel generalizing s with
  | zero => exact .of_same rfl rfl
  | succ fuel ih =>
    cases hs : (s.slot n).state.servesQueue with
    | false => rw [considerHead_idle _ (.inl hs)]; exact .of_same rfl rfl
    | true =>
      cases hq : (s.slot n).traffic.queue with
      | nil => rw [considerHead_idle _ (.inr hq)]; exact .of_same rfl rfl
      | cons q rest =>
        cases hd : decisionOn (s.slot n) q with
        | waits => rw [considerHead_waits fuel hs hq hd]; exact .of_same rfl rfl
        | refuse =>
          rw [considerHead_refuses fuel hs hq hd]
          exact (HeadsTaken.of_same ((refuseHead_slot n s).same .inFlight (by simp))
            ((refuseHead_keeps n s).same .sent (by simp))).trans (ih _)
        | forward =>
          cases hk : (s.slot n).freeEntry with
          | none => rw [considerHead_full fuel hs hq (by rw [hd]; simp) hk]; exact .of_same rfl rfl
          | some k =>
            rw [considerHead_forwards fuel hs hq hd hk]
            exact (forwardHead_headsTaken false hq (freeEntry_eq_some hk).1).trans (ih _)
        | needsGrant =>
          cases hk : (s.slot n).freeEntry with
          | none => rw [considerHead_full fuel hs hq (by rw [hd]; simp) hk]; exact .of_same rfl rfl
          | some k =>
            rw [considerHead_asks fuel hs hq hd hk]
            exact .of_same ((requestHead_slot n k q.cls s).same .inFlight (by simp))
              ((requestHead_keeps n k q.cls s).same .sent (by simp))

/-! ### The success of an episode -/

/-- The state after a success before the list is served (R45, R88). -/
def resumed (n : SlotId) (s : State) : State :=
  shedCheck n (refillInjections n (setState n ((s.slot n).recovery.resume.getD .ready)
    (endEpisode n (partCount n 15 (modSlot n countEpisode s)))))

theorem recoverySuccess_eq (n : SlotId) (s : State) : recoverySuccess n s = serveSlot n (resumed n s) := rfl

/-- The IDENTIFY listed after a success (R45). -/
def identifyRefill (back : SlotState) : List Injection := if back = .identifying then [bareInjection .identify] else []

/-- The SPIN_DOWN listed after a success (R45, R88). -/
def spinDownRefill (s : State) (n : SlotId) (back : SlotState) : List Injection :=
  if (s.slot n).power.spindle = .spinningDown then [⟨.spinDown, false, false, true, false, false⟩]
  else if (s.slot n).power.spindle = .spinningUp then [⟨.spinDown, false, true, false, false, false⟩]
  else if (s.slot n).power.spindle = .spinning ∧ s.power.supply ≠ .normal ∧ back ≠ .recovering then
    [⟨.spinDown, false, false, false, true, false⟩]
  else []

/-- What a success does before the list is served (R45). -/
structure Resumed (n : SlotId) (s t : State) : Prop where
  keeps : KeepsBut [.slot n, .partSet, .noticeQueue] s t
  slot : SlotKeepsBut [.state, .lamps, .injections, .recovery, .tallies, .events, .notice] (s.slot n) (t.slot n)
  state : (t.slot n).state = (s.slot n).recovery.resume.getD .ready
  recovery : (t.slot n).recovery = { (s.slot n).recovery with
    episodes := (s.slot n).recovery.episodes + 1, resume := none, breakLatch := false, attempts := 0, wait := none }
  tallies : (t.slot n).tallies = { (s.slot n).tallies with
    badFrames := 0, goodRun := 0, unexpected := 0
    counters := (s.slot n).tallies.counters.set 15 (min 65535 ((s.slot n).tallies.counters[15] + 1))
    accumulator := min 65534 ((s.slot n).tallies.accumulator + s.tables.defects[15].weight) }
  refilled : (s.slot n).lines.powered = true → (s.slot n).traffic.injections = [] →
    (t.slot n).traffic.injections
      = identifyRefill ((s.slot n).recovery.resume.getD .ready) ++ spinDownRefill s n ((s.slot n).recovery.resume.getD .ready)

theorem partCount_keeps (n : SlotId) (c : Fin 16) (s : State) :
    KeepsBut [.slot n, .partSet, .noticeQueue] s (partCount n c s) :=
  ((tally_keeps n c s).mono (by simp)).trans (noteDefect_keeps ..)

theorem partCount_tallies (n : SlotId) (c : Fin 16) (s : State) :
    ((partCount n c s).slot n).tallies = { (s.slot n).tallies with
      counters := (s.slot n).tallies.counters.set c (min 65535 ((s.slot n).tallies.counters[c] + 1))
      accumulator := min 65534 ((s.slot n).tallies.accumulator + s.tables.defects[c].weight) } := by
  have h : ((partCount n c s).slot n).tallies = ((tally n c s).slot n).tallies :=
    (noteDefect_slot_keeps n false c (tally n c s)).same .tallies (by simp)
  rw [h, tally_slot]

theorem endEpisode_slot_same (n : SlotId) (s : State) :
    (endEpisode n s).slot n = { s.slot n with
      recovery := { (s.slot n).recovery with resume := none, breakLatch := false, attempts := 0, wait := none } } :=
  slot_modSlot_same ..

/-- The refill and the shed of a list that stands empty, on leaving RECOVERING (R45, R88). -/
theorem refilled_injections {n : SlotId} {s : State} (hp : (s.slot n).lines.powered = true)
    (hi : (s.slot n).traffic.injections = []) :
    ((shedCheck n (refillInjections n s)).slot n).traffic.injections
      = identifyRefill (s.slot n).state ++ spinDownRefill s n (s.slot n).state := by
  have hk := refillInjections_keeps n s
  have hx := refillInjections_slot n s
  have hr := refillInjections_injections hi
  generalize refillInjections n s = t at *
  have hst : (t.slot n).state = (s.slot n).state := hx.same .state (by simp)
  have hpow : (t.slot n).lines.powered = (s.slot n).lines.powered := hx.same .power (by simp)
  have hsp : (t.slot n).power.spindle = (s.slot n).power.spindle := (hx.same .spindle (by simp)).1
  have hsup : t.power.supply = s.power.supply := (hk.same .supply (by simp)).1
  have hr' : (t.slot n).traffic.injections = identifyRefill (s.slot n).state
      ++ match (s.slot n).power.spindle with
        | .spinningDown => [{ bareInjection .spinDown with recovery := true }]
        | .spinningUp => [{ bareInjection .spinDown with orphan := true }]
        | .stopped | .spinning => [] := hr
  obtain ⟨h1, h2, h3, h4, he⟩ | ⟨hno, he⟩ := shedCheck_cases n t
  · rw [he]
    rw [hsup] at h1
    rw [hst] at h3
    rw [hsp] at h4
    have hl : (t.slot n).traffic.injections = identifyRefill (s.slot n).state := by rw [hr', h4]; simp
    have hs : spinDownRefill s n (s.slot n).state = [{ bareInjection .spinDown with shed := true }] := by
      unfold spinDownRefill
      rw [h4]
      simp [h1, h3, bareInjection]
    rw [hs]
    by_cases hid : (s.slot n).state = .identifying
    · have hone : (t.slot n).traffic.injections = [bareInjection .identify] := by rw [hl]; exact if_pos hid
      rw [inject_injections_other hone (by decide), ← hl, hone]
      rfl
    · have hnil : (t.slot n).traffic.injections = [] := by rw [hl]; exact if_neg hid
      rw [inject_injections_empty hnil, ← hl, hnil]
      rfl
  · rw [he, hr']
    rw [hsup, hpow, hp, hst, hsp] at hno
    refine congrArg _ ?_
    unfold spinDownRefill
    cases hsp' : (s.slot n).power.spindle with
    | stopped => simp
    | spinningUp => simp [bareInjection]
    | spinningDown => simp [bareInjection]
    | spinning =>
      rw [hsp'] at hno
      rw [if_neg (by simp), if_neg (by simp), if_neg]
      rintro ⟨-, hs, hb⟩
      obtain h | h | h | h := hno
      · exact hs h
      · cases h
      · exact hb h
      · exact h rfl

theorem resumed_resumed (n : SlotId) (s : State) : Resumed n s (resumed n s) := by
  unfold resumed
  have hxa : (modSlot n countEpisode s).slot n = countEpisode (s.slot n) := slot_modSlot_same ..
  have hka := modSlot_keeps n countEpisode s
  generalize modSlot n countEpisode s = a at *
  have hab : SlotKeepsBut [.recovery, .tallies] (s.slot n) (a.slot n) := by
    rw [hxa]
    exact ⟨fun g hg => by cases g <;> simp_all [slotSameIn, countEpisode]⟩
  have hxb := partCount_slot n 15 a
  have hkb := partCount_keeps n 15 a
  have htb := partCount_tallies n 15 a
  generalize partCount n 15 a = b at *
  have hxc := endEpisode_slot_same n b
  have hkc : KeepsBut [.slot n] b (endEpisode n b) := modSlot_keeps ..
  have hcs := endEpisode_slot n b
  generalize endEpisode n b = c at *
  have hxd := setState_slot n ((s.slot n).recovery.resume.getD .ready) c
  have hkd := setState_keeps n ((s.slot n).recovery.resume.getD .ready) c
  have hsd := setState_slot_state n ((s.slot n).recovery.resume.getD .ready) c
  generalize setState n ((s.slot n).recovery.resume.getD .ready) c = d at *
  have hinj := refilled_injections (n := n) (s := d)
  have hke : KeepsBut [.slot n] d (shedCheck n (refillInjections n d)) := (refillInjections_keeps n d).trans (shedCheck_keeps ..)
  have hxe : SlotKeepsBut [.injections] (d.slot n) ((shedCheck n (refillInjections n d)).slot n) :=
    (refillInjections_slot n d).trans (by
      obtain ⟨-, -, -, -, he⟩ | ⟨-, he⟩ := shedCheck_cases n (refillInjections n d) <;> rw [he]
      · exact inject_slot ..
      · exact SlotKeepsBut.refl ..)
  generalize shedCheck n (refillInjections n d) = t at *
  have hksd : KeepsBut [.slot n, .partSet, .noticeQueue] s d :=
    (hka.mono (by simp)).trans ((hkb.mono (by simp)).trans ((hkc.mono (by simp)).trans (hkd.mono (by simp))))
  have hxsd : SlotKeepsBut [.state, .lamps, .injections, .recovery, .tallies, .events, .notice] (s.slot n) (d.slot n) :=
    (hab.mono (by simp)).trans ((hxb.mono (by simp)).trans ((hcs.mono (by simp)).trans (hxd.mono (by simp))))
  refine ⟨hksd.trans (hke.mono (by simp)), hxsd.trans (hxe.mono (by simp)), (hxe.same .state (by simp)).trans hsd, ?_, ?_,
    fun hp hi => ?_⟩
  · have h1 : (t.slot n).recovery = (c.slot n).recovery := (hxe.same .recovery (by simp)).trans (hxd.same .recovery (by simp))
    have h2 : (b.slot n).recovery = (a.slot n).recovery := hxb.same .recovery (by simp)
    rw [h1, hxc]
    dsimp only
    rw [h2, hxa]
    rfl
  · have h1 : (t.slot n).tallies = (b.slot n).tallies := (hxe.same .tallies (by simp)).trans
      ((hxd.same .tallies (by simp)).trans (hcs.same .tallies (by simp)))
    have h2 : a.tables.defects = s.tables.defects := hka.same .defects (by simp)
    rw [h1, htb, h2, hxa]
    rfl
  · have hp' : (d.slot n).lines.powered = true := (hxsd.same .power (by simp)).trans hp
    have hi' : (d.slot n).traffic.injections = [] := ((hxd.same .injections (by simp)).trans ((hcs.same .injections (by simp)).trans
      ((hxb.same .injections (by simp)).trans (hab.same .injections (by simp))))).trans hi
    have hsp : (d.slot n).power.spindle = (s.slot n).power.spindle := (hxsd.same .spindle (by simp)).1
    have hsup : d.power.supply = s.power.supply := (hksd.same .supply (by simp)).1
    rw [hinj hp' hi', hsd]
    unfold spinDownRefill
    rw [hsp, hsup]

/-! ### The refilled list is served -/

/-- The refill of a success (R45, R88). -/
def refill (s : State) (n : SlotId) (back : SlotState) : List Injection := identifyRefill back ++ spinDownRefill s n back

theorem refill_cons {s : State} {n : SlotId} {back : SlotState} {i : Injection} {rest : List Injection}
    (h : refill s n back = i :: rest) :
    (i.cls = .identify ∨ i.cls = .spinDown) ∧ i.final = false ∧ (refill s n back).filter (·.cls != i.cls) = rest := by
  have hs : spinDownRefill s n back = [] ∨ ∃ j, spinDownRefill s n back = [j] ∧ j.cls = .spinDown ∧ j.final = false := by
    unfold spinDownRefill
    split
    · exact .inr ⟨_, rfl, rfl, rfl⟩
    · split
      · exact .inr ⟨_, rfl, rfl, rfl⟩
      · split
        · exact .inr ⟨_, rfl, rfl, rfl⟩
        · exact .inl rfl
  have hi : identifyRefill back = [] ∨ identifyRefill back = [bareInjection .identify] := by
    unfold identifyRefill
    split
    · exact .inr rfl
    · exact .inl rfl
  unfold refill at h ⊢
  obtain hs | ⟨j, hs, hj, hf⟩ := hs <;> obtain hi | hi := hi <;> rw [hs, hi] at h ⊢
  · cases h
  · cases h; exact ⟨.inl rfl, rfl, rfl⟩
  · cases h; exact ⟨.inr hj, hf, by simp⟩
  · cases h; exact ⟨.inl rfl, rfl, by simp [bareInjection, hj]⟩

/-- What serving the refill does with the table empty, as it is in RECOVERING (R46). -/
structure RefillServed (n : SlotId) (i : Injection) (rest : List Injection) (v w : State) : Prop where
  injections : (w.slot n).traffic.injections = rest
  first : (w.slot n).traffic.inFlight[(0 : Fin 4)] = some ⟨31, i.cls, .part, false, v.now, timeoutSeconds v i.cls * 1000, none, i.final⟩
  others : ∀ k : Fin 4, k ≠ 0 → (w.slot n).traffic.inFlight[k] = none
  reserved : (w.slot n).traffic.reserved = none
  sent : (n, .command 31 i.cls [if i.cls = .identify then 0x10 else 0x20]) ∈ w.sent
  spindle : (w.slot n).power.spindle = spindleSent i.cls (v.slot n).power.spindle

theorem refillServed {n : SlotId} {v : State} {i : Injection} {rest : List Injection}
    (hi : (v.slot n).traffic.injections = i :: rest) (hp : (v.slot n).lines.powered = true)
    (hc : i.cls = .identify ∨ i.cls = .spinDown)
    (hrest : (v.slot n).traffic.injections.filter (·.cls != i.cls) = rest) (hr : (v.slot n).traffic.reserved = none)
    (hempty : ∀ k : Fin 4, (v.slot n).traffic.inFlight[k] = none) : RefillServed n i rest v (serveInjections n v) := by
  have hfree : (v.slot n).freeEntry = some 0 := freeEntry_zero (hempty 0) (by simp [hr])
  have hpart : (v.slot n).partInFlight = false := anyInFlight_of_tableEmpty (tableEmpty_iff.2 hempty) _
  obtain ⟨ht, hsp, hsent⟩ := sendInjection_traffic n 0 i v
  rw [serveInjections_of_ready hi hp hpart hfree]
  have hin : ∀ j : Fin 4, ((sendInjection n 0 i v).slot n).traffic.inFlight[j]
      = if j = 0 then some (sentEntry v (v.slot n) i) else (v.slot n).traffic.inFlight[j] := fun j => by
    rw [ht]
    exact inFlight_set _ j 0 _
  have hg : (i.cls == .spinUp) = false := by obtain h | h := hc <;> rw [h] <;> rfl
  have hentry : sentEntry v (v.slot n) i = ⟨31, i.cls, .part, false, v.now, timeoutSeconds v i.cls * 1000, none, i.final⟩ := by
    unfold sentEntry
    rw [hg, classTimeout_ungranted]
  refine ⟨by rw [ht]; exact hrest, by rw [hin, if_pos rfl, hentry], fun k hk => by rw [hin, if_neg hk]; exact hempty k,
    by rw [ht]; exact hr, ?_, hsp⟩
  rw [hsent]
  refine List.mem_append_right _ (List.mem_singleton.2 ?_)
  obtain h | h := hc <;> rw [h] <;> rfl

/-- A head that is a LIGHT or IDENTIFY goes into a free entry, and stays there. -/
theorem considerHead_forwarded {n : SlotId} {w : State} {q : QueuedCmd} {rest : List QueuedCmd} (fuel : Nat) {k : Fin 4}
    (hs : (w.slot n).state.servesQueue = true) (hq : (w.slot n).traffic.queue = q :: rest)
    (hc : q.cls = .light ∨ q.cls = .identify) (hk : (w.slot n).freeEntry = some k) :
    ((considerHead (fuel + 1) n w).slot n).traffic.inFlight[k]
      = some ⟨q.tag, q.cls, .server, false, w.now, timeoutSeconds w q.cls * 1000, some q.source, false⟩ := by
  rw [considerHead_forwards fuel hs hq (decisionOn_forward q.cls rfl (by tauto)) hk]
  refine (considerHead_headsTaken fuel n _).held k _ ?_
  rw [(forwardHead_forwarded k false hq).traffic]
  dsimp only
  rw [inFlight_set, if_pos rfl, headEntry, classTimeout_ungranted]

/-- A head that needs a grant asks for it (R30). -/
theorem considerHead_requested {n : SlotId} {w : State} {q : QueuedCmd} {rest : List QueuedCmd} (fuel : Nat) {k : Fin 4}
    (hs : (w.slot n).state.servesQueue = true) (hq : (w.slot n).traffic.queue = q :: rest)
    (hd : decisionOn (w.slot n) q = .needsGrant) (hk : (w.slot n).freeEntry = some k) (he : entryOf w n = none)
    (hh : (w.slot n).power.held = none) :
    entryOf (considerHead (fuel + 1) n w) n = some ⟨n, if q.cls = .heavy then .heavy else .spinUp, .server, 0, false⟩
      ∧ ((considerHead (fuel + 1) n w).slot n).traffic.queue = (w.slot n).traffic.queue
      ∧ ∃ k : Fin 4, ((considerHead (fuel + 1) n w).slot n).traffic.reserved = some k
          ∧ ((considerHead (fuel + 1) n w).slot n).traffic.inFlight[k] = none := by
  rw [considerHead_asks fuel hs hq hd hk]
  obtain ⟨h1, -, h3⟩ := requestHead_none k q.cls he hh
  refine ⟨?_, by rw [h3], k, by rw [h3], by rw [h3]; exact (freeEntry_eq_some hk).1⟩
  unfold entryOf at he ⊢
  rw [h1, List.find?_append, he]
  simp

end Sys2Proof.Machine
end

section
/-! SUPPORT. A link-ready and the wait for it (O51). -/

namespace Sys2Proof.Machine

theorem execLinkReady_success {n : SlotId} {s : State} {t : Nat} (on : (s.slot n).lines.powered = true)
    (rec : (s.slot n).state = .recovering) (hw : (s.slot n).recovery.wait = some t)
    (h : (s.slot n).recovery.attempts ≤ 1 ∨ t < s.now + 10000) :
    exec (.linkReady n) s = .next (finish (recoverySuccess n s)) := by
  refine congrArg Host.Outcome.next ((if_neg (by simp [on])).trans ((if_pos rec).trans (if_pos ?_)))
  rw [endsWait, hw]
  exact Bool.or_eq_true_iff.2 (h.imp decide_eq_true decide_eq_true)

theorem execLinkReady_ignored {n : SlotId} {s : State} (on : (s.slot n).lines.powered = true)
    (rec : (s.slot n).state = .recovering) (h : endsWait s.now (s.slot n).recovery = false) :
    exec (.linkReady n) s = .next s :=
  congrArg Host.Outcome.next ((if_neg (by simp [on])).trans ((if_pos rec).trans (if_neg (by simp [h]))))

/-- With the list that a success leaves served, the table of a slot that was empty (R28, R46). -/
theorem serveRefill {n : SlotId} {v : State} {back : SlotState} {s : State} (hp : (v.slot n).lines.powered = true)
    (hi : (v.slot n).traffic.injections = refill s n back) (hr : (v.slot n).traffic.reserved = none)
    (hempty : ∀ k : Fin 4, (v.slot n).traffic.inFlight[k] = none) :
    (refill s n back = [] ∧ serveInjections n v = v)
      ∨ ∃ i rest, refill s n back = i :: rest ∧ (i.cls = .identify ∨ i.cls = .spinDown) ∧ i.final = false
          ∧ RefillServed n i rest v (serveInjections n v) := by
  cases hL : refill s n back with
  | nil => exact .inl ⟨rfl, serveInjections_of_quiet (.inl (hi.trans hL))⟩
  | cons i rest =>
    obtain ⟨hc, hf, hfil⟩ := refill_cons hL
    exact .inr ⟨i, rest, rfl, hc, hf, refillServed (hi.trans hL) hp hc (by rw [hi]; exact hfil) hr hempty⟩

/-- Then the table has a free entry, and holds nothing of a server's. -/
theorem serveRefill_free {n : SlotId} {v : State} {back : SlotState} {s : State} (hp : (v.slot n).lines.powered = true)
    (hi : (v.slot n).traffic.injections = refill s n back) (hr : (v.slot n).traffic.reserved = none)
    (hempty : ∀ k : Fin 4, (v.slot n).traffic.inFlight[k] = none) :
    (∃ k, ((serveInjections n v).slot n).freeEntry = some k)
      ∧ ∀ (k : Fin 4) (f : InFlight), ((serveInjections n v).slot n).traffic.inFlight[k] = some f → f.cls ≠ .heavy := by
  obtain ⟨-, he⟩ | ⟨i, rest, -, hc, -, h⟩ := serveRefill hp hi hr hempty
  · rw [he]
    exact ⟨freeEntry_of_free (hempty 0) (by simp [hr]), fun k f hf => by rw [hempty k] at hf; cases hf⟩
  · refine ⟨freeEntry_of_free (h.others 1 (by decide)) (by simp [h.reserved]), fun k f hf => ?_⟩
    by_cases hk : k = 0
    · subst hk
      rw [h.first] at hf
      cases hf
      obtain hc | hc := hc <;> simp [hc]
    · rw [h.others k hk] at hf
      cases hf

theorem servesQueue_of_mem {st : SlotState} (h : st ∈ [SlotState.unmatched, .ready, .calibrating, .burning]) :
    st.servesQueue = true ∧ st ≠ .identifying ∧ st ≠ .recovering := by
  cases st <;> simp_all [SlotState.servesQueue]

/-- Settles O51: a success is the refill of an emptied list, and serving it and the head never touches an entry held. -/
theorem linkReadyTaken : Obligations.LinkReady := by
  unfold Obligations.LinkReady
  refine ⟨fun n s on => ⟨fun out => ?_, fun rec hw => ?_, fun rec many t hw late => ?_, fun rec t hw h => ?_⟩,
    fun n s at_ hw => ⟨fun out => ?_, fun rec few => ?_, fun rec many => ?_⟩⟩
  · rw [show (fun x : Slot => _) = countGood from (funext countGood_eq).symm]
    exact congrArg Host.Outcome.next ((if_neg (by simp [on])).trans (if_neg out))
  · exact execLinkReady_ignored on rec (by rw [endsWait, hw])
  · refine execLinkReady_ignored on rec ?_
    rw [endsWait, hw]
    exact Bool.or_eq_false_iff.2 ⟨decide_eq_false (by omega), decide_eq_false (by unfold Config.linkReadyWaitMs; omega)⟩
  · refine ⟨_, execLinkReady_success on rec hw h, ?_⟩
    rw [recoverySuccess_eq]
    have hv := resumed_resumed n s
    generalize resumed n s = v at *
    have hku := serveSlot_keeps n v
    have hxu := serveSlot_slot n v
    have hvr : (v.slot n).traffic.reserved = (s.slot n).traffic.reserved := hv.slot.same .reserved (by simp)
    have hvi : (v.slot n).traffic.inFlight = (s.slot n).traffic.inFlight := hv.slot.same .inFlight (by simp)
    have hvq : (v.slot n).traffic.queue = (s.slot n).traffic.queue := hv.slot.same .queue (by simp)
    have hvp : (v.slot n).lines.powered = true := (hv.slot.same .power (by simp)).trans on
    have hvsp : (v.slot n).power.spindle = (s.slot n).power.spindle := (hv.slot.same .spindle (by simp)).1
    have hvh : (v.slot n).power.held = (s.slot n).power.held := (hv.slot.same .spindle (by simp)).2.2
    have hvnow : v.now = s.now := hv.keeps.same .now (by simp)
    have hvset : v.store.settings = s.store.settings := hv.keeps.same .settings (by simp)
    have hvadm : v.power.queue = s.power.queue := hv.keeps.same .admission (by simp)
    refine ⟨(hv.keeps.mono (by simp)).trans (hku.mono (by simp)), (hxu.same .state (by simp)).trans hv.state,
      (hxu.same .recovery (by simp)).trans hv.recovery, (hxu.same .tallies (by simp)).trans hv.tallies,
      (hxu.same .retryMark (by simp)).trans (hv.slot.same .retryMark (by simp)), fun hempty => ?_⟩
    have hinj : (v.slot n).traffic.injections = refill s n ((s.slot n).recovery.resume.getD .ready) := hv.refilled on hempty
    refine ⟨⟨v, rfl, hv.keeps, hv.slot, hinj⟩, fun hres hfree => ?_⟩
    have hfree' : ∀ k : Fin 4, (v.slot n).traffic.inFlight[k] = none := fun k => by rw [hvi]; exact hfree k
    have hserved := serveRefill hvp hinj (hvr.trans hres) hfree'
    obtain ⟨⟨k, hk⟩, hheavy⟩ := serveRefill_free hvp hinj (hvr.trans hres) hfree'
    have hkw := serveInjections_keeps n v
    have hxw := serveInjections_slot n v
    have hhw : (s.slot n).power.held = none → ((serveInjections n v).slot n).power.held = none := fun hh =>
      serveInjections_held (hvh.trans hh)
    have hheads := considerHead_headsTaken 9 n (serveInjections n v)
    have hxh := considerHead_slot 9 n (serveInjections n v)
    have hu : serveSlot n v = considerHead 9 n (serveInjections n v) := rfl
    rw [hu]
    clear hu hku hxu
    have hfwd := fun hs q rest hq hc => considerHead_forwarded (w := serveInjections n v) (q := q) (rest := rest) 8 hs hq hc hk
    have hreq := fun hs q rest hq hd => considerHead_requested (w := serveInjections n v) (q := q) (rest := rest) 8 hs hq hd hk
    generalize considerHead 9 n (serveInjections n v) = u at *
    have hwset : (serveInjections n v).store.settings = s.store.settings := (hkw.same .settings (by simp)).trans hvset
    have hwnow : (serveInjections n v).now = s.now := (hkw.same .now (by simp)).trans hvnow
    have hwq : ((serveInjections n v).slot n).traffic.queue = (s.slot n).traffic.queue := (hxw.same .queue (by simp)).trans hvq
    have hwst : ((serveInjections n v).slot n).state = (s.slot n).recovery.resume.getD .ready :=
      (hxw.same .state (by simp)).trans hv.state
    have hwadm : (serveInjections n v).power.queue = s.power.queue := (hkw.same .admission (by simp)).trans hvadm
    generalize serveInjections n v = w at *
    refine ⟨fun hnil => ?_, fun i rest hcons => ?_, fun hback q rest hq => ?_⟩
    · obtain ⟨-, rfl⟩ | ⟨i, rest, hc, -⟩ := hserved
      · refine ⟨(hxh.same .injections (by simp)).trans (hinj.trans hnil), fun j f hf => ?_⟩
        obtain hf' | hf' := hheads.fresh j f hf
        · rw [hfree' j] at hf'
          cases hf'
        · exact hf'
      · exact absurd (hc.symm.trans hnil) (by simp)
    · obtain ⟨hn, -⟩ | ⟨i', rest', hc, hcls, hfin, h⟩ := hserved
      · exact absurd (hn.symm.trans hcons) (by simp)
      · obtain ⟨rfl, rfl⟩ := List.cons.inj (hc.symm.trans hcons)
        refine ⟨(hxh.same .injections (by simp)).trans h.injections, ?_, hheads.sent _ h.sent⟩
        have hsec : timeoutSeconds v i'.cls
            = if i'.cls = .identify then s.store.settings.identifyTimeout else s.store.settings.spinDownTimeout := by
          unfold timeoutSeconds
          obtain hc | hc := hcls <;> rw [hc, hvset] <;> rfl
        have hfirst := hheads.held 0 _ h.first
        rw [hsec, hvnow, hfin] at hfirst
        exact hfirst
    · obtain ⟨hserves, hnid, hnrec⟩ := servesQueue_of_mem hback
      have hws : (w.slot n).state.servesQueue = true := by rw [hwst]; exact hserves
      refine ⟨fun hc => ⟨k, ?_⟩, fun hent hheld => ⟨fun hc hsp => ?_, fun hc hsp hnormal => ?_⟩⟩
      · have hsec : timeoutSeconds w q.cls
            = if q.cls = .light then s.store.settings.lightTimeout else s.store.settings.identifyTimeout := by
          unfold timeoutSeconds
          obtain hc | hc := hc <;> rw [hc, hwset] <;> rfl
        have hf := hfwd hws q rest (hwq.trans hq) hc
        rw [hsec, hwnow] at hf
        exact hf
      · have hwsp : (w.slot n).power.spindle = (s.slot n).power.spindle := by
          obtain ⟨-, rfl⟩ | ⟨i, r, -, hcls, -, h⟩ := hserved
          · exact hvsp
          · rw [h.spindle, hvsp]
            obtain hcls | hcls := hcls <;> obtain hsp | hsp := hsp <;> rw [hcls, hsp] <;> rfl
        have hd : decisionOn (w.slot n) q = .needsGrant := decisionOn_asks q.cls rfl (.inl ⟨hc, by rw [hwsp]; exact hsp⟩)
        obtain ⟨h1, h2, h3⟩ := hreq hws q rest (hwq.trans hq) hd ((entryOf_of_queue hwadm n).trans hent) (hhw hheld)
        exact ⟨by rw [h1, hc]; rfl, h2.trans hwq, h3⟩
      · have hnil : refill s n ((s.slot n).recovery.resume.getD .ready) = [] := by
          unfold refill identifyRefill spinDownRefill
          rw [if_neg hnid, hsp, hnormal]
          rfl
        obtain ⟨-, rfl⟩ | ⟨i, r, hcons, -⟩ := hserved
        · have hd : decisionOn (w.slot n) q = .needsGrant := by
            refine decisionOn_asks q.cls rfl (.inr ⟨hc, hvsp.trans hsp, anyInFlight_eq_false.2 fun j e he => ?_⟩)
            rw [hfree' j] at he
            cases he
          obtain ⟨h1, h2, h3⟩ := hreq hws q rest (hwq.trans hq) hd ((entryOf_of_queue hwadm n).trans hent) (hhw hheld)
          exact ⟨by rw [h1, hc]; rfl, h2.trans hwq, h3⟩
        · exact absurd (hcons.symm.trans hnil) (by simp)
  · change execLinkReadyWaitExpiry n s = _
    unfold execLinkReadyWaitExpiry
    rw [hw]
    exact congrArg Host.Outcome.next (if_neg out)
  · change execLinkReadyWaitExpiry n s = _
    unfold execLinkReadyWaitExpiry
    rw [hw]
    refine congrArg Host.Outcome.next ((if_pos rec).trans (congrArg finish ((if_pos few).trans ?_)))
    rfl
  · change execLinkReadyWaitExpiry n s = _
    unfold execLinkReadyWaitExpiry
    rw [hw]
    refine congrArg Host.Outcome.next ((if_pos rec).trans (congrArg finish ((if_neg (Nat.not_lt.2 many)).trans ?_)))
    rfl

end Sys2Proof.Machine
end

section
/-! SUPPORT. A slot goes on after a retirement: what becomes of a command that is due, of the table and of the spindle
(R28, R32 step 6, R135, R136). -/

namespace Sys2Proof.Machine

/-! ### A command of a class is due -/

/-- A command of the class is listed or in flight. -/
def Slot.underway (x : Slot) (c : CmdClass) : Prop :=
  (∃ i ∈ x.traffic.injections, i.cls = c) ∨ ∃ (k : Fin 4) (e : InFlight), x.traffic.inFlight[k] = some e ∧ e.cls = c

theorem Slot.underway_spinDown {x : Slot} (h : x.underway .spinDown) : x.listed .spinDown = true ∨ x.spinDownInFlight = true := by
  obtain ⟨i, hi, hc⟩ | ⟨k, e, he, hc⟩ := h
  · exact .inl (List.any_eq_true.2 ⟨i, hi, by simp [hc]⟩)
  · exact .inr (anyInFlight_eq_true.2 ⟨k, e, he, by simp [hc]⟩)

theorem Slot.underway_mono {x y : Slot} {c : CmdClass} (h : x.underway c)
    (hi : ∀ i ∈ x.traffic.injections, i.cls = c → y.underway c)
    (hf : ∀ (k : Fin 4) (e : InFlight), x.traffic.inFlight[k] = some e → y.traffic.inFlight[k] = some e) : y.underway c := by
  obtain ⟨i, h, hc⟩ | ⟨k, e, he, hc⟩ := h
  · exact hi i h hc
  · exact .inr ⟨k, e, hf k e he, hc⟩

theorem inject_underway (n : SlotId) (i : Injection) (s : State) : ((inject n i s).slot n).underway i.cls := by
  obtain ⟨j, hj, hc, -⟩ := inject_mem n i s
  exact .inl ⟨j, hj, hc⟩

/-- A command put in the list takes no other out of it. -/
theorem inject_keeps_underway {n : SlotId} {s : State} {c : CmdClass} (i : Injection) (h : (s.slot n).underway c) :
    ((inject n i s).slot n).underway c := by
  obtain ⟨hfl, -, -, -⟩ := inject_others n i s
  refine Slot.underway_mono h (fun j hj hc => ?_) (fun k e he => by rw [hfl]; exact he)
  by_cases hic : i.cls = c
  · rw [← hic]; exact inject_underway n i s
  · refine .inl ⟨j, ?_, hc⟩
    unfold inject
    rw [slot_modSlot_same]
    dsimp only
    split
    · exact List.mem_map.2 ⟨j, hj, if_neg fun e => hic (e.symm.trans hc)⟩
    · exact List.mem_append_left _ hj

/-! ### The list is served -/

/-- What serving the list does to the table and the spindle (R28, R31). -/
structure ListServed (n : SlotId) (s t : State) : Prop where
  persists : ∀ (k : Fin 4) (e : InFlight), (s.slot n).traffic.inFlight[k] = some e → (t.slot n).traffic.inFlight[k] = some e
  fresh : ∀ (k : Fin 4) (e : InFlight), (t.slot n).traffic.inFlight[k] = some e →
    (s.slot n).traffic.inFlight[k] = some e ∨ e.origin = .part
  underway : ∀ c, (s.slot n).underway c → (t.slot n).underway c
  spindle : (∀ i ∈ (s.slot n).traffic.injections,
      i.cls ≠ .spinUp ∧ (i.cls = .spinDown → (s.slot n).power.spindle ≠ .spinning)) → (t.slot n).power = (s.slot n).power

theorem serveInjections_served (n : SlotId) (s : State) : ListServed n s (serveInjections n s) := by
  have hlisted := fun i hi => serveInjections_listed (n := n) (s := s) (i := i) hi
  obtain ⟨he, -⟩ | ⟨i, rest, k, hi, -, -, hk, he⟩ := serveInjections_cases n s
  · rw [he]
    exact ⟨fun _ _ => id, fun _ _ => .inl, fun _ => id, fun _ => rfl⟩
  · have hpersists : ∀ (j : Fin 4) (e : InFlight), (s.slot n).traffic.inFlight[j] = some e →
        ((serveInjections n s).slot n).traffic.inFlight[j] = some e := fun j e hj => by
      rw [he, (sendInjection_traffic n k i s).1]
      refine (inFlight_set _ j k _).trans ((if_neg ?_).trans hj)
      rintro rfl
      rw [(freeEntry_eq_some hk).1] at hj
      cases hj
    refine ⟨hpersists, fun j e hj => ?_, fun c hc => Slot.underway_mono hc (fun o ho hoc => ?_) hpersists, fun hq => ?_⟩
    · rw [he, (sendInjection_traffic n k i s).1] at hj
      have hj' := (inFlight_set (s.slot n).traffic.inFlight j k (some (sentEntry s (s.slot n) i))).symm.trans hj
      split at hj'
      · cases hj'
        exact .inr rfl
      · exact .inl hj'
    · obtain h | ⟨p, -, j, hpc, hp⟩ := hlisted o ho
      · exact .inl ⟨o, h, hoc⟩
      · exact .inr ⟨j, _, hp, hpc.trans hoc⟩
    · obtain ⟨hup, hdown⟩ := hq i (by rw [hi]; exact List.mem_cons_self)
      have hl : (launch n k i s).slot n = _ := launch_slot n k i s
      have hp : ((launch n k i s).slot n).power = (s.slot n).power := by
        rw [hl]
        unfold beforeSending
        rw [if_neg hup]
      have hsend : sendInjection n k i s = launch n k i s := by
        rw [sendInjection_eq, hp]
        cases hc : i.cls with
        | spinUp => exact absurd hc hup
        | spinDown => exact if_neg (hdown hc)
        | light | heavy | identify => rfl
      rw [he, hsend, hp]

/-! ### The slot goes on -/

/-- What going on does to a slot in GRADING, or in a state in which the queue head is not considered. -/
structure WentOn (n : SlotId) (s t : State) : Prop where
  keeps : KeepsBut [.slot n, .passDue, .sent, .transit] s t
  slot : SlotKeepsBut [.injections, .spindle, .inFlight, .allocation, .grading] (s.slot n) (t.slot n)
  served : ListServed n s t

/-- The list that the drain makes due differs by the final IDENTIFY alone (R135). -/
theorem drainStart_served (n : SlotId) (s : State) : ListServed n s (serveInjections n (drainStart n s)) := by
  have hserved := serveInjections_served n (drainStart n s)
  unfold drainStart at hserved ⊢
  split at hserved
  · rename_i hdue
    rw [if_pos hdue]
    have ha : (modSlot n (fun x => { x with grading.finalIdentify := .due }) s).slot n
        = { s.slot n with grading.finalIdentify := .due } := slot_modSlot_same ..
    unfold injectFinal at hserved ⊢
    generalize modSlot n (fun x => { x with grading.finalIdentify := .due }) s = a at *
    have htraffic : (a.slot n).traffic = (s.slot n).traffic := by rw [ha]
    have hpower : (a.slot n).power = (s.slot n).power := by rw [ha]
    obtain ⟨hfl, -, hpow, -⟩ := inject_others n { bareInjection .identify with final := true } a
    obtain ⟨l, hl, hmem⟩ := inject_slot_same n { bareInjection .identify with final := true } a
    have hpend := fun c (h : (a.slot n).underway c) =>
      inject_keeps_underway { bareInjection .identify with final := true } h
    generalize inject n { bareInjection .identify with final := true } a = b at *
    refine ⟨fun k e he => hserved.persists k e (by rw [hfl, htraffic]; exact he), fun k e he => ?_,
      fun c hc => hserved.underway c (hpend c ?_), fun hq => (hserved.spindle fun i hi => ?_).trans (hpow.trans hpower)⟩
    · have := hserved.fresh k e he
      rwa [hfl, htraffic] at this
    · unfold Slot.underway
      rw [htraffic]
      exact hc
    · rw [hl] at hi
      rw [hpow, hpower]
      obtain hi | hi := hmem i hi
      · rw [hi]; exact ⟨by simp [bareInjection], by simp [bareInjection]⟩
      · rw [htraffic] at hi; exact hq i hi
  · rename_i hdue
    rw [if_neg hdue]
    exact hserved

theorem ListServed.of_same {n : SlotId} {s t u : State} (h : ListServed n s t)
    (ht : (u.slot n).traffic = (t.slot n).traffic) (hp : (u.slot n).power = (t.slot n).power) : ListServed n s u := by
  refine ⟨fun k e he => by rw [ht]; exact h.persists k e he, fun k e he => h.fresh k e (by rw [← ht]; exact he),
    fun c hc => ?_, fun hq => hp.trans (h.spindle hq)⟩
  have := h.underway c hc
  unfold Slot.underway
  rw [ht]
  exact this

theorem gradingProgress_wentOn {n : SlotId} {s : State} (h : (s.slot n).state = .grading) :
    WentOn n s (gradingProgress n s) := by
  cases ho : (s.slot n).grading.handedOver with
  | true =>
    rw [gradingProgress_of_done (.inr ho)]
    exact ⟨.refl .., .refl .., fun _ _ => id, fun _ _ => .inl, fun _ => id, fun _ => rfl⟩
  | false =>
    have hd := gradingProgress_drained h ho
    refine ⟨hd.keeps, (gradingProgress_slot n s).mono (by simp), ?_⟩
    rw [gradingProgress_eq h ho]
    split
    · refine (drainStart_served n s).of_same ?_ ?_ <;> rw [sendHandOver_slot]
    · exact drainStart_served n s

/-- Where the head is not considered, serving a slot is serving its list. -/
theorem serveSlot_of_unserved {n : SlotId} {s : State} (h : (s.slot n).state.servesQueue = false) :
    serveSlot n s = serveInjections n s := by
  refine considerHead_idle _ (.inl ?_)
  rw [((serveInjections_slot n s).same .state (by simp) : _ = (s.slot n).state)]
  exact h

theorem goOn_grading {n : SlotId} {s : State} (h : (s.slot n).state = .grading) : goOn n s = gradingProgress n s := if_pos h

theorem goOn_unserved {n : SlotId} {s : State} (hg : (s.slot n).state ≠ .grading)
    (h : (s.slot n).state.servesQueue = false) : goOn n s = serveInjections n s :=
  (if_neg hg).trans (serveSlot_of_unserved h)

theorem goOn_wentOn {n : SlotId} {s : State} (h : (s.slot n).state.servesQueue = false) : WentOn n s (goOn n s) := by
  by_cases hg : (s.slot n).state = .grading
  · rw [goOn_grading hg]
    exact gradingProgress_wentOn hg
  · rw [goOn_unserved hg h]
    exact ⟨(serveInjections_keeps ..).mono (by simp), (serveInjections_slot ..).mono (by simp), serveInjections_served ..⟩

/-- Outside GRADING nothing is handed over. -/
theorem goOn_grading_same {n : SlotId} {s : State} (hg : (s.slot n).state ≠ .grading)
    (h : (s.slot n).state.servesQueue = false) :
    ((goOn n s).slot n).grading = (s.slot n).grading ∧ (goOn n s).transit = s.transit := by
  rw [goOn_unserved hg h]
  have hs := serveInjections_slot n s
  refine ⟨?_, (serveInjections_keeps n s).same .transit (by simp)⟩
  obtain ⟨h1, h2, h3⟩ := hs.same .grading (by simp)
  have h4 : _ = (s.slot n).grading.reason := hs.same .reason (by simp)
  generalize ((serveInjections n s).slot n).grading = g at *
  generalize (s.slot n).grading = g' at *
  cases g; cases g'
  simp_all

/-- With slot power OFF nothing is sent. -/
theorem goOn_off {n : SlotId} {s : State} (hg : (s.slot n).state ≠ .grading) (h : (s.slot n).state.servesQueue = false)
    (hp : (s.slot n).lines.powered = false) : goOn n s = s := by
  rw [goOn_unserved hg h, serveInjections_of_quiet (.inr hp)]

end Sys2Proof.Machine
end

section
/-! SUPPORT. Commands retired without a response in a state that starts no recovery (R37, R38, R41, R60). -/

namespace Sys2Proof.Machine

/-! ### The identity of a slot whose IDENTIFY was not answered -/

theorem noteOutcome_slot (n : SlotId) (o : IdentifyOutcome) (s : State) :
    (noteOutcome n o s).slot n
      = { s.slot n with identity.record := (s.slot n).identity.record.map fun r => { r with lastOutcome := o } } :=
  slot_modSlot_same s n fun x => { x with identity.record := x.identity.record.map fun r => { r with lastOutcome := o } }

theorem endFinal_slot (n : SlotId) (b : Bool) (s : State) :
    (endFinal n b s).slot n
      = { s.slot n with
          grading.finalIdentify := .ended
          identity.flags.finalIdMissing := (s.slot n).identity.flags.finalIdMissing || b } :=
  slot_modSlot_same s n fun x =>
    { x with grading.finalIdentify := .ended, identity.flags.finalIdMissing := x.identity.flags.finalIdMissing || b }

/-- The record after an IDENTIFY that was not answered (R48, R60). -/
def unidentified (final : Bool) (x : Slot) : Slot :=
  { x with
    grading.finalIdentify := if final then .ended else x.grading.finalIdentify
    identity.record := x.identity.record.map fun r => { r with lastOutcome := .noResponse }
    identity.flags := if final then { x.identity.flags with finalIdMissing := true } else x.identity.flags }

theorem takeIdentify_unanswered {n : SlotId} {s : State} (final : Bool) (f : RecoveryReason)
    (h : (s.slot n).state ≠ .identifying) :
    (takeIdentify n final none .noResponse f s).slot n = unidentified final (s.slot n)
      ∧ KeepsBut [.slot n] s (takeIdentify n final none .noResponse f s) := by
  have ht : takeIdentify n final none .noResponse f s = noteOutcome n .noResponse (if final then endFinal n true s else s) :=
    if_neg h
  rw [ht]
  refine ⟨?_, KeepsBut.trans (.ite (modSlot_keeps ..) (.refl ..)) (modSlot_keeps ..)⟩
  rw [noteOutcome_slot]
  cases final
  · rfl
  · rw [if_pos rfl, endFinal_slot]
    simp [unidentified]

/-! ### One command -/

/-- In PARKING with slot power ON: the state in which a SPIN_DOWN ends the spin-down (R18). -/
def Slot.spinsDown (x : Slot) : Prop := x.state = .parking ∧ x.lines.powered = true

/-- What the end of one command does, but for an IDENTIFY in IDENTIFYING. -/
theorem endUnanswered_cases {n : SlotId} {s : State} (e : InFlight)
    (h : ¬((s.slot n).state = .identifying ∧ e.cls = .identify)) :
    (e.cls = .identify ∧ (endUnanswered n e s).slot n = unidentified e.final (s.slot n)
        ∧ KeepsBut [.slot n] s (endUnanswered n e s))
      ∨ (e.cls = .spinDown ∧ (s.slot n).spinsDown ∧ endUnanswered n e s = spinDownEnd n s)
      ∨ (e.cls = .spinUp ∧ e.granted = true ∧ (s.slot n).orphaned = true ∧ endUnanswered n e s = injectOrphan n s)
      ∨ (e.cls ≠ .identify ∧ ¬(e.cls = .spinDown ∧ (s.slot n).spinsDown)
          ∧ ¬(e.cls = .spinUp ∧ e.granted = true ∧ (s.slot n).orphaned = true) ∧ endUnanswered n e s = s) := by
  unfold endUnanswered
  cases hc : e.cls with
  | light => exact .inr (.inr (.inr ⟨by simp, by simp, by simp, rfl⟩))
  | heavy => exact .inr (.inr (.inr ⟨by simp, by simp, by simp, rfl⟩))
  | identify =>
    obtain ⟨h1, h2⟩ := takeIdentify_unanswered e.final .timeout fun hs => h ⟨hs, hc⟩
    exact .inl ⟨rfl, h1, h2⟩
  | spinDown =>
    by_cases hp : (s.slot n).spinsDown
    · exact .inr (.inl ⟨rfl, hp, if_neg (by simp [hp.1, hp.2])⟩)
    · refine .inr (.inr (.inr ⟨by simp, by simp [hp], by simp, if_pos ?_⟩))
      by_cases hst : (s.slot n).state = .parking
      · exact .inr (by simpa using fun hon => hp ⟨hst, hon⟩)
      · exact .inl hst
  | spinUp =>
    by_cases ho : e.granted = true ∧ (s.slot n).orphaned = true
    · exact .inr (.inr (.inl ⟨rfl, ho.1, ho.2, if_pos (by simp [ho])⟩))
    · exact .inr (.inr (.inr ⟨by simp, by simp, by simpa using ho, if_neg (by simpa using ho)⟩))

/-! ### A list of commands -/

/-- What the ends of a list of commands, one after the other, do to a slot outside IDENTIFYING (R37, R38, R41, R60). -/
structure EndedBy (n : SlotId) (l : List InFlight) (s t : State) : Prop where
  keeps : KeepsBut [.slot n, .passDue] s t
  slot : SlotKeepsBut [.power, .rundown, .park, .allocation, .spindle, .injections, .identity, .tallies, .idle, .grading]
    (s.slot n) (t.slot n)
  tallies : { (t.slot n).tallies with overdrawRun := 0 } = { (s.slot n).tallies with overdrawRun := 0 }
  model : (t.slot n).identity.model = (s.slot n).identity.model
  record : (t.slot n).identity.record
    = if ∃ e ∈ l, e.cls = .identify then (s.slot n).identity.record.map fun r => { r with lastOutcome := .noResponse }
      else (s.slot n).identity.record
  flags : (t.slot n).identity.flags
    = if ∃ e ∈ l, e.cls = .identify ∧ e.final = true then { (s.slot n).identity.flags with finalIdMissing := true }
      else (s.slot n).identity.flags
  grading : (t.slot n).grading
    = { (s.slot n).grading with
        finalIdentify := if ∃ e ∈ l, e.cls = .identify ∧ e.final = true then .ended else (s.slot n).grading.finalIdentify }
  parked : (s.slot n).spinsDown → (∃ e ∈ l, e.cls = .spinDown) →
    (t.slot n).lines.powered = false ∧ (t.slot n).lines.park = none ∧ (t.slot n).power.spindle = .stopped
      ∧ (t.slot n).power.chosen = none ∧ (t.slot n).power.allocation = 0
      ∧ (t.slot n).lines.rundown = .running (s.now + rundownMs s (s.slot n)) ∧ (t.slot n).traffic.injections = []
  stays : ¬((s.slot n).spinsDown ∧ ∃ e ∈ l, e.cls = .spinDown) →
    (t.slot n).lines = (s.slot n).lines ∧ (t.slot n).power = (s.slot n).power
      ∧ (∀ i ∈ (t.slot n).traffic.injections, i.cls = .spinDown ∨ i ∈ (s.slot n).traffic.injections)
      ∧ ((s.slot n).orphaned = false → (t.slot n).traffic.injections = (s.slot n).traffic.injections)
      ∧ (∀ c, (s.slot n).underway c → (t.slot n).underway c)
      ∧ ((s.slot n).orphaned = true → (∃ e ∈ l, e.cls = .spinUp ∧ e.granted = true) → (t.slot n).underway .spinDown)

theorem endedBy_nil (n : SlotId) (s : State) : EndedBy n [] s s where
  keeps := .refl ..
  slot := .refl ..
  tallies := rfl
  model := rfl
  record := by simp
  flags := by simp
  grading := by simp
  parked := fun _ h => by simp at h
  stays := fun _ => ⟨rfl, rfl, fun _ => .inr, fun _ => rfl, fun _ => id, fun _ h => by simp at h⟩

theorem orphaned_congr {x y : Slot} (hp : y.power.spindle = x.power.spindle) (hf : y.traffic.inFlight = x.traffic.inFlight) :
    y.orphaned = x.orphaned := by
  unfold Slot.orphaned
  rw [hp, grantedSpinUpInFlight_congr hf]

theorem powerOff_flags (n : SlotId) (s : State) :
    ((powerOff n s).slot n).identity.flags = (s.slot n).identity.flags
      ∧ ((powerOff n s).slot n).tallies = { (s.slot n).tallies with overdrawRun := 0 } := by
  unfold powerOff applyPending
  rw [setAllocation_slot_same, slot_modSlot_same]
  dsimp only
  split <;> exact ⟨rfl, rfl⟩

theorem spinDownEnd_flags (n : SlotId) (s : State) :
    ((spinDownEnd n s).slot n).identity.flags = (s.slot n).identity.flags
      ∧ ((spinDownEnd n s).slot n).tallies = { (s.slot n).tallies with overdrawRun := 0 } := by
  unfold spinDownEnd
  have h := slot_modSlot_same s n (fun x => { x with lines.park := none })
  generalize modSlot n (fun x => { x with lines.park := none }) s = a at *
  obtain ⟨h1, h2⟩ := powerOff_flags n a
  generalize powerOff n a = b at *
  rw [startRundown_slot_same, h1, h2, h]
  exact ⟨rfl, rfl⟩

theorem slotGrading_ext {x y : Slot} (hr : slotSameIn x y .reason) (hg : slotSameIn x y .grading) : y.grading = x.grading := by
  obtain ⟨h1, h2, h3⟩ := hg
  have h4 : y.grading.reason = x.grading.reason := hr
  generalize y.grading = g at *
  generalize x.grading = g' at *
  cases g; cases g'
  simp_all

/-- The end of one command, as the end of a list of one. -/
theorem endUnanswered_endedBy {n : SlotId} {s : State} (e : InFlight)
    (h : ¬((s.slot n).state = .identifying ∧ e.cls = .identify)) : EndedBy n [e] s (endUnanswered n e s) := by
  obtain ⟨hc, hx, hk⟩ | ⟨hc, hp, he⟩ | ⟨hc, hg, ho, he⟩ | ⟨hi, hd, hu, he⟩ := endUnanswered_cases e h
  · generalize endUnanswered n e s = t at *
    have hslot : SlotKeepsBut [.identity, .grading] (s.slot n) (t.slot n) := by
      rw [hx]
      exact ⟨fun g hg => by cases g <;> simp_all [slotSameIn, unidentified]⟩
    refine ⟨hk.mono (by simp), hslot.mono (by simp), by rw [hx]; rfl, by rw [hx]; rfl, by rw [hx]; simp [unidentified, hc],
      by rw [hx]; simp [unidentified, hc], by rw [hx]; simp [unidentified, hc], fun _ hd => by simp [hc] at hd, fun _ => ?_⟩
    refine ⟨by rw [hx]; rfl, by rw [hx]; rfl, fun i hi => .inr (by rw [hx] at hi; exact hi), fun _ => by rw [hx]; rfl,
      fun c hcu => by rw [hx]; exact hcu, fun _ hup => by simp [hc] at hup⟩
  · have hs := spinDownEnd_spunDown n s
    obtain ⟨hrec, -⟩ := spinDownEnd_record n s
    obtain ⟨hfl, htal⟩ := spinDownEnd_flags n s
    rw [he]
    generalize spinDownEnd n s = t at *
    refine ⟨hs.keeps, hs.slot.mono (by simp), by rw [htal], hs.model, hrec.trans (by simp [hc]), hfl.trans (by simp [hc]), ?_,
      fun _ _ => ⟨hs.off.powered, hs.park, hs.off.spindle, hs.off.chosen, hs.off.allocation, hs.rundown, hs.off.injections⟩,
      fun hno => absurd ⟨hp, e, by simp, hc⟩ hno⟩
    have := slotGrading_ext (hs.slot.same .reason (by simp)) (hs.slot.same .grading (by simp))
    rw [this]
    simp [hc]
  · obtain ⟨l, hl, hm⟩ := inject_slot_same n { bareInjection .spinDown with orphan := true } s
    have hund := inject_underway n { bareInjection .spinDown with orphan := true } s
    have hkept := fun c (hcu : (s.slot n).underway c) => inject_keeps_underway { bareInjection .spinDown with orphan := true } hcu
    have hk := inject_keeps n { bareInjection .spinDown with orphan := true } s
    rw [he, injectOrphan]
    generalize inject n { bareInjection .spinDown with orphan := true } s = t at *
    have hslot : SlotKeepsBut [.injections] (s.slot n) (t.slot n) := by
      rw [hl]
      exact ⟨fun g hg => by cases g <;> simp_all [slotSameIn]⟩
    refine ⟨hk.mono (by simp), hslot.mono (by simp), by rw [hl], by rw [hl], by rw [hl]; simp [hc], by rw [hl]; simp [hc],
      by rw [hl]; simp [hc], fun _ hd => by simp [hc] at hd, fun _ => ⟨by rw [hl], by rw [hl], fun i hi => ?_,
        fun hno => absurd (hno.symm.trans ho) (by simp), hkept, fun _ _ => hund⟩⟩
    rw [hl] at hi
    exact hm i hi
  · rw [he]
    refine ⟨.refl .., .refl .., rfl, rfl, by simp [hi], by simp [hi], by simp [hi], fun hp hd' => ?_,
      fun _ => ⟨rfl, rfl, fun _ => .inr, fun _ => rfl, fun _ => id, fun ho hup => ?_⟩⟩
    · obtain ⟨f, hf, hc⟩ := hd'
      rw [List.mem_singleton.1 hf] at hc
      exact absurd ⟨hc, hp⟩ hd
    · obtain ⟨f, hf, hc, hg⟩ := hup
      rw [List.mem_singleton.1 hf] at hc hg
      exact absurd ⟨hc, hg, ho⟩ hu

/-- What happens once for some member of a list happens once for two lists. -/
theorem ite_exists_append {α β : Type} {p : α → Prop} [DecidablePred p] {f : β → β} {b : β} (l l' : List α)
    (hf : f (f b) = f b) :
    (if ∃ e ∈ l', p e then f (if ∃ e ∈ l, p e then f b else b) else if ∃ e ∈ l, p e then f b else b)
      = if ∃ e ∈ l ++ l', p e then f b else b := by
  have happ : (∃ e ∈ l ++ l', p e) ↔ (∃ e ∈ l, p e) ∨ ∃ e ∈ l', p e := by simp only [List.mem_append, or_and_right, exists_or]
  by_cases h1 : ∃ e ∈ l, p e
  · rw [if_pos h1, if_pos (happ.2 (.inl h1)), hf, ite_self]
  · rw [if_neg h1]
    by_cases h2 : ∃ e ∈ l', p e
    · rw [if_pos h2, if_pos (happ.2 (.inr h2))]
    · rw [if_neg h2, if_neg fun h => (happ.1 h).elim h1 h2]

theorem EndedBy.append {n : SlotId} {l l' : List InFlight} {s t u : State} (h : EndedBy n l s t) (h' : EndedBy n l' t u) :
    EndedBy n (l ++ l') s u := by
  have hst : (t.slot n).state = (s.slot n).state := h.slot.same .state (by simp)
  have hfl : (t.slot n).traffic.inFlight = (s.slot n).traffic.inFlight := h.slot.same .inFlight (by simp)
  refine ⟨h.keeps.trans h'.keeps, h.slot.trans h'.slot, h'.tallies.trans h.tallies, h'.model.trans h.model, ?_, ?_, ?_,
    fun hp hd => ?_, fun hno => ?_⟩
  · rw [h'.record, h.record]
    refine ite_exists_append (f := Option.map fun r : IdentityRecord => { r with lastOutcome := .noResponse }) l l' ?_
    rw [Option.map_map]
    rfl
  · rw [h'.flags, h.flags]
    exact ite_exists_append (f := fun f : IdentityFlags => { f with finalIdMissing := true }) l l' rfl
  · rw [h'.grading, h.grading]
    exact congrArg (fun o : FinalIdentify => ({ (s.slot n).grading with finalIdentify := o } : SlotGrading))
      (ite_exists_append (f := fun _ : FinalIdentify => .ended) l l' rfl)
  · by_cases hin : ∃ e ∈ l, e.cls = .spinDown
    · obtain ⟨hpow, hpark, hsp, hch, hal, hrun, hinj⟩ := h.parked hp hin
      have hnot : ¬((t.slot n).spinsDown ∧ ∃ e ∈ l', e.cls = .spinDown) := fun hc => by
        have := hc.1.2
        rw [hpow] at this
        cases this
      have horph : (t.slot n).orphaned = false := by
        unfold Slot.orphaned
        rw [hsp]
        rfl
      obtain ⟨hlines, hpower, -, hsame, -⟩ := h'.stays hnot
      rw [hlines, hpower, hsame horph]
      exact ⟨hpow, hpark, hsp, hch, hal, hrun, hinj⟩
    · obtain ⟨hlines, hpower, -⟩ := h.stays fun hc => hin hc.2
      have hp' : (t.slot n).spinsDown := ⟨hst.trans hp.1, by rw [hlines]; exact hp.2⟩
      have hrun : rundownMs t (t.slot n) = rundownMs s (s.slot n) :=
        rundownMs_congr (h.keeps.same .models (by simp)) (h.keeps.same .settings (by simp)) h.model
      have hnow : t.now = s.now := h.keeps.same .now (by simp)
      rw [← hrun, ← hnow]
      refine h'.parked hp' ?_
      obtain ⟨e, he, hc⟩ := hd
      obtain he | he := List.mem_append.1 he
      · exact absurd ⟨e, he, hc⟩ hin
      · exact ⟨e, he, hc⟩
  · obtain ⟨hl1, hp1, hm1, hs1, hu1, ho1⟩ := h.stays fun hc =>
      hno ⟨hc.1, by obtain ⟨e, he, hcls⟩ := hc.2; exact ⟨e, List.mem_append_left _ he, hcls⟩⟩
    have horph : (t.slot n).orphaned = (s.slot n).orphaned := orphaned_congr (by rw [hp1]) hfl
    obtain ⟨hl2, hp2, hm2, hs2, hu2, ho2⟩ := h'.stays fun hc =>
      hno ⟨⟨hst.symm.trans hc.1.1, by rw [← hl1]; exact hc.1.2⟩, by
        obtain ⟨e, he, hcls⟩ := hc.2; exact ⟨e, List.mem_append_right _ he, hcls⟩⟩
    rw [horph] at hs2 ho2
    refine ⟨hl2.trans hl1, hp2.trans hp1, fun i hi => ?_, fun ho => (hs2 ho).trans (hs1 ho), fun c hc => hu2 c (hu1 c hc),
      fun ho hup => ?_⟩
    · obtain h | h := hm2 i hi
      · exact .inl h
      · exact hm1 i h
    · obtain ⟨e, he, hcls⟩ := hup
      obtain he | he := List.mem_append.1 he
      · exact hu2 _ (ho1 ho ⟨e, he, hcls⟩)
      · exact ho2 ho ⟨e, he, hcls⟩

theorem endAll_endedBy {n : SlotId} (l : List InFlight) {s : State} (h : (s.slot n).state ≠ .identifying) :
    EndedBy n l s (l.foldl (fun s e => endUnanswered n e s) s) := by
  induction l generalizing s with
  | nil => exact endedBy_nil n s
  | cons e l ih =>
    have h1 := endUnanswered_endedBy e fun hs => h hs.1
    have hst : ((endUnanswered n e s).slot n).state = (s.slot n).state := h1.slot.same .state (by simp)
    exact h1.append (ih (by rw [hst]; exact h))

end Sys2Proof.Machine
end

section
/-! SUPPORT. A drive reset (O52). -/

namespace Sys2Proof.Machine

theorem mem_inFlightList {x : Slot} {e : InFlight} : e ∈ x.inFlightList ↔ ∃ k : Fin 4, x.traffic.inFlight[k] = some e := by
  unfold Slot.inFlightList
  simp only [List.mem_filterMap, id_eq, exists_eq_right, Vector.mem_toList_iff, Vector.mem_iff_getElem]
  exact ⟨fun ⟨i, hi, he⟩ => ⟨⟨i, hi⟩, he⟩, fun ⟨k, he⟩ => ⟨k.val, k.isLt, he⟩⟩

theorem exists_inFlight {x : Slot} {p : InFlight → Prop} :
    (∃ e ∈ x.inFlightList, p e) ↔ ∃ k : Fin 4, ∃ e, x.traffic.inFlight[k] = some e ∧ p e := by
  constructor
  · rintro ⟨e, he, hp⟩
    obtain ⟨k, hk⟩ := mem_inFlightList.1 he
    exact ⟨k, e, hk, hp⟩
  · rintro ⟨k, e, hk, hp⟩
    exact ⟨e, mem_inFlightList.2 ⟨k, hk⟩, hp⟩

/-! ### A command underway stays so on the way into GRADING -/

theorem underway_of_same {x y : Slot} {c : CmdClass} (h : x.underway c) (hi : y.traffic.injections = x.traffic.injections)
    (hf : y.traffic.inFlight = x.traffic.inFlight) : y.underway c := by
  unfold Slot.underway
  rw [hi, hf]
  exact h

theorem unlist_underway {n : SlotId} {s : State} {c d : CmdClass} (h : (s.slot n).underway c) (hne : c ≠ d) :
    ((unlist n d s).slot n).underway c := by
  rw [unlist_injections]
  exact Slot.underway_mono h (fun i hi hc => .inl ⟨i, List.mem_filter.2 ⟨hi, by simp [hc, hne]⟩, hc⟩) fun _ _ => id

theorem lapseHeld_underway {n : SlotId} {s : State} {c : CmdClass} (h : (s.slot n).underway c) (hne : c ≠ .spinUp) :
    ((lapseHeld n s).slot n).underway c := by
  unfold lapseHeld
  split
  · exact h
  · have hu := unlist_underway h hne
    generalize unlist n .spinUp s = t at *
    obtain ⟨a, -, he⟩ := followFigure_slot_lowered n (fun x => applyPending { x with power.held := none }) t
    have ht : ((followFigure n (fun x => applyPending { x with power.held := none }) t).slot n).traffic = (t.slot n).traffic := by
      rw [he]
      exact applyPending_traffic _
    exact underway_of_same hu (by rw [ht]) (by rw [ht])

theorem leaveEpisode_false (n : SlotId) (s : State) : leaveEpisode n false s = s := rfl

theorem leaveTest_underway {n : SlotId} {s : State} {c : CmdClass} (hnr : (s.slot n).state ≠ .recovering)
    (h : (s.slot n).underway c) (hi : c ≠ .identify) (hu : c ≠ .spinUp) : ((leaveTest n s).slot n).underway c := by
  rw [leaveTest_eq, show ((s.slot n).state == .recovering) = false by simpa using hnr, leaveEpisode_false, slot_modSlot_same]
  refine underway_of_same (unlist_underway (lapseHeld_underway ?_ hu) hi) rfl rfl
  rw [(dropAdmission_same n _).2, answerQueue_slot_same]
  exact h

/-- Into GRADING from any other state than RECOVERING a command of the part's own that is not an IDENTIFY is kept (R133). -/
theorem enterGrading_underway {n : SlotId} {s : State} {c : CmdClass} (hnr : (s.slot n).state ≠ .recovering)
    (h : (s.slot n).underway c) (hi : c ≠ .identify) (hu : c ≠ .spinUp) : ((enterGrading n s).slot n).underway c := by
  rw [enterGrading_eq]
  have hl := leaveTest_underway hnr h hi hu
  generalize leaveTest n s = a at *
  have hs := setState_slot n .grading a
  have hst := setState_slot_state n .grading a
  generalize setState n .grading a = b at *
  exact (gradingProgress_wentOn hst).served.underway c
    (underway_of_same hl (hs.same .injections (by simp)) (hs.same .inFlight (by simp)))

/-! ### The final IDENTIFY that the drain makes due -/

/-- A command put in the list gives its final mark to every listed one of its class. -/
theorem inject_final (n : SlotId) (i : Injection) (s : State) (hi : i.final = true) :
    ∀ j ∈ ((inject n i s).slot n).traffic.injections, j.cls = i.cls → j.final = true := by
  unfold inject
  rw [slot_modSlot_same]
  dsimp only
  split
  · intro j hj hc
    obtain ⟨o, -, rfl⟩ := List.mem_map.1 hj
    split at hc
    · next h => rw [if_pos h]; simp [Injection.merge, hi]
    · next h => exact absurd hc h
  · next hno =>
    intro j hj hc
    obtain hj | hj := List.mem_append.1 hj
    · exact absurd (List.any_eq_true.2 ⟨j, hj, by simp [hc]⟩) hno
    · rw [List.mem_singleton.1 hj]; exact hi

/-- The final IDENTIFY is listed, or in flight with its mark (R135). -/
def finalIdentifySent (y : Slot) : Prop :=
  y.listed .identify = true ∨ ∃ k : Fin 4, ∃ e, y.traffic.inFlight[k] = some e ∧ e.cls = .identify ∧ e.final = true

theorem gradingProgress_final {n : SlotId} {s : State} (hg : (s.slot n).state = .grading)
    (ho : (s.slot n).grading.handedOver = false) (hd : finalIdentifyDue (s.slot n) = true) :
    finalIdentifySent ((gradingProgress n s).slot n) := by
  have hsent : finalIdentifySent ((serveInjections n (drainStart n s)).slot n) := by
    obtain ⟨-, -, j, hj, hc, -⟩ := injectFinal_slot n s
    have hall : ∀ j ∈ ((injectFinal n s).slot n).traffic.injections, j.cls = .identify → j.final = true :=
      inject_final n { bareInjection .identify with final := true } _ rfl
    rw [drainStart, if_pos hd]
    obtain h | ⟨o, ho, k, hoc, hk⟩ := serveInjections_listed hj
    · exact .inl (List.any_eq_true.2 ⟨j, h, by simp [hc]⟩)
    · exact .inr ⟨k, _, hk, hoc.trans hc, hall o ho (hoc.trans hc)⟩
  rw [gradingProgress_eq hg ho]
  split
  · rw [sendHandOver_slot]
    exact hsent
  · exact hsent

theorem finalIdentifyDue_iff {x : Slot} :
    finalIdentifyDue x = true ↔ x.grading.reason = none ∧ x.grading.finalIdentify = .notDue ∧ x.serverInFlight = false := by
  simp [finalIdentifyDue, and_assoc]

/-- At the grade point, with nothing listed, the hand-over is sent (R136). -/
theorem gradingProgress_handsOver {n : SlotId} {s : State} (hg : (s.slot n).state = .grading)
    (ho : (s.slot n).grading.handedOver = false) (hi : (s.slot n).traffic.injections = [])
    (hempty : ∀ k : Fin 4, (s.slot n).traffic.inFlight[k] = none)
    (h : (s.slot n).grading.reason ≠ none ∨ (s.slot n).grading.finalIdentify = .ended) :
    (gradingProgress n s).transit = { s.transit with handOvers := s.transit.handOvers ++ [n] }
      ∧ ((gradingProgress n s).slot n).grading.handedOver = true := by
  have hnotdue : finalIdentifyDue (s.slot n) = false := by
    rw [Bool.eq_false_iff]
    intro hd
    obtain ⟨h1, h2, -⟩ := finalIdentifyDue_iff.1 hd
    obtain h | h := h
    · exact h h1
    · rw [h2] at h; cases h
  have hdr := gradingProgress_drained hg ho
  generalize gradingProgress n s = u at *
  have htr : (u.slot n).traffic = (s.slot n).traffic := (hdr.quiet hnotdue (.inl hi)).1
  have hfin : (u.slot n).grading.reason = (s.slot n).grading.reason
      ∧ (u.slot n).grading.finalIdentify = (s.slot n).grading.finalIdentify := by
    rw [hdr.grading]
    exact ⟨rfl, if_neg (by rw [hnotdue]; simp)⟩
  have hgp : gradePoint (u.slot n) = true := by
    rw [gradePoint_congr (x := s.slot n) (by rw [htr]) hfin.1 hfin.2]
    unfold gradePoint
    rw [tableEmpty_iff.2 hempty]
    obtain h | h := h
    · simp [Option.isSome_iff_ne_none.2 h]
    · simp [h]
  exact ⟨hdr.sends hgp, by rw [hdr.grading]; exact hgp⟩

/-- With nothing recorded and no server command in flight the final IDENTIFY falls due, and nothing is handed over (R135). -/
theorem gradingProgress_due {n : SlotId} {s : State} (hg : (s.slot n).state = .grading)
    (ho : (s.slot n).grading.handedOver = false) (hd : finalIdentifyDue (s.slot n) = true) :
    (gradingProgress n s).transit = s.transit ∧ ((gradingProgress n s).slot n).grading.handedOver = false
      ∧ ((gradingProgress n s).slot n).grading.finalIdentify = .due ∧ finalIdentifySent ((gradingProgress n s).slot n) := by
  have hdr := gradingProgress_drained hg ho
  have hsent := gradingProgress_final hg ho hd
  generalize gradingProgress n s = u at *
  have hufin : (u.slot n).grading.finalIdentify = .due := by rw [hdr.grading]; exact if_pos hd
  have hgp : gradePoint (u.slot n) = false := by
    have hre : (u.slot n).grading.reason = none := by rw [hdr.grading]; exact (finalIdentifyDue_iff.1 hd).1
    unfold gradePoint
    rw [hre, hufin]
    simp
  exact ⟨hdr.holds hgp, by rw [hdr.grading]; exact hgp, hufin, hsent⟩

/-- An ended final identify stays ended as the slot goes on. -/
theorem goOn_ended {n : SlotId} {s : State} (hs : (s.slot n).state.servesQueue = false)
    (h : (s.slot n).grading.finalIdentify = .ended) : ((goOn n s).slot n).grading.finalIdentify = .ended := by
  by_cases hg : (s.slot n).state = .grading
  · rw [goOn_grading hg]
    cases ho : (s.slot n).grading.handedOver with
    | true => rw [gradingProgress_of_done (.inr ho)]; exact h
    | false =>
      rw [(gradingProgress_drained hg ho).grading]
      dsimp only
      rw [if_neg, h]
      intro hd
      rw [(finalIdentifyDue_iff.1 hd).2.1] at h
      cases h
  · rw [(goOn_grading_same hg hs).1]
    exact h

/-! ### A drive reset -/

/-- The states of a slot that has left its test and keeps its drive powered or parking: no recovery, no queue served. -/
theorem late_spec {st : SlotState} (h : st = .grading ∨ st = .sortWait ∨ st = .parking) :
    st.servesQueue = false ∧ st.allowsRecovery = false ∧ st ≠ .identifying ∧ st ≠ .recovering := by
  obtain rfl | rfl | rfl := h <;> exact ⟨rfl, rfl, by simp, by simp⟩

/-- What retires the table at a drive reset before each command's own end (R41). -/
def resetCleared (n : SlotId) (s : State) : State := clearTable n (answerInFlight n .driveReset s)

/-- The slot and the answers after the table has been retired. -/
structure ResetCleared (n : SlotId) (s t : State) : Prop where
  keeps : KeepsBut [.slot n, .responses, .passDue] s t
  slot : SlotKeepsBut [.inFlight, .allocation] (s.slot n) (t.slot n)
  responses : t.port.responses = s.port.responses ++ inFlightAnswers n (s.slot n) .driveReset
  empty : ∀ k : Fin 4, (t.slot n).traffic.inFlight[k] = none
  orphaned : (t.slot n).orphaned = ((s.slot n).power.spindle == .spinningUp)

theorem resetCleared_spec (n : SlotId) (s : State) : ResetCleared n s (resetCleared n s) := by
  unfold resetCleared
  have hr := answerInFlight_responses n .driveReset s
  have hx := answerInFlight_slot n .driveReset s n
  have hk := answerInFlight_keeps n .driveReset s
  generalize answerInFlight n .driveReset s = a at *
  have hs : SlotKeepsBut [.inFlight, .allocation] (s.slot n) ((clearTable n a).slot n) := by
    rw [← hx]; exact clearTable_slot n a
  have hempty : ∀ k : Fin 4, ((clearTable n a).slot n).traffic.inFlight[k] = none := fun k => by
    rw [clearTable_inFlight]; simp
  refine ⟨(hk.mono (by simp)).trans ((clearTable_keeps ..).mono (by simp)), hs,
    ((clearTable_keeps n a).same .responses (by simp)).trans hr, hempty, ?_⟩
  have hno : ((clearTable n a).slot n).grantedSpinUpInFlight = false := anyInFlight_of_tableEmpty (tableEmpty_iff.2 hempty) _
  unfold Slot.orphaned
  rw [hno, (hs.same .spindle (by simp)).1]
  simp

/-- Settles O52: the table is retired at once, each command then ends by itself, and the slot goes on from what they leave. -/
theorem driveReset : Obligations.DriveReset := by
  unfold Obligations.DriveReset
  intro n s on x good
  have hgood : good = modSlot n countGood := congrArg (modSlot n) (funext countGood_eq).symm
  rw [hgood]
  clear hgood good
  have hxg := slot_modSlot_same s n countGood
  have hkg := modSlot_keeps n countGood s
  have hexec : (s.slot n).state ≠ .recovering →
      exec (.driveReset n) s = .next (finish (takeDriveReset n (modSlot n countGood s))) := fun h =>
    congrArg Host.Outcome.next (if_neg (by simp [on, h]))
  have hgt : ((modSlot n countGood s).slot n).tallies.goodRun = (if x.tallies.goodRun < 63 then x.tallies.goodRun + 1 else 0)
      ∧ ((modSlot n countGood s).slot n).tallies.badFrames = (if x.tallies.goodRun < 63 then x.tallies.badFrames else 0) := by
    rw [hxg, countGood_eq]
    split <;> exact ⟨rfl, rfl⟩
  generalize modSlot n countGood s = g at *
  have hxs : SlotKeepsBut [.tallies] (s.slot n) (g.slot n) := by rw [hxg]; exact countGood_same _
  have hst : (g.slot n).state = (s.slot n).state := hxs.same .state (by simp)
  have hepi : (g.slot n).recovery = (s.slot n).recovery := hxs.same .recovery (by simp)
  have hfl : (g.slot n).traffic.inFlight = (s.slot n).traffic.inFlight := hxs.same .inFlight (by simp)
  have hresp : g.port.responses = s.port.responses := hkg.same .responses (by simp)
  have hans : inFlightAnswers n (g.slot n) .driveReset = inFlightAnswers n x .driveReset := inFlightAnswers_of_table hfl n _
  have hc := resetCleared_spec n g
  refine ⟨fun rec => congrArg Host.Outcome.next (if_pos (.inr rec)), fun allows few => ?_, fun allows many => ?_, fun late => ?_⟩
  · have hnr : (s.slot n).state ≠ .recovering := fun e => by have := e ▸ allows; simp at this
    rw [hexec hnr]
    have ha := (allowsRecovery_iff _).2 allows
    exact congrArg (fun t => Host.Outcome.next (finish t)) ((if_pos (by rw [hst]; exact ha)).trans
      (if_neg (by rw [hepi]; exact Nat.not_le.2 few)))
  · have hnr : (s.slot n).state ≠ .recovering := fun e => by have := e ▸ allows; simp at this
    have ha := (allowsRecovery_iff _).2 allows
    have htake : takeDriveReset n g = takeQuarantine n .recoveryLimit
        (if ((resetCleared n g).slot n).orphaned = true then injectOrphan n (resetCleared n g) else resetCleared n g) :=
      (if_pos (by rw [hst]; exact ha)).trans (if_pos (by rw [hepi]; exact many))
    refine ⟨_, (hexec hnr).trans (congrArg (fun t => Host.Outcome.next (finish t)) htake), ?_⟩
    generalize resetCleared n g = c at *
    have hd : KeepsBut [.slot n] c (if (c.slot n).orphaned = true then injectOrphan n c else c)
        ∧ SlotKeepsBut [.injections] (c.slot n) ((if (c.slot n).orphaned = true then injectOrphan n c else c).slot n)
        ∧ ((c.slot n).orphaned = true →
            ((if (c.slot n).orphaned = true then injectOrphan n c else c).slot n).underway .spinDown) := by
      split
      · exact ⟨inject_keeps .., inject_slot .., fun _ => inject_underway ..⟩
      · next h => exact ⟨.refl .., .refl .., fun h' => absurd h' h⟩
    obtain ⟨hkd, hxd, hud⟩ := hd
    generalize (if (c.slot n).orphaned = true then injectOrphan n c else c) = d at *
    have hxcd : SlotKeepsBut [.tallies, .inFlight, .allocation, .injections] (s.slot n) (d.slot n) :=
      (hxs.mono (by simp)).trans ((hc.slot.mono (by simp)).trans (hxd.mono (by simp)))
    have hrd : d.port.responses = s.port.responses ++ inFlightAnswers n x .driveReset := by
      rw [(hkd.same .responses (by simp) : d.port.responses = c.port.responses), hc.responses, hresp, hans]
    have hdst : (d.slot n).state = (s.slot n).state := hxcd.same .state (by simp)
    have hdr : (d.slot n).grading.reason = (s.slot n).grading.reason := hxcd.same .reason (by simp)
    by_cases hr : (s.slot n).grading.reason = none
    · have hbg : (d.slot n).state.beforeGrading = true := by
        rw [hdst]
        generalize (s.slot n).state = st at allows
        simp only [List.mem_cons, List.not_mem_nil, or_false] at allows
        obtain rfl | rfl | rfl | rfl | rfl := allows <;> rfl
      rw [takeQuarantine_early _ hbg (hdr.trans hr)]
      obtain ⟨hke, hxe, hre, -⟩ := recordReason_spec n .recoveryLimit d
      generalize recordReason n .recoveryLimit d = e at *
      have he := enterGrading_entered n e
      have hest : (e.slot n).state = (s.slot n).state := (hxe.same .state (by simp)).trans hdst
      refine ⟨fun _ => ⟨(he.slot.same .reason (by simp)).trans hre, he.state⟩, fun _ hup => ?_, ?_⟩
      · have hco : (c.slot n).orphaned = true := by
          rw [hc.orphaned, (hxs.same .spindle (by simp)).1, hup]
          rfl
        exact Slot.underway_spinDown (enterGrading_underway (by rw [hest]; exact hnr)
          (underway_of_same (hud hco) (hxe.same .injections (by simp)) (hxe.same .inFlight (by simp))) (by simp) (by simp))
      · exact ⟨_, he.responses.trans (congrArg (· ++ _) ((hke.same .responses (by simp)).trans hrd))⟩
    · rw [takeQuarantine_discarded _ (.inr (.inr (by rw [hdr]; exact hr)))]
      exact ⟨fun h => absurd h hr, fun h => absurd h hr, [], by rw [hrd, List.append_nil]⟩
  · obtain ⟨hsv, hnal, hnid, hnr⟩ := late_spec late
    have htake : takeDriveReset n g
        = goOn n ((g.slot n).inFlightList.foldl (fun s e => endUnanswered n e s) (resetCleared n g)) :=
      if_neg (by rw [hst, hnal]; simp)
    refine ⟨_, (hexec hnr).trans (congrArg (fun t => Host.Outcome.next (finish t)) htake), ?_⟩
    generalize resetCleared n g = c at *
    have hxc : SlotKeepsBut [.tallies, .inFlight, .allocation] (s.slot n) (c.slot n) :=
      (hxs.mono (by simp)).trans (hc.slot.mono (by simp))
    have hcst : (c.slot n).state = (s.slot n).state := hxc.same .state (by simp)
    have hf := endAll_endedBy (n := n) (g.slot n).inFlightList (s := c) (by rw [hcst]; exact hnid)
    generalize (g.slot n).inFlightList.foldl (fun s e => endUnanswered n e s) c = f at *
    have hfst : (f.slot n).state = (s.slot n).state := (hf.slot.same .state (by simp)).trans hcst
    have hfsv : (f.slot n).state.servesQueue = false := by rw [hfst]; exact hsv
    have hw := goOn_wentOn hfsv
    have hended := goOn_ended hfsv
    have hoff := goOn_off (n := n) (s := f)
    have hsame := goOn_grading_same (n := n) (s := f)
    have hgr : (f.slot n).state = .grading → goOn n f = gradingProgress n f := goOn_grading
    generalize goOn n f = u at *
    have hmem : ∀ p : InFlight → Prop, (∃ e ∈ (g.slot n).inFlightList, p e)
        ↔ ∃ k : Fin 4, ∃ e, x.traffic.inFlight[k] = some e ∧ p e := fun p => by rw [exists_inFlight, hfl]
    have hkf : KeepsBut [.slot n, .responses, .passDue] s f :=
      (hkg.mono (by simp)).trans ((hc.keeps.mono (by simp)).trans (hf.keeps.mono (by simp)))
    have hempty : ∀ k : Fin 4, (f.slot n).traffic.inFlight[k] = none := fun k => by
      rw [(hf.slot.same .inFlight (by simp) : (f.slot n).traffic.inFlight = (c.slot n).traffic.inFlight)]
      exact hc.empty k
    have hrec : (c.slot n).identity.record = x.identity.record ∧ (c.slot n).identity.model = x.identity.model
        ∧ (c.slot n).identity.flags = x.identity.flags := by
      obtain ⟨h1, h2, h3, -⟩ := hxc.same .identity (by simp)
      exact ⟨h1, h2, h3⟩
    have huid : (u.slot n).identity.record = (f.slot n).identity.record ∧ (u.slot n).identity.model = (f.slot n).identity.model
        ∧ (u.slot n).identity.flags = (f.slot n).identity.flags := by
      obtain ⟨h1, h2, h3, -⟩ := hw.slot.same .identity (by simp)
      exact ⟨h1, h2, h3⟩
    have hgrade : (c.slot n).grading = x.grading := slotGrading_ext (hxc.same .reason (by simp)) (hxc.same .grading (by simp))
    have hutal : (u.slot n).tallies = (f.slot n).tallies := hw.slot.same .tallies (by simp)
    have hctal : (c.slot n).tallies = (g.slot n).tallies := hc.slot.same .tallies (by simp)
    have hspin : (c.slot n).spinsDown ↔ x.state = .parking := by
      unfold Slot.spinsDown
      rw [hcst, (hxc.same .power (by simp) : (c.slot n).lines.powered = (s.slot n).lines.powered), on]
      simp [x]
    have hcsp : (c.slot n).power.spindle = x.power.spindle ∧ (c.slot n).power.chosen = x.power.chosen := by
      obtain ⟨h1, h2, -⟩ := hxc.same .spindle (by simp)
      exact ⟨h1, h2⟩
    have horph : (c.slot n).orphaned = (x.power.spindle == .spinningUp) := by
      rw [hc.orphaned, (hxs.same .spindle (by simp)).1]
    refine ⟨(hkf.mono (by simp)).trans (hw.keeps.mono (by simp)), ?_, (hw.slot.same .state (by simp)).trans hfst, fun k e he => ?_, ?_, ?_,
      huid.2.1.trans (hf.model.trans hrec.2.1), fun hid r hr => ?_, fun hid => ?_, fun hfin => ⟨?_, ?_⟩, fun hfin => ?_,
      fun hpk => ?_, fun hpk => ?_, fun hgrs hho => ⟨fun hinj hnup hend => ?_, fun hnone hnd hnf => ?_⟩⟩
    · rw [(hw.keeps.same .responses (by simp) : u.port.responses = f.port.responses),
        (hf.keeps.same .responses (by simp) : f.port.responses = c.port.responses), hc.responses, hresp, hans]
    · obtain h | h := hw.served.fresh k e he
      · rw [hempty k] at h
        cases h
      · exact h
    · rw [hutal]
      exact (congrArg SlotTallies.goodRun hf.tallies).trans ((congrArg SlotTallies.goodRun hctal).trans hgt.1)
    · rw [hutal]
      exact (congrArg SlotTallies.badFrames hf.tallies).trans ((congrArg SlotTallies.badFrames hctal).trans hgt.2)
    · rw [huid.1, hf.record, if_pos ((hmem _).2 hid), hrec.1, hr]
      rfl
    · rw [huid.1, hf.record, if_neg fun h => hid ((hmem _).1 h), hrec.1]
    · refine hended ?_
      rw [hf.grading]
      exact if_pos ((hmem _).2 hfin)
    · rw [huid.2.2, hf.flags, if_pos ((hmem _).2 hfin), hrec.2.2]
    · rw [huid.2.2, hf.flags, if_neg fun h => hfin ((hmem _).1 h), hrec.2.2]
    · obtain ⟨hstp, hdown⟩ := hpk
      obtain ⟨h1, h2, h3, h4, h5, h6, -⟩ := hf.parked (hspin.2 hstp) ((hmem _).2 hdown)
      have hu : u = f := hoff (by rw [hfst, show (s.slot n).state = .parking from hstp]; simp) hfsv h1
      have hrun : rundownMs c (c.slot n) = rundownMs s x :=
        rundownMs_congr ((hc.keeps.same .models (by simp)).trans (hkg.same .models (by simp)))
          ((hc.keeps.same .settings (by simp)).trans (hkg.same .settings (by simp))) hrec.2.1
      have hnow : c.now = s.now := (hc.keeps.same .now (by simp)).trans (hkg.same .now (by simp))
      rw [hu]
      exact ⟨h1, h2, h3, h4, h5, by rw [h6, hrun, hnow]⟩
    · obtain ⟨hlines, hpower, hm, hsm, -, hup⟩ := hf.stays fun h => hpk ⟨hspin.1 h.1, (hmem _).1 h.2⟩
      have hupow : (u.slot n).lines.powered = (c.slot n).lines.powered :=
        (hw.slot.same .power (by simp)).trans (by rw [hlines])
      refine ⟨hupow.trans ((hxc.same .power (by simp)).trans on),
        (hw.slot.same .park (by simp)).1.trans (by rw [hlines]; exact (hxc.same .park (by simp)).1),
        (hw.slot.same .rundown (by simp)).trans (by rw [hlines]; exact hxc.same .rundown (by simp)), fun hinj => ?_, fun hgsu hsu => ?_⟩
      · have hcinj : (c.slot n).traffic.injections = [] := (hxc.same .injections (by simp)).trans hinj
        have hpow : (u.slot n).power = (f.slot n).power := by
          refine hw.served.spindle fun i hi => ?_
          cases ho : (c.slot n).orphaned with
          | false => rw [hsm ho, hcinj] at hi; cases hi
          | true =>
            obtain h | h := hm i hi
            · have hsu : x.power.spindle = .spinningUp := by rw [horph] at ho; simpa using ho
              rw [h, hpower, hcsp.1, hsu]
              simp
            · rw [hcinj] at h; cases h
        rw [hpow, hpower]
        exact hcsp
      · have ho : (c.slot n).orphaned = true := by rw [horph, hsu]; rfl
        exact Slot.underway_spinDown (hw.served.underway _ (hup ho ((hmem _).2 hgsu)))
    · have hgs : (f.slot n).state = .grading := hfst.trans hgrs
      have hnp : ¬((c.slot n).spinsDown ∧ ∃ e ∈ (g.slot n).inFlightList, e.cls = .spinDown) := fun h => by
        rw [hspin, show x.state = .grading from hgrs] at h
        cases h.1
      obtain ⟨-, -, -, hsm, -⟩ := hf.stays hnp
      have hfinj : (f.slot n).traffic.injections = [] :=
        (hsm (by rw [horph]; simpa using hnup)).trans ((hxc.same .injections (by simp)).trans hinj)
      have hfho : (f.slot n).grading.handedOver = false := by rw [hf.grading, hgrade]; exact hho
      have hfre : (f.slot n).grading.reason ≠ none ∨ (f.slot n).grading.finalIdentify = .ended := by
        rw [hf.grading, hgrade]
        obtain h | h | h := hend
        · exact .inl h
        · right
          dsimp only
          split
          · rfl
          · exact h
        · exact .inr (if_pos ((hmem _).2 h))
      obtain ⟨h1, h2⟩ := gradingProgress_handsOver hgs hfho hfinj hempty hfre
      rw [hgr hgs]
      exact ⟨h1.trans (by rw [(hkf.same .transit (by simp) : f.transit = s.transit)]), h2⟩
    · have hgs : (f.slot n).state = .grading := hfst.trans hgrs
      have hfg : (f.slot n).grading = x.grading := by
        rw [hf.grading, hgrade, if_neg fun h => hnf ((hmem _).1 h)]
      have hfho : (f.slot n).grading.handedOver = false := by rw [hfg]; exact hho
      have hdue : finalIdentifyDue (f.slot n) = true :=
        finalIdentifyDue_iff.2 ⟨by rw [hfg]; exact hnone, by rw [hfg]; exact hnd, anyInFlight_of_tableEmpty (tableEmpty_iff.2 hempty) _⟩
      obtain ⟨h1, h2, h3, h4⟩ := gradingProgress_due hgs hfho hdue
      rw [hgr hgs]
      exact ⟨h1.trans (hkf.same .transit (by simp)), h2, h3, h4⟩

end Sys2Proof.Machine
end

section
/-! SUPPORT. Answers are only added, and the identity record stays, as a recovery or GRADING begins and a slot goes on
(R12, R34, R44, R133). -/

namespace Sys2Proof.Machine

/-! ### Answers are only added -/

/-- The responses of s stand at the head of those of t, at the same time. -/
def Answers (s t : State) : Prop := (∃ more, t.port.responses = s.port.responses ++ more) ∧ t.now = s.now

theorem Answers.refl (s : State) : Answers s s := ⟨⟨[], (List.append_nil _).symm⟩, rfl⟩

theorem Answers.of_keeps {ch : List Group} {s t : State} (h : KeepsBut ch s t) (hr : .responses ∉ ch) (hn : .now ∉ ch) :
    Answers s t :=
  ⟨⟨[], by rw [(h.same .responses hr : t.port.responses = s.port.responses), List.append_nil]⟩, h.same .now hn⟩

theorem Answers.of_more {ch : List Group} {s t : State} {more : List SlotResponse} (h : KeepsBut ch s t) (hn : .now ∉ ch)
    (hr : t.port.responses = s.port.responses ++ more) : Answers s t := ⟨⟨more, hr⟩, h.same .now hn⟩

theorem Answers.trans {s t u : State} (h : Answers s t) (h' : Answers t u) : Answers s u := by
  obtain ⟨⟨a, ha⟩, hn⟩ := h
  obtain ⟨⟨b, hb⟩, hn'⟩ := h'
  exact ⟨⟨a ++ b, by rw [hb, ha, List.append_assoc]⟩, hn'.trans hn⟩

theorem considerHead_answers (fuel : Nat) (n : SlotId) (s : State) : Answers s (considerHead fuel n s) := by
  induction fuel generalizing s with
  | zero => exact .refl s
  | succ fuel ih =>
    cases hs : (s.slot n).state.servesQueue with
    | false => rw [considerHead_idle _ (.inl hs)]; exact .refl s
    | true =>
      cases hq : (s.slot n).traffic.queue with
      | nil => rw [considerHead_idle _ (.inr hq)]; exact .refl s
      | cons q rest =>
        cases hd : decisionOn (s.slot n) q with
        | waits => rw [considerHead_waits fuel hs hq hd]; exact .refl s
        | refuse =>
          rw [considerHead_refuses fuel hs hq hd]
          exact (Answers.of_more (refuseHead_keeps n s) (by simp) (refuseHead_spec hq).1).trans (ih _)
        | forward =>
          cases hk : (s.slot n).freeEntry with
          | none => rw [considerHead_full fuel hs hq (by rw [hd]; simp) hk]; exact .refl s
          | some k =>
            rw [considerHead_forwards fuel hs hq hd hk]
            exact (Answers.of_keeps (forwardHead_keeps n k false s) (by simp) (by simp)).trans (ih _)
        | needsGrant =>
          cases hk : (s.slot n).freeEntry with
          | none => rw [considerHead_full fuel hs hq (by rw [hd]; simp) hk]; exact .refl s
          | some k =>
            rw [considerHead_asks fuel hs hq hd hk]
            exact .of_keeps (requestHead_keeps n k q.cls s) (by simp) (by simp)

theorem serveSlot_answers (n : SlotId) (s : State) : Answers s (serveSlot n s) :=
  (Answers.of_keeps (serveInjections_keeps n s) (by simp) (by simp)).trans (considerHead_answers ..)

theorem goOn_answers (n : SlotId) (s : State) : Answers s (goOn n s) := by
  unfold goOn
  split
  · next h => exact .of_keeps (gradingProgress_wentOn h).keeps (by simp) (by simp)
  · exact serveSlot_answers n s

/-- What going on leaves of the slot's record in any state. -/
theorem goOn_slot (n : SlotId) (s : State) :
    SlotKeepsBut [.queue, .lastForward, .spindle, .inFlight, .allocation, .reserved, .injections, .grading]
      (s.slot n) ((goOn n s).slot n) := by
  unfold goOn
  split
  · exact (gradingProgress_slot n s).mono (by simp)
  · exact (serveSlot_slot n s).mono (by simp)

theorem goOn_keeps (n : SlotId) (s : State) :
    KeepsBut [.slot n, .responses, .admission, .passDue, .sent, .transit] s (goOn n s) := by
  unfold goOn
  split
  · next h => exact (gradingProgress_wentOn h).keeps.mono (by simp)
  · exact (serveSlot_keeps n s).mono (by simp)

/-! ### The way into GRADING and into RECOVERING -/

theorem beforeGrading_of_allowsRecovery {st : SlotState} (h : st.allowsRecovery = true) : st.beforeGrading = true := by
  cases st <;> simp_all [SlotState.allowsRecovery, SlotState.beforeGrading]

/-- The record, the binding and the flags stay on the way into GRADING: only peaks that wait take effect. -/
def SameIdentity (x y : Slot) : Prop :=
  y.identity.record = x.identity.record ∧ y.identity.model = x.identity.model ∧ y.identity.flags = x.identity.flags

theorem SameIdentity.trans {x y z : Slot} (h : SameIdentity x y) (h' : SameIdentity y z) : SameIdentity x z :=
  ⟨h'.1.trans h.1, h'.2.1.trans h.2.1, h'.2.2.trans h.2.2⟩

theorem SlotKeepsBut.sameIdentity {ch : List SlotGroup} {x y : Slot} (h : SlotKeepsBut ch x y) (hc : .identity ∉ ch) :
    SameIdentity x y := by
  obtain ⟨h1, h2, h3, -⟩ := h.same .identity hc
  exact ⟨h1, h2, h3⟩

theorem leaveTest_sameIdentity (n : SlotId) (s : State) : SameIdentity (s.slot n) ((leaveTest n s).slot n) := by
  have hb : ((dropAdmission n (answerQueue n .endOfTest s)).slot n).identity = (s.slot n).identity := by
    rw [(dropAdmission_same n _).2, answerQueue_slot_same]
  have hl := (lapseHeld_lapsed n (dropAdmission n (answerQueue n .endOfTest s))).identity
  rw [leaveTest_eq, slot_modSlot_same]
  generalize dropAdmission n (answerQueue n .endOfTest s) = b at *
  obtain ⟨l, he, -⟩ := leaveEpisode_spec n ((s.slot n).state == .recovering) (unlist n .identify (lapseHeld n b))
  rw [he, unlist_injections]
  unfold SameIdentity
  dsimp only
  rw [hl]
  split <;> rw [hb] <;> exact ⟨rfl, rfl, rfl⟩

theorem enterGrading_sameIdentity (n : SlotId) (s : State) : SameIdentity (s.slot n) ((enterGrading n s).slot n) := by
  rw [enterGrading_eq]
  have hl := leaveTest_sameIdentity n s
  generalize leaveTest n s = a at *
  exact hl.trans (((setState_slot n .grading a).sameIdentity (by simp)).trans ((gradingProgress_slot n _).sameIdentity (by simp)))

/-- A quarantine taken before GRADING only adds answers, and keeps what the slot is identified by (R12, R15). -/
theorem takeQuarantine_before {n : SlotId} {s : State} (r : QuarantineReason) (h : (s.slot n).state.beforeGrading = true) :
    Answers s (takeQuarantine n r s) ∧ SameIdentity (s.slot n) ((takeQuarantine n r s).slot n) := by
  by_cases hr : (s.slot n).grading.reason = none
  · rw [takeQuarantine_early r h hr]
    obtain ⟨hk, hx, -⟩ := recordReason_spec n r s
    generalize recordReason n r s = a at *
    exact ⟨(Answers.of_keeps hk (by simp) (by simp)).trans
        (.of_more (enterGrading_entered n a).keeps (by simp) (enterGrading_entered n a).responses),
      (hx.sameIdentity (by simp)).trans (enterGrading_sameIdentity n a)⟩
  · rw [takeQuarantine_discarded r (.inr (.inr hr))]
    exact ⟨.refl s, rfl, rfl, rfl⟩

theorem Begun.sameIdentity {n : SlotId} {r : RecoveryReason} {s t : State} (h : Begun n r s t) :
    SameIdentity (s.slot n) (t.slot n) := by
  unfold SameIdentity
  rw [h.identity]
  split <;> exact ⟨rfl, rfl, rfl⟩

theorem startRecovery_spec (n : SlotId) (r : RecoveryReason) (s : State) :
    Answers s (startRecovery n r s) ∧ SameIdentity (s.slot n) ((startRecovery n r s).slot n) := by
  by_cases h : (s.slot n).state.allowsRecovery = true
  · by_cases hl : (s.slot n).recovery.episodes < 4
    · rw [startRecovery_of_begun r h hl]
      have hb := beginEpisode_begun n r s
      exact ⟨.of_more hb.keeps (by simp) hb.responses, hb.sameIdentity⟩
    · rw [startRecovery_of_limit r h (by omega)]
      exact takeQuarantine_before _ (beforeGrading_of_allowsRecovery h)
  · rw [startRecovery_of_none r (by simpa using h)]
    exact ⟨.refl s, rfl, rfl, rfl⟩

/-- A slot that has begun an episode goes on with nothing: its list is empty and its head is not considered (R46). -/
theorem goOn_begun {n : SlotId} {r : RecoveryReason} {s t : State} (h : Begun n r s t) : goOn n t = t := by
  rw [goOn_unserved (by rw [h.state]; simp) (by rw [h.state]; rfl), serveInjections_of_quiet (.inl h.injections)]

/-- What makes a recovery begun, as the rules name it (R43). -/
theorem Begun.begins {n : SlotId} {r : RecoveryReason} {s t : State} (h : Begun n r s t) :
    (t.slot n).state = .recovering ∧ (t.slot n).recovery.lastReason = some r
      ∧ (t.slot n).recovery.resume = some (s.slot n).state ∧ (t.slot n).traffic.inFlight = Vector.replicate 4 none :=
  ⟨h.state, by rw [h.recovery], by rw [h.recovery], h.inFlight⟩

theorem identifyFailed_again {n : SlotId} {s : State} (r : RecoveryReason) (h : (s.slot n).identity.retryMark = true) :
    identifyFailed n r s = takeQuarantine n .noIdentity s := if_pos h

theorem identifyFailed_first {n : SlotId} {s : State} (r : RecoveryReason) (h : (s.slot n).identity.retryMark = false) :
    identifyFailed n r s = startRecovery n r (modSlot n (fun x => { x with identity.retryMark := true }) s) :=
  if_neg (by simp [h])

theorem identifyFailed_answers {n : SlotId} {s : State} (r : RecoveryReason) (h : (s.slot n).state = .identifying) :
    Answers s (identifyFailed n r s) := by
  cases hm : (s.slot n).identity.retryMark with
  | true =>
    rw [identifyFailed_again r hm]
    exact (takeQuarantine_before _ (by rw [h]; rfl)).1
  | false =>
    rw [identifyFailed_first r hm]
    exact (startRecovery_spec n r (modSlot n (fun x => { x with identity.retryMark := true }) s)).1

end Sys2Proof.Machine
end

section
/-! SUPPORT. A class timeout (O53). -/

namespace Sys2Proof.Machine

/-- The answer to the server of a command that timed out; none for the part's own (R37). -/
def timeoutAnswers (n : SlotId) (e : InFlight) : List SlotResponse :=
  e.source.toList.map fun dest => .partMade dest (slotByte n) (BitVec.ofNat 8 e.tag) .timeout

/-- The entry retired at the time of its timeout, and its server answered (R37). -/
def timeoutRetired (n : SlotId) (k : Fin 4) (e : InFlight) (s : State) : State :=
  answerTimeout n e (retireEntry n k (reach (e.start + e.timeout) s))

structure TimeoutRetired (n : SlotId) (k : Fin 4) (e : InFlight) (s c : State) : Prop where
  keeps : KeepsBut [.slot n, .passDue, .now, .responses] s c
  slot : SlotKeepsBut [.inFlight, .allocation] (s.slot n) (c.slot n)
  now : c.now = max s.now (e.start + e.timeout)
  inFlight : (c.slot n).traffic.inFlight = (s.slot n).traffic.inFlight.set k none
  responses : c.port.responses = s.port.responses ++ timeoutAnswers n e

theorem timeoutRetired_spec (n : SlotId) (k : Fin 4) (e : InFlight) (s : State) :
    TimeoutRetired n k e s (timeoutRetired n k e s) := by
  have hr : KeepsBut [.now] s (reach (e.start + e.timeout) s) := ⟨fun g hg => by cases g <;> simp_all [sameIn, reach]; rfl⟩
  have hxr : (reach (e.start + e.timeout) s).slot n = s.slot n := rfl
  have hnr : (reach (e.start + e.timeout) s).now = max s.now (e.start + e.timeout) := rfl
  unfold timeoutRetired
  generalize reach (e.start + e.timeout) s = r at *
  have hb := retireEntry_keeps n k r
  have hxb := retireEntry_slot n k r
  have hib := retireEntry_inFlight n k r
  generalize retireEntry n k r = b at *
  have hc : KeepsBut [.responses] b (answerTimeout n e b) ∧ (answerTimeout n e b).slot n = b.slot n
      ∧ (answerTimeout n e b).port.responses = b.port.responses ++ timeoutAnswers n e := by
    unfold answerTimeout timeoutAnswers
    cases e.source with
    | none => exact ⟨.refl .., rfl, (List.append_nil _).symm⟩
    | some dest => exact ⟨answerPart_keeps .., rfl, rfl⟩
  obtain ⟨hkc, hxc, hrc⟩ := hc
  have hrs : b.port.responses = s.port.responses := (hb.same .responses (by simp)).trans (hr.same .responses (by simp))
  refine ⟨(hr.mono (by simp)).trans ((hb.mono (by simp)).trans (hkc.mono (by simp))), by rw [hxc, ← hxr]; exact hxb,
    (hkc.same .now (by simp)).trans ((hb.same .now (by simp)).trans hnr), by rw [hxc, hib, hxr], by rw [hrc, hrs]⟩

/-- An IDENTIFY in IDENTIFYING: its failure is taken by R7, and no recovery TIMEOUT starts beside it. -/
def answersFirst (n : SlotId) (e : InFlight) (s : State) : Prop := (s.slot n).state = .identifying ∧ e.cls = .identify

theorem execTimeout {n : SlotId} {k : Fin 4} {e : InFlight} {s : State} (h : (s.slot n).traffic.inFlight[k] = some e) :
    exec (.classTimeoutExpiry n k) s = .next (finish (takeTimeout n k e (reach (e.start + e.timeout) s))) := by
  have h' : (s.slot n).traffic.inFlight[k.val] = some e := h
  change execClassTimeoutExpiry n k s = _
  unfold execClassTimeoutExpiry
  rw [h']

theorem takeTimeout_first {n : SlotId} {k : Fin 4} {e : InFlight} {s : State} (h : answersFirst n e s) :
    takeTimeout n k e (reach (e.start + e.timeout) s) = goOn n (identifyFailed n .timeout (timeoutRetired n k e s)) := by
  have hst : ((timeoutRetired n k e s).slot n).state = .identifying :=
    ((timeoutRetired_spec n k e s).slot.same .state (by simp)).trans h.1
  have hend : endUnanswered n e (timeoutRetired n k e s) = identifyFailed n .timeout (timeoutRetired n k e s) := by
    unfold endUnanswered takeIdentify
    rw [h.2]
    exact if_pos hst
  rw [← hend]
  exact congrArg (goOn n) (if_pos (show ((s.slot n).state == .identifying && e.cls == .identify) = true by simpa [answersFirst] using h))

theorem takeTimeout_later {n : SlotId} {k : Fin 4} {e : InFlight} {s : State} (h : ¬answersFirst n e s) :
    takeTimeout n k e (reach (e.start + e.timeout) s)
      = goOn n (startRecovery n .timeout (endUnanswered n e (timeoutRetired n k e s))) :=
  congrArg (goOn n)
    (if_neg (show ¬((s.slot n).state == .identifying && e.cls == .identify) = true by simpa [answersFirst] using h))

/-- What a timeout does but for an IDENTIFY in IDENTIFYING (R37, R38, R60). -/
structure TimedOut (n : SlotId) (k : Fin 4) (e : InFlight) (s u : State) : Prop where
  now : u.now = max s.now (e.start + e.timeout)
  answers : ∃ more, u.port.responses = s.port.responses ++ timeoutAnswers n e ++ more
  begins : (s.slot n).state.allowsRecovery = true → (s.slot n).recovery.episodes < 4 →
    (u.slot n).state = .recovering ∧ (u.slot n).recovery.lastReason = some .timeout
      ∧ (u.slot n).recovery.resume = some (s.slot n).state ∧ (u.slot n).traffic.inFlight = Vector.replicate 4 none
  late : (s.slot n).state = .grading ∨ (s.slot n).state = .sortWait ∨ (s.slot n).state = .parking →
    u.port.responses = s.port.responses ++ timeoutAnswers n e ∧ (u.slot n).state = (s.slot n).state
  record : e.cls = .identify → ∀ r, (s.slot n).identity.record = some r →
    (u.slot n).identity.record = some { r with lastOutcome := .noResponse }
  final : (s.slot n).state = .grading → e.cls = .identify → e.final = true →
    (u.slot n).grading.finalIdentify = .ended ∧ (u.slot n).identity.flags.finalIdMissing = true
  orphans : (s.slot n).state = .grading ∨ (s.slot n).state = .sortWait ∨ (s.slot n).state = .parking → e.cls = .spinUp →
    e.granted = true → (s.slot n).power.spindle = .spinningUp →
    (∀ j : Fin 4, j ≠ k → ∀ f, (s.slot n).traffic.inFlight[j] = some f → f.cls = .spinUp → f.granted = false) →
    ((u.slot n).listed .spinDown = true ∨ (u.slot n).spinDownInFlight = true)
      ∧ ((s.slot n).traffic.injections = [] →
          (u.slot n).power.spindle = .spinningUp ∧ (u.slot n).power.chosen = (s.slot n).power.chosen)
  parks : (s.slot n).state = .parking → (s.slot n).lines.powered = true → e.cls = .spinDown →
    (u.slot n).lines.powered = false ∧ (u.slot n).lines.park = none ∧ (u.slot n).power.spindle = .stopped
      ∧ (u.slot n).power.allocation = 0
      ∧ (u.slot n).lines.rundown = .running (max s.now (e.start + e.timeout) + rundownMs s (s.slot n))

theorem takeTimeout_timedOut {n : SlotId} {k : Fin 4} {e : InFlight} {s : State} (h : ¬answersFirst n e s) :
    TimedOut n k e s (takeTimeout n k e (reach (e.start + e.timeout) s)) := by
  rw [takeTimeout_later h]
  have hc := timeoutRetired_spec n k e s
  generalize timeoutRetired n k e s = c at *
  have hcst : (c.slot n).state = (s.slot n).state := hc.slot.same .state (by simp)
  have hf := endUnanswered_endedBy (n := n) (s := c) e (by rw [hcst]; exact h)
  generalize endUnanswered n e c = f at *
  have hfst : (f.slot n).state = (s.slot n).state := (hf.slot.same .state (by simp)).trans hcst
  have hfepi : (f.slot n).recovery = (s.slot n).recovery :=
    (hf.slot.same .recovery (by simp)).trans (hc.slot.same .recovery (by simp))
  obtain ⟨hans, hid⟩ := startRecovery_spec n .timeout f
  have hall := hans.trans (goOn_answers n _)
  have hidall := hid.trans ((goOn_slot n _).sameIdentity (by simp))
  have hfr : f.port.responses = s.port.responses ++ timeoutAnswers n e := (hf.keeps.same .responses (by simp)).trans hc.responses
  have hnow : f.now = max s.now (e.start + e.timeout) := (hf.keeps.same .now (by simp)).trans hc.now
  have hcrec : (c.slot n).identity.record = (s.slot n).identity.record := (hc.slot.same .identity (by simp)).1
  have hlate : (s.slot n).state = .grading ∨ (s.slot n).state = .sortWait ∨ (s.slot n).state = .parking →
      goOn n (startRecovery n .timeout f) = goOn n f ∧ WentOn n f (goOn n f) := fun late => by
    obtain ⟨hsv, hnal, -, -⟩ := late_spec late
    rw [startRecovery_of_none _ (by rw [hfst]; exact hnal)]
    exact ⟨rfl, goOn_wentOn (by rw [hfst]; exact hsv)⟩
  refine ⟨hall.2.trans hnow, ?_, fun ha hl => ?_, fun late => ?_, fun hcls r hr => ?_, fun hg hcls hfin => ?_,
    fun late hcls hgr hsp hothers => ?_, fun hp hon hcls => ?_⟩
  · obtain ⟨more, hm⟩ := hall.1
    exact ⟨more, by rw [hm, hfr]⟩
  · rw [startRecovery_of_begun _ (by rw [hfst]; exact ha) (by rw [hfepi]; exact hl)]
    have hb := beginEpisode_begun n .timeout f
    rw [goOn_begun hb, ← hfst]
    exact hb.begins
  · obtain ⟨he, hw⟩ := hlate late
    rw [he]
    exact ⟨(hw.keeps.same .responses (by simp)).trans hfr, (hw.slot.same .state (by simp)).trans hfst⟩
  · rw [hidall.1, hf.record, if_pos ⟨e, by simp, hcls⟩, hcrec, hr]
    rfl
  · obtain ⟨he, -⟩ := hlate (.inl hg)
    have hin : ∃ f ∈ [e], f.cls = .identify ∧ f.final = true := ⟨e, by simp, hcls, hfin⟩
    refine ⟨?_, by rw [hidall.2.2, hf.flags, if_pos hin]⟩
    rw [he]
    refine goOn_ended (by rw [hfst, hg]; rfl) ?_
    rw [hf.grading]
    exact if_pos hin
  · obtain ⟨he, hw⟩ := hlate late
    have hno : (c.slot n).grantedSpinUpInFlight = false := anyInFlight_eq_false.2 fun j o ho => by
      rw [hc.inFlight] at ho
      have ho' := (inFlight_set (s.slot n).traffic.inFlight j k none).symm.trans ho
      split at ho'
      · cases ho'
      · next hj =>
        cases hcl : o.cls == .spinUp with
        | false => rfl
        | true => simpa using hothers j hj o ho' (by simpa using hcl)
    have hcsp : (c.slot n).power.spindle = .spinningUp := (hc.slot.same .spindle (by simp)).1.trans hsp
    have horph : (c.slot n).orphaned = true := by unfold Slot.orphaned; rw [hno, hcsp]; rfl
    obtain ⟨-, hpower, hm, -, -, hup⟩ := hf.stays fun hcn => by
      obtain ⟨o, ho, hd⟩ := hcn.2
      rw [List.mem_singleton.1 ho, hcls] at hd
      cases hd
    rw [he]
    refine ⟨Slot.underway_spinDown (hw.served.underway _ (hup horph ⟨e, by simp, hcls, hgr⟩)), fun hinj => ?_⟩
    have hcinj : (c.slot n).traffic.injections = [] := (hc.slot.same .injections (by simp)).trans hinj
    have hpow : ((goOn n f).slot n).power = (f.slot n).power := by
      refine hw.served.spindle fun i hi => ?_
      obtain h | h := hm i hi
      · rw [h, hpower, hcsp]; simp
      · rw [hcinj] at h; cases h
    rw [hpow, hpower]
    exact ⟨hcsp, (hc.slot.same .spindle (by simp)).2.1⟩
  · obtain ⟨he, -⟩ := hlate (.inr (.inr hp))
    have hspin : (c.slot n).spinsDown := ⟨hcst.trans hp, (hc.slot.same .power (by simp)).trans hon⟩
    obtain ⟨h1, h2, h3, -, h5, h6, -⟩ := hf.parked hspin ⟨e, by simp, hcls⟩
    have hrun : rundownMs c (c.slot n) = rundownMs s (s.slot n) :=
      rundownMs_congr (hc.keeps.same .models (by simp)) (hc.keeps.same .settings (by simp)) (hc.slot.same .identity (by simp)).2.1
    rw [he, goOn_off (by rw [hfst, hp]; simp) (by rw [hfst, hp]; rfl) h1]
    exact ⟨h1, h2, h3, h5, by rw [h6, hrun, hc.now]⟩

end Sys2Proof.Machine
end

section
/-! SUPPORT. A class timeout in GRADING, and the obligation on class timeouts (O53). -/

namespace Sys2Proof.Machine

/-- A LIGHT or HEAVY that times out late has no end of its own: the slot goes on. -/
theorem takeTimeout_idle {n : SlotId} {k : Fin 4} {e : InFlight} {s : State} (hc : e.cls = .light ∨ e.cls = .heavy)
    (late : (s.slot n).state = .grading ∨ (s.slot n).state = .sortWait ∨ (s.slot n).state = .parking) :
    takeTimeout n k e (reach (e.start + e.timeout) s) = goOn n (timeoutRetired n k e s) := by
  have hfirst : ¬answersFirst n e s := fun h => by obtain hc | hc := hc <;> rw [h.2] at hc <;> cases hc
  have hend : endUnanswered n e (timeoutRetired n k e s) = timeoutRetired n k e s := by
    unfold endUnanswered
    obtain hc | hc := hc <;> rw [hc]
  rw [takeTimeout_later hfirst, hend, startRecovery_of_none]
  rw [((timeoutRetired_spec n k e s).slot.same .state (by simp) : _ = (s.slot n).state)]
  exact (late_spec late).2.1

theorem set_none_get {v : Vector (Option InFlight) 4} {j k : Fin 4} {f : InFlight} :
    (v.set k none)[j] = some f ↔ j ≠ k ∧ v[j] = some f := by
  have h := inFlight_set v j k none
  constructor
  · intro hf
    have hf' := h.symm.trans hf
    split at hf'
    · cases hf'
    · next hj => exact ⟨hj, hf'⟩
  · rintro ⟨hj, hf⟩
    exact h.trans ((if_neg hj).trans hf)

/-- In GRADING the retirement of an entry with no end of its own is followed by the drain alone (R135, R136). -/
theorem takeTimeout_grading {n : SlotId} {k : Fin 4} {e : InFlight} {s : State} (hcls : e.cls = .light ∨ e.cls = .heavy)
    (hg : (s.slot n).state = .grading) :
    let x := s.slot n
    let u := takeTimeout n k e (reach (e.start + e.timeout) s)
    let y := u.slot n
    let others (p : InFlight → Prop) : Prop := ∃ j : Fin 4, j ≠ k ∧ ∃ f, x.traffic.inFlight[j] = some f ∧ p f
    let due := x.grading.handedOver = false ∧ x.grading.reason = none ∧ x.grading.finalIdentify = .notDue
      ∧ ¬others fun f => f.origin = .server
    (¬due → y.grading.finalIdentify = x.grading.finalIdentify
        ∧ (x.traffic.injections = [] → y.traffic.inFlight = x.traffic.inFlight.set k none))
      ∧ ((others fun _ => True) ∨ due → u.transit = s.transit ∧ y.grading.handedOver = x.grading.handedOver)
      ∧ (due → y.grading.finalIdentify = .due ∧ finalIdentifySent y
          ∧ (x.lines.powered = true → x.traffic.injections = [] → x.traffic.reserved = none → (¬others fun _ => True) →
              y.traffic.inFlight[(0 : Fin 4)]
                  = some ⟨31, .identify, .part, false, u.now, s.store.settings.identifyTimeout * 1000, none, true⟩
                ∧ ∀ j : Fin 4, j ≠ 0 → y.traffic.inFlight[j] = none)) := by
  intro x u y others due
  have hc := timeoutRetired_spec n k e s
  have hu : u = goOn n (timeoutRetired n k e s) := takeTimeout_idle hcls (.inl hg)
  generalize timeoutRetired n k e s = c at *
  have hcg : (c.slot n).state = .grading := (hc.slot.same .state (by simp)).trans hg
  have hcgr : (c.slot n).grading = x.grading := slotGrading_ext (hc.slot.same .reason (by simp)) (hc.slot.same .grading (by simp))
  have hct : c.transit = s.transit := hc.keeps.same .transit (by simp)
  have hcinj : (c.slot n).traffic.injections = x.traffic.injections := hc.slot.same .injections (by simp)
  have hserver : (c.slot n).serverInFlight = false ↔ ¬others fun f => f.origin = .server := by
    unfold Slot.serverInFlight
    rw [anyInFlight_eq_false, hc.inFlight]
    simp only [set_none_get, others]
    constructor
    · rintro h ⟨j, hj, f, hf, ho⟩
      have := h j f ⟨hj, hf⟩
      simp [ho] at this
    · intro h j f ⟨hj, hf⟩
      cases ho : f.origin with
      | part => rfl
      | server => exact absurd ⟨j, hj, f, hf, ho⟩ h
  rw [goOn_grading hcg] at hu
  have hdue : due ↔ x.grading.handedOver = false ∧ finalIdentifyDue (c.slot n) = true := by
    rw [finalIdentifyDue_iff, hserver, hcgr]
  cases hho : x.grading.handedOver with
  | true =>
    have hnd : ¬due := fun h => by rw [h.1] at hho; cases hho
    have huc : u = c := hu.trans (gradingProgress_of_done (.inr (by rw [hcgr]; exact hho)))
    have hy : y.grading = x.grading := by rw [show y = u.slot n from rfl, huc]; exact hcgr
    refine ⟨fun _ => ⟨by rw [hy], fun _ => by rw [show y = u.slot n from rfl, huc]; exact hc.inFlight⟩,
      fun _ => ⟨by rw [huc]; exact hct, by rw [hy]; exact hho⟩, fun h => absurd h hnd⟩
  | false =>
    have hcho : (c.slot n).grading.handedOver = false := by rw [hcgr]; exact hho
    have hdr := gradingProgress_drained hcg hcho
    have hw := gradingProgress_wentOn hcg
    refine ⟨fun hnd => ?_, fun hkeep => ?_, fun hd => ?_⟩
    · have hnd' : finalIdentifyDue (c.slot n) = false := by
        rw [Bool.eq_false_iff]
        exact fun h => hnd (hdue.2 ⟨hho, h⟩)
      rw [show y = u.slot n from rfl, hu]
      refine ⟨?_, fun hinj => ?_⟩
      · rw [hdr.grading, hcgr]
        exact if_neg (by rw [hnd']; simp)
      · rw [(hdr.quiet hnd' (.inl (hcinj.trans hinj))).1]
        exact hc.inFlight
    · by_cases hd : due
      · obtain ⟨h1, h2, -⟩ := gradingProgress_due hcg hcho (hdue.1 hd).2
        rw [show y = u.slot n from rfl, hu]
        exact ⟨h1.trans hct, h2⟩
      · obtain ⟨j, hj, f, hf, -⟩ := hkeep.resolve_right hd
        have hper := hw.served.persists j f (by rw [hc.inFlight]; exact set_none_get.2 ⟨hj, hf⟩)
        rw [show y = u.slot n from rfl, hu]
        have hgp : gradePoint ((gradingProgress n c).slot n) = false := by
          unfold gradePoint
          rw [tableEmpty_eq_false.2 ⟨j, f, hper⟩]
          rfl
        exact ⟨(hdr.holds hgp).trans hct, by rw [hdr.grading]; exact hgp⟩
    · obtain ⟨-, -, h3, h4⟩ := gradingProgress_due hcg hcho (hdue.1 hd).2
      rw [show y = u.slot n from rfl, hu]
      refine ⟨h3, h4, fun hon hinj hres hno => ?_⟩
      have hunow : (gradingProgress n c).now = c.now := hw.keeps.same .now (by simp)
      obtain ⟨hkd, hxd, -⟩ := drainStart_slot n c
      have hdinj : ((drainStart n c).slot n).traffic.injections = [⟨.identify, false, false, false, false, true⟩] := by
        rw [drainStart, if_pos (hdue.1 hd).2]
        exact inject_injections_empty (by rw [slot_modSlot_same]; exact hcinj.trans hinj) _
      have hsv := refillServed (n := n) (v := drainStart n c) hdinj
        ((hxd.same .power (by simp)).trans ((hc.slot.same .power (by simp)).trans hon)) (.inl rfl) (by rw [hdinj]; rfl)
        ((hxd.same .reserved (by simp)).trans ((hc.slot.same .reserved (by simp)).trans hres)) fun j => by
          rw [(hxd.same .inFlight (by simp) : _ = (c.slot n).traffic.inFlight), hc.inFlight]
          cases hf : (x.traffic.inFlight.set k none)[j] with
          | none => rfl
          | some f => exact absurd ⟨j, (set_none_get.1 hf).1, f, (set_none_get.1 hf).2, trivial⟩ hno
      have hset : timeoutSeconds (drainStart n c) .identify = s.store.settings.identifyTimeout := by
        unfold timeoutSeconds
        rw [(hkd.same .settings (by simp) : _ = c.store.settings), (hc.keeps.same .settings (by simp) : _ = s.store.settings)]
      have hsame : ((gradingProgress n c).slot n).traffic = ((serveInjections n (drainStart n c)).slot n).traffic := by
        rw [gradingProgress_eq hcg hcho]
        split
        · rw [sendHandOver_slot]
        · rfl
      rw [hsame, hunow, ← (hkd.same .now (by simp) : (drainStart n c).now = c.now), ← hset]
      exact ⟨hsv.first, hsv.others⟩

/-- The timeout of the last command in flight, nothing listed, with the grade point reached (R60, R136). -/
theorem takeTimeout_handsOver {n : SlotId} {k : Fin 4} {e : InFlight} {s : State} (hg : (s.slot n).state = .grading)
    (hho : (s.slot n).grading.handedOver = false) (hinj : (s.slot n).traffic.injections = [])
    (hempty : ∀ j : Fin 4, j ≠ k → (s.slot n).traffic.inFlight[j] = none) (hsp : (s.slot n).power.spindle ≠ .spinningUp)
    (h : (s.slot n).grading.reason ≠ none ∨ (s.slot n).grading.finalIdentify = .ended ∨ e.cls = .identify ∧ e.final = true) :
    (takeTimeout n k e (reach (e.start + e.timeout) s)).transit = { s.transit with handOvers := s.transit.handOvers ++ [n] }
      ∧ ((takeTimeout n k e (reach (e.start + e.timeout) s)).slot n).grading.handedOver = true := by
  have hfirst : ¬answersFirst n e s := fun h => absurd (hg.symm.trans h.1) (by simp)
  rw [takeTimeout_later hfirst]
  have hc := timeoutRetired_spec n k e s
  generalize timeoutRetired n k e s = c at *
  have hcst : (c.slot n).state = .grading := (hc.slot.same .state (by simp)).trans hg
  have hf := endUnanswered_endedBy (n := n) (s := c) e (by rw [hcst]; simp)
  generalize endUnanswered n e c = f at *
  have hfst : (f.slot n).state = .grading := (hf.slot.same .state (by simp)).trans hcst
  rw [startRecovery_of_none _ (by rw [hfst]; rfl), goOn_grading hfst]
  have hcgr : (c.slot n).grading = (s.slot n).grading :=
    slotGrading_ext (hc.slot.same .reason (by simp)) (hc.slot.same .grading (by simp))
  obtain ⟨-, -, -, hsm, -⟩ := hf.stays fun hcn => by
    have := hcn.1.1
    rw [hcst] at this
    cases this
  have horph : (c.slot n).orphaned = false := by
    unfold Slot.orphaned
    rw [(hc.slot.same .spindle (by simp)).1]
    simp [hsp]
  have hend : (f.slot n).grading.reason ≠ none ∨ (f.slot n).grading.finalIdentify = .ended := by
    rw [hf.grading, hcgr]
    obtain h | h | ⟨h, h'⟩ := h
    · exact .inl h
    · right
      dsimp only
      split
      · rfl
      · exact h
    · exact .inr (if_pos ⟨e, by simp, h, h'⟩)
  obtain ⟨h1, h2⟩ := gradingProgress_handsOver hfst (by rw [hf.grading, hcgr]; exact hho)
    ((hsm horph).trans ((hc.slot.same .injections (by simp)).trans hinj)) (fun j => by
      rw [(hf.slot.same .inFlight (by simp) : _ = (c.slot n).traffic.inFlight), hc.inFlight]
      cases hj : ((s.slot n).traffic.inFlight.set k none)[j] with
      | none => rfl
      | some o =>
        obtain ⟨hjk, ho⟩ := set_none_get.1 hj
        rw [hempty j hjk] at ho
        cases ho) hend
  have htr : f.transit = s.transit := (hf.keeps.same .transit (by simp)).trans (hc.keeps.same .transit (by simp))
  exact ⟨h1.trans (by rw [htr]), h2⟩

theorem timeoutAnswers_some {n : SlotId} {e : InFlight} {dest : Byte} (h : e.source = some dest) :
    timeoutAnswers n e = [.partMade dest (slotByte n) (BitVec.ofNat 8 e.tag) .timeout] := by
  unfold timeoutAnswers
  rw [h]
  rfl

theorem timeoutAnswers_none {n : SlotId} {e : InFlight} (h : e.source = none) : timeoutAnswers n e = [] := by
  unfold timeoutAnswers
  rw [h]
  rfl

/-- An IDENTIFY in IDENTIFYING that times out only adds answers to the one of its server (R7, R34). -/
theorem takeTimeout_first_answers {n : SlotId} {k : Fin 4} {e : InFlight} {s : State} (h : answersFirst n e s) :
    (takeTimeout n k e (reach (e.start + e.timeout) s)).now = max s.now (e.start + e.timeout)
      ∧ ∃ more, (takeTimeout n k e (reach (e.start + e.timeout) s)).port.responses
          = s.port.responses ++ timeoutAnswers n e ++ more := by
  rw [takeTimeout_first h]
  have hc := timeoutRetired_spec n k e s
  generalize timeoutRetired n k e s = c at *
  obtain ⟨⟨more, hm⟩, hn⟩ := (identifyFailed_answers .timeout ((hc.slot.same .state (by simp)).trans h.1)).trans (goOn_answers n _)
  exact ⟨hn.trans hc.now, more, by rw [hm, hc.responses]⟩

/-- Its first failure starts a recovery (R7). -/
theorem takeTimeout_first_begins {n : SlotId} {k : Fin 4} {e : InFlight} {s : State} (h : answersFirst n e s)
    (hl : (s.slot n).recovery.episodes < 4) (hm : (s.slot n).identity.retryMark = false) :
    ∃ f, Begun n .timeout f (takeTimeout n k e (reach (e.start + e.timeout) s)) ∧ (f.slot n).state = .identifying
      ∧ (f.slot n).identity.retryMark = true := by
  rw [takeTimeout_first h]
  have hc := timeoutRetired_spec n k e s
  generalize timeoutRetired n k e s = c at *
  have hst : (c.slot n).state = .identifying := (hc.slot.same .state (by simp)).trans h.1
  rw [identifyFailed_first _ ((hc.slot.same .retryMark (by simp)).trans hm)]
  have hx := slot_modSlot_same c n (fun x => { x with identity.retryMark := true })
  generalize modSlot n (fun x => { x with identity.retryMark := true }) c = f at *
  have hfst : (f.slot n).state = .identifying := by rw [hx]; exact hst
  have hfl : (f.slot n).recovery.episodes < 4 := by
    rw [hx]
    exact (congrArg (fun r : SlotRecovery => r.episodes < 4) (hc.slot.same .recovery (by simp) : (c.slot n).recovery = _)).mpr hl
  rw [startRecovery_of_begun _ (by rw [hfst]; rfl) hfl, goOn_begun (beginEpisode_begun n .timeout f)]
  exact ⟨f, beginEpisode_begun n .timeout f, hfst, by rw [hx]⟩

/-- The second one quarantines the slot NO_IDENTITY (R7). -/
theorem takeTimeout_first_quarantines {n : SlotId} {k : Fin 4} {e : InFlight} {s : State} (h : answersFirst n e s)
    (hm : (s.slot n).identity.retryMark = true) (hr : (s.slot n).grading.reason = none) :
    ((takeTimeout n k e (reach (e.start + e.timeout) s)).slot n).grading.reason = some .noIdentity
      ∧ ((takeTimeout n k e (reach (e.start + e.timeout) s)).slot n).state = .grading := by
  rw [takeTimeout_first h]
  have hc := timeoutRetired_spec n k e s
  generalize timeoutRetired n k e s = c at *
  have hst : (c.slot n).state = .identifying := (hc.slot.same .state (by simp)).trans h.1
  rw [identifyFailed_again _ ((hc.slot.same .retryMark (by simp)).trans hm),
    takeQuarantine_early _ (by rw [hst]; rfl) ((hc.slot.same .reason (by simp)).trans hr)]
  obtain ⟨-, -, hre, -⟩ := recordReason_spec n .noIdentity c
  generalize recordReason n .noIdentity c = d at *
  have he := enterGrading_entered n d
  have hw := goOn_slot n (enterGrading n d)
  exact ⟨(hw.same .reason (by simp)).trans ((he.slot.same .reason (by simp)).trans hre),
    (hw.same .state (by simp)).trans he.state⟩

/-- Settles O53: each clause is one case of what a timeout does; in GRADING the drain follows it. -/
theorem classTimeoutExpiry : Obligations.ClassTimeoutExpiry := by
  unfold Obligations.ClassTimeoutExpiry
  refine ⟨fun n k s e dest hk hsrc hcls => ?_, fun n k s e dest hk hsrc hcls => ?_, fun n k s e hk hsrc => ?_,
    fun n k s e hk hg hho hinj hempty hsp _ h =>
      ⟨_, execTimeout hk, takeTimeout_handsOver hg hho hinj hempty hsp h⟩⟩
  · have hfirst : ¬answersFirst n e s := fun h => by obtain hc | hc := hcls <;> rw [h.2] at hc <;> cases hc
    have ht := takeTimeout_timedOut (k := k) hfirst
    obtain ⟨more, hm⟩ := ht.answers
    have hgr := takeTimeout_grading (n := n) (k := k) (e := e) (s := s) hcls
    refine ⟨_, more, execTimeout hk, ht.now, ?_, fun ha hl => ht.begins ((allowsRecovery_iff _).2 ha) hl, fun late => ?_,
      fun late hinj => ?_, fun hg => hgr hg⟩
    · rw [hm, timeoutAnswers_some hsrc, List.append_assoc]
      rfl
    · obtain ⟨h1, h2⟩ := ht.late late
      rw [hm] at h1
      exact ⟨by simpa using h1, h2⟩
    · have hc := timeoutRetired_spec n k e s
      rw [takeTimeout_idle hcls (.inr late)]
      generalize timeoutRetired n k e s = c at *
      have hst : (c.slot n).state = (s.slot n).state := hc.slot.same .state (by simp)
      have hnsv := late_spec (.inr late)
      rw [goOn_unserved (by rw [hst]; obtain h | h := late <;> rw [h] <;> simp) (by rw [hst]; exact hnsv.1),
        serveInjections_of_quiet (.inl ((hc.slot.same .injections (by simp)).trans hinj))]
      exact hc.inFlight
  · by_cases hfirst : answersFirst n e s
    · obtain ⟨hnow, more, hm⟩ := takeTimeout_first_answers (k := k) hfirst
      refine ⟨_, more, execTimeout hk, hnow, ?_, fun _ _ hno => absurd hfirst hno, fun late => ?_, fun _ hno => absurd hfirst.1 hno,
        fun late => ?_, fun hp => ?_⟩
      · rw [hm, timeoutAnswers_some hsrc, List.append_assoc]
        rfl
      · exact absurd hfirst.1 (late_spec late).2.2.1
      · exact absurd hfirst.1 (late_spec late).2.2.1
      · exact absurd (hfirst.1.symm.trans hp) (by simp)
    · have ht := takeTimeout_timedOut (k := k) hfirst
      obtain ⟨more, hm⟩ := ht.answers
      refine ⟨_, more, execTimeout hk, ht.now, ?_, fun ha hl _ => ht.begins ((allowsRecovery_iff _).2 ha) hl, fun late => ?_,
        fun hid _ => ht.record hid, ht.orphans, ht.parks⟩
      · rw [hm, timeoutAnswers_some hsrc, List.append_assoc]
        rfl
      · obtain ⟨h1, h2⟩ := ht.late late
        rw [hm] at h1
        exact ⟨by simpa using h1, h2⟩
  · by_cases hfirst : answersFirst n e s
    · obtain ⟨hnow, -⟩ := takeTimeout_first_answers (k := k) hfirst
      refine ⟨_, execTimeout hk, hnow, fun _ hl hno => ?_, fun _ => takeTimeout_first_quarantines hfirst, fun late => ?_,
        fun hg => ?_, fun late => ?_, fun hp => ?_⟩
      · obtain ⟨f, hb, hfst, hfm⟩ := takeTimeout_first_begins (k := k) hfirst hl (by
          cases hm : (s.slot n).identity.retryMark with
          | false => rfl
          | true => exact absurd ⟨hfirst, hm⟩ hno)
        obtain ⟨h1, h2, h3, -⟩ := hb.begins
        exact ⟨h1, h2, by rw [h3, hfst, hfirst.1], fun _ => (hb.slot.same .retryMark (by simp)).trans hfm⟩
      · exact absurd hfirst.1 (late_spec late).2.2.1
      · exact absurd (hfirst.1.symm.trans hg) (by simp)
      · exact absurd hfirst.1 (late_spec late).2.2.1
      · exact absurd (hfirst.1.symm.trans hp) (by simp)
    · have ht := takeTimeout_timedOut (k := k) hfirst
      refine ⟨_, execTimeout hk, ht.now, fun ha hl _ => ?_, fun hf => absurd hf hfirst, fun late => ?_, fun hg hid hfin => ?_,
        ht.orphans, ht.parks⟩
      · obtain ⟨h1, h2, h3, -⟩ := ht.begins ((allowsRecovery_iff _).2 ha) hl
        exact ⟨h1, h2, h3, fun hf => absurd hf hfirst⟩
      · obtain ⟨h1, h2⟩ := ht.late late
        exact ⟨by rw [h1, timeoutAnswers_none hsrc, List.append_nil], h2⟩
      · obtain ⟨h1, h2⟩ := ht.final hg hid hfin
        exact ⟨h1, h2, ht.record hid⟩

end Sys2Proof.Machine
end

section
/-! SUPPORT. What a sample of a slot's metrics does (R99 to R104, R112, R82, R83). -/

namespace Sys2Proof.Machine

/-! ### What every part of a sample leaves -/

theorem slotEvent_set_bit (e : SlotEvent) : e.set.getLsbD e.bit = true := by cases e <;> decide

/-- What every part of a sample of slot n leaves: events and quarantine requests are only added. -/
structure Sampling (n : SlotId) (s t : State) : Prop where
  keeps : KeepsBut [.slot n, .partSet, .noticeQueue, .transit] s t
  slot : SlotKeepsBut [.samples, .tallies, .events, .notice] (s.slot n) (t.slot n)
  reports : t.transit.calibrations = s.transit.calibrations ∧ t.transit.handOvers = s.transit.handOvers
  events : ∀ i, (s.slot n).events.getLsbD i = true → (t.slot n).events.getLsbD i = true
  quarantines : ∀ q ∈ s.transit.quarantines, q ∈ t.transit.quarantines

theorem Sampling.refl (n : SlotId) (s : State) : Sampling n s s :=
  ⟨.refl .., .refl .., ⟨rfl, rfl⟩, fun _ => id, fun _ => id⟩

theorem Sampling.trans {n : SlotId} {s t u : State} (h : Sampling n s t) (h' : Sampling n t u) : Sampling n s u :=
  ⟨h.keeps.trans h'.keeps, h.slot.trans h'.slot, ⟨h'.reports.1.trans h.reports.1, h'.reports.2.trans h.reports.2⟩,
    fun i hi => h'.events i (h.events i hi), fun q hq => h'.quarantines q (h.quarantines q hq)⟩

theorem Sampling.ite {n : SlotId} {c : Prop} [Decidable c] {s t u : State} (h : Sampling n s t) (h' : Sampling n s u) :
    Sampling n s (if c then t else u) := by
  split <;> assumption

theorem modSlot_sampling {n : SlotId} {f : Slot → Slot} {s : State}
    (h : SlotKeepsBut [.samples, .tallies] (s.slot n) (f (s.slot n))) : Sampling n s (modSlot n f s) := by
  have hs : SlotKeepsBut [.samples, .tallies] (s.slot n) ((modSlot n f s).slot n) := modSlot_slot h
  refine ⟨(modSlot_keeps ..).mono (by simp), hs.mono (by simp), ⟨rfl, rfl⟩, fun i hi => ?_, fun q => id⟩
  rw [(hs.same .events (by simp) : _ = (s.slot n).events)]
  exact hi

theorem raiseSlot_sampling (n : SlotId) (e : SlotEvent) (s : State) :
    Sampling n s (raiseSlot n e s) ∧ ((raiseSlot n e s).slot n).events.getLsbD e.bit = true := by
  have hk := raiseSlot_keeps n e s
  have ht : (raiseSlot n e s).transit = s.transit := hk.same .transit (by simp)
  refine ⟨⟨hk.mono (by simp), (raiseSlot_slot_keeps n e s).mono (by simp), by rw [ht]; exact ⟨rfl, rfl⟩, fun i hi => ?_,
    fun q hq => by rw [ht]; exact hq⟩, ?_⟩ <;> rw [raiseSlot_slot_events, BitVec.getLsbD_or]
  · rw [hi, Bool.true_or]
  · rw [slotEvent_set_bit, Bool.or_true]

theorem raiseAll_sampling (n : SlotId) (es : List SlotEvent) (s : State) :
    Sampling n s (raiseAll n es s) ∧ ((raiseAll n es s).slot n).drift = (s.slot n).drift
      ∧ ((raiseAll n es s).slot n).tallies = (s.slot n).tallies
      ∧ ∀ e ∈ es, ((raiseAll n es s).slot n).events.getLsbD e.bit = true := by
  unfold raiseAll
  induction es generalizing s with
  | nil => exact ⟨.refl .., rfl, rfl, nofun⟩
  | cons e es ih =>
    obtain ⟨h1, h2⟩ := raiseSlot_sampling n e s
    obtain ⟨h3, hd, ht, h4⟩ := ih (raiseSlot n e s)
    obtain ⟨v, hx⟩ := raiseSlot_slot n e s
    rw [List.foldl_cons]
    refine ⟨h1.trans h3, hd.trans (by rw [hx]), ht.trans (by rw [hx]), fun e' he' => ?_⟩
    obtain rfl | he' := List.mem_cons.1 he'
    · exact h3.events _ h2
    · exact h4 e' he'

theorem sendQuarantine_sampling (n : SlotId) (r : QuarantineReason) (s : State) :
    Sampling n s (sendQuarantine n r s) ∧ (n, r) ∈ (sendQuarantine n r s).transit.quarantines := by
  refine ⟨⟨(sendQuarantine_keeps ..).mono (by simp), slotKeeps_of_eq rfl, ⟨rfl, rfl⟩, fun _ => id, fun q hq => ?_⟩, ?_⟩
  · rw [sendQuarantine_transit]
    exact List.mem_append_left _ hq
  · rw [sendQuarantine_transit]
    exact List.mem_append_right _ (List.mem_singleton.2 rfl)

/-! ### One metric -/

/-- What the stages make of a slot's record of metric m (R104). -/
def staged (s : State) (x : Slot) (m : Metric) (f : Filter) : StageResult :=
  match modelOf s x, f.lastRaw with
  | some entry, some v => evaluate (entry.thresholds m) entry.calibrationCount (supplyHalt s || recoveryHalt x m) v f
  | _, _ => ⟨f, [], false⟩

theorem staged_some {s : State} {x : Slot} {m : Metric} {f : Filter} {entry : ModelEntry} {v : Nat}
    (he : modelOf s x = some entry) (hv : f.lastRaw = some v) :
    staged s x m f = evaluate (entry.thresholds m) entry.calibrationCount (supplyHalt s || recoveryHalt x m) v f := by
  unfold staged
  rw [he, hv]

theorem staged_none {s : State} {x : Slot} {m : Metric} {f : Filter} (h : modelOf s x = none ∨ f.lastRaw = none) :
    staged s x m f = ⟨f, [], false⟩ := by
  unfold staged
  obtain h | h := h <;> rw [h]
  cases modelOf s x <;> rfl

/-- What a sample of metric m with a reading makes of the slot's record of it (R99, R100, R104). -/
def sampledMetric (s : State) (x : Slot) (m : Metric) (reading : Nat) : StageResult :=
  let f := takeReading reading (x.filter m)
  if runsStages x f then staged s x m f else ⟨f, [], false⟩

theorem sampledMetric_kept {s : State} {x : Slot} {m : Metric} {reading : Nat}
    (h : x.testRunning = false ∨ 16 ≤ (takeReading reading (x.filter m)).misses
      ∨ (takeReading reading (x.filter m)).lastRaw = none ∨ modelOf s x = none) :
    (sampledMetric s x m reading).record = takeReading reading (x.filter m) := by
  unfold sampledMetric
  dsimp only
  split
  · next hr =>
    unfold runsStages Filter.lost Config.lostAt at hr
    simp only [Bool.and_eq_true, Bool.not_eq_true', decide_eq_false_iff_not] at hr
    obtain ⟨⟨h1, h2⟩, h3⟩ := hr
    obtain h | h | h | h := h
    · rw [h] at h1; cases h1
    · exact absurd h h2
    · rw [h] at h3; cases h3
    · rw [staged_none (.inl h)]
  · rfl

theorem sampledMetric_evaluated {s : State} {x : Slot} {m : Metric} {reading : Nat} {entry : ModelEntry} {sample : Nat}
    (ht : x.testRunning = true) (hm : (takeReading reading (x.filter m)).misses < 16) (he : modelOf s x = some entry)
    (hr : (takeReading reading (x.filter m)).lastRaw = some sample) :
    sampledMetric s x m reading
      = evaluate (entry.thresholds m) entry.calibrationCount (supplyHalt s || recoveryHalt x m) sample
          (takeReading reading (x.filter m)) := by
  unfold sampledMetric
  dsimp only
  rw [if_pos, staged_some he hr]
  unfold runsStages Filter.lost Config.lostAt
  rw [ht, hr]
  simpa using hm

/-- A sample of a metric depends on its record, the binding, the supply and whether the test runs, and on nothing else. -/
theorem sampledMetric_congr {s t : State} {x y : Slot} {m : Metric} (reading : Nat) (hf : y.filter m = x.filter m)
    (hst : y.state = x.state) (hrec : y.recovery = x.recovery) (hm : y.identity.model = x.identity.model)
    (hmod : t.tables.models = s.tables.models) (hsup : t.power.supply = s.power.supply) :
    sampledMetric t y m reading = sampledMetric s x m reading := by
  have htr : y.testRunning = x.testRunning := by unfold Slot.testRunning; rw [hst, hrec]
  have hmo : modelOf t y = modelOf s x := by unfold modelOf; rw [hm, hmod]
  unfold sampledMetric runsStages staged supplyHalt recoveryHalt
  rw [hf, htr, hmo, hsup, hst]

/-- The evaluation of a metric's record (R104). -/
structure MetricTaken (n : SlotId) (m : Metric) (r : StageResult) (s t : State) : Prop where
  sampling : Sampling n s t
  record : (t.slot n).filter m = r.record
  others : ∀ k, k ≠ m → (t.slot n).filter k = (s.slot n).filter k
  raised : ∀ e ∈ r.raised, (t.slot n).events.getLsbD e.bit = true
  quarantined : r.quarantine = true → (n, .metricFault) ∈ t.transit.quarantines
  figures : (t.slot n).drift.peak = (s.slot n).drift.peak ∧ (t.slot n).drift.mean = (s.slot n).drift.mean
    ∧ (t.slot n).tallies = (s.slot n).tallies

theorem filter_of_drift {x y : Slot} (h : y.drift = x.drift) (m : Metric) : y.filter m = x.filter m := by
  cases m <;> simp [Slot.filter, h]

theorem setFilter_sampling (n : SlotId) (m : Metric) (f : Slot → Filter) (s : State) :
    Sampling n s (modSlot n (fun x => x.setFilter m (f x)) s) :=
  modSlot_sampling ((setFilter_keeps (s.slot n) m (f (s.slot n))).1.mono (by simp))

/-- A stage result stored, its events raised and its request sent. -/
theorem storeResult_taken (n : SlotId) (m : Metric) (r : StageResult) (s : State) :
    MetricTaken n m r s
      (if r.quarantine then
        sendQuarantine n .metricFault (raiseAll n r.raised (modSlot n (fun x => x.setFilter m r.record) s))
      else raiseAll n r.raised (modSlot n (fun x => x.setFilter m r.record) s)) := by
  have h1 := setFilter_sampling n m (fun _ => r.record) s
  have hx := slot_modSlot_same s n (fun x => x.setFilter m r.record)
  obtain ⟨-, hp, hme⟩ := setFilter_keeps (s.slot n) m r.record
  have htal : ((s.slot n).setFilter m r.record).tallies = (s.slot n).tallies := by cases m <;> rfl
  generalize modSlot n (fun x => x.setFilter m r.record) s = a at *
  obtain ⟨h2, hd, ht, hr⟩ := raiseAll_sampling n r.raised a
  generalize raiseAll n r.raised a = b at *
  have h3 : Sampling n b (if r.quarantine = true then sendQuarantine n .metricFault b else b)
      ∧ (if r.quarantine = true then sendQuarantine n .metricFault b else b).slot n = b.slot n
      ∧ (r.quarantine = true →
          (n, .metricFault) ∈ (if r.quarantine = true then sendQuarantine n .metricFault b else b).transit.quarantines) := by
    split
    · obtain ⟨h4, h5⟩ := sendQuarantine_sampling n .metricFault b
      exact ⟨h4, rfl, fun _ => h5⟩
    · next h => exact ⟨.refl .., rfl, fun h' => absurd h' h⟩
  obtain ⟨h4, hs, h5⟩ := h3
  generalize (if r.quarantine = true then sendQuarantine n .metricFault b else b) = c at *
  have hdc : (c.slot n).drift = ((s.slot n).setFilter m r.record).drift := by rw [hs, hd, hx]
  refine ⟨h1.trans (h2.trans h4), ?_, fun k hk => ?_, fun e he => by rw [hs]; exact hr e he, h5, ?_⟩
  · rw [filter_of_drift hdc, filter_setFilter, if_pos rfl]
  · rw [filter_of_drift hdc, filter_setFilter, if_neg hk]
  · refine ⟨by rw [hdc]; exact hp, by rw [hdc]; exact hme, by rw [hs, ht, hx]; exact htal⟩

/-- A sample of a metric before the current figures (R99, R100, R104). -/
def readMetric (n : SlotId) (m : Metric) (reading : Nat) (s : State) : State :=
  let lost := losesNow reading ((s.slot n).filter m)
  let s := modSlot n (fun x => x.setFilter m (takeReading reading (x.filter m))) s
  let s := if lost then raiseSlot n .sensorLost s else s
  if runsStages (s.slot n) ((s.slot n).filter m) then evaluateMetric n m s else s

theorem evaluateMetric_taken (n : SlotId) (m : Metric) (s : State) :
    MetricTaken n m (staged s (s.slot n) m ((s.slot n).filter m)) s (evaluateMetric n m s) := by
  have hidle : MetricTaken n m ⟨(s.slot n).filter m, [], false⟩ s s :=
    ⟨.refl .., rfl, fun _ _ => rfl, nofun, nofun, rfl, rfl, rfl⟩
  unfold evaluateMetric
  dsimp only
  cases he : modelOf s (s.slot n) with
  | none => rw [staged_none (.inl he)]; exact hidle
  | some entry =>
    cases hv : ((s.slot n).filter m).lastRaw with
    | none => rw [staged_none (.inr hv)]; exact hidle
    | some v => rw [staged_some he hv]; exact storeResult_taken ..

theorem readMetric_taken (n : SlotId) (m : Metric) (reading : Nat) (s : State) :
    MetricTaken n m (sampledMetric s (s.slot n) m reading) s (readMetric n m reading s)
      ∧ (reading = 65535 → ((s.slot n).filter m).misses = 15 →
          ((readMetric n m reading s).slot n).events.getLsbD 12 = true) := by
  unfold readMetric
  dsimp only
  have h1 := setFilter_sampling n m (fun x => takeReading reading (x.filter m)) s
  have hx := slot_modSlot_same s n (fun x => x.setFilter m (takeReading reading (x.filter m)))
  obtain ⟨-, hp, hme⟩ := setFilter_keeps (s.slot n) m (takeReading reading ((s.slot n).filter m))
  have htal : ((s.slot n).setFilter m (takeReading reading ((s.slot n).filter m))).tallies = (s.slot n).tallies := by
    cases m <;> rfl
  generalize modSlot n (fun x => x.setFilter m (takeReading reading (x.filter m))) s = a at *
  have h3 : Sampling n a (if losesNow reading ((s.slot n).filter m) = true then raiseSlot n .sensorLost a else a)
      ∧ ((if losesNow reading ((s.slot n).filter m) = true then raiseSlot n .sensorLost a else a).slot n).drift = (a.slot n).drift
      ∧ ((if losesNow reading ((s.slot n).filter m) = true then raiseSlot n .sensorLost a else a).slot n).tallies = (a.slot n).tallies
      ∧ (losesNow reading ((s.slot n).filter m) = true →
          ((if losesNow reading ((s.slot n).filter m) = true then raiseSlot n .sensorLost a else a).slot n).events.getLsbD 12 = true) := by
    split
    · obtain ⟨h4, h5⟩ := raiseSlot_sampling n .sensorLost a
      obtain ⟨v, hv⟩ := raiseSlot_slot n .sensorLost a
      exact ⟨h4, by rw [hv], by rw [hv], fun _ => h5⟩
    · next h => exact ⟨.refl .., rfl, rfl, fun h' => absurd h' h⟩
  obtain ⟨h4, hd, ht, h5⟩ := h3
  generalize (if losesNow reading ((s.slot n).filter m) = true then raiseSlot n .sensorLost a else a) = b at *
  have hdb : (b.slot n).drift = ((s.slot n).setFilter m (takeReading reading ((s.slot n).filter m))).drift := by rw [hd, hx]
  have hfm : (b.slot n).filter m = takeReading reading ((s.slot n).filter m) := by
    rw [filter_of_drift hdb, filter_setFilter, if_pos rfl]
  have hoth : ∀ k, k ≠ m → (b.slot n).filter k = (s.slot n).filter k := fun k hk => by
    rw [filter_of_drift hdb, filter_setFilter, if_neg hk]
  have hsb := h1.trans h4
  have hres : sampledMetric s (s.slot n) m reading
      = if runsStages (b.slot n) ((b.slot n).filter m) = true then staged b (b.slot n) m ((b.slot n).filter m)
        else ⟨(b.slot n).filter m, [], false⟩ := by
    have hst : (b.slot n).state = (s.slot n).state := hsb.slot.same .state (by simp)
    have hrec : (b.slot n).recovery = (s.slot n).recovery := hsb.slot.same .recovery (by simp)
    have hm : (b.slot n).identity.model = (s.slot n).identity.model := (hsb.slot.same .identity (by simp)).2.1
    have htr : (b.slot n).testRunning = (s.slot n).testRunning := by unfold Slot.testRunning; rw [hst, hrec]
    have hmo : modelOf b (b.slot n) = modelOf s (s.slot n) := by
      unfold modelOf
      rw [hm, (hsb.keeps.same .models (by simp) : b.tables.models = s.tables.models)]
    have hsup : b.power.supply = s.power.supply := (hsb.keeps.same .supply (by simp)).1
    unfold sampledMetric runsStages staged supplyHalt recoveryHalt
    rw [hfm, htr, hmo, hsup, hst]
  have hc : MetricTaken n m (sampledMetric s (s.slot n) m reading) b
      (if runsStages (b.slot n) ((b.slot n).filter m) = true then evaluateMetric n m b else b) := by
    rw [hres]
    split
    · exact evaluateMetric_taken n m b
    · exact ⟨.refl .., rfl, fun _ _ => rfl, nofun, nofun, rfl, rfl, rfl⟩
  generalize (if runsStages (b.slot n) ((b.slot n).filter m) = true then evaluateMetric n m b else b) = c at *
  obtain ⟨hf1, hf2, hf3⟩ := hc.figures
  refine ⟨⟨hsb.trans hc.sampling, hc.record, fun k hk => (hc.others k hk).trans (hoth k hk), hc.raised, hc.quarantined,
    hf1.trans (by rw [hdb]; exact hp), hf2.trans (by rw [hdb]; exact hme), hf3.trans (by rw [ht, hx]; exact htal)⟩,
    fun hr hmiss => hc.sampling.events 12 (h5 ?_)⟩
  unfold losesNow unavailable Config.lostAt
  simp [hr, hmiss]

end Sys2Proof.Machine
end

section
/-! SUPPORT. The current figures and a sample of several metrics (R99, R101, R112, R82, R83). -/

namespace Sys2Proof.Machine

/-! ### The current figures -/

/-- The overdraw run after a valid CURR sample (R82, R83). -/
def overdrawRun (s : State) (x : Slot) (v : Nat) : Nat :=
  if x.power.allocation + s.store.settings.overdrawMargin < v then min 255 (x.tallies.overdrawRun + 1) else 0

/-- One count of a class in the tallies (R124, R128). -/
def tallied (s : State) (c : Fin 16) (t : SlotTallies) : SlotTallies :=
  { t with
    counters := t.counters.set c (min 65535 (t.counters[c] + 1))
    accumulator := min 65534 (t.accumulator + s.tables.defects[c].weight) }

/-- The tallies after a valid CURR sample: a run of 2 counts class 13 (R82, R127). -/
def currentTallies (s : State) (x : Slot) (v : Nat) : SlotTallies :=
  if x.tallies.overdrawRun = 1 ∧ overdrawRun s x v = 2 then
    tallied s 13 { x.tallies with overdrawRun := overdrawRun s x v }
  else { x.tallies with overdrawRun := overdrawRun s x v }

/-- What a valid CURR sample does beside the stages (R101, R82, R83). -/
structure CurrentTaken (n : SlotId) (v : Nat) (s t : State) : Prop where
  sampling : Sampling n s t
  filters : ∀ m, (t.slot n).filter m = (s.slot n).filter m
  peak : (t.slot n).drift.peak = max (s.slot n).drift.peak v
  mean : ((t.slot n).drift.mean : Int) = (s.slot n).drift.mean + ((v : Int) - (s.slot n).drift.mean).tdiv 16
  tallies : (t.slot n).tallies = currentTallies s (s.slot n) v
  raised : (s.slot n).tallies.overdrawRun = 1 → overdrawRun s (s.slot n) v = 2 → (t.slot n).events.getLsbD 11 = true
  asks : (s.slot n).tallies.overdrawRun = 7 → overdrawRun s (s.slot n) v = 8 → (n, .overdraw) ∈ t.transit.quarantines

theorem partCount_sampling (n : SlotId) (c : Fin 16) (s : State) : Sampling n s (partCount n c s) := by
  have h1 : Sampling n s (tally n c s) := by
    unfold tally
    exact modSlot_sampling (by have h := tally_slot_keeps n c s; rw [tally_slot] at h; exact h.mono (by simp))
  unfold partCount noteDefect
  exact h1.trans (.ite (raiseSlot_sampling ..).1 (.refl ..))

theorem partCount_drift (n : SlotId) (c : Fin 16) (s : State) : ((partCount n c s).slot n).drift = (s.slot n).drift := by
  have h1 : ((tally n c s).slot n).drift = (s.slot n).drift := by rw [tally_slot]
  unfold partCount noteDefect
  split
  · obtain ⟨v, hv⟩ := raiseSlot_slot n .defect (tally n c s)
    rw [hv]
    exact h1
  · exact h1

theorem compareOverdraw_spec (n : SlotId) (v : Nat) (s : State) :
    Sampling n s (compareOverdraw n v s) ∧ ((compareOverdraw n v s).slot n).drift = (s.slot n).drift
      ∧ ((compareOverdraw n v s).slot n).tallies = currentTallies s (s.slot n) v
      ∧ ((s.slot n).tallies.overdrawRun = 1 → overdrawRun s (s.slot n) v = 2 →
          ((compareOverdraw n v s).slot n).events.getLsbD 11 = true)
      ∧ ((s.slot n).tallies.overdrawRun = 7 → overdrawRun s (s.slot n) v = 8 →
          (n, .overdraw) ∈ (compareOverdraw n v s).transit.quarantines) := by
  have he : compareOverdraw n v s
      = let a := modSlot n (fun x => { x with tallies.overdrawRun := overdrawRun s (s.slot n) v }) s
        if (s.slot n).tallies.overdrawRun = 1 ∧ overdrawRun s (s.slot n) v = 2 then
          partCount n 13 (raiseSlot n .overdraw a)
        else if (s.slot n).tallies.overdrawRun = 7 ∧ overdrawRun s (s.slot n) v = 8 then sendQuarantine n .overdraw a
        else a := rfl
  rw [he]
  have h1 : Sampling n s (modSlot n (fun x => { x with tallies.overdrawRun := overdrawRun s (s.slot n) v }) s) :=
    modSlot_sampling ⟨fun g hg => by cases g <;> simp_all [slotSameIn]⟩
  have hx := slot_modSlot_same s n (fun x => { x with tallies.overdrawRun := overdrawRun s (s.slot n) v })
  generalize modSlot n (fun x => { x with tallies.overdrawRun := overdrawRun s (s.slot n) v }) s = a at *
  dsimp only
  unfold currentTallies
  by_cases hw : (s.slot n).tallies.overdrawRun = 1 ∧ overdrawRun s (s.slot n) v = 2
  · rw [if_pos hw, if_pos hw]
    obtain ⟨h2, h3⟩ := raiseSlot_sampling n .overdraw a
    obtain ⟨st, hv⟩ := raiseSlot_slot n .overdraw a
    generalize raiseSlot n .overdraw a = b at *
    have h4 := partCount_sampling n 13 b
    refine ⟨h1.trans (h2.trans h4), by rw [partCount_drift, hv, hx], ?_, fun _ _ => h4.events 11 h3, fun h => ?_⟩
    · rw [partCount_tallies, hv, hx, ((h1.trans h2).keeps.same .defects (by simp) : b.tables.defects = s.tables.defects)]
      rfl
    · rw [hw.1] at h
      cases h
  · rw [if_neg hw, if_neg hw]
    split
    · obtain ⟨h2, h3⟩ := sendQuarantine_sampling n .overdraw a
      refine ⟨h1.trans h2, by rw [sendQuarantine_slot, hx], by rw [sendQuarantine_slot, hx], fun h h' => absurd ⟨h, h'⟩ hw, fun _ _ => h3⟩
    · next h7 =>
      exact ⟨h1, by rw [hx], by rw [hx], fun h h' => absurd ⟨h, h'⟩ hw, fun h h' => absurd ⟨h, h'⟩ h7⟩

/-- The mean current stays a number: the step toward a reading never passes it (R101). -/
theorem mean_step_nonneg (a v : Nat) : (0 : Int) ≤ (a : Int) + ((v : Int) - a).tdiv 16 := by
  rcases le_total a v with h | h
  · have : (0 : Int) ≤ ((v : Int) - a).tdiv 16 := Int.tdiv_nonneg (by omega) (by omega)
    omega
  · have h1 : ((v : Int) - a).tdiv 16 = -(((a : Int) - v).tdiv 16) := by rw [← Int.neg_tdiv]; congr 1; omega
    have h2 : ((a : Int) - v).tdiv 16 ≤ (a : Int) - v := Int.tdiv_le_self _ (by omega)
    omega

theorem takeCurrent_taken (n : SlotId) (v : Nat) (s : State) :
    CurrentTaken n v s (compareOverdraw n v (modSlot n (takeCurrent v) s)) := by
  have h1 : Sampling n s (modSlot n (takeCurrent v) s) :=
    modSlot_sampling ⟨fun g hg => by cases g <;> simp_all [slotSameIn, takeCurrent]⟩
  have hx := slot_modSlot_same s n (takeCurrent v)
  generalize modSlot n (takeCurrent v) s = a at *
  obtain ⟨h2, hd, ht, hr, hq⟩ := compareOverdraw_spec n v a
  generalize compareOverdraw n v a = t at *
  have hrun : overdrawRun a (a.slot n) v = overdrawRun s (s.slot n) v := by
    unfold overdrawRun
    rw [hx, (h1.keeps.same .settings (by simp) : a.store.settings = s.store.settings)]
    rfl
  have htal : (a.slot n).tallies = (s.slot n).tallies := by rw [hx]; rfl
  refine ⟨h1.trans h2, fun m => ?_, by rw [hd, hx]; rfl, ?_, ?_, fun h h' => hr (by rw [htal]; exact h) (hrun.trans h'),
    fun h h' => hq (by rw [htal]; exact h) (hrun.trans h')⟩
  · rw [filter_of_drift hd, hx]
    cases m <;> rfl
  · rw [hd, hx]
    exact Int.toNat_of_nonneg (mean_step_nonneg _ _)
  · rw [ht]
    unfold currentTallies tallied
    rw [hrun, htal, (h1.keeps.same .defects (by simp) : a.tables.defects = s.tables.defects)]

/-! ### Several metrics -/

/-- The valid CURR reading of a sample, if the metric is sampled (R101). -/
def currentOf (ms : List Metric) (r : Metric → Nat) : Option Nat :=
  if .curr ∈ ms ∧ r .curr ≠ 65535 then some (r .curr) else none

/-- What a sample leaves of the current figures. -/
structure FiguresTaken (n : SlotId) (v : Option Nat) (s t : State) : Prop where
  none : v = none → (t.slot n).drift.peak = (s.slot n).drift.peak ∧ (t.slot n).drift.mean = (s.slot n).drift.mean
    ∧ (t.slot n).tallies = (s.slot n).tallies
  some : ∀ w, v = some w → (t.slot n).drift.peak = max (s.slot n).drift.peak w
    ∧ ((t.slot n).drift.mean : Int) = (s.slot n).drift.mean + ((w : Int) - (s.slot n).drift.mean).tdiv 16
    ∧ (t.slot n).tallies = currentTallies s (s.slot n) w
    ∧ ((s.slot n).tallies.overdrawRun = 1 → overdrawRun s (s.slot n) w = 2 → (t.slot n).events.getLsbD 11 = true)
    ∧ ((s.slot n).tallies.overdrawRun = 7 → overdrawRun s (s.slot n) w = 8 → (n, .overdraw) ∈ t.transit.quarantines)

/-- What a metric's sample leaves, at the end of the whole sample (R100, R104). -/
structure MetricSampled (n : SlotId) (m : Metric) (reading : Nat) (s t : State) : Prop where
  record : (t.slot n).filter m = (sampledMetric s (s.slot n) m reading).record
  raised : ∀ e ∈ (sampledMetric s (s.slot n) m reading).raised, (t.slot n).events.getLsbD e.bit = true
  quarantined : (sampledMetric s (s.slot n) m reading).quarantine = true → (n, .metricFault) ∈ t.transit.quarantines
  lost : reading = 65535 → ((s.slot n).filter m).misses = 15 → (t.slot n).events.getLsbD 12 = true

/-- A sample of metrics in order, before what follows it. -/
structure MetricsSampled (n : SlotId) (ms : List Metric) (r : Metric → Nat) (s t : State) : Prop where
  sampling : Sampling n s t
  metrics : ∀ m ∈ ms, MetricSampled n m (r m) s t
  others : ∀ m, m ∉ ms → (t.slot n).filter m = (s.slot n).filter m
  figures : FiguresTaken n (currentOf ms r) s t

theorem sampleMetric_eq (n : SlotId) (m : Metric) (reading : Nat) (s : State) :
    sampleMetric n m reading s
      = if m = .curr ∧ reading ≠ 65535 then
          compareOverdraw n reading (modSlot n (takeCurrent reading) (readMetric n m reading s))
        else readMetric n m reading s := rfl

theorem sampleMetric_sampled (n : SlotId) (m : Metric) (r : Metric → Nat) (s : State) :
    MetricsSampled n [m] r s (sampleMetric n m (r m) s) := by
  rw [sampleMetric_eq]
  obtain ⟨ht, hlost⟩ := readMetric_taken n m (r m) s
  generalize readMetric n m (r m) s = a at *
  obtain ⟨hp, hm, htal⟩ := ht.figures
  have hrun : ∀ w, overdrawRun a (a.slot n) w = overdrawRun s (s.slot n) w := fun w => by
    unfold overdrawRun
    rw [htal, (ht.sampling.slot.same .allocation (by simp)).1, (ht.sampling.keeps.same .settings (by simp) : a.store.settings = s.store.settings)]
  by_cases hc : m = .curr ∧ r m ≠ 65535
  · rw [if_pos hc]
    obtain ⟨rfl, hr⟩ := hc
    have h2 := takeCurrent_taken n (r .curr) a
    generalize compareOverdraw n (r .curr) (modSlot n (takeCurrent (r .curr)) a) = t at *
    have hcur : currentOf [.curr] r = some (r .curr) := if_pos ⟨by simp, hr⟩
    refine ⟨ht.sampling.trans h2.sampling, fun k hk => ?_, fun k hk => (h2.filters k).trans (ht.others k (by simpa using hk)),
      fun h => ?_, fun w h => ?_⟩
    · rw [List.mem_singleton.1 hk]
      exact ⟨(h2.filters _).trans ht.record, fun e he => h2.sampling.events _ (ht.raised e he),
        fun hq => h2.sampling.quarantines _ (ht.quarantined hq), fun h65 => absurd h65 hr⟩
    · rw [hcur] at h
      cases h
    · rw [hcur] at h
      cases h
      refine ⟨h2.peak.trans (by rw [hp]), h2.mean.trans (by rw [hm]), h2.tallies.trans ?_, fun h h' => h2.raised (by rw [htal]; exact h)
        ((hrun _).trans h'), fun h h' => h2.asks (by rw [htal]; exact h) ((hrun _).trans h')⟩
      unfold currentTallies tallied
      rw [hrun, htal, (ht.sampling.keeps.same .defects (by simp) : a.tables.defects = s.tables.defects)]
  · rw [if_neg hc]
    have hcur : currentOf [m] r = none := if_neg fun h => hc (by
      obtain ⟨h1, h2⟩ := h
      obtain rfl := List.mem_singleton.1 h1
      exact ⟨rfl, h2⟩)
    refine ⟨ht.sampling, fun k hk => ?_, fun k hk => ht.others k (by simpa using hk), fun _ => ⟨hp, hm, htal⟩, fun w h => ?_⟩
    · rw [List.mem_singleton.1 hk]
      exact ⟨ht.record, ht.raised, ht.quarantined, hlost⟩
    · rw [hcur] at h
      cases h

/-- Two samples of different metrics, one after the other. -/
theorem MetricsSampled.append {n : SlotId} {ms ms' : List Metric} {r : Metric → Nat} {s t u : State}
    (h : MetricsSampled n ms r s t) (h' : MetricsSampled n ms' r t u) (hd : ∀ m ∈ ms, m ∉ ms') :
    MetricsSampled n (ms ++ ms') r s u := by
  have hs := h.sampling.slot
  have hk := h.sampling.keeps
  have hsame : ∀ m, m ∉ ms → sampledMetric t (t.slot n) m (r m) = sampledMetric s (s.slot n) m (r m) := fun m hm =>
    sampledMetric_congr (r m) (h.others m hm) (hs.same .state (by simp)) (hs.same .recovery (by simp))
      (hs.same .identity (by simp)).2.1 (hk.same .models (by simp)) (hk.same .supply (by simp)).1
  have hall : t.store.settings = s.store.settings := hk.same .settings (by simp)
  refine ⟨h.sampling.trans h'.sampling, fun m hm => ?_, fun m hm => ?_, fun hn => ?_, fun w hw => ?_⟩
  · by_cases hin : m ∈ ms
    · have h1 := h.metrics m hin
      exact ⟨(h'.others m (hd m hin)).trans h1.record, fun e he => h'.sampling.events _ (h1.raised e he),
        fun hq => h'.sampling.quarantines _ (h1.quarantined hq), fun a b => h'.sampling.events _ (h1.lost a b)⟩
    · have hin' : m ∈ ms' := (List.mem_append.1 hm).resolve_left hin
      have h1 := h'.metrics m hin'
      obtain ⟨h2, h3, h4, h5⟩ := h1
      rw [hsame m hin] at h2 h3 h4
      exact ⟨h2, h3, h4, fun a b => h5 a (by rw [h.others m hin]; exact b)⟩
  · rw [List.mem_append, not_or] at hm
    exact (h'.others m hm.2).trans (h.others m hm.1)
  · have h1 : currentOf ms r = none := by
      unfold currentOf at hn ⊢
      refine if_neg fun hc => ?_
      rw [if_pos ⟨List.mem_append_left _ hc.1, hc.2⟩] at hn
      cases hn
    have h2 : currentOf ms' r = none := by
      unfold currentOf at hn ⊢
      refine if_neg fun hc => ?_
      rw [if_pos ⟨List.mem_append_right _ hc.1, hc.2⟩] at hn
      cases hn
    obtain ⟨a1, a2, a3⟩ := h.figures.none h1
    obtain ⟨b1, b2, b3⟩ := h'.figures.none h2
    exact ⟨b1.trans a1, b2.trans a2, b3.trans a3⟩
  · unfold currentOf at hw
    split at hw
    · next hc =>
      cases hw
      by_cases hin : .curr ∈ ms
      · have h1 : currentOf ms r = some (r .curr) := if_pos ⟨hin, hc.2⟩
        have h2 : currentOf ms' r = none := if_neg fun h => hd _ hin h.1
        obtain ⟨a1, a2, a3, a4, a5⟩ := h.figures.some _ h1
        obtain ⟨b1, b2, b3⟩ := h'.figures.none h2
        exact ⟨b1.trans a1, by rw [b2]; exact a2, b3.trans a3, fun p q => h'.sampling.events _ (a4 p q),
          fun p q => h'.sampling.quarantines _ (a5 p q)⟩
      · have h1 : currentOf ms r = none := if_neg fun h => hin h.1
        have h2 : currentOf ms' r = some (r .curr) := if_pos ⟨(List.mem_append.1 hc.1).resolve_left hin, hc.2⟩
        obtain ⟨a1, a2, a3⟩ := h.figures.none h1
        obtain ⟨b1, b2, b3, b4, b5⟩ := h'.figures.some _ h2
        have hrun : overdrawRun t (t.slot n) (r .curr) = overdrawRun s (s.slot n) (r .curr) := by
          unfold overdrawRun
          rw [a3, (hs.same .allocation (by simp)).1, hall]
        refine ⟨b1.trans (by rw [a1]), by rw [b2, a2], b3.trans ?_, fun p q => b4 (by rw [a3]; exact p) (hrun.trans q),
          fun p q => b5 (by rw [a3]; exact p) (hrun.trans q)⟩
        unfold currentTallies tallied
        rw [hrun, a3, (hk.same .defects (by simp) : t.tables.defects = s.tables.defects)]
    · cases hw

theorem foldl_sampleMetric {n : SlotId} {ms : List Metric} (hn : ms.Nodup) (r : Metric → Nat) (s : State) :
    MetricsSampled n ms r s (ms.foldl (fun s m => sampleMetric n m (r m) s) s) := by
  induction ms generalizing s with
  | nil => exact ⟨.refl .., nofun, fun _ _ => rfl, fun _ => ⟨rfl, rfl, rfl⟩, fun w hw => by simp [currentOf] at hw⟩
  | cons m ms ih =>
    obtain ⟨hm, hms⟩ := List.nodup_cons.1 hn
    rw [List.foldl_cons]
    exact (sampleMetric_sampled n m r s).append (ih hms _) fun k hk => by rw [List.mem_singleton.1 hk]; exact hm

end Sys2Proof.Machine
end

section
/-! SUPPORT. A whole sample, the deferred sample, and the spindle after a response (R33, R98, R99, R112). -/

namespace Sys2Proof.Machine

/-! ### A whole sample -/

/-- The state as a sample leaves it before its first metric: one that reads DEFR has taken the accumulator (log entry 18). -/
def accumulatorTaken (n : SlotId) (ms : List Metric) (s : State) : State :=
  if .defr ∈ ms then modSlot n (fun x => { x with tallies.accumulator := 0 }) s else s

/-- The accumulator that a sample of the metrics leaves before it counts anything. -/
def leftAccumulator (ms : List Metric) (x : Slot) : Nat := if .defr ∈ ms then 0 else x.tallies.accumulator

theorem accumulatorTaken_slot (n : SlotId) (ms : List Metric) (s : State) :
    (accumulatorTaken n ms s).slot n = { s.slot n with tallies.accumulator := leftAccumulator ms (s.slot n) } := by
  unfold accumulatorTaken leftAccumulator
  split
  · exact slot_modSlot_same ..
  · rfl

theorem accumulatorTaken_sampling (n : SlotId) (ms : List Metric) (s : State) : Sampling n s (accumulatorTaken n ms s) := by
  have h1 : Sampling n s (modSlot n (fun x => { x with tallies.accumulator := 0 }) s) :=
    modSlot_sampling ⟨fun g hg => by cases g <;> simp_all [slotSameIn]⟩
  exact .ite h1 (.refl ..)

/-- What a sample of some metrics of a slot leaves (R99 to R104, R112, R20). -/
structure SampleTaken (n : SlotId) (ms : List Metric) (r : Metric → Nat) (s t : State) : Prop where
  keeps : KeepsBut [.slot n, .partSet, .noticeQueue, .transit] s t
  slot : SlotKeepsBut [.samples, .tallies, .events, .notice, .lamps] (s.slot n) (t.slot n)
  handOvers : t.transit.handOvers = s.transit.handOvers
  quarantines : ∀ q ∈ s.transit.quarantines, q ∈ t.transit.quarantines
  calibrations : t.transit.calibrations
    = s.transit.calibrations ++ if (s.slot n).calibrating && !(t.slot n).calibrating then [n] else []
  metrics : ∀ m ∈ ms, MetricSampled n m (r m) s t
  others : ∀ m, m ∉ ms → (t.slot n).filter m = (s.slot n).filter m
  figures : FiguresTaken n (currentOf ms r) (accumulatorTaken n ms s) t

/-- Lamps and the calibration-complete report aside, the state stays after a sample. -/
theorem afterSample_spec (n : SlotId) (x : Slot) (s : State) :
    KeepsBut [.slot n, .transit] s (afterSample n x s)
      ∧ SlotKeepsBut [.lamps] (s.slot n) ((afterSample n x s).slot n)
      ∧ (afterSample n x s).transit.handOvers = s.transit.handOvers
      ∧ (afterSample n x s).transit.quarantines = s.transit.quarantines
      ∧ (afterSample n x s).transit.calibrations
        = s.transit.calibrations ++ if x.calibrating && !((afterSample n x s).slot n).calibrating then [n] else [] := by
  unfold afterSample
  dsimp only
  have h1 : KeepsBut [.slot n] s (if (s.slot n).metricStates = x.metricStates then s else relamp n s)
      ∧ SlotKeepsBut [.lamps] (s.slot n) ((if (s.slot n).metricStates = x.metricStates then s else relamp n s).slot n)
      ∧ (if (s.slot n).metricStates = x.metricStates then s else relamp n s).transit = s.transit := by
    split
    · exact ⟨.refl .., .refl .., rfl⟩
    · exact ⟨relamp_keeps .., relamp_slot .., rfl⟩
  generalize (if (s.slot n).metricStates = x.metricStates then s else relamp n s) = a at *
  obtain ⟨hk, hs, ht⟩ := h1
  split
  · next hc =>
    have h1 : a.transit.handOvers = s.transit.handOvers := by rw [ht]
    have h2 : a.transit.quarantines = s.transit.quarantines := by rw [ht]
    refine ⟨(hk.mono (by simp)).trans ⟨fun g hg => by clear * - hg; cases g <;> simp_all [sameIn]
      <;> rfl⟩, hs, h1, h2, ?_⟩
    change a.transit.calibrations ++ [n]
      = s.transit.calibrations ++ if (x.calibrating && !(a.slot n).calibrating) = true then [n] else []
    rw [if_pos hc, ht]
  · exact ⟨hk.mono (by simp), hs, by rw [ht], by rw [ht], by rw [List.append_nil, ht]⟩

theorem filter_of_samples {x y : Slot} (h : slotSameIn x y .samples) (m : Metric) : y.filter m = x.filter m := by
  obtain ⟨h1, h2, h3, h4, -, -⟩ := h
  cases m <;> simp only [Slot.filter, h1, h2, h3, h4]

theorem sampleMetrics_taken {n : SlotId} {ms : List Metric} (hn : ms.Nodup) (v : SensorReading) (s : State) :
    SampleTaken n ms (readingOf v (s.slot n).tallies.accumulator) s (sampleMetrics n ms v s) := by
  have hcfg : ∀ m, ((accumulatorTaken n ms s).slot n).filter m = (s.slot n).filter m := fun m => by
    rw [accumulatorTaken_slot]
    cases m <;> rfl
  have ha := accumulatorTaken_sampling n ms s
  change SampleTaken n ms _ s (afterSample n (s.slot n)
    (ms.foldl (fun t m => sampleMetric n m (readingOf v (s.slot n).tallies.accumulator m) t) (accumulatorTaken n ms s)))
  generalize hr : readingOf v (s.slot n).tallies.accumulator = r
  have hb := foldl_sampleMetric (n := n) hn r (accumulatorTaken n ms s)
  generalize ms.foldl (fun s m => sampleMetric n m (r m) s) (accumulatorTaken n ms s) = b at *
  obtain ⟨hk, hx, hho, hq, hcal⟩ := afterSample_spec n (s.slot n) b
  generalize afterSample n (s.slot n) b = t at *
  have hab := ha.trans hb.sampling
  have hf : ∀ m, (t.slot n).filter m = (b.slot n).filter m := filter_of_samples (hx.same .samples (by simp))
  have hev : (t.slot n).events = (b.slot n).events := hx.same .events (by simp)
  have hsame : ∀ m, sampledMetric (accumulatorTaken n ms s) ((accumulatorTaken n ms s).slot n) m (r m)
      = sampledMetric s (s.slot n) m (r m) := fun m =>
    sampledMetric_congr (r m) (hcfg m) (ha.slot.same .state (by simp)) (ha.slot.same .recovery (by simp))
      (ha.slot.same .identity (by simp)).2.1 (ha.keeps.same .models (by simp)) (ha.keeps.same .supply (by simp)).1
  refine ⟨(hab.keeps.mono (by simp)).trans (hk.mono (by simp)), (hab.slot.mono (by simp)).trans (hx.mono (by simp)),
    hho.trans hab.reports.2, fun q h => by rw [hq]; exact hab.quarantines q h, by rw [hcal, hab.reports.1], fun m hm => ?_, fun m hm => (hf m).trans ((hb.others m hm).trans (hcfg m)), ?_⟩
  · obtain ⟨h1, h2, h3, h4⟩ := hb.metrics m hm
    rw [hsame m] at h1 h2 h3
    exact ⟨(hf m).trans h1, fun e he => by rw [hev]; exact h2 e he, fun h => by rw [hq]; exact h3 h,
      fun h h' => by rw [hev]; exact h4 h (by rw [hcfg]; exact h')⟩
  · obtain ⟨h1, h2⟩ := hb.figures
    obtain ⟨-, -, -, -, hp, hm⟩ := hx.same .samples (by simp)
    have htal : (t.slot n).tallies = (b.slot n).tallies := hx.same .tallies (by simp)
    refine ⟨fun h => ?_, fun w hw => ?_⟩ <;> rw [hp, hm, htal]
    · exact h1 h
    · rw [hev, hq]
      exact h2 w hw

/-! ### The deferred sample -/

/-- The state with slot n's deferral mark cleared (R98). -/
def deferralCleared (n : SlotId) (s : State) : State := modSlot n (fun x => { x with drift.deferral := false }) s

theorem deferralCleared_slot (n : SlotId) (s : State) :
    (deferralCleared n s).slot n = { s.slot n with drift.deferral := false } :=
  slot_modSlot_same ..

theorem deferredSample_idle {n : SlotId} {v : SensorReading} {s : State}
    (h : (s.slot n).lines.powered = false ∨ (s.slot n).drift.deferral = false ∨ (s.slot n).power.spindle = .spinningUp) :
    deferredSample n v s = s := by
  refine if_neg ?_
  obtain h | h | h := h <;> simp [h]

theorem deferredSample_taken {n : SlotId} {s : State} (v : SensorReading) (hp : (s.slot n).lines.powered = true)
    (hd : (s.slot n).drift.deferral = true) (hs : (s.slot n).power.spindle ≠ .spinningUp) :
    SampleTaken n [.curr, .vibe] (readingOf v (s.slot n).tallies.accumulator) (deferralCleared n s) (deferredSample n v s) := by
  have he : deferredSample n v s = sampleMetrics n [.curr, .vibe] v (deferralCleared n s) :=
    if_pos (by simp [hp, hd, hs])
  have h := sampleMetrics_taken (n := n) (ms := [.curr, .vibe]) (by decide) v (deferralCleared n s)
  rw [deferralCleared_slot] at h
  rw [he]
  exact h

/-- The deferred sample, taken or not, leaves the slot's commands and its spindle alone. -/
theorem deferredSample_same (n : SlotId) (v : SensorReading) (s : State) :
    KeepsBut [.slot n, .partSet, .noticeQueue, .transit] s (deferredSample n v s)
      ∧ SlotKeepsBut [.samples, .tallies, .events, .notice, .lamps, .idle] (s.slot n) ((deferredSample n v s).slot n) := by
  by_cases h : (s.slot n).lines.powered = false ∨ (s.slot n).drift.deferral = false ∨ (s.slot n).power.spindle = .spinningUp
  · rw [deferredSample_idle h]
    exact ⟨.refl .., .refl ..⟩
  · simp only [not_or, Bool.not_eq_false] at h
    obtain ⟨hp, hd, hs⟩ := h
    have ht := deferredSample_taken v hp hd hs
    have hk : KeepsBut [.slot n] s (deferralCleared n s) := modSlot_keeps ..
    have hx : SlotKeepsBut [.idle] (s.slot n) ((deferralCleared n s).slot n) := by
      rw [deferralCleared_slot]
      exact ⟨fun g hg => by cases g <;> simp_all [slotSameIn]⟩
    exact ⟨(hk.mono (by simp)).trans ht.keeps, (hx.mono (by simp)).trans (ht.slot.mono (by simp))⟩

/-! ### The spindle -/

theorem spindleAfter_eq (cls : CmdClass) (granted good : Bool) (x : Slot) :
    spindleAfter cls granted good x
      = if cls = .spinUp ∧ granted = true ∧ x.power.spindle = .spinningUp then
          if good then Spindle.spinning else Spindle.stopped
        else if cls = .spinDown ∧ (x.power.spindle = .spinningDown
            ∨ x.power.spindle = .spinningUp ∧ x.spinUpInFlight = false) then Spindle.stopped
        else x.power.spindle := by
  unfold spindleAfter
  cases cls with
  | light | heavy | identify => simp
  | spinUp =>
    cases hs : x.power.spindle with
    | spinningUp => cases granted <;> simp
    | stopped | spinning | spinningDown => simp
  | spinDown =>
    cases hs : x.power.spindle with
    | spinningUp => cases x.spinUpInFlight <;> simp
    | stopped | spinning | spinningDown => simp

/-- The state after a response has set the spindle, before the shed condition (R33, R98). -/
def spindleTaken (n : SlotId) (sp : Spindle) (v : SensorReading) (s : State) : State :=
  if (s.slot n).power.spindle = .spinningUp then deferredSample n v (setSpindle n sp s) else setSpindle n sp s

theorem spindleTaken_same (n : SlotId) (sp : Spindle) (v : SensorReading) (s : State) :
    KeepsBut [.slot n, .partSet, .noticeQueue, .transit] (setSpindle n sp s) (spindleTaken n sp v s)
      ∧ SlotKeepsBut [.samples, .tallies, .events, .notice, .lamps, .idle] ((setSpindle n sp s).slot n) ((spindleTaken n sp v s).slot n) := by
  unfold spindleTaken
  split
  · exact deferredSample_same ..
  · exact ⟨.refl .., .refl ..⟩

theorem takeSpindle_same {n : SlotId} {cls : CmdClass} {granted good : Bool} {s : State} (v : SensorReading)
    (h : spindleAfter cls granted good (s.slot n) = (s.slot n).power.spindle) : takeSpindle n cls granted good v s = s :=
  if_pos h

theorem takeSpindle_moved {n : SlotId} {cls : CmdClass} {granted good : Bool} {s : State} (v : SensorReading)
    (h : spindleAfter cls granted good (s.slot n) ≠ (s.slot n).power.spindle) :
    takeSpindle n cls granted good v s
      = if spindleAfter cls granted good (s.slot n) = .spinning then
          shedCheck n (spindleTaken n (spindleAfter cls granted good (s.slot n)) v s)
        else spindleTaken n (spindleAfter cls granted good (s.slot n)) v s :=
  if_neg h

theorem shedCheck_normal {n : SlotId} {s : State} (h : s.power.supply = .normal) : shedCheck n s = s :=
  if_neg fun hc => hc.1 h

/-- In a normal supply nothing is shed. -/
theorem takeSpindle_moved_normal {n : SlotId} {cls : CmdClass} {granted good : Bool} {s : State} (v : SensorReading)
    (hn : s.power.supply = .normal) (h : spindleAfter cls granted good (s.slot n) ≠ (s.slot n).power.spindle) :
    takeSpindle n cls granted good v s = spindleTaken n (spindleAfter cls granted good (s.slot n)) v s := by
  rw [takeSpindle_moved v h]
  split
  · refine shedCheck_normal ?_
    exact ((spindleTaken_same ..).1.same .supply (by simp)).1.trans (((setSpindle_keeps ..).same .supply (by simp)).1.trans hn)
  · rfl

theorem shedCheck_power (n : SlotId) (s : State) : ((shedCheck n s).slot n).power = (s.slot n).power := by
  unfold shedCheck
  dsimp only
  split
  · exact (inject_others ..).2.2.1
  · rfl

theorem takeSpindle_power {n : SlotId} {cls : CmdClass} {granted good : Bool} {s : State} (v : SensorReading) :
    ((takeSpindle n cls granted good v s).slot n).power.spindle = spindleAfter cls granted good (s.slot n)
      ∧ (spindleAfter cls granted good (s.slot n) ≠ (s.slot n).power.spindle →
          ((takeSpindle n cls granted good v s).slot n).power.chosen
            = if spindleAfter cls granted good (s.slot n) = .stopped then none else (s.slot n).power.chosen) := by
  by_cases h : spindleAfter cls granted good (s.slot n) = (s.slot n).power.spindle
  · rw [takeSpindle_same v h]
    exact ⟨h.symm, fun h' => absurd h h'⟩
  · rw [takeSpindle_moved v h]
    generalize spindleAfter cls granted good (s.slot n) = sp at *
    obtain ⟨a, -, hp⟩ := setSpindle_power n sp s
    obtain ⟨hs, hc, -⟩ := (spindleTaken_same n sp v s).2.same .spindle (by simp)
    rw [hp] at hs hc
    split
    · rw [shedCheck_power]
      exact ⟨hs, fun _ => hc⟩
    · exact ⟨hs, fun _ => hc⟩

end Sys2Proof.Machine
end

section
/-! The response to a SPIN_UP or SPIN_DOWN in flight (R32, R33, R98). -/

namespace Sys2Proof.Machine

/-! ### A response that matches an entry -/

theorem exec_driveResponse_matched {n : SlotId} {tag : Byte} {s : State} {k : Fin 4} {e : InFlight} (status : StatusClass)
    (code : BitVec 16) (payload : Bytes) (v : SensorReading) (on : (s.slot n).lines.powered = true)
    (out : (s.slot n).state ≠ .recovering) (hk : (s.slot n).entryWithTag tag.toNat = some k)
    (he : (s.slot n).traffic.inFlight[k] = some e) :
    exec (.driveResponse n tag status code payload v) s
      = .next (finish (takeResponse n k e status code payload v (modSlot n countGood s))) := by
  have hf : ((modSlot n countGood s).slot n).traffic = (s.slot n).traffic := by
    rw [slot_modSlot_same]
    unfold countGood
    split <;> rfl
  have hm : matchResponse n tag status code payload v s
      = takeResponse n k e status code payload v (modSlot n countGood s) := by
    have h1 : ((modSlot n countGood s).slot n).entryWithTag tag.toNat = some k := (entryWithTag_congr _ hf).trans hk
    have h2 : ((modSlot n countGood s).slot n).traffic.inFlight[k.val] = some e := by rw [hf]; exact he
    unfold matchResponse
    simp only [h1, h2]
  change Host.Outcome.next _ = _
  rw [if_pos on, if_neg out, hm]

/-- The state once the frame is counted and its entry retired (R32, R39). -/
def responseRetired (n : SlotId) (k : Fin 4) (s : State) : State := retireEntry n k (modSlot n countGood s)

/-- What counting the frame and retiring its entry leave. -/
structure ResponseRetired (n : SlotId) (k : Fin 4) (s t : State) : Prop where
  keeps : KeepsBut [.slot n, .passDue] s t
  slot : SlotKeepsBut [.tallies, .inFlight, .allocation] (s.slot n) (t.slot n)
  tallies : (t.slot n).tallies = (countGood (s.slot n)).tallies
  inFlight : (t.slot n).traffic.inFlight = (s.slot n).traffic.inFlight.set k none

theorem responseRetired_spec (n : SlotId) (k : Fin 4) (s : State) : ResponseRetired n k s (responseRetired n k s) := by
  unfold responseRetired
  have hk : KeepsBut [.slot n] s (modSlot n countGood s) := modSlot_keeps ..
  have hx := slot_modSlot_same s n countGood
  have hs := countGood_same (s.slot n)
  generalize modSlot n countGood s = a at *
  have hk' := retireEntry_keeps n k a
  have hs' := retireEntry_slot n k a
  have hi := retireEntry_inFlight n k a
  generalize retireEntry n k a = t at *
  rw [← hx] at hs
  refine ⟨(hk.mono (by simp)).trans hk', (hs.mono (by simp)).trans (hs'.mono (by simp)), ?_, ?_⟩
  · rw [(hs'.same .tallies (by simp) : _ = (a.slot n).tallies), hx]
  · rw [hi, (hs.same .inFlight (by simp) : _ = (s.slot n).traffic.inFlight)]

/-! ### What comes after the spindle -/

/-- What follows a sample at a slot adds events and requests, and leaves the samples and their reports (R104, R112). -/
structure Follows (n : SlotId) (s t : State) : Prop where
  samples : slotSameIn (s.slot n) (t.slot n) .samples
  idle : slotSameIn (s.slot n) (t.slot n) .idle
  power : (t.slot n).power = (s.slot n).power
  overdraw : (t.slot n).tallies.overdrawRun = (s.slot n).tallies.overdrawRun
  calibrations : t.transit.calibrations = s.transit.calibrations
  events : ∀ i, (s.slot n).events.getLsbD i = true → (t.slot n).events.getLsbD i = true
  quarantines : ∀ q ∈ s.transit.quarantines, q ∈ t.transit.quarantines

theorem Follows.refl (n : SlotId) (s : State) : Follows n s s :=
  ⟨⟨rfl, rfl, rfl, rfl, rfl, rfl⟩, ⟨rfl, rfl⟩, rfl, rfl, rfl, fun _ => id, fun _ => id⟩

theorem Follows.trans {n : SlotId} {s t u : State} (h : Follows n s t) (h' : Follows n t u) : Follows n s u := by
  obtain ⟨⟨a1, a2, a3, a4, a5, a6⟩, ⟨a7, a8⟩, a9, a10, a11, a12, a13⟩ := h
  obtain ⟨⟨b1, b2, b3, b4, b5, b6⟩, ⟨b7, b8⟩, b9, b10, b11, b12, b13⟩ := h'
  exact ⟨⟨b1.trans a1, b2.trans a2, b3.trans a3, b4.trans a4, b5.trans a5, b6.trans a6⟩, ⟨b7.trans a7, b8.trans a8⟩, b9.trans a9,
    b10.trans a10, b11.trans a11, fun i h => b12 i (a12 i h), fun q h => b13 q (a13 q h)⟩

/-- An action sends a quarantine request at most, and raises DEFECT at most (R124, R125, R126). -/
theorem applyAction_reports (n : SlotId) (c : Classification) (s : State) :
    (applyAction n c s).transit.calibrations = s.transit.calibrations
      ∧ (applyAction n c s).transit.handOvers = s.transit.handOvers
      ∧ (∀ q ∈ s.transit.quarantines, q ∈ (applyAction n c s).transit.quarantines)
      ∧ ∀ i, (s.slot n).events.getLsbD i = true → ((applyAction n c s).slot n).events.getLsbD i = true := by
  obtain h | ⟨d, hd, ha⟩ := c.ignored_or_counted
  · rw [applyAction_of_ignored h]
    exact ⟨rfl, rfl, fun _ => id, fun _ => id⟩
  · have hev : ∀ i, (s.slot n).events.getLsbD i = true → ((applyAction n c s).slot n).events.getLsbD i = true := fun i hi => by
      rw [applyAction_slot_of_counted hd ha, countNoted_slot_events]
      split
      · rw [BitVec.getLsbD_or, hi, Bool.true_or]
      · exact hi
    have kept : (countNoted n d c.action s).transit = s.transit := (countNoted_keeps ..).same .transit (by simp)
    rw [applyAction_of_counted hd ha] at hev ⊢
    split at hev
    · next hq =>
      rw [if_pos hq, sendQuarantine_transit, kept]
      exact ⟨rfl, rfl, fun q h => List.mem_append_left _ h, hev⟩
    · next hq =>
      rw [if_neg hq, kept]
      exact ⟨rfl, rfl, fun _ => id, hev⟩

theorem classify_reports (n : SlotId) (status : StatusClass) (code : BitVec 16) (cls : Option CmdClass) (s : State) :
    (classify n status code cls s).1.transit.calibrations = s.transit.calibrations
      ∧ (classify n status code cls s).1.transit.handOvers = s.transit.handOvers
      ∧ (∀ q ∈ s.transit.quarantines, q ∈ (classify n status code cls s).1.transit.quarantines)
      ∧ ∀ i, (s.slot n).events.getLsbD i = true → ((classify n status code cls s).1.slot n).events.getLsbD i = true := by
  have h := applyAction_reports n (classification s.tables.classify status code cls)
    (countMatch (classification s.tables.classify status code cls).entry s)
  rw [countMatch_transit, countMatch_slot] at h
  exact h

theorem slotPower_ext {x y : Slot} (ha : slotSameIn x y .allocation) (hs : slotSameIn x y .spindle) : y.power = x.power := by
  obtain ⟨a1, a2⟩ := ha
  obtain ⟨s1, s2, s3⟩ := hs
  generalize y.power = p at *
  generalize x.power = q at *
  cases p; cases q
  simp_all

theorem classify_follows (n : SlotId) (status : StatusClass) (code : BitVec 16) (cls : Option CmdClass) (s : State) :
    Follows n s (classify n status code cls s).1 := by
  obtain ⟨hc, -, hq, he⟩ := classify_reports n status code cls s
  obtain ⟨c, a, ht⟩ := classify_slot_tallies n status code cls s
  have hs := classify_slot_keeps n status code cls s
  exact ⟨hs.same .samples (by simp), hs.same .idle (by simp), slotPower_ext (hs.same .allocation (by simp)) (hs.same .spindle (by simp)),
    by rw [ht], hc, he, hq⟩

/-- Nothing queued and nothing listed: going on sends at most the final IDENTIFY (R28, R135). -/
theorem goOn_idle {n : SlotId} {s : State} (hg : (s.slot n).state ≠ .grading) (hq : (s.slot n).traffic.queue = [])
    (hi : (s.slot n).traffic.injections = []) : goOn n s = s := by
  unfold goOn serveSlot
  rw [if_neg hg, serveInjections_of_quiet (.inl hi), considerHead_idle _ (.inr hq)]

theorem gradingProgress_transit {n : SlotId} {s : State} (hg : (s.slot n).state = .grading) :
    (gradingProgress n s).transit = s.transit
      ∨ (gradingProgress n s).transit = { s.transit with handOvers := s.transit.handOvers ++ [n] } := by
  cases ho : (s.slot n).grading.handedOver with
  | true => rw [gradingProgress_of_done (.inr ho)]; exact .inl rfl
  | false =>
    have hd := gradingProgress_drained hg ho
    cases h : gradePoint ((gradingProgress n s).slot n) with
    | true => exact .inr (hd.sends h)
    | false => exact .inl (hd.holds h)

theorem goOn_follows {n : SlotId} {s : State} (hq : (s.slot n).traffic.queue = []) (hi : (s.slot n).traffic.injections = []) :
    Follows n s (goOn n s) := by
  by_cases hg : (s.slot n).state = .grading
  · rw [goOn_grading hg]
    have hw := gradingProgress_wentOn hg
    have ht := gradingProgress_transit hg
    generalize gradingProgress n s = t at *
    refine ⟨hw.slot.same .samples (by simp), hw.slot.same .idle (by simp), hw.served.spindle (by rw [hi]; nofun),
      congrArg SlotTallies.overdrawRun (hw.slot.same .tallies (by simp)), ?_, fun i h => ?_, fun q h => ?_⟩
    · obtain h | h := ht <;> rw [h]
    · rw [(hw.slot.same .events (by simp) : _ = (s.slot n).events)]
      exact h
    · obtain h' | h' := ht <;> rw [h'] <;> exact h
  · rw [goOn_idle hg hq hi]
    exact .refl ..

/-! ### What the response does to the spindle and to the metrics -/

/-- Does a response to a command of the class end the spin-up (R33); its entry has been freed. -/
def Slot.endsSpinUp (x : Slot) (cls : CmdClass) (granted : Bool) : Prop :=
  x.power.spindle = .spinningUp ∧ (cls = .spinUp ∧ granted = true ∨ cls = .spinDown ∧ x.spinUpInFlight = false)

theorem spindleAfter_of_ends {x : Slot} {cls : CmdClass} {granted : Bool} (good : Bool) (h : x.endsSpinUp cls granted) :
    spindleAfter cls granted good x = if cls = .spinUp ∧ good = true then .spinning else .stopped := by
  rw [spindleAfter_eq]
  obtain ⟨hu, ⟨rfl, hg⟩ | ⟨rfl, hg⟩⟩ := h
  · simp [hu, hg]
  · simp [hu, hg]

theorem spindleAfter_of_stays {x : Slot} {cls : CmdClass} {granted : Bool} (good : Bool) (h : ¬x.endsSpinUp cls granted) :
    spindleAfter cls granted good x
      = if cls = .spinDown ∧ x.power.spindle = .spinningDown then .stopped else x.power.spindle := by
  rw [spindleAfter_eq, if_neg fun hc => h ⟨hc.2.2, .inl ⟨hc.1, hc.2.1⟩⟩]
  by_cases hd : cls = .spinDown ∧ x.power.spindle = .spinningDown
  · rw [if_pos hd, if_pos ⟨hd.1, .inl hd.2⟩]
  · rw [if_neg hd, if_neg]
    rintro ⟨hc, h' | h'⟩
    · exact hd ⟨hc, h'⟩
    · exact h ⟨h'.1, .inr ⟨hc, h'.2⟩⟩

theorem setSpindle_model (n : SlotId) (sp : Spindle) (s : State) :
    ((setSpindle n sp s).slot n).identity.model = (s.slot n).identity.model := by
  obtain ⟨b, -, h⟩ := followFigure_slot_lowered n (spunTo sp) s
  rw [setSpindle_eq, h]
  dsimp only
  unfold spunTo
  dsimp only
  split
  · exact applyPending_model _
  · rfl

/-- Where no sample is due, a response moves the spindle and nothing that is sampled. -/
theorem takeSpindle_unsampled {n : SlotId} {cls : CmdClass} {granted good : Bool} {s : State} (v : SensorReading)
    (hn : s.power.supply = .normal) (h : ¬(s.slot n).endsSpinUp cls granted ∨ (s.slot n).drift.deferral = false) :
    KeepsBut [.slot n, .passDue] s (takeSpindle n cls granted good v s)
      ∧ SlotKeepsBut [.spindle, .allocation, .identity] (s.slot n) ((takeSpindle n cls granted good v s).slot n) := by
  by_cases hm : spindleAfter cls granted good (s.slot n) = (s.slot n).power.spindle
  · rw [takeSpindle_same v hm]
    exact ⟨.refl .., .refl ..⟩
  · have hx := setSpindle_slot_leaving n (spindleAfter cls granted good (s.slot n)) s
    have hd : spindleTaken n (spindleAfter cls granted good (s.slot n)) v s
        = setSpindle n (spindleAfter cls granted good (s.slot n)) s := by
      unfold spindleTaken
      split
      · next hu =>
        refine deferredSample_idle (.inr (.inl ?_))
        rw [(hx.same .idle (by simp)).2]
        refine h.resolve_left fun hne => hm ?_
        rw [spindleAfter_of_stays good hne, if_neg]
        rw [hu]
        rintro ⟨-, hc⟩
        cases hc
      · rfl
    rw [takeSpindle_moved_normal v hn hm, hd]
    exact ⟨setSpindle_keeps .., hx⟩

/-- Where the spin-up ends with the mark set, CURR and VIBE are sampled with the spindle set (R98). -/
theorem takeSpindle_sampled {n : SlotId} {cls : CmdClass} {granted good : Bool} {s : State} (v : SensorReading)
    (hn : s.power.supply = .normal) (hp : (s.slot n).lines.powered = true) (h : (s.slot n).endsSpinUp cls granted)
    (hd : (s.slot n).drift.deferral = true) :
    SampleTaken n [.curr, .vibe] (readingOf v (s.slot n).tallies.accumulator)
      (deferralCleared n (setSpindle n (spindleAfter cls granted good (s.slot n)) s)) (takeSpindle n cls granted good v s) := by
  have hleft : spindleAfter cls granted good (s.slot n) ≠ .spinningUp := by
    rw [spindleAfter_of_ends good h]
    split <;> simp
  rw [takeSpindle_moved_normal v hn (by rw [h.1]; exact hleft)]
  unfold spindleTaken
  rw [if_pos h.1]
  have hx := setSpindle_slot_leaving n (spindleAfter cls granted good (s.slot n)) s
  have hsp := (setSpindle_spindle n (spindleAfter cls granted good (s.slot n)) s).1
  rw [← (hx.same .tallies (by simp) : _ = (s.slot n).tallies)]
  exact deferredSample_taken v ((hx.same .power (by simp)).trans hp) ((hx.same .idle (by simp)).2.trans hd) (by rw [hsp]; exact hleft)

/-! ### The rules of a sampled metric -/

theorem MetricSampled.of_base {n : SlotId} {m : Metric} {reading : Nat} {s s' t : State} (h : MetricSampled n m reading s' t)
    (hf : (s'.slot n).filter m = (s.slot n).filter m)
    (hx : slotSameIn (s.slot n) (s'.slot n) .state ∧ slotSameIn (s.slot n) (s'.slot n) .recovery)
    (hm : (s'.slot n).identity.model = (s.slot n).identity.model)
    (hk : KeepsBut [.slot n, .passDue] s s') : MetricSampled n m reading s t := by
  have he : sampledMetric s' (s'.slot n) m reading = sampledMetric s (s.slot n) m reading :=
    sampledMetric_congr reading hf hx.1 hx.2 hm (hk.same .models (by simp)) (hk.same .supply (by simp)).1
  obtain ⟨h1, h2, h3, h4⟩ := h
  rw [he] at h1 h2 h3
  rw [hf] at h4
  exact ⟨h1, h2, h3, h4⟩

theorem MetricSampled.follows {n : SlotId} {m : Metric} {reading : Nat} {s t u : State} (h : MetricSampled n m reading s t)
    (hf : Follows n t u) : MetricSampled n m reading s u :=
  ⟨(filter_of_samples hf.samples m).trans h.record, fun e he => hf.events _ (h.raised e he), fun hq => hf.quarantines _ (h.quarantined hq),
    fun a b => hf.events _ (h.lost a b)⟩

/-- A sampled metric in the words of the rules (R100, R104). -/
theorem MetricSampled.rules {n : SlotId} {m : Metric} {reading : Nat} {s t : State} (h : MetricSampled n m reading s t)
    {halted : Bool}
    (hh : (s.slot n).testRunning = true → (supplyHalt s || recoveryHalt (s.slot n) m) = halted) :
    ((s.slot n).testRunning = false ∨ 16 ≤ (takeReading reading ((s.slot n).filter m)).misses
        ∨ (takeReading reading ((s.slot n).filter m)).lastRaw = none ∨ modelOf s (s.slot n) = none →
      (t.slot n).filter m = takeReading reading ((s.slot n).filter m))
    ∧ ((s.slot n).testRunning = true → (takeReading reading ((s.slot n).filter m)).misses < 16 →
        ∀ entry sample, modelOf s (s.slot n) = some entry →
          (takeReading reading ((s.slot n).filter m)).lastRaw = some sample →
          let r := evaluate (entry.thresholds m) entry.calibrationCount halted sample (takeReading reading ((s.slot n).filter m))
          (t.slot n).filter m = r.record ∧ (∀ e ∈ r.raised, (t.slot n).events.getLsbD e.bit = true)
            ∧ (r.quarantine = true → (n, .metricFault) ∈ t.transit.quarantines))
    ∧ (reading = 65535 → ((s.slot n).filter m).misses = 15 → (t.slot n).events.getLsbD 12 = true) := by
  refine ⟨fun hkept => h.record.trans (sampledMetric_kept hkept), fun ht hm entry sample he hr => ?_, h.lost⟩
  rw [← hh ht, ← sampledMetric_evaluated ht hm he hr]
  exact ⟨h.record, h.raised, h.quarantined⟩

/-! ### The obligation -/

theorem anyInFlight_congr {x y : Slot} (h : y.traffic.inFlight = x.traffic.inFlight) (p : InFlight → Bool) :
    y.anyInFlight p = x.anyInFlight p := by
  unfold Slot.anyInFlight
  rw [h]

theorem calibrating_eq (x : Slot) :
    [x.drift.temp, x.drift.curr, x.drift.vibe, x.drift.defr].any (·.state == .calibrating) = x.calibrating := by
  simp [Slot.calibrating, Slot.anyMetric, Bool.or_assoc]

theorem calibrating_of_samples {x y : Slot} (h : slotSameIn x y .samples) : y.calibrating = x.calibrating := by
  obtain ⟨h1, h2, h3, h4, -, -⟩ := h
  unfold Slot.calibrating Slot.anyMetric
  rw [h1, h2, h3, h4]

theorem currentTallies_overdrawRun (s : State) (x : Slot) (v : Nat) : (currentTallies s x v).overdrawRun = overdrawRun s x v := by
  unfold currentTallies
  split <;> rfl

theorem accumulatorTaken_of_not {n : SlotId} {ms : List Metric} {s : State} (h : .defr ∉ ms) : accumulatorTaken n ms s = s :=
  if_neg h

/-- The response to a SPIN_UP or SPIN_DOWN, step by step: counted and retired, the spindle set, classified, and delivered. -/
theorem takeResponse_spin_eq {n : SlotId} {k : Fin 4} {e : InFlight} (status : StatusClass) (code : BitVec 16) (payload : Bytes)
    (v : SensorReading) (s : State) (hc : e.cls = .spinUp ∨ e.cls = .spinDown) :
    takeResponse n k e status code payload v (modSlot n countGood s)
      = goOn n (deliver n e status code payload
          (classify n status code (some e.cls) (takeSpindle n e.cls e.granted (status == .good) v (responseRetired n k s))).2
          (classify n status code (some e.cls) (takeSpindle n e.cls e.granted (status == .good) v (responseRetired n k s))).1) := by
  unfold takeResponse
  dsimp only
  rw [if_pos hc, if_neg (by obtain h | h := hc <;> rw [h] <;> simp)]
  rfl

/-- What the response to a SPIN_UP or SPIN_DOWN does after the spindle is set, with nothing queued or listed. -/
theorem takeResponse_spin {n : SlotId} {k : Fin 4} {e : InFlight} {status : StatusClass} {code : BitVec 16} {payload : Bytes}
    {v : SensorReading} {s : State} (hc : e.cls = .spinUp ∨ e.cls = .spinDown) (hpark : (s.slot n).state ≠ .parking)
    (hn : s.power.supply = .normal) (hq : (s.slot n).traffic.queue = []) (hi : (s.slot n).traffic.injections = []) :
    ∃ u, takeResponse n k e status code payload v (modSlot n countGood s) = u
      ∧ Follows n (takeSpindle n e.cls e.granted (status == .good) v (responseRetired n k s)) u := by
  have hr := responseRetired_spec n k s
  rw [takeResponse_spin_eq status code payload v s hc]
  generalize responseRetired n k s = c at *
  have hd : SlotKeepsBut [.spindle, .allocation, .identity, .samples, .tallies, .events, .notice, .lamps, .idle] (c.slot n)
      ((takeSpindle n e.cls e.granted (status == .good) v c).slot n) := by
    by_cases hm : spindleAfter e.cls e.granted (status == .good) (c.slot n) = (c.slot n).power.spindle
    · rw [takeSpindle_same v hm]
      exact .refl ..
    · rw [takeSpindle_moved_normal v ((hr.keeps.same .supply (by simp)).1.trans hn) hm]
      exact ((setSpindle_slot_leaving ..).mono (by simp)).trans ((spindleTaken_same ..).2.mono (by simp))
  generalize takeSpindle n e.cls e.granted (status == .good) v c = d at *
  have hf := classify_follows n status code (some e.cls) d
  have hx := classify_slot_keeps n status code (some e.cls) d
  generalize classify n status code (some e.cls) d = p at *
  have hall := (hr.slot.mono (by simp)).trans ((hd.mono (by simp)).trans (hx.mono (by simp)) :
    SlotKeepsBut [.spindle, .allocation, .identity, .samples, .tallies, .events, .notice, .lamps, .idle, .inFlight] (c.slot n) (p.1.slot n))
  have hdel : ∀ cl, (deliver n e status code payload cl p.1).slot n = p.1.slot n
      ∧ (deliver n e status code payload cl p.1).transit = p.1.transit := fun cl => by
    unfold deliver parkingResponse
    cases e.source with
    | none => rw [if_pos (.inl (by rw [(hall.same .state (by simp) : _ = (s.slot n).state)]; exact hpark))]; exact ⟨rfl, rfl⟩
    | some dest =>
      dsimp only
      rw [if_pos (.inl (show (p.1.slot n).state ≠ .parking by rw [(hall.same .state (by simp) : _ = (s.slot n).state)]; exact hpark))]
      exact ⟨rfl, rfl⟩
  obtain ⟨hds, hdt⟩ := hdel p.2
  generalize deliver n e status code payload p.2 p.1 = g at *
  have hpg : Follows n p.1 g := by
    refine ⟨by rw [hds]; exact ⟨rfl, rfl, rfl, rfl, rfl, rfl⟩, by rw [hds]; exact ⟨rfl, rfl⟩, by rw [hds], by rw [hds], by rw [hdt],
      fun i h => by rw [hds]; exact h, fun q h => by rw [hdt]; exact h⟩
  refine ⟨_, rfl, hf.trans (hpg.trans (goOn_follows ?_ ?_))⟩
  · rw [hds, (hall.same .queue (by simp) : _ = (s.slot n).traffic.queue)]
    exact hq
  · rw [hds, (hall.same .injections (by simp) : _ = (s.slot n).traffic.injections)]
    exact hi

end Sys2Proof.Machine
end

section
/-! The obligation on the spindle after a response (R32, R33, R98). -/

namespace Sys2Proof.Machine

/-- The spin-up of a slot whose entry k has been freed ends exactly where the table says it does. -/
theorem endsSpinUp_retired {n : SlotId} {k : Fin 4} {s c : State} (hr : ResponseRetired n k s c) (cls : CmdClass)
    (granted : Bool) :
    (c.slot n).endsSpinUp cls granted ↔
      (s.slot n).power.spindle = .spinningUp ∧ (cls = .spinUp ∧ granted = true ∨ cls = .spinDown ∧
        ({ s.slot n with traffic.inFlight := (s.slot n).traffic.inFlight.set k none } : Slot).spinUpInFlight = false) := by
  have hfree : (c.slot n).spinUpInFlight
      = ({ s.slot n with traffic.inFlight := (s.slot n).traffic.inFlight.set k none } : Slot).spinUpInFlight :=
    anyInFlight_congr (by rw [hr.inFlight]) _
  unfold Slot.endsSpinUp
  rw [hfree, (hr.slot.same .spindle (by simp)).1]

/-- The calibration-complete report in the words of the rules (R112). -/
theorem calibrationReport_iff (x y : Slot) :
    (x.calibrating && !y.calibrating) = true ↔
      [x.drift.temp, x.drift.curr, x.drift.vibe, x.drift.defr].any (·.state == .calibrating) = true
        ∧ [y.drift.temp, y.drift.curr, y.drift.vibe, y.drift.defr].any (·.state == .calibrating) = false := by
  rw [calibrating_eq, calibrating_eq, Bool.and_eq_true, Bool.not_eq_true']

/-- The state that the sample of CURR and VIBE at the end of a spin-up starts from: the slot with the spindle set. -/
structure SpunDueSample (n : SlotId) (s b : State) : Prop where
  keeps : KeepsBut [.slot n, .passDue] s b
  state : slotSameIn (s.slot n) (b.slot n) .state ∧ slotSameIn (s.slot n) (b.slot n) .recovery
  model : (b.slot n).identity.model = (s.slot n).identity.model
  samples : slotSameIn (s.slot n) (b.slot n) .samples
  idle : (b.slot n).drift.idleCount = (s.slot n).drift.idleCount ∧ (b.slot n).drift.deferral = false
  run : (b.slot n).tallies.overdrawRun = (s.slot n).tallies.overdrawRun

theorem spinUp_sampled {n : SlotId} {k : Fin 4} {cls : CmdClass} {granted good : Bool} {s c : State} (v : SensorReading)
    (hr : ResponseRetired n k s c) (hn : s.power.supply = .normal) (on : (s.slot n).lines.powered = true)
    (hends : (c.slot n).endsSpinUp cls granted) (hmark : (s.slot n).drift.deferral = true) :
    ∃ b, SampleTaken n [.curr, .vibe] (readingOf v (c.slot n).tallies.accumulator) b (takeSpindle n cls granted good v c)
      ∧ SpunDueSample n s b := by
  have hnc : c.power.supply = .normal := (hr.keeps.same .supply (by simp)).1.trans hn
  have hS := takeSpindle_sampled (good := good) v hnc ((hr.slot.same .power (by simp)).trans on) hends
    ((hr.slot.same .idle (by simp)).2.trans hmark)
  refine ⟨_, hS, ?_⟩
  clear hS
  generalize spindleAfter cls granted good (c.slot n) = sp
  have hk := setSpindle_keeps n sp c
  have hx := setSpindle_slot_leaving n sp c
  have hm := setSpindle_model n sp c
  generalize setSpindle n sp c = a at *
  have hall : SlotKeepsBut [.tallies, .inFlight, .allocation, .spindle, .identity] (s.slot n) (a.slot n) :=
    (hr.slot.mono (by simp)).trans (hx.mono (by simp))
  have hrun : (a.slot n).tallies.overdrawRun = (s.slot n).tallies.overdrawRun := by
    rw [(hx.same .tallies (by simp) : _ = (c.slot n).tallies), hr.tallies]
    unfold countGood
    split <;> rfl
  have hmodel : (a.slot n).identity.model = (s.slot n).identity.model :=
    hm.trans (hr.slot.same .identity (by simp)).2.1
  have hkd : KeepsBut [.slot n] a (deferralCleared n a) := modSlot_keeps ..
  refine ⟨(hr.keeps.trans hk).trans (hkd.mono (by simp)), ?_, ?_, ?_, ?_, ?_⟩ <;> rw [deferralCleared_slot]
  · exact ⟨hall.same .state (by simp), hall.same .recovery (by simp)⟩
  · exact hmodel
  · exact hall.same .samples (by simp)
  · exact ⟨(hall.same .idle (by simp)).1, rfl⟩
  · exact hrun

/-- Settles O47: with nothing queued or listed only the final IDENTIFY can follow, which leaves the spindle, the figures
and the samples alone; the deferred sample is then the one of CURR and VIBE at the spindle set. -/
theorem spindleAfterResponse : Obligations.SpindleAfterResponse := by
  unfold Obligations.SpindleAfterResponse
  refine ⟨fun n cls granted good v s => ?_, fun n tag status code payload sensor s k e on out hpark hn hq hi hk he hc => ?_⟩
  · dsimp only
    obtain ⟨hsp, hch⟩ := takeSpindle_power (n := n) (cls := cls) (granted := granted) (good := good) (s := s) v
    rw [← spindleAfter_eq]
    refine ⟨hsp, fun h => takeSpindle_same v h, fun hne hstop => by rw [hch hne, if_pos hstop], fun hspin => ?_⟩
    by_cases h : spindleAfter cls granted good (s.slot n) = (s.slot n).power.spindle
    · rw [takeSpindle_same v h]
    · rw [hch h, if_neg (by rw [hspin]; simp)]
  · intro x freed up ends reading taken v
    obtain ⟨u, hu, hf⟩ := takeResponse_spin (n := n) (k := k) (e := e) (status := status) (code := code) (payload := payload)
      (v := sensor) hc hpark hn hq hi
    refine ⟨u, by rw [exec_driveResponse_matched status code payload sensor on out hk he, hu], ?_⟩
    have hr := responseRetired_spec n k s
    generalize responseRetired n k s = c at *
    have hends : ends ↔ (c.slot n).endsSpinUp e.cls e.granted := (endsSpinUp_retired hr ..).symm
    have hct : c.transit = s.transit := hr.keeps.same .transit (by simp)
    have hcrun : (c.slot n).tallies.overdrawRun = (s.slot n).tallies.overdrawRun := by
      rw [hr.tallies]
      unfold countGood
      split <;> rfl
    obtain ⟨hidle, hdef⟩ := hr.slot.same .idle (by simp)
    have hnc : c.power.supply = .normal := (hr.keeps.same .supply (by simp)).1.trans hn
    have hcspin : (c.slot n).power.spindle = (s.slot n).power.spindle := (hr.slot.same .spindle (by simp)).1
    refine ⟨?_, ?_⟩
    · rw [hf.power, (takeSpindle_power sensor).1]
      split
      · next h => rw [spindleAfter_of_ends _ (hends.1 h)]; simp
      · next h => rw [spindleAfter_of_stays _ (mt hends.2 h), hcspin]
    have quiet : ¬ends ∨ (s.slot n).drift.deferral = false →
        slotSameIn (s.slot n) (u.slot n) .samples ∧ slotSameIn (s.slot n) (u.slot n) .idle
          ∧ (u.slot n).tallies.overdrawRun = (s.slot n).tallies.overdrawRun
          ∧ u.transit.calibrations = s.transit.calibrations := fun h => by
      rw [← hdef, hends] at h
      obtain ⟨hk', hx⟩ := takeSpindle_unsampled (cls := e.cls) (granted := e.granted) (good := status == .good) sensor hnc h
      generalize takeSpindle n e.cls e.granted (status == .good) sensor c = d at *
      have hall : SlotKeepsBut [.tallies, .inFlight, .allocation, .spindle, .identity] (s.slot n) (d.slot n) :=
        (hr.slot.mono (by simp)).trans (hx.mono (by simp))
      have htal : (d.slot n).tallies = (c.slot n).tallies := hx.same .tallies (by simp)
      obtain ⟨a1, a2, a3, a4, a5, a6⟩ := hall.same .samples (by simp)
      obtain ⟨b1, b2, b3, b4, b5, b6⟩ := hf.samples
      obtain ⟨a7, a8⟩ := hall.same .idle (by simp)
      obtain ⟨b7, b8⟩ := hf.idle
      exact ⟨⟨b1.trans a1, b2.trans a2, b3.trans a3, b4.trans a4, b5.trans a5, b6.trans a6⟩, ⟨b7.trans a7, b8.trans a8⟩,
        hf.overdraw.trans (by rw [htal]; exact hcrun),
        hf.calibrations.trans (by rw [(hk'.same .transit (by simp) : d.transit = c.transit), hct])⟩
    by_cases hsam : ends ∧ (s.slot n).drift.deferral = true
    · obtain ⟨hend, hmark⟩ := hsam
      obtain ⟨b, hS, hb⟩ := spinUp_sampled (good := status == .good) sensor hr hn on (hends.1 hend) hmark
      generalize takeSpindle n e.cls e.granted (status == .good) sensor c = d at *
      have hids : slotSameIn (b.slot n) (d.slot n) .idle := hS.slot.same .idle (by simp)
      have hother : ∀ m, m ∉ [Metric.curr, .vibe] → (u.slot n).filter m = (s.slot n).filter m := fun m hm =>
        (filter_of_samples hf.samples m).trans ((hS.others m hm).trans (filter_of_samples hb.samples m))
      have hsam : ∀ m, m = .curr ∨ m = .vibe → MetricSampled n m (reading m) s u := fun m hm => by
        have h1 := (hS.metrics m (by simpa using hm)).of_base (filter_of_samples hb.samples m) hb.state hb.model hb.keeps
        have h2 : readingOf sensor (c.slot n).tallies.accumulator m = reading m := by
          obtain rfl | rfl := hm <;> rfl
        rw [h2] at h1
        exact h1.follows hf
      have hfig := hS.figures
      rw [accumulatorTaken_of_not (by decide)] at hfig
      refine ⟨?_, hf.idle.1.trans (hids.1.trans hb.idle.1), hother _ (by decide), hother _ (by decide),
        fun h => h.elim (absurd hend) fun h => absurd hmark (by rw [h]; simp),
        fun _ _ => ⟨hf.idle.2.trans (hids.2.trans hb.idle.2), fun m hm => (hsam m hm).rules fun ht => ?_, fun h65 => ?_, fun h65 => ?_⟩⟩
      · refine hf.calibrations.trans (hS.calibrations.trans ?_)
        rw [(hb.keeps.same .transit (by simp) : b.transit = s.transit), calibrating_of_samples hb.samples,
          ← calibrating_of_samples hf.samples]
        exact congrArg _ (if_congr (calibrationReport_iff ..) rfl rfl)
      · simp [supplyHalt, recoveryHalt, hn, out]
      · obtain ⟨h1, h2, h3⟩ := hfig.none (if_neg fun h => h.2 h65)
        exact ⟨hf.samples.2.2.2.2.1.trans (h1.trans hb.samples.2.2.2.2.1), hf.samples.2.2.2.2.2.trans (h2.trans hb.samples.2.2.2.2.2),
          hf.overdraw.trans ((congrArg SlotTallies.overdrawRun h3).trans hb.run)⟩
      · obtain ⟨h1, h2, h3, -, -⟩ := hfig.some v (if_pos ⟨by decide, h65⟩)
        have hall : (u.slot n).power.allocation = (b.slot n).power.allocation := by
          rw [hf.power]
          exact (hS.slot.same .allocation (by simp)).1
        refine ⟨hf.samples.2.2.2.2.1.trans (h1.trans (by rw [hb.samples.2.2.2.2.1])), ?_, ?_⟩
        · rw [hf.samples.2.2.2.2.2, h2, hb.samples.2.2.2.2.2]
        · rw [hf.overdraw, h3, currentTallies_overdrawRun, hall]
          unfold overdrawRun
          rw [hb.run, (hb.keeps.same .settings (by simp) : b.store.settings = s.store.settings)]
    · have hq' : ¬ends ∨ (s.slot n).drift.deferral = false := by
        rw [not_and_or, Bool.not_eq_true] at hsam
        exact hsam
      obtain ⟨hsm, ⟨hic, hdf⟩, hrun, hcal⟩ := quiet hq'
      have hfil := filter_of_samples hsm
      refine ⟨?_, hic, hfil _, hfil _, fun _ => ⟨hfil, hdf, hsm.2.2.2.2.1, hsm.2.2.2.2.2, hrun⟩, fun h h' => absurd ⟨h, h'⟩ hsam⟩
      refine hcal.trans ((List.append_nil _).symm.trans (congrArg _ (Eq.symm (if_neg fun h => ?_))))
      have h := (calibrationReport_iff ..).2 h
      rw [calibrating_of_samples hsm] at h
      exact Bool.false_ne_true ((Bool.and_not_self _).symm.trans h)

end Sys2Proof.Machine
end

section
/-! SUPPORT. The tick at one slot (R10, R96 to R101, R112). -/

namespace Sys2Proof.Machine

/-- The slot as a tick leaves it before its sample (R10, R97, R98). -/
def tickCounted (s : State) (x : Slot) : Slot :=
  { x with drift := { x.drift with
      testTicks := if x.testRunning then min 4294967295 (x.drift.testTicks + 1) else x.drift.testTicks
      idleCount := idleAfter s x } }

/-- The slot as a due slot's sample finds it: the deferral mark is set while it spins up (R98). -/
def deferralMarked (x : Slot) : Slot := if x.power.spindle = .spinningUp then { x with drift.deferral := true } else x

theorem tickCounted_same (s : State) (x : Slot) : SlotKeepsBut [.idle, .testTicks] x (tickCounted s x) :=
  ⟨fun g hg => by cases g <;> simp_all [slotSameIn, tickCounted]⟩

theorem deferralMarked_same (x : Slot) : SlotKeepsBut [.idle] x (deferralMarked x) := by
  unfold deferralMarked
  split
  · exact ⟨fun g hg => by cases g <;> simp_all [slotSameIn]⟩
  · exact .refl ..

theorem deferralMarked_counts (x : Slot) : (deferralMarked x).drift.testTicks = x.drift.testTicks
    ∧ (deferralMarked x).drift.idleCount = x.drift.idleCount
    ∧ (x.power.spindle = .spinningUp → (deferralMarked x).drift.deferral = true) := by
  unfold deferralMarked
  split
  · exact ⟨rfl, rfl, fun _ => rfl⟩
  · next h => exact ⟨rfl, rfl, fun h' => absurd h' h⟩

/-- The state with slot n's ticks counted. -/
def slotCounted (n : SlotId) (s : State) : State := modSlot n (tickCounted s) s

/-- The state that a due slot's sample starts from. -/
def sampleDue (n : SlotId) (s : State) : State :=
  if ((slotCounted n s).slot n).power.spindle = .spinningUp then
    modSlot n (fun x => { x with drift.deferral := true }) (slotCounted n s)
  else slotCounted n s

theorem slotCounted_slot (n : SlotId) (s : State) : (slotCounted n s).slot n = tickCounted s (s.slot n) := slot_modSlot_same ..

theorem slotCounted_keeps (n : SlotId) (s : State) : KeepsBut [.slot n] s (slotCounted n s) := modSlot_keeps ..

theorem sampleDue_slot (n : SlotId) (s : State) : (sampleDue n s).slot n = deferralMarked (tickCounted s (s.slot n)) := by
  unfold sampleDue deferralMarked
  rw [slotCounted_slot]
  split
  · rw [slot_modSlot_same, slotCounted_slot]
  · exact slotCounted_slot ..

theorem sampleDue_keeps (n : SlotId) (s : State) : KeepsBut [.slot n] s (sampleDue n s) :=
  (slotCounted_keeps n s).trans ((modSlot_keeps ..).ite (.refl ..))

theorem dueMetrics_nodup (x : Slot) : (dueMetrics x).Nodup := by
  unfold dueMetrics
  split <;> decide

theorem defr_mem_dueMetrics (x : Slot) : Metric.defr ∈ dueMetrics x := by
  unfold dueMetrics
  split <;> decide

theorem mem_dueMetrics {x : Slot} {m : Metric} : m ∈ dueMetrics x ↔ (x.power.spindle = .spinningUp → m = .temp ∨ m = .defr) := by
  unfold dueMetrics
  split
  · next h => cases m <;> simp [h]
  · next h => cases m <;> simp [h, allMetrics]

theorem tickSlot_eq (n : SlotId) (v : SensorReading) (s : State) :
    tickSlot n v s
      = if isDue s (s.slot n) then
          (some (streamRecord n (s.slot n) ((sampleMetrics n (dueMetrics (s.slot n)) v (sampleDue n s)).slot n)),
            sampleMetrics n (dueMetrics (s.slot n)) v (sampleDue n s))
        else (none, slotCounted n s) := by
  have hd : dueMetrics ((sampleDue n s).slot n) = dueMetrics (s.slot n) := by
    unfold dueMetrics
    rw [sampleDue_slot, ((deferralMarked_same _).same .spindle (by simp)).1, ((tickCounted_same s _).same .spindle (by simp)).1]
  rw [← hd]
  rfl

/-- The part of the state that the current figures of a sample depend on. -/
structure FiguresFrom (n : SlotId) (ms : List Metric) (s b : State) : Prop where
  drift : (b.slot n).drift.peak = (s.slot n).drift.peak ∧ (b.slot n).drift.mean = (s.slot n).drift.mean
  tallies : (b.slot n).tallies = { (s.slot n).tallies with accumulator := leftAccumulator ms (s.slot n) }
  allocation : (b.slot n).power.allocation = (s.slot n).power.allocation
  settings : b.store.settings = s.store.settings
  defects : b.tables.defects = s.tables.defects

/-- What a tick leaves of a slot that is due (R98 to R104). -/
structure DueTicked (n : SlotId) (v : SensorReading) (s t : State) : Prop where
  deferral : (s.slot n).power.spindle = .spinningUp → (t.slot n).drift.deferral = true
  metrics : ∀ m ∈ dueMetrics (s.slot n), MetricSampled n m (readingOf v (s.slot n).tallies.accumulator m) s t
  others : ∀ m, m ∉ dueMetrics (s.slot n) → (t.slot n).filter m = (s.slot n).filter m
  figures : ∃ b, FiguresFrom n (dueMetrics (s.slot n)) s b
    ∧ FiguresTaken n (currentOf (dueMetrics (s.slot n)) (readingOf v (s.slot n).tallies.accumulator)) b t

/-- What a tick leaves of a slot (R10, R97). -/
structure SlotTicked (n : SlotId) (v : SensorReading) (s t : State) : Prop where
  slot : SlotKeepsBut [.samples, .tallies, .idle, .testTicks, .lamps, .events, .notice] (s.slot n) (t.slot n)
  ticks : (t.slot n).drift.testTicks
    = if (s.slot n).testRunning = true then min 4294967295 ((s.slot n).drift.testTicks + 1) else (s.slot n).drift.testTicks
  idle : (t.slot n).drift.idleCount = idleAfter s (s.slot n)
  undue : isDue s (s.slot n) = false → SlotKeepsBut [.idle, .testTicks] (s.slot n) (t.slot n)
  due : isDue s (s.slot n) = true → DueTicked n v s t

/-- What a tick at a slot leaves of the rest of the part (R112). -/
structure TickFrame (n : SlotId) (s t : State) : Prop where
  keeps : KeepsBut [.slot n, .partSet, .noticeQueue, .transit] s t
  handOvers : t.transit.handOvers = s.transit.handOvers
  quarantines : ∀ q ∈ s.transit.quarantines, q ∈ t.transit.quarantines
  calibrations : t.transit.calibrations
    = s.transit.calibrations ++ if (s.slot n).calibrating && !(t.slot n).calibrating then [n] else []

theorem MetricSampled.rebase {n : SlotId} {m : Metric} {reading : Nat} {s s' t t' : State} (h : MetricSampled n m reading s' t)
    (hf : (s'.slot n).filter m = (s.slot n).filter m) (hst : (s'.slot n).state = (s.slot n).state)
    (hre : (s'.slot n).recovery = (s.slot n).recovery) (hm : (s'.slot n).identity.model = (s.slot n).identity.model)
    (hmod : s'.tables.models = s.tables.models) (hsup : s'.power.supply = s.power.supply) (ht : t'.slot n = t.slot n)
    (hq : ∀ q ∈ t.transit.quarantines, q ∈ t'.transit.quarantines) : MetricSampled n m reading s t' := by
  have he : sampledMetric s' (s'.slot n) m reading = sampledMetric s (s.slot n) m reading :=
    sampledMetric_congr reading hf hst hre hm hmod hsup
  obtain ⟨h1, h2, h3, h4⟩ := h
  rw [he] at h1 h2 h3
  rw [hf] at h4
  rw [← ht] at h1 h2 h4
  exact ⟨h1, h2, fun h => hq _ (h3 h), h4⟩

theorem tickSlot_due {n : SlotId} {s : State} (v : SensorReading) (h : isDue s (s.slot n) = true) :
    SlotTicked n v s (sampleMetrics n (dueMetrics (s.slot n)) v (sampleDue n s))
      ∧ TickFrame n s (sampleMetrics n (dueMetrics (s.slot n)) v (sampleDue n s)) := by
  have hS := sampleMetrics_taken (n := n) (dueMetrics_nodup (s.slot n)) v (sampleDue n s)
  have hx := sampleDue_slot n s
  have hk := sampleDue_keeps n s
  obtain ⟨hticks, hcount, hmark⟩ := deferralMarked_counts (tickCounted s (s.slot n))
  have hb : SlotKeepsBut [.idle, .testTicks] (s.slot n) ((sampleDue n s).slot n) := by
    rw [hx]
    exact (tickCounted_same ..).trans ((deferralMarked_same _).mono (by simp))
  have hpow : ((sampleDue n s).slot n).drift.testTicks = (tickCounted s (s.slot n)).drift.testTicks := by rw [hx]; exact hticks
  have hcnt : ((sampleDue n s).slot n).drift.idleCount = (tickCounted s (s.slot n)).drift.idleCount := by rw [hx]; exact hcount
  have hdef : (s.slot n).power.spindle = .spinningUp → ((sampleDue n s).slot n).drift.deferral = true := fun hs => by
    rw [hx]; exact hmark hs
  have htal : ((sampleDue n s).slot n).tallies = (s.slot n).tallies := hb.same .tallies (by simp)
  rw [htal] at hS
  generalize sampleDue n s = b at *
  generalize sampleMetrics n (dueMetrics (s.slot n)) v b = t at *
  have hbs := hb.same .samples (by simp)
  obtain ⟨hid, hdf⟩ := hS.slot.same .idle (by simp)
  have hfil := filter_of_samples hbs
  have ha : FiguresFrom n (dueMetrics (s.slot n)) s (accumulatorTaken n (dueMetrics (s.slot n)) b) := by
    have hka : KeepsBut [.slot n] b (accumulatorTaken n (dueMetrics (s.slot n)) b) := (modSlot_keeps ..).ite (.refl ..)
    have hks := hk.trans hka
    refine ⟨?_, ?_, ?_, hks.same .settings (by simp), hks.same .defects (by simp)⟩ <;> rw [accumulatorTaken_slot]
    · exact ⟨hbs.2.2.2.2.1, hbs.2.2.2.2.2⟩
    · dsimp only
      rw [htal]
      unfold leftAccumulator
      rw [htal]
    · exact (hb.same .allocation (by simp)).1
  refine ⟨⟨(hb.mono (by simp)).trans (hS.slot.mono (by simp)), (hS.slot.same .testTicks (by simp)).trans hpow, hid.trans hcnt,
      fun h' => absurd h (by rw [h']; simp), fun _ => ⟨fun hs => hdf.trans (hdef hs), fun m hm => ?_,
        fun m hm => (hS.others m hm).trans (hfil m), _, ha, hS.figures⟩⟩,
    (hk.mono (by simp)).trans hS.keeps, hS.handOvers.trans ?_, fun q hq => hS.quarantines q ?_, ?_⟩
  · exact (hS.metrics m hm).rebase (hfil m) (hb.same .state (by simp)) (hb.same .recovery (by simp)) (hb.same .identity (by simp)).2.1
      (hk.same .models (by simp)) (hk.same .supply (by simp)).1 rfl fun _ => id
  · rw [(hk.same .transit (by simp) : b.transit = s.transit)]
  · rw [(hk.same .transit (by simp) : b.transit = s.transit)]
    exact hq
  · rw [hS.calibrations, (hk.same .transit (by simp) : b.transit = s.transit), calibrating_of_samples hbs]

theorem tickSlot_undue {n : SlotId} {s : State} (v : SensorReading) (h : isDue s (s.slot n) = false) :
    SlotTicked n v s (slotCounted n s) ∧ TickFrame n s (slotCounted n s) := by
  have hk := slotCounted_keeps n s
  have hx := slotCounted_slot n s
  have ht : (slotCounted n s).transit = s.transit := hk.same .transit (by simp)
  have hs := tickCounted_same s (s.slot n)
  refine ⟨⟨by rw [hx]; exact hs.mono (by simp), by rw [hx]; rfl, by rw [hx]; rfl, fun _ => by rw [hx]; exact hs,
    fun h' => absurd h' (by rw [h]; simp)⟩, hk.mono (by simp), by rw [ht], fun q hq => by rw [ht]; exact hq, ?_⟩
  rw [ht, hx, calibrating_of_samples (hs.same .samples (by simp)), Bool.and_not_self]
  exact (List.append_nil _).symm

theorem tickSlot_ticked (n : SlotId) (v : SensorReading) (s : State) :
    SlotTicked n v s (tickSlot n v s).2 ∧ TickFrame n s (tickSlot n v s).2
      ∧ (tickSlot n v s).1
        = if isDue s (s.slot n) then some (streamRecord n (s.slot n) ((tickSlot n v s).2.slot n)) else none := by
  rw [tickSlot_eq]
  split
  · next h =>
    obtain ⟨h1, h2⟩ := tickSlot_due v h
    exact ⟨h1, h2, rfl⟩
  · next h =>
    obtain ⟨h1, h2⟩ := tickSlot_undue v (Bool.not_eq_true _ ▸ h)
    exact ⟨h1, h2, rfl⟩

end Sys2Proof.Machine
end

section
/-! TICK (R10, R95 to R101, R112, R182, R183). -/

namespace Sys2Proof.Machine

/-! ### Every slot -/

/-- A slot's tick is the same against any state that agrees in the slot, the clock, the settings, the tables and the supply. -/
theorem SlotTicked.rebase {n : SlotId} {v : SensorReading} {s s' t t' : State} (h : SlotTicked n v s' t)
    (hs : s'.slot n = s.slot n) (hk : KeepsButSlots [.partSet, .noticeQueue, .transit] s s') (ht : t'.slot n = t.slot n)
    (hq : ∀ q ∈ t.transit.quarantines, q ∈ t'.transit.quarantines) : SlotTicked n v s t' := by
  have hset : s'.store.settings = s.store.settings := hk.same .settings (by simp) (by simp)
  have hnow : s'.now = s.now := hk.same .now (by simp) (by simp)
  have hmod : s'.tables.models = s.tables.models := hk.same .models (by simp) (by simp)
  have hsup : s'.power.supply = s.power.supply := (hk.same .supply (by simp) (by simp)).1
  have hdue : isDue s' (s'.slot n) = isDue s (s.slot n) := by
    unfold isDue isIdle
    rw [hs, hset, hnow]
  have hidle : idleAfter s' (s'.slot n) = idleAfter s (s.slot n) := by
    unfold idleAfter isIdle
    rw [hs, hset, hnow]
  obtain ⟨h1, h2, h3, h4, h5⟩ := h
  rw [hdue] at h4 h5
  rw [hidle] at h3
  rw [hs] at h1 h2 h4
  rw [← ht] at h1 h2 h3 h4
  refine ⟨h1, h2, h3, h4, fun hd => ?_⟩
  obtain ⟨d1, d2, d3, b, hb, hf⟩ := h5 hd
  rw [hs] at d1 d2 d3 hf
  rw [← ht] at d1 d3
  refine ⟨d1, fun m hm => (d2 m hm).rebase (by rw [hs]) (by rw [hs]) (by rw [hs]) (by rw [hs]) hmod hsup ht hq, d3, b, ?_, ?_⟩
  · obtain ⟨f1, f2, f3, f4, f5⟩ := hb
    rw [hs] at f1 f2 f3
    exact ⟨f1, f2, f3, f4.trans hset, f5.trans (hk.same .defects (by simp) (by simp))⟩
  · obtain ⟨f1, f2⟩ := hf
    rw [← ht] at f1 f2
    exact ⟨f1, fun w hw => by
      obtain ⟨a, b, c, d, e⟩ := f2 w hw
      exact ⟨a, b, c, d, fun x y => hq _ (e x y)⟩⟩

/-- What the tick leaves of the slots of a list, and the records it gives of them. -/
structure SlotsTicked (sensors : Vector SensorReading 48) (l : List SlotId) (s v : State) (records : List StreamRecord) : Prop where
  keeps : KeepsButSlots [.partSet, .noticeQueue, .transit] s v
  handOvers : v.transit.handOvers = s.transit.handOvers
  quarantines : ∀ q ∈ s.transit.quarantines, q ∈ v.transit.quarantines
  calibrations : v.transit.calibrations
    = s.transit.calibrations ++ l.filter fun n => (s.slot n).calibrating && !(v.slot n).calibrating
  ticked : ∀ n ∈ l, SlotTicked n sensors[n.val] s v
  others : ∀ n, n ∉ l → v.slot n = s.slot n
  listed : records.map (·.slot) = l.filter fun n => isDue s (s.slot n)
  records : ∀ r ∈ records, r = streamRecord r.slot (s.slot r.slot) (v.slot r.slot)

theorem tickSlots_ticked (sensors : Vector SensorReading 48) {l : List SlotId} (hn : l.Nodup) (s : State) :
    SlotsTicked sensors l s (tickSlots sensors l s).2 (tickSlots sensors l s).1 := by
  induction l generalizing s with
  | nil =>
    have h0 : tickSlots sensors [] s = ([], s) := rfl
    rw [h0]
    exact ⟨.refl .., rfl, fun _ => id, by rw [List.filter_nil, List.append_nil], fun m hm => absurd hm List.not_mem_nil,
      fun _ _ => rfl, rfl, fun r hr => absurd hr List.not_mem_nil⟩
  | cons n l ih =>
    obtain ⟨hnl, hl⟩ := List.nodup_cons.1 hn
    change SlotsTicked sensors (n :: l) s (tickSlots sensors l (tickSlot n sensors[n.val] s).2).2
      ((tickSlot n sensors[n.val] s).1.toList ++ (tickSlots sensors l (tickSlot n sensors[n.val] s).2).1)
    obtain ⟨ht, hf, hr⟩ := tickSlot_ticked n sensors[n.val] s
    generalize tickSlot n sensors[n.val] s = p at *
    obtain ⟨rec, a⟩ := p
    dsimp only at *
    have h := ih hl a
    generalize tickSlots sensors l a = p at *
    obtain ⟨rs, v⟩ := p
    dsimp only at *
    have hsa : KeepsButSlots [.partSet, .noticeQueue, .transit] s a :=
      ⟨fun g hg hns => hf.keeps.same g (by simp only [List.mem_cons, not_or] at hg ⊢; exact ⟨hns n, hg⟩)⟩
    have hslot : ∀ m, m ≠ n → a.slot m = s.slot m := fun m hm => hf.keeps.slot_eq (by simpa using hm)
    have hne : ∀ m ∈ l, m ≠ n := fun m hm e => hnl (e ▸ hm)
    have hvn : v.slot n = a.slot n := h.others n hnl
    have hdue : ∀ m ∈ l, isDue a (a.slot m) = isDue s (s.slot m) := fun m hm => by
      unfold isDue isIdle
      rw [hslot m (hne m hm), (hsa.same .settings (by simp) (by simp) : a.store.settings = s.store.settings),
        (hsa.same .now (by simp) (by simp) : a.now = s.now)]
    refine ⟨hsa.trans h.keeps, h.handOvers.trans hf.handOvers, fun q hq => h.quarantines q (hf.quarantines q hq), ?_,
      fun m hm => ?_, fun m hm => ?_, ?_, fun r hr' => ?_⟩
    · rw [h.calibrations, hf.calibrations, List.append_assoc, List.filter_cons, hvn]
      congr 1
      rw [List.filter_congr fun m hm => by rw [hslot m (hne m hm)]]
      split <;> rfl
    · obtain rfl | hm := List.mem_cons.1 hm
      · exact ht.rebase rfl (.refl ..) hvn h.quarantines
      · exact (h.ticked m hm).rebase (hslot m (hne m hm)) hsa rfl fun _ => id
    · rw [List.mem_cons, not_or] at hm
      exact (h.others m hm.2).trans (hslot m hm.1)
    · rw [List.map_append, h.listed, List.filter_congr hdue, List.filter_cons, hr]
      split <;> rfl
    · obtain hr' | hr' := List.mem_append.1 hr'
      · rw [hr] at hr'
        split at hr'
        · rw [Option.toList_some, List.mem_singleton] at hr'
          subst hr'
          exact congrArg (streamRecord n (s.slot n)) hvn.symm
        · cases hr'
      · have hmem : r.slot ∈ l := by
          have h1 : r.slot ∈ rs.map (·.slot) := List.mem_map_of_mem hr'
          rw [h.listed] at h1
          exact List.mem_of_mem_filter h1
        have h1 := h.records r hr'
        rw [hslot _ (hne _ hmem)] at h1
        exact h1

end Sys2Proof.Machine
end

section
/-! The obligation on TICK. -/

namespace Sys2Proof.Machine

theorem isDue_eq (s : State) (x : Slot) :
    isDue s x = (x.lines.powered
      && !(x.state.inTest && decide (x.drift.lastForward + s.store.settings.idleTime * 1000 ≤ s.now)
        && decide (x.drift.idleCount ≠ 7))) := by
  unfold isDue isIdle
  by_cases h : x.drift.idleCount = 7
  · simp [h]
  · have hb : (x.drift.idleCount == 7) = false := beq_eq_false_iff_ne.2 h
    rw [hb]
    simp [h]

theorem isDue_true {s : State} {x : Slot} :
    isDue s x = true ↔ x.lines.powered = true
      ∧ ¬((x.state.inTest = true ∧ x.drift.lastForward + s.store.settings.idleTime * 1000 ≤ s.now) ∧ x.drift.idleCount ≠ 7) := by
  rw [isDue_eq]
  simp only [Bool.and_eq_true, Bool.not_eq_true', decide_eq_true_eq, ← Bool.not_eq_true]

theorem isDue_false {s : State} {x : Slot} :
    isDue s x = false ↔ x.lines.powered = false
      ∨ (x.state.inTest = true ∧ x.drift.lastForward + s.store.settings.idleTime * 1000 ≤ s.now) ∧ x.drift.idleCount ≠ 7 := by
  rw [← Bool.not_eq_true, isDue_true, not_and_or, not_not, Bool.not_eq_true]

theorem idleAfter_eq (s : State) (x : Slot) :
    idleAfter s x
      = if x.lines.powered = true ∧ (x.state.inTest = true ∧ x.drift.lastForward + s.store.settings.idleTime * 1000 ≤ s.now)
            ∧ x.drift.idleCount ≠ 7 then x.drift.idleCount + 1 else 0 := by
  unfold idleAfter isIdle
  refine if_congr ?_ rfl rfl
  simp only [Bool.and_eq_true, decide_eq_true_eq, bne_iff_ne, and_assoc]

/-! ### The stream timer -/

theorem streamTick_event {records : List StreamRecord} {s : State} (h : s.store.settings.reportMode = .event) :
    streamTick records s = { s with notices.streamCount := 0 } := by
  unfold streamTick
  rw [h]

theorem streamTick_counts {records : List StreamRecord} {s : State} (h : s.store.settings.reportMode = .stream)
    (hc : s.notices.streamCount + 1 < s.store.settings.streamInterval) :
    streamTick records s = { s with notices.streamCount := s.notices.streamCount + 1 } := by
  unfold streamTick
  rw [h]
  exact if_neg (by omega)

theorem streamTick_completes {records : List StreamRecord} {s : State} (h : s.store.settings.reportMode = .stream)
    (hc : s.store.settings.streamInterval ≤ s.notices.streamCount + 1) :
    streamTick records s = completeReport records { s with notices.streamCount := 0 } := by
  unfold streamTick
  rw [h]
  exact if_pos hc

theorem completeReport_spec (records : List StreamRecord) (s : State) :
    KeepsBut [.streamTimer, .stream, .counters] s (completeReport records s)
      ∧ (completeReport records s).notices.streamCount = s.notices.streamCount
      ∧ (completeReport records s).notices.streamNumber = (s.notices.streamNumber + 1) % 65536
      ∧ (16 < s.notices.queue.length → (completeReport records s).port
          = { s.port with streamDropped := min 65535 (s.port.streamDropped + 1) })
      ∧ (s.notices.queue.length ≤ 16 → (completeReport records s).port
          = { s.port with
              stream := some ⟨s.store.settings.reportStation, (s.notices.streamNumber + 1) % 65536, records⟩
              streamDropped := if s.port.stream.isSome then min 65535 (s.port.streamDropped + 1) else s.port.streamDropped }) := by
  unfold completeReport Config.streamBacklog
  dsimp only
  split
  · next h =>
    exact ⟨⟨fun g hg => by clear * - hg; cases g <;> simp_all [sameIn]
      <;> rfl⟩, rfl, rfl, fun _ => rfl, fun h' => absurd h (by omega)⟩
  · next h =>
    split
    · exact ⟨⟨fun g hg => by clear * - hg; cases g <;> simp_all [sameIn]
      <;> rfl⟩, rfl, rfl, fun h' => absurd h' h,
        fun _ => rfl⟩
    · exact ⟨⟨fun g hg => by clear * - hg; cases g <;> simp_all [sameIn]
      <;> rfl⟩, rfl, rfl, fun h' => absurd h' h,
        fun _ => rfl⟩

theorem streamTick_keeps (records : List StreamRecord) (s : State) :
    KeepsBut [.streamTimer, .stream, .counters] s (streamTick records s) := by
  cases h : s.store.settings.reportMode with
  | event =>
    rw [streamTick_event h]
    exact ⟨fun g hg => by clear * - hg; cases g <;> simp_all [sameIn] <;> rfl⟩
  | stream =>
    have hz : ∀ c, KeepsBut [.streamTimer, .stream, .counters] s { s with notices.streamCount := c } := fun c =>
      ⟨fun g hg => by clear * - hg; cases g <;> simp_all [sameIn] <;> rfl⟩
    by_cases hc : s.store.settings.streamInterval ≤ s.notices.streamCount + 1
    · rw [streamTick_completes h hc]
      exact (hz 0).trans (completeReport_spec ..).1
    · rw [streamTick_counts h (by omega)]
      exact hz _

theorem streamTick_rules (records : List StreamRecord) (s : State) :
    (s.store.settings.reportMode = .event → streamTick records s = { s with notices.streamCount := 0 })
      ∧ (s.store.settings.reportMode = .stream →
          (s.notices.streamCount + 1 < s.store.settings.streamInterval →
              streamTick records s = { s with notices.streamCount := s.notices.streamCount + 1 })
            ∧ (s.store.settings.streamInterval ≤ s.notices.streamCount + 1 →
                let number := (s.notices.streamNumber + 1) % 65536
                KeepsBut [.streamTimer, .stream, .counters] s (streamTick records s)
                  ∧ (streamTick records s).notices.streamCount = 0
                  ∧ (streamTick records s).notices.streamNumber = number
                  ∧ (16 < s.notices.queue.length →
                      (streamTick records s).port
                        = { s.port with streamDropped := min 65535 (s.port.streamDropped + 1) })
                  ∧ (s.notices.queue.length ≤ 16 →
                      (streamTick records s).port
                        = { s.port with
                            stream := some ⟨s.store.settings.reportStation, number, records⟩
                            streamDropped :=
                              if s.port.stream.isSome then min 65535 (s.port.streamDropped + 1)
                              else s.port.streamDropped }))) := by
  refine ⟨streamTick_event, fun h => ⟨streamTick_counts h, fun hc => ?_⟩⟩
  refine ⟨streamTick_keeps .., ?_⟩
  rw [streamTick_completes h hc]
  exact (completeReport_spec ..).2

/-! ### The whole tick -/

/-- The state as the tick takes it: the clock has reached it, and the timer restarts (R95). -/
def tickBegun (s : State) : State := restartTick (reach s.tickAt s)

theorem tickBegun_keeps (s : State) : KeepsBut [.now, .tickAt] s (tickBegun s) :=
  ⟨fun g hg => by cases g <;> simp_all [sameIn, tickBegun, restartTick, reach] <;> rfl⟩

theorem execTick_ticked (sensors : Vector SensorReading 48) (s : State) :
    ∃ (v : State) (records : List StreamRecord),
      exec (.tick sensors) s = .next (arbitrate (streamTick records v)) ∧ SlotsTicked sensors allSlots (tickBegun s) v records :=
  ⟨_, _, rfl, tickSlots_ticked sensors (List.nodup_finRange 48) (tickBegun s)⟩

/-- What the tick leaves of a metric of a due slot's record in a stream report (R183). -/
theorem streamMetric_rules {s v : State} {n : SlotId} {r : SensorReading} (h : SlotTicked n r s v) (m : Metric) :
    (streamMetric (s.slot n) (v.slot n) m).raw = ((v.slot n).filter m).lastRaw
      ∧ (streamMetric (s.slot n) (v.slot n) m).lastD = ((v.slot n).filter m).lastD
      ∧ (streamMetric (s.slot n) (v.slot n) m).state = ((v.slot n).filter m).state
      ∧ ((streamMetric (s.slot n) (v.slot n) m).evaluated = true ↔
          ((s.slot n).power.spindle = .spinningUp → m = .temp ∨ m = .defr) ∧ (s.slot n).testRunning = true
            ∧ ((v.slot n).filter m).misses < 16 ∧ ((v.slot n).filter m).lastRaw ≠ none) := by
  refine ⟨rfl, rfl, rfl, ?_⟩
  have ht : (v.slot n).testRunning = (s.slot n).testRunning := by
    unfold Slot.testRunning
    rw [(h.slot.same .state (by simp) : _ = (s.slot n).state), (h.slot.same .recovery (by simp) : _ = (s.slot n).recovery)]
  unfold streamMetric runsStages Filter.lost Config.lostAt
  rw [← mem_dueMetrics, ht]
  simp only [Bool.and_eq_true, List.contains_iff_mem, Bool.not_eq_true', decide_eq_false_iff_not, Nat.not_le, Option.isSome_iff_ne_none,
    and_assoc]

/-- The samples of a due slot in the words of the rules (R98 to R104, R82, R83). -/
theorem DueTicked.rules {n : SlotId} {r : SensorReading} {s v : State} (h : DueTicked n r s v) :
    let x := s.slot n
    let w := r.curr.toNat
    let compared := x.power.spindle ≠ .spinningUp ∧ w ≠ 65535
    let exceeds := x.power.allocation + s.store.settings.overdrawMargin < w
    let overdraws := compared ∧ exceeds ∧ x.tallies.overdrawRun = 1
    (compared →
        (v.slot n).drift.peak = max x.drift.peak w
          ∧ ((v.slot n).drift.mean : Int) = x.drift.mean + ((w : Int) - x.drift.mean).tdiv 16
          ∧ (exceeds → (v.slot n).tallies.overdrawRun = min 255 (x.tallies.overdrawRun + 1))
          ∧ (¬exceeds → (v.slot n).tallies.overdrawRun = 0)
          ∧ (exceeds → x.tallies.overdrawRun = 7 → (n, .overdraw) ∈ v.transit.quarantines))
      ∧ (¬compared →
          (v.slot n).drift.peak = x.drift.peak ∧ (v.slot n).drift.mean = x.drift.mean
            ∧ (v.slot n).tallies.overdrawRun = x.tallies.overdrawRun)
      ∧ (overdraws →
          (v.slot n).events.getLsbD 11 = true
            ∧ (v.slot n).tallies.counters = x.tallies.counters.set 13 (min 65535 (x.tallies.counters[13] + 1))
            ∧ (v.slot n).tallies.accumulator = min 65534 s.tables.defects[13].weight)
      ∧ (¬overdraws → (v.slot n).tallies.counters = x.tallies.counters ∧ (v.slot n).tallies.accumulator = 0) := by
  intro x w compared exceeds overdraws
  obtain ⟨-, -, -, b, ⟨⟨hpeak, hmean⟩, htal, hall, hset, hdef⟩, hnone, hsome⟩ := h
  have hacc : leftAccumulator (dueMetrics x) x = 0 := if_pos (defr_mem_dueMetrics x)
  rw [hacc] at htal
  have hcur : .curr ∈ dueMetrics x ↔ x.power.spindle ≠ .spinningUp := by
    rw [mem_dueMetrics]
    simp
  have hrun : overdrawRun b (b.slot n) w = if exceeds then min 255 (x.tallies.overdrawRun + 1) else 0 := by
    unfold overdrawRun
    rw [hall, hset, htal]
  by_cases hc : compared
  · obtain ⟨h1, h2, h3, h4, h5⟩ := hsome w (if_pos ⟨hcur.2 hc.1, hc.2⟩)
    have htr : (v.slot n).tallies.overdrawRun = if exceeds then min 255 (x.tallies.overdrawRun + 1) else 0 := by
      rw [h3, currentTallies_overdrawRun, hrun]
    have hb1 : (b.slot n).tallies.overdrawRun = x.tallies.overdrawRun := by rw [htal]
    refine ⟨fun _ => ⟨by rw [h1, hpeak], by rw [h2, hmean], fun he => by rw [htr, if_pos he], fun he => by rw [htr, if_neg he],
        fun he h7 => h5 (hb1.trans h7) ?_⟩, fun h => absurd hc h, fun ho => ?_, fun ho => ?_⟩
    · rw [hrun, if_pos he, h7]
      rfl
    · obtain ⟨-, he, h1r⟩ := ho
      have hr2 : overdrawRun b (b.slot n) w = 2 := by
        rw [hrun, if_pos he, h1r]
        rfl
      refine ⟨h4 (hb1.trans h1r) hr2, ?_⟩
      rw [h3]
      unfold currentTallies
      rw [if_pos ⟨hb1.trans h1r, hr2⟩]
      unfold tallied
      dsimp only
      rw [htal, hdef]
      exact ⟨rfl, by rw [Nat.zero_add]; rfl⟩
    · rw [h3]
      unfold currentTallies
      rw [if_neg, htal]
      · exact ⟨rfl, rfl⟩
      · rintro ⟨hr1, hr2⟩
        rw [hrun] at hr2
        refine ho ⟨hc, ?_, hb1.symm.trans hr1⟩
        by_contra he
        rw [if_neg he] at hr2
        cases hr2
  · have hcn : currentOf (dueMetrics x) (readingOf r x.tallies.accumulator) = none :=
      if_neg fun hc' => hc ⟨hcur.1 hc'.1, hc'.2⟩
    obtain ⟨h1, h2, h3⟩ := hnone hcn
    exact ⟨fun h => absurd h hc, fun _ => ⟨h1.trans hpeak, h2.trans hmean, by rw [h3, htal]⟩, fun h => absurd h.1 hc,
      fun _ => by rw [h3, htal]; exact ⟨rfl, rfl⟩⟩

end Sys2Proof.Machine
end

section
/-! The obligation on TICK, from what the tick leaves of each slot. -/

namespace Sys2Proof.Machine

/-- What stands of a tick once its stream report is built (R95, R183). -/
structure TickTaken (sensors : Vector SensorReading 48) (s v : State) (records : List StreamRecord) : Prop where
  begun : SlotsTicked sensors allSlots (tickBegun s) v records
  slots : ∀ n, (streamTick records v).slot n = v.slot n
  transit : (streamTick records v).transit = v.transit
  now : (streamTick records v).now = max s.now s.tickAt
  tickAt : (streamTick records v).tickAt = max s.now s.tickAt + tickMs s.store.settings.tickPeriod

theorem tickTaken_of {sensors : Vector SensorReading 48} {s v : State} {records : List StreamRecord}
    (h : SlotsTicked sensors allSlots (tickBegun s) v records) : TickTaken sensors s v records := by
  have hk := streamTick_keeps records v
  exact ⟨h, fun n => hk.slot_eq (by simp), hk.same .transit (by simp),
    (hk.same .now (by simp)).trans (h.keeps.same .now (by simp) (by simp)),
    (hk.same .tickAt (by simp)).trans (h.keeps.same .tickAt (by simp) (by simp))⟩

theorem TickTaken.keeps {sensors : Vector SensorReading 48} {s v : State} {records : List StreamRecord}
    (h : TickTaken sensors s v records) : KeepsButSlots [.now, .tickAt, .transit, .partSet, .noticeQueue] s v :=
  ((tickBegun_keeps s).toSlots.mono (by simp)).trans (h.begun.keeps.mono (by simp))

/-- A slot's tick, on the part as the report leaves it. -/
theorem TickTaken.ticked {sensors : Vector SensorReading 48} {s v : State} {records : List StreamRecord}
    (h : TickTaken sensors s v records) (n : SlotId) :
    SlotTicked n sensors[n.val] (tickBegun s) (streamTick records v) :=
  (h.begun.ticked n (List.mem_finRange n)).rebase rfl (.refl ..) (h.slots n) fun q hq => by rw [h.transit]; exact hq

theorem filter_of_group {x y : Slot} (h : SlotKeepsBut [.idle, .testTicks] x y) (m : Metric) : y.filter m = x.filter m :=
  filter_of_samples (h.same .samples (by simp)) m

/-! ### The stages leave the reading -/

/-- The last raw value and the miss count are the same (R99, R100). -/
def SameReading (f g : Filter) : Prop := g.lastRaw = f.lastRaw ∧ g.misses = f.misses

theorem SameReading.ite {c : Prop} [Decidable c] {f g h : Filter} (h1 : SameReading f g) (h2 : SameReading f h) :
    SameReading f (if c then g else h) := by
  split <;> assumption

theorem SameReading.result_ite {c : Prop} [Decidable c] {f : Filter} {g h : StageResult} (h1 : SameReading f g.record)
    (h2 : SameReading f h.record) : SameReading f (if c then g else h).record := by
  split <;> assumption

theorem reseed_reading (counted : Bool) (f : Filter) : SameReading f (reseed counted f) := by
  unfold reseed
  exact .ite ⟨rfl, rfl⟩ ⟨rfl, rfl⟩

theorem watchHalt_reading (t : ThresholdSet) (f : Filter) : SameReading f (watchHalt t f).record := by
  unfold watchHalt
  dsimp only
  exact .result_ite (reseed_reading true { f with halt := saturate 65535 (f.halt + 1) }) ⟨rfl, rfl⟩

theorem watchExit_reading (t : ThresholdSet) (d : Int) (f : Filter) : SameReading f (watchExit t d f).record := by
  unfold watchExit
  exact .result_ite (.result_ite ⟨rfl, rfl⟩ (watchHalt_reading t { f with exit := f.exit + 1 }))
    (watchHalt_reading t { f with exit := 0 })

theorem stage4_reading (t : ThresholdSet) (d : Int) (f : Filter) : SameReading f (stage4 t d f).record := by
  unfold stage4
  cases f.state with
  | clear => exact .result_ite (.result_ite ⟨rfl, rfl⟩ ⟨rfl, rfl⟩) ⟨rfl, rfl⟩
  | watch =>
    exact .result_ite (.result_ite ⟨rfl, rfl⟩
      (watchExit_reading t d { f with watchCount := saturate 65535 (f.watchCount + 1), fault := f.fault + 1 }))
      (watchExit_reading t d { f with watchCount := saturate 65535 (f.watchCount + 1), fault := 0 })
  | fault | calibrating => exact ⟨rfl, rfl⟩

theorem stage5_reading (t : ThresholdSet) (x : Nat) (f : Filter) : SameReading f (stage5 t x f).1 := by
  unfold stage5
  split
  · exact ⟨rfl, rfl⟩
  · split
    · exact ⟨rfl, rfl⟩
    · split <;> exact ⟨rfl, rfl⟩

theorem evaluate_reading (t : ThresholdSet) (count : Nat) (halted : Bool) (x : Nat) (f : Filter) :
    SameReading f (evaluate t count halted x f).record := by
  unfold evaluate
  refine .result_ite ⟨rfl, rfl⟩ (.result_ite ?_ ?_)
  · unfold calibrationStep
    dsimp only
    exact .ite (reseed_reading false _) ⟨rfl, rfl⟩
  · have h2 : SameReading f (stage3 (stage2 t.kl (stage1 t.kf x f))) := by
      unfold stage3 stage2
      split <;> exact ⟨rfl, rfl⟩
    unfold runStages
    dsimp only
    generalize stage3 (stage2 t.kl (stage1 t.kf x f)) = g at *
    have h4 := stage4_reading t (deviation g) g
    have h5 := stage5_reading t x (stage4 t (deviation g) g).record
    have h6 : SameReading (stage5 t x (stage4 t (deviation g) g).record).1
        (stage6 (deviation g) (stage5 t x (stage4 t (deviation g) g).record).1) := by
      unfold stage6
      exact .ite ⟨rfl, rfl⟩ ⟨rfl, rfl⟩
    exact ⟨h6.1.trans (h5.1.trans (h4.1.trans h2.1)), h6.2.trans (h5.2.trans (h4.2.trans h2.2))⟩

/-- A sampled metric keeps the reading that its sample took (R99, R100). -/
theorem sampledMetric_reading (s : State) (x : Slot) (m : Metric) (reading : Nat) :
    SameReading (takeReading reading (x.filter m)) (sampledMetric s x m reading).record := by
  unfold sampledMetric
  dsimp only
  refine .result_ite ?_ ⟨rfl, rfl⟩
  unfold staged
  split
  · exact evaluate_reading ..
  · exact ⟨rfl, rfl⟩

theorem takeReading_missed (f : Filter) : takeReading 65535 f = { f with misses := min 255 (f.misses + 1) } := if_pos rfl

theorem takeReading_valid {reading : Nat} (h : reading ≠ 65535) (f : Filter) :
    takeReading reading f = { f with misses := 0, lastRaw := some reading } := if_neg h

/-- Every clause of a slot's tick that does not name its filters (R10, R97, R98). -/
theorem TickTaken.slot_rules {sensors : Vector SensorReading 48} {s v : State} {records : List StreamRecord}
    (h : TickTaken sensors s v records) (n : SlotId) :
    let u := streamTick records v
    let x := s.slot n
    let idle := x.state.inTest = true ∧ x.drift.lastForward + s.store.settings.idleTime * 1000 ≤ u.now
    SlotKeepsBut [.samples, .tallies, .idle, .testTicks, .lamps, .events, .notice] x (u.slot n)
      ∧ (u.slot n).drift.testTicks
          = (if x.testRunning = true then min 4294967295 (x.drift.testTicks + 1) else x.drift.testTicks)
      ∧ (u.slot n).drift.idleCount
          = (if x.lines.powered = true ∧ idle ∧ x.drift.idleCount ≠ 7 then x.drift.idleCount + 1 else 0)
      ∧ (x.lines.powered = false ∨ idle ∧ x.drift.idleCount ≠ 7 →
          SlotKeepsBut [.idle, .testTicks] x (u.slot n))
      ∧ (x.lines.powered = true → ¬(idle ∧ x.drift.idleCount ≠ 7) →
          (x.power.spindle = .spinningUp → (u.slot n).drift.deferral = true)
            ∧ (sensors[n].temp ≠ 65535 → (u.slot n).drift.temp.lastRaw = some sensors[n].temp.toNat)
            ∧ (sensors[n].temp = 65535 → (u.slot n).drift.temp.misses = min 255 (x.drift.temp.misses + 1))
            ∧ (x.tallies.accumulator ≠ 65535 → (u.slot n).drift.defr.lastRaw = some x.tallies.accumulator)) := by
  intro u x idle
  have ht := h.ticked n
  have hnow : (streamTick records v).now = (tickBegun s).now := h.now
  refine ⟨ht.slot, ht.ticks, ?_, fun hu => ht.undue (isDue_false.2 ?_), fun hp hi => ?_⟩
  · refine ht.idle.trans ((idleAfter_eq ..).trans ?_)
    refine if_congr ?_ rfl rfl
    rw [← hnow]
    rfl
  · rw [← hnow]
    exact hu
  · have hd := ht.due (isDue_true.2 (by rw [← hnow]; exact ⟨hp, hi⟩))
    have htemp := hd.metrics .temp (mem_dueMetrics.2 fun _ => .inl rfl)
    have hdefr := hd.metrics .defr (defr_mem_dueMetrics _)
    have hrt := sampledMetric_reading (tickBegun s) x .temp sensors[n].temp.toNat
    have hrd := sampledMetric_reading (tickBegun s) x .defr x.tallies.accumulator
    refine ⟨hd.deferral, fun hv => ?_, fun hv => ?_, fun hv => ?_⟩
    · have hv' : sensors[n].temp.toNat ≠ 65535 := fun h => hv (BitVec.eq_of_toNat_eq h)
      exact (congrArg Filter.lastRaw htemp.record).trans (hrt.1.trans (by rw [takeReading_valid hv']))
    · have hv' : sensors[n].temp.toNat = 65535 := by rw [hv]; rfl
      refine (congrArg Filter.misses htemp.record).trans (hrt.2.trans ?_)
      rw [hv', takeReading_missed]
      rfl
    · exact (congrArg Filter.lastRaw hdefr.record).trans (hrd.1.trans (by rw [takeReading_valid hv]))

/-- The halts of a metric while the test runs (R90, R115, R116). -/
theorem halted_eq (s : State) (x : Slot) (m : Metric) (h : x.testRunning = true) :
    (supplyHalt s || recoveryHalt x m)
      = (decide (s.power.supply ≠ .normal) || decide (x.state = .recovering ∧ (m = .curr ∨ m = .vibe))) := by
  rw [Bool.eq_iff_iff]
  simp [supplyHalt, recoveryHalt, h, and_comm]

/-- Settles O17: the tick is a walk over the slots, each of which touches its own record and the reports; the report and the
stream timer then leave the slots as they are. -/
theorem tickTaken : Obligations.TickTaken := by
  unfold Obligations.TickTaken
  refine ⟨fun sensors s => ?_, streamTick_rules, fun sensors s n => ?_⟩
  · obtain ⟨v, records, he, hv⟩ := execTick_ticked sensors s
    have h := tickTaken_of hv
    have hk := streamTick_keeps records v
    refine ⟨_, he, (h.keeps.mono (by simp)).trans (hk.toSlots.mono (by simp)), h.now, by rw [h.tickAt, h.now],
      ⟨v, records, rfl, h.keeps, ?_, fun r hr => ?_⟩, ?_, ?_, h.slot_rules⟩
    · rw [hv.listed]
      refine List.filter_congr fun m _ => ?_
      rw [isDue_eq, h.now]
      rfl
    · intro x y
      have hrec := hv.records r hr
      have hy : (streamTick records v).slot r.slot = v.slot r.slot := h.slots _
      have hrules := streamMetric_rules (hv.ticked r.slot (List.mem_finRange _))
      refine ⟨?_, fun m => ?_⟩
      · rw [hrec]
        exact congrArg Slot.state hy.symm
      · intro shown
        have hshown : shown = streamMetric x (v.slot r.slot) m := by
          dsimp only [shown]
          cases m <;> rw [hrec] <;> rfl
        rw [hshown]
        obtain ⟨h1, h2, h3, h4⟩ := hrules m
        have hym : y = v.slot r.slot := hy
        rw [hym]
        exact ⟨h1, h2, h3, fun _ => h4⟩
    · refine (congrArg Transit.calibrations h.transit).trans (hv.calibrations.trans (congrArg _ ?_))
      refine List.filter_congr fun m _ => ?_
      dsimp only
      rw [h.slots, calibrating_eq, calibrating_eq]
      rfl
    · exact (congrArg Transit.handOvers h.transit).trans hv.handOvers
  · intro x idle hp hi reading due taken halted w compared exceeds overdraws
    obtain ⟨v, records, he, hv⟩ := execTick_ticked sensors s
    have h := tickTaken_of hv
    have hd := (h.ticked n).due (isDue_true.2 ⟨hp, hi⟩)
    have hr : reading = readingOf sensors[n] x.tallies.accumulator := funext fun m => by cases m <;> rfl
    clear_value reading
    subst hr
    obtain ⟨h1, h2, h3, h4⟩ := hd.rules
    exact ⟨_, he, fun m hm => (hd.metrics m (mem_dueMetrics.2 hm)).rules (halted_eq (tickBegun s) x m),
      fun m hm => hd.others m (mt mem_dueMetrics.1 hm), h1, h2, h3, h4⟩

end Sys2Proof.Machine
end

section
/-! SUPPORT. The Identity Unit's computations: flags and peaks, the mismatch check, binding, and the rebinding in READY (R51 to
R54, R59). -/

namespace Sys2Proof.Machine

/-! ### The mismatch check -/

theorem foldl_min_spec (ps : List Nat) (p t : Nat) : t < ps.foldl min p ↔ t < p ∧ ∀ q ∈ ps, t < q := by
  induction ps generalizing p with
  | nil => simp
  | cons q ps ih =>
    rw [List.foldl_cons, ih]
    simp only [List.mem_cons, forall_eq_or_imp, Nat.lt_min, and_assoc]

/-- The smallest peak is above a figure exactly where there is a peak and all are (R54). -/
theorem smallestPeak_above (ps : List Nat) (t : Nat) :
    (∃ p, smallestPeak ps = some p ∧ t < p) ↔ ps ≠ [] ∧ ∀ p ∈ ps, t < p := by
  cases ps with
  | nil => simp [smallestPeak]
  | cons p ps => simp [smallestPeak, foldl_min_spec]

/-- Every effective peak that the record and an entry give is above the target (R54). -/
def Mismatch (s : State) (r : IdentityRecord) (m : Option ModelEntry) : Prop :=
  effectivePeaks r m ≠ [] ∧ ∀ p ∈ effectivePeaks r m, s.store.target < p

theorem powerMismatch_iff {s : State} {x : Slot} {r : IdentityRecord} (hr : x.identity.record = some r) :
    powerMismatch s x = true ↔ Mismatch s r (modelOf s x) := by
  unfold powerMismatch Mismatch
  rw [hr]
  cases modelOf s x with
  | none => simp [effectivePeaks]
  | some m =>
    rw [← smallestPeak_above]
    dsimp only
    cases smallestPeak (effectivePeaks r (some m)) with
    | none => simp
    | some p => simp

/-! ### The computation -/

/-- The identity of a slot after the computation against an entry (R52, R53). -/
def computedIdentity (m : Option ModelEntry) (r : IdentityRecord) (x : Slot) : SlotIdentity :=
  { x.identity with
    flags := identityFlags r m x.identity.flags
    peaks := if x.peaksHeld then x.identity.peaks else effectivePeaks r m
    pendingPeaks := if x.peaksHeld then some (effectivePeaks r m) else none }

theorem computeIdentity_slot_same {n : SlotId} {s : State} {r : IdentityRecord} (hr : (s.slot n).identity.record = some r) :
    (computeIdentity n s).slot n
      = { s.slot n with identity := computedIdentity (modelOf s (s.slot n)) r (s.slot n) } := by
  unfold computeIdentity
  rw [slot_modSlot_same]
  unfold computedIdentity
  simp only [hr]
  split <;> rfl

theorem computeIdentity_keeps (n : SlotId) (s : State) : KeepsBut [.slot n] s (computeIdentity n s) := modSlot_keeps ..

theorem computeIdentity_power (n : SlotId) (s : State) : ((computeIdentity n s).slot n).power = (s.slot n).power := by
  have h := computeIdentity_slot n s
  exact slotPower_ext (h.same .allocation (by simp)) (h.same .spindle (by simp))

theorem peaksHeld_iff (x : Slot) : x.peaksHeld = true ↔ x.power.spindle = .spinningUp ∨ x.power.held ≠ none := by
  unfold Slot.peaksHeld
  rw [Bool.or_eq_true, beq_iff_eq, Option.isSome_iff_ne_none]

/-! ### Binding -/

theorem bindSlot_models (n : SlotId) (i : Fin 16) (s : State) (j : Fin 16) :
    (bindSlot n i s).tables.models[j]
      = if j = i then { s.tables.models[i] with refCount := s.tables.models[i].refCount + 1 } else s.tables.models[j] := by
  unfold bindSlot
  rw [modSlot_tables, countReference_models]

theorem bindSlot_keeps (n : SlotId) (i : Fin 16) (s : State) : KeepsBut [.slot n, .models] s (bindSlot n i s) := by
  unfold bindSlot
  refine KeepsBut.trans ⟨fun g hg => ?_⟩ ((modSlot_keeps ..).mono (by simp))
  cases g <;> (simp_all [sameIn, countReference]; try rfl)

/-- The entry that a slot is bound to, with its reference counted. -/
theorem modelOf_bindSlot (n : SlotId) (i : Fin 16) (s : State) :
    modelOf (bindSlot n i s) ((bindSlot n i s).slot n)
      = some { s.tables.models[i] with refCount := s.tables.models[i].refCount + 1 } := by
  have h : (bindSlot n i s).tables.models[i] = _ := bindSlot_models n i s i
  rw [if_pos rfl] at h
  unfold modelOf
  rw [bindSlot_slot]
  exact congrArg some h

theorem unbindSlot_power (n : SlotId) (s : State) : ((unbindSlot n s).slot n) = { s.slot n with identity.model := none } := by
  unfold unbindSlot
  split
  · next h =>
    generalize s.slot n = x at *
    obtain ⟨_, _, ⟨⟩, _⟩ := x
    simp only at h
    subst h
    rfl
  · next i _ => exact slot_modSlot_same ..

/-! ### Requests of a capture -/

theorem captureQuarantine_sent {n : SlotId} {s : State} (r : QuarantineReason) (h : (s.slot n).state ≠ .grading) :
    captureQuarantine n r s = sendQuarantine n r s := if_neg h

theorem captureQuarantine_taken {n : SlotId} {s : State} (r : QuarantineReason) (h : (s.slot n).state = .grading) :
    captureQuarantine n r s = takeQuarantine n r s := if_pos h

/-- The check after a computation looks at the peaks computed (R54). -/
theorem powerMismatch_computed {n : SlotId} {s : State} {r : IdentityRecord} (hr : (s.slot n).identity.record = some r) :
    powerMismatch (computeIdentity n s) ((computeIdentity n s).slot n) = true ↔ Mismatch s r (modelOf s (s.slot n)) := by
  have hx := computeIdentity_slot_same hr
  have hk := computeIdentity_keeps n s
  generalize computeIdentity n s = t at *
  have hmo : modelOf t (t.slot n) = modelOf s (s.slot n) := by
    unfold modelOf
    rw [hx, (hk.same .models (by simp) : t.tables.models = s.tables.models)]
    rfl
  rw [powerMismatch_iff (r := r) (by rw [hx]; exact hr), hmo]
  unfold Mismatch
  rw [(hk.same .target (by simp) : t.store.target = s.store.target)]

/-- A computation with its check, outside GRADING: the request is sent exactly where the peaks are all above the target. -/
structure Checked (n : SlotId) (r : IdentityRecord) (m : Option ModelEntry) (s t : State) : Prop where
  keeps : KeepsBut [.slot n, .transit] s t
  slot : t.slot n = { s.slot n with identity := computedIdentity m r (s.slot n) }
  sends : Mismatch s r m → t.transit = { s.transit with quarantines := s.transit.quarantines ++ [(n, .powerMismatch)] }
  holds : ¬Mismatch s r m → t.transit = s.transit

theorem computeAndCheck_checked {n : SlotId} {s : State} {r : IdentityRecord} (hr : (s.slot n).identity.record = some r)
    (hg : (s.slot n).state ≠ .grading) : Checked n r (modelOf s (s.slot n)) s (computeAndCheck n s) := by
  have hx := computeIdentity_slot_same hr
  have hk := computeIdentity_keeps n s
  have hiff := powerMismatch_computed hr
  unfold computeAndCheck checkMismatch
  generalize computeIdentity n s = t at *
  have ht : t.transit = s.transit := hk.same .transit (by simp)
  split
  · next h =>
    rw [captureQuarantine_sent _ (by rw [hx]; exact hg)]
    refine ⟨(hk.mono (by simp)).trans ((sendQuarantine_keeps ..).mono (by simp)), by rw [sendQuarantine_slot]; exact hx,
      fun _ => by rw [sendQuarantine_transit, ht], fun h' => absurd (hiff.1 h) h'⟩
  · next h => exact ⟨hk.mono (by simp), hx, fun h' => absurd (hiff.2 h') h, fun _ => ht⟩

/-- A computation with its check, in GRADING: a mismatch is taken at once (R135). -/
theorem computeAndCheck_grading {n : SlotId} {s : State} {r : IdentityRecord} (hr : (s.slot n).identity.record = some r)
    (hg : (s.slot n).state = .grading) :
    (Mismatch s r (modelOf s (s.slot n)) → computeAndCheck n s = takeQuarantine n .powerMismatch (computeIdentity n s))
      ∧ (¬Mismatch s r (modelOf s (s.slot n)) → computeAndCheck n s = computeIdentity n s) := by
  have hx := computeIdentity_slot_same hr
  have hiff := powerMismatch_computed hr
  unfold computeAndCheck checkMismatch
  generalize computeIdentity n s = t at *
  refine ⟨fun h => ?_, fun h => if_neg (mt hiff.1 h)⟩
  rw [if_pos (hiff.2 h), captureQuarantine_taken _ (by rw [hx]; exact hg)]

end Sys2Proof.Machine
end

section
/-! SUPPORT. The rebinding in READY (R59). -/

namespace Sys2Proof.Machine

/-- A rebinding that stays with the entry bound: flags and peaks are computed and checked, and IDENTIFIED is raised. -/
structure Confirmed (n : SlotId) (r : IdentityRecord) (m : Option ModelEntry) (s t : State) : Prop where
  keeps : KeepsBut [.slot n, .transit, .partSet, .noticeQueue] s t
  slot : SlotKeepsBut [.identity, .events, .notice] (s.slot n) (t.slot n)
  identity : (t.slot n).identity = computedIdentity m r (s.slot n)
  power : (t.slot n).power = (s.slot n).power
  events : (t.slot n).events = (s.slot n).events ||| SlotEvent.identified.set
  sends : Mismatch s r m → t.transit = { s.transit with quarantines := s.transit.quarantines ++ [(n, .powerMismatch)] }
  holds : ¬Mismatch s r m → t.transit = s.transit

theorem Checked.confirmed {n : SlotId} {r : IdentityRecord} {m : Option ModelEntry} {s t : State} (h : Checked n r m s t) :
    Confirmed n r m s (raiseSlot n .identified t) := by
  have hk := raiseSlot_keeps n .identified t
  obtain ⟨v, hv⟩ := raiseSlot_slot n .identified t
  have ht : (raiseSlot n .identified t).transit = t.transit := hk.same .transit (by simp)
  generalize raiseSlot n .identified t = u at *
  rw [h.slot] at hv
  refine ⟨(h.keeps.mono (by simp)).trans (hk.mono (by simp)), ?_, ?_, ?_, ?_, fun hm => ht.trans (h.sends hm),
    fun hm => ht.trans (h.holds hm)⟩ <;> rw [hv]
  exact ⟨fun g hg => by cases g <;> simp_all [slotSameIn, computedIdentity]⟩

/-- A rebinding that fits, to another entry (R59). -/
structure Rebound (n : SlotId) (i : Fin 16) (a : Nat) (r : IdentityRecord) (s t : State) : Prop where
  keeps : KeepsBut [.slot n, .models, .passDue, .transit, .partSet, .noticeQueue] s t
  slot : SlotKeepsBut [.identity, .allocation, .events, .notice] (s.slot n) (t.slot n)
  identity : (t.slot n).identity = { computedIdentity (some s.tables.models[i]) r (s.slot n) with model := some i }
  power : (t.slot n).power = { (s.slot n).power with allocation := a }
  events : (t.slot n).events = (s.slot n).events ||| SlotEvent.identified.set
  bound : t.tables.models[i].refCount = s.tables.models[i].refCount + 1
  released : ∀ j, (s.slot n).identity.model = some j → t.tables.models[j].refCount = s.tables.models[j].refCount - 1
  falls : a < (s.slot n).power.allocation → t.power.passDue = true
  sends : Mismatch s r (some s.tables.models[i]) →
    t.transit = { s.transit with quarantines := s.transit.quarantines ++ [(n, .powerMismatch)] }
  holds : ¬Mismatch s r (some s.tables.models[i]) → t.transit = s.transit

theorem rebindTo_rebound {n : SlotId} {i : Fin 16} {r : IdentityRecord} {s : State} (a : Nat)
    (hr : (s.slot n).identity.record = some r) (hg : (s.slot n).state ≠ .grading) (hi : (s.slot n).identity.model ≠ some i) :
    Rebound n i a r s (rebindTo n i a s) := by
  unfold rebindTo
  dsimp only
  have hku := unbindSlot_keeps n s
  have hxu := unbindSlot_power n s
  have hmu := unbindSlot_models n s
  generalize unbindSlot n s = u at *
  have hkb := bindSlot_keeps n i u
  have hxb := bindSlot_slot n i u
  have hmb := bindSlot_models n i u
  have hob := modelOf_bindSlot n i u
  generalize bindSlot n i u = b at *
  have hui : u.tables.models[i] = s.tables.models[i] := by rw [hmu, if_neg hi]
  rw [hui] at hob
  rw [hxu] at hxb
  have hka := setAllocation_keeps n a b
  have hxa := setAllocation_slot_same n a b
  have hfall : a < (b.slot n).power.allocation → (setAllocation n a b).power.passDue = true := fun h => by
    simp [setAllocation, h]
  generalize setAllocation n a b = c at *
  rw [hxb] at hxa hfall
  have hoc : modelOf c (c.slot n) = modelOf b (b.slot n) := by
    unfold modelOf
    rw [hxa, hxb, (hka.same .models (by simp) : c.tables.models = b.tables.models)]
  have hmodels : c.tables.models = b.tables.models := hka.same .models (by simp)
  have hsc : KeepsBut [.slot n, .models, .passDue] s c := ((hku.mono (by simp)).trans (hkb.mono (by simp))).trans (hka.mono (by simp))
  have h := (computeAndCheck_checked (n := n) (s := c) (r := r) (by rw [hxa]; exact hr) (by rw [hxa]; exact hg)).confirmed
  rw [hoc, hob] at h
  generalize raiseSlot n .identified (computeAndCheck n c) = t at *
  have hct : c.transit = s.transit := hsc.same .transit (by simp)
  have hmis : Mismatch c r (some { s.tables.models[i] with refCount := s.tables.models[i].refCount + 1 })
      ↔ Mismatch s r (some s.tables.models[i]) := by
    unfold Mismatch
    rw [(hsc.same .target (by simp) : c.store.target = s.store.target)]
    rfl
  have htm : t.tables.models = b.tables.models := (h.keeps.same .models (by simp)).trans hmodels
  have hsx : SlotKeepsBut [.identity, .allocation] (s.slot n) (c.slot n) := by
    rw [hxa]
    exact ⟨fun g hg => by clear * - hg; cases g <;> simp_all [slotSameIn]⟩
  have hspin : (s.slot n).peaksHeld = (c.slot n).peaksHeld := by rw [hxa]; rfl
  refine ⟨(hsc.mono (by simp)).trans (h.keeps.mono (by simp)), (hsx.mono (by simp)).trans (h.slot.mono (by simp)), ?_, ?_,
    h.events.trans (by rw [hxa]), ?_, fun j hj => ?_, fun hf => ?_, fun hm => ?_, fun hm => ?_⟩
  · rw [h.identity, hxa]
    rfl
  · rw [h.power, hxa]
  · have hbi := hmb i
    rw [if_pos rfl, hui] at hbi
    rw [htm, hbi]
  · have hbj := hmb j
    have hij : j ≠ i := fun e => hi (e ▸ hj)
    rw [if_neg hij, hmu, if_pos hj] at hbj
    rw [htm, hbj]
  · rw [(h.keeps.same .passDue (by simp) : t.power.passDue = c.power.passDue)]
    exact hfall hf
  · rw [h.sends (hmis.2 hm), hct]
  · rw [h.holds (mt hmis.1 hm), hct]

/-- The frames that the way to UNMATCHED refuses (R59). -/
def unmatchedRefused (x : Slot) : List QueuedCmd := x.traffic.queue.filter fun q => !SlotState.accepts .unmatched q.cls

/-- A rebinding that fits, to no entry (R59): the slot is UNMATCHED at the allocation given. -/
structure Released (n : SlotId) (a : Nat) (r : IdentityRecord) (s t : State) : Prop where
  keeps : KeepsBut [.slot n, .responses, .models, .admission, .passDue, .partSet, .noticeQueue] s t
  slot : SlotKeepsBut [.state, .lamps, .identity, .allocation, .queue, .reserved, .events, .notice] (s.slot n) (t.slot n)
  state : (t.slot n).state = .unmatched
  lamps : LampsCurrent t n
  identity : (t.slot n).identity = { computedIdentity none r (s.slot n) with model := none }
  power : (t.slot n).power = { (s.slot n).power with allocation := a, reserveGranted := a }
  queue : (t.slot n).traffic.queue = (s.slot n).traffic.queue.filter fun q => SlotState.accepts .unmatched q.cls
  events : (t.slot n).events = (s.slot n).events ||| SlotEvent.unmatched.set
  responses : t.port.responses = s.port.responses
    ++ (unmatchedRefused (s.slot n)).map fun q => .partMade q.source (slotByte n) (BitVec.ofNat 8 q.tag) .notAccepting
  released : ∀ j, (s.slot n).identity.model = some j → t.tables.models[j].refCount = s.tables.models[j].refCount - 1

theorem shedQueue_spec (n : SlotId) (s : State) :
    KeepsBut [.slot n, .responses] s (shedQueue n s)
      ∧ (shedQueue n s).slot n
        = { s.slot n with traffic.queue := (s.slot n).traffic.queue.filter fun q => SlotState.accepts .unmatched q.cls }
      ∧ (shedQueue n s).port.responses = s.port.responses
        ++ (unmatchedRefused (s.slot n)).map fun q => .partMade q.source (slotByte n) (BitVec.ofNat 8 q.tag) .notAccepting := by
  unfold shedQueue unmatchedRefused
  dsimp only
  generalize (s.slot n).traffic.queue.filter (fun q => !SlotState.accepts .unmatched q.cls) = l
  have hr := answerAll_responses n .notAccepting l s
  have hx := answerAll_slot n .notAccepting l s n
  have hk := foldl_keeps (ch := [.responses]) (fun s (q : QueuedCmd) => answerPart q.source n q.tag .notAccepting s)
    (fun _ _ => answerPart_keeps ..) l s
  generalize l.foldl (fun s q => answerPart q.source n q.tag .notAccepting s) s = b at *
  refine ⟨(hk.mono (by simp)).trans ((modSlot_keeps ..).mono (by simp)), ?_, hr⟩
  rw [slot_modSlot_same, hx]

theorem withdrawHead_slot_same (n : SlotId) (s : State) :
    (withdrawHead n s).slot n = { s.slot n with traffic.reserved := none } := by
  unfold withdrawHead releaseReserved
  rw [slot_modSlot_same]
  split
  · rw [(leaveAdmission_keeps n s).slot_eq (m := n) (by simp)]
  · rfl

theorem rebindNone_released {n : SlotId} {r : IdentityRecord} {s : State} (a : Nat)
    (hr : (s.slot n).identity.record = some r) : Released n a r s (rebindNone n a s) := by
  unfold rebindNone
  dsimp only
  have hku := unbindSlot_keeps n s
  have hxu := unbindSlot_power n s
  have hmu := unbindSlot_models n s
  generalize unbindSlot n s = u at *
  have hka := setAllocation_keeps n a u
  have hxa := setAllocation_slot_same n a u
  generalize setAllocation n a u = b at *
  have hkc := modSlot_keeps n (fun x => { x with power.reserveGranted := a }) b
  have hxc := slot_modSlot_same b n (fun x => { x with power.reserveGranted := a })
  generalize modSlot n (fun x => { x with power.reserveGranted := a }) b = c at *
  rw [hxa, hxu] at hxc
  have hrc : (c.slot n).identity.record = some r := by rw [hxc]; exact hr
  have hoc : modelOf c (c.slot n) = none := by rw [hxc]; rfl
  have hkd := computeIdentity_keeps n c
  have hxd := computeIdentity_slot_same hrc
  rw [hoc] at hxd
  generalize computeIdentity n c = d at *
  have hke := withdrawHead_keeps n d
  have hxe := withdrawHead_slot_same n d
  generalize withdrawHead n d = e at *
  obtain ⟨hkf, hxf, hrf⟩ := shedQueue_spec n e
  generalize shedQueue n e = f at *
  have hkg := raiseSlot_keeps n .unmatched f
  obtain ⟨v, hxg⟩ := raiseSlot_slot n .unmatched f
  generalize raiseSlot n .unmatched f = g at *
  have hkh := setState_keeps n .unmatched g
  have hsh := setState_slot n .unmatched g
  have hlh := setState_lamps n .unmatched g
  have hsth := setState_slot_state n .unmatched g
  have hxh := setState_slot_same n .unmatched g
  generalize setState n .unmatched g = t at *
  rw [hxg, hxf, hxe, hxd, hxc] at hxh
  have hbefore : KeepsBut [.slot n, .models, .passDue] s d :=
    ((hku.mono (by simp)).trans (hka.mono (by simp))).trans ((hkc.mono (by simp)).trans (hkd.mono (by simp)))
  have hafter : KeepsBut [.slot n, .partSet, .noticeQueue] f t := (hkg.mono (by simp)).trans (hkh.mono (by simp))
  have hdf : KeepsBut [.slot n, .responses, .admission, .passDue] d f := (hke.mono (by simp)).trans (hkf.mono (by simp))
  have hqe : (e.slot n).traffic.queue = (s.slot n).traffic.queue := by rw [hxe, hxd, hxc]
  have hur : unmatchedRefused (e.slot n) = unmatchedRefused (s.slot n) := by
    unfold unmatchedRefused
    rw [hqe]
  refine ⟨((hbefore.mono (by simp)).trans (hdf.mono (by simp))).trans (hafter.mono (by simp)), ?_, hsth, hlh, ?_, ?_, ?_, ?_, ?_,
    fun j hj => ?_⟩
  · rw [hxh]
    exact ⟨fun g hg => by clear * - hg; cases g <;> simp_all [slotSameIn, computedIdentity, Slot.lampsOf]⟩
  · rw [hxh]
    rfl
  · rw [hxh]
    rfl
  · rw [hxh]
    rfl
  · rw [hxh]
    rfl
  · rw [(hafter.same .responses (by simp) : t.port.responses = f.port.responses), hrf, hur,
      (hke.same .responses (by simp) : e.port.responses = d.port.responses),
      (hbefore.same .responses (by simp) : d.port.responses = s.port.responses)]
  · have htu : t.tables.models = u.tables.models := (hafter.same .models (by simp)).trans ((hdf.same .models (by simp)).trans
      ((hkd.same .models (by simp)).trans ((hkc.same .models (by simp)).trans (hka.same .models (by simp)))))
    have hj' := hmu j
    rw [if_pos hj] at hj'
    rw [htu, hj']

/-! ### The cases of a rebinding -/

section
variable {n : SlotId} {s : State} {r : IdentityRecord} (hr : (s.slot n).identity.record = some r)
include hr

theorem rebind_none (hm : matchSearch s.tables.models r.model = none) :
    rebind n s = if fits s n s.store.settings.settleReserve then rebindNone n s.store.settings.settleReserve s
      else takeQuarantine n .powerMismatch s := by
  unfold rebind
  simp only [hr, hm]

theorem rebind_same {i : Fin 16} (hm : matchSearch s.tables.models r.model = some i) (hi : (s.slot n).identity.model = some i) :
    rebind n s = raiseSlot n .identified (computeAndCheck n s) := by
  unfold rebind
  simp only [hr, hm]
  exact if_pos hi

theorem rebind_other {i : Fin 16} (hm : matchSearch s.tables.models r.model = some i) (hi : (s.slot n).identity.model ≠ some i) :
    rebind n s = if fits s n (max 1 s.tables.models[i].standby) then rebindTo n i (max 1 s.tables.models[i].standby) s
      else takeQuarantine n .powerMismatch s := by
  unfold rebind
  simp only [hr, hm]
  exact if_neg hi

end

/-! ### The first binding -/

/-- What a first binding leaves before the slot enters READY, or GRADING (R7, R8, R55, R67). -/
structure FirstBound (n : SlotId) (i : Fin 16) (r : IdentityRecord) (s t : State) : Prop where
  keeps : KeepsBut [.slot n, .models, .passDue, .partSet, .noticeQueue] s t
  slot : SlotKeepsBut [.identity, .allocation, .events, .notice] (s.slot n) (t.slot n)
  identity : (t.slot n).identity = { computedIdentity (some s.tables.models[i]) r (s.slot n) with model := some i }
  power : ∃ a ≤ (s.slot n).power.allocation, (t.slot n).power = { (s.slot n).power with allocation := a }
  standby : (s.slot n).lines.powered = true → (s.slot n).power.spindle = .stopped → (s.slot n).power.held = none →
    (t.slot n).power.allocation = min (max 1 s.tables.models[i].standby) (s.slot n).power.allocation
  events : (t.slot n).events = (s.slot n).events ||| SlotEvent.identified.set
  bound : t.tables.models[i].refCount = s.tables.models[i].refCount + 1

/-- The state that a first binding leaves before the check decides (R54). -/
def firstBound (n : SlotId) (i : Fin 16) (s : State) : State :=
  raiseSlot n .identified (lowerAllocation n (computeIdentity n (bindSlot n i s)))

theorem firstBound_spec {n : SlotId} {r : IdentityRecord} {s : State} (i : Fin 16)
    (hr : (s.slot n).identity.record = some r) :
    FirstBound n i r s (firstBound n i s)
      ∧ (powerMismatch (firstBound n i s) ((firstBound n i s).slot n) = true ↔ Mismatch s r (some s.tables.models[i])) := by
  unfold firstBound
  have hkb := bindSlot_keeps n i s
  have hxb := bindSlot_slot n i s
  have hmb := bindSlot_models n i s i
  have hob := modelOf_bindSlot n i s
  generalize bindSlot n i s = b at *
  have hkc := computeIdentity_keeps n b
  have hxc := computeIdentity_slot_same (n := n) (s := b) (r := r) (by rw [hxb]; exact hr)
  generalize computeIdentity n b = c at *
  have hoc : modelOf c (c.slot n) = modelOf b (b.slot n) := by
    unfold modelOf
    rw [hxc, (hkc.same .models (by simp) : c.tables.models = b.tables.models)]
    rfl
  rw [hob, hxb] at hxc
  have hkd := lowerAllocation_keeps n c
  have hxd : (lowerAllocation n c).slot n
      = { c.slot n with power.allocation := min (stateFigure c (c.slot n)) (c.slot n).power.allocation } :=
    setAllocation_slot_same ..
  generalize hfig : stateFigure c (c.slot n) = fig at *
  generalize lowerAllocation n c = d at *
  have hke := raiseSlot_keeps n .identified d
  obtain ⟨v, hxe⟩ := raiseSlot_slot n .identified d
  generalize raiseSlot n .identified d = e at *
  have hme : e.tables.models = b.tables.models := (hke.same .models (by simp)).trans ((hkd.same .models (by simp)).trans
    (hkc.same .models (by simp)))
  have hoe : modelOf e (e.slot n) = modelOf c (c.slot n) := by
    unfold modelOf
    rw [hxe, hxd, hme, (hkc.same .models (by simp) : c.tables.models = b.tables.models)]
  rw [hxd] at hxe
  have hse : KeepsBut [.slot n, .models, .passDue, .partSet, .noticeQueue] s e :=
    ((hkb.mono (by simp)).trans (hkc.mono (by simp))).trans ((hkd.mono (by simp)).trans (hke.mono (by simp)))
  have hpow : (c.slot n).power = (s.slot n).power := by rw [hxc]
  have hlin : (c.slot n).lines = (s.slot n).lines := by rw [hxc]
  have hall : (e.slot n).power = { (s.slot n).power with allocation := min fig (s.slot n).power.allocation } := by
    rw [hxe, hxc]
  have hstandby : (s.slot n).lines.powered = true → (s.slot n).power.spindle = .stopped → (s.slot n).power.held = none →
      (e.slot n).power.allocation = min (max 1 s.tables.models[i].standby) (s.slot n).power.allocation := fun hp hs hh => by
    have hf : fig = max 1 s.tables.models[i].standby := by
      rw [← hfig]
      unfold stateFigure figureParts
      rw [hoc, hob, hpow, hlin, hp, hs, hh]
      simp
    rw [hall, hf]
  refine ⟨⟨hse, ?_, ?_, ⟨_, min_le_right fig _, hall⟩, hstandby, ?_, ?_⟩, ?_⟩
  · rw [hxe, hxc]
    exact ⟨fun g hg => by clear * - hg; cases g <;> simp_all [slotSameIn, computedIdentity]⟩
  · rw [hxe, hxc]
    rfl
  · rw [hxe, hxc]
  · rw [if_pos rfl] at hmb
    rw [hme, hmb]
  · rw [powerMismatch_iff (r := r) (by rw [hxe, hxc]; exact hr), hoe, hoc, hob]
    unfold Mismatch
    rw [(hse.same .target (by simp) : e.store.target = s.store.target)]
    rfl

theorem bindFirst_eq {n : SlotId} {r : IdentityRecord} {s : State} (i : Fin 16) (hr : (s.slot n).identity.record = some r) :
    (Mismatch s r (some s.tables.models[i]) → bindFirst n i s = takeQuarantine n .powerMismatch (firstBound n i s))
      ∧ (¬Mismatch s r (some s.tables.models[i]) → bindFirst n i s = setState n .ready (firstBound n i s)) := by
  have h := (firstBound_spec i hr).2
  exact ⟨fun hm => if_pos (h.2 hm), fun hm => if_neg (mt h.1 hm)⟩

end Sys2Proof.Machine
end

section
/-! SUPPORT. What serving a slot leaves of its power, and what a quarantine before GRADING leaves of a slot at rest. -/

namespace Sys2Proof.Machine

/-! ### The queue head and the power -/

/-- Forwarding an ungranted head moves the spindle only where a SPIN_DOWN finds it SPINNING (R31). -/
theorem forwardHead_handed {n : SlotId} {s : State} {q : QueuedCmd} {rest : List QueuedCmd} (k : Fin 4)
    (hq : (s.slot n).traffic.queue = q :: rest) (h : (s.slot n).power.spindle ≠ .spinning ∨ q.cls ≠ .spinDown) :
    forwardHead n k false s = handed n k false q rest s := by
  have hf : forwardHead n k false s =
      match q.cls with
      | .spinUp => handed n k false q rest s
      | .spinDown =>
        if (s.slot n).power.spindle = .spinning then setSpindle n .spinningDown (handed n k false q rest s)
        else handed n k false q rest s
      | .light | .heavy | .identify => handed n k false q rest s := by
    unfold forwardHead
    simp only [hq]
    rfl
  rw [hf]
  cases hc : q.cls with
  | spinDown => exact if_neg (h.resolve_right fun h' => h' hc)
  | spinUp | light | heavy | identify => rfl

theorem refuseHead_power (n : SlotId) (s : State) : ((refuseHead n s).slot n).power = (s.slot n).power :=
  slotPower_ext ((refuseHead_slot n s).same .allocation (by simp)) ((refuseHead_slot n s).same .spindle (by simp))

theorem requestHead_power (n : SlotId) (k : Fin 4) (c : CmdClass) (s : State) :
    ((requestHead n k c s).slot n).power = (s.slot n).power :=
  slotPower_ext ((requestHead_slot n k c s).same .allocation (by simp)) ((requestHead_slot n k c s).same .spindle (by simp))

/-- With the spindle at rest, or moving, the queue head changes nothing of the slot's power: its grants are still to come. -/
theorem considerHead_power {n : SlotId} (fuel : Nat) {s : State} (h : (s.slot n).power.spindle ≠ .spinning) :
    ((considerHead fuel n s).slot n).power = (s.slot n).power := by
  induction fuel generalizing s with
  | zero => rfl
  | succ fuel ih =>
    cases hs : (s.slot n).state.servesQueue with
    | false => rw [considerHead_idle _ (.inl hs)]
    | true =>
      cases hq : (s.slot n).traffic.queue with
      | nil => rw [considerHead_idle _ (.inr hq)]
      | cons q rest =>
        cases hd : decisionOn (s.slot n) q with
        | waits => rw [considerHead_waits fuel hs hq hd]
        | refuse =>
          rw [considerHead_refuses fuel hs hq hd, ih (by rw [refuseHead_power]; exact h), refuseHead_power]
        | forward =>
          cases hk : (s.slot n).freeEntry with
          | none => rw [considerHead_full fuel hs hq (by rw [hd]; simp) hk]
          | some k =>
            have hp : ((forwardHead n k false s).slot n).power = (s.slot n).power := by
              rw [forwardHead_handed k hq (.inl h), handed_slot]
            rw [considerHead_forwards fuel hs hq hd hk, ih (by rw [hp]; exact h), hp]
        | needsGrant =>
          cases hk : (s.slot n).freeEntry with
          | none => rw [considerHead_full fuel hs hq (by rw [hd]; simp) hk]
          | some k => rw [considerHead_asks fuel hs hq hd hk, requestHead_power]

/-- LIGHT and IDENTIFY are forwarded or wait: nothing is answered, asked for or moved. -/
theorem considerHead_plain {n : SlotId} (fuel : Nat) {s : State}
    (h : ∀ q ∈ (s.slot n).traffic.queue, q.cls = .light ∨ q.cls = .identify) :
    (considerHead fuel n s).port.responses = s.port.responses
      ∧ ((considerHead fuel n s).slot n).power = (s.slot n).power
      ∧ ∀ q ∈ ((considerHead fuel n s).slot n).traffic.queue, q ∈ (s.slot n).traffic.queue := by
  induction fuel generalizing s with
  | zero => exact ⟨rfl, rfl, fun _ => id⟩
  | succ fuel ih =>
    cases hs : (s.slot n).state.servesQueue with
    | false => rw [considerHead_idle _ (.inl hs)]; exact ⟨rfl, rfl, fun _ => id⟩
    | true =>
      cases hq : (s.slot n).traffic.queue with
      | nil => rw [considerHead_idle _ (.inr hq)]; exact ⟨rfl, rfl, by rw [hq]; exact fun _ => id⟩
      | cons q rest =>
        have hc := h q (by rw [hq]; exact List.mem_cons_self)
        have hd : decisionOn (s.slot n) q = .forward := decisionOn_forward q.cls rfl (by tauto)
        cases hk : (s.slot n).freeEntry with
        | none => rw [considerHead_full fuel hs hq (by rw [hd]; simp) hk]; exact ⟨rfl, rfl, by rw [hq]; exact fun _ => id⟩
        | some k =>
          rw [considerHead_forwards fuel hs hq hd hk]
          have hne : q.cls ≠ .spinDown := by obtain e | e := hc <;> rw [e] <;> simp
          have hf := forwardHead_handed k hq (.inr hne)
          have hx := handed_slot n k false q rest s
          have hkeep := handed_keeps n k false q rest s
          rw [hf]
          generalize handed n k false q rest s = t at *
          obtain ⟨h1, h2, h3⟩ := ih (s := t) fun p hp => h p (by
            rw [hx] at hp
            rw [hq]
            exact List.mem_cons_of_mem _ hp)
          refine ⟨h1.trans (hkeep.same .responses (by simp)), h2.trans (by rw [hx]), fun p hp => ?_⟩
          have h4 := h3 p hp
          rw [hx] at h4
          exact List.mem_cons_of_mem _ h4

/-- Serving a slot that has nothing listed and whose spindle is not SPINNING changes nothing of its power. -/
theorem serveSlot_power {n : SlotId} {s : State} (hi : (s.slot n).traffic.injections = [])
    (h : (s.slot n).power.spindle ≠ .spinning) : ((serveSlot n s).slot n).power = (s.slot n).power := by
  unfold serveSlot
  rw [serveInjections_of_quiet (.inl hi)]
  exact considerHead_power _ h

/-- Serving a slot whose queue holds only LIGHT and IDENTIFY answers nothing. -/
theorem serveSlot_plain {n : SlotId} {s : State} (h : ∀ q ∈ (s.slot n).traffic.queue, q.cls = .light ∨ q.cls = .identify) :
    (serveSlot n s).port.responses = s.port.responses
      ∧ ((s.slot n).traffic.injections = [] → ((serveSlot n s).slot n).power = (s.slot n).power)
      ∧ ∀ q ∈ ((serveSlot n s).slot n).traffic.queue, q.cls = .light ∨ q.cls = .identify := by
  have hk := serveInjections_keeps n s
  have hx : ((serveInjections n s).slot n).traffic.queue = (s.slot n).traffic.queue :=
    (serveInjections_slot n s).same .queue (by simp)
  obtain ⟨h1, h2, h3⟩ := considerHead_plain (n := n) (Config.slotQueueDepth + 1) (s := serveInjections n s) (by rw [hx]; exact h)
  refine ⟨h1.trans (hk.same .responses (by simp)), fun hi => h2.trans (by rw [serveInjections_of_quiet (.inl hi)]),
    fun q hq => h q ?_⟩
  rw [← hx]
  exact h3 q hq

/-! ### A quarantine of a slot at rest -/

theorem slotIdentity_ext {x y : Slot} (hi : slotSameIn x y .identity) (hm : slotSameIn x y .retryMark) : y.identity = x.identity := by
  obtain ⟨h1, h2, h3, h4, h5⟩ := hi
  have h6 : y.identity.retryMark = x.identity.retryMark := hm
  generalize y.identity = p at *
  generalize x.identity = q at *
  cases p; cases q
  simp_all

/-- A slot with no held grant and nothing listed leaves its test as it stands (R133). -/
theorem leaveTest_still {n : SlotId} {s : State} (hh : (s.slot n).power.held = none) (hi : (s.slot n).traffic.injections = [])
    (hr : (s.slot n).state ≠ .recovering) :
    ((leaveTest n s).slot n).power = (s.slot n).power ∧ ((leaveTest n s).slot n).identity = (s.slot n).identity
      ∧ ((leaveTest n s).slot n).traffic.injections = [] := by
  rw [leaveTest_eq, show ((s.slot n).state == .recovering) = false from beq_eq_false_iff_ne.2 hr]
  have ha := answerQueue_slot_same n .endOfTest s
  generalize answerQueue n .endOfTest s = a at *
  have hb := (dropAdmission_same n a).2
  generalize dropAdmission n a = b at *
  rw [ha] at hb
  have hl : lapseHeld n b = b := if_pos (by rw [hb]; simp [hh])
  rw [hl]
  have hu := slot_modSlot_same b n (fun x => { x with traffic.injections := x.traffic.injections.filter (·.cls != .identify) })
  change (unlist n .identify b).slot n = _ at hu
  generalize unlist n .identify b = c at *
  rw [slot_modSlot_same]
  change (c.slot n).power = _ ∧ (c.slot n).identity = _ ∧ (c.slot n).traffic.injections = []
  rw [hu, hb, hi]
  exact ⟨rfl, rfl, rfl⟩

theorem enterGrading_still {n : SlotId} {s : State} (hreason : (s.slot n).grading.reason ≠ none)
    (hh : (s.slot n).power.held = none) (hi : (s.slot n).traffic.injections = []) (hr : (s.slot n).state ≠ .recovering) :
    ((enterGrading n s).slot n).power = (s.slot n).power ∧ ((enterGrading n s).slot n).identity = (s.slot n).identity
      ∧ ((enterGrading n s).slot n).traffic.injections = [] := by
  rw [enterGrading_eq]
  obtain ⟨hp, hid, hinj⟩ := leaveTest_still hh hi hr
  have hg := (leaveTest_leftTest n s).grading
  generalize leaveTest n s = a at *
  have hx := setState_slot_same n .grading a
  have hst := setState_slot_state n .grading a
  generalize setState n .grading a = b at *
  have hgb : (b.slot n).grading = ⟨(s.slot n).grading.reason, .notDue, false, none⟩ := by rw [hx]; exact hg
  have hd := gradingProgress_drained hst (by rw [hgb])
  have hs := gradingProgress_slot n b
  have hdue : finalIdentifyDue (b.slot n) = false := by
    rw [← Bool.not_eq_true, finalIdentifyDue_iff, hgb]
    exact fun h => hreason h.1
  have hbinj : (b.slot n).traffic.injections = [] := by rw [hx]; exact hinj
  obtain ⟨htr, hpow, -, -⟩ := hd.quiet hdue (.inl hbinj)
  refine ⟨hpow.trans (by rw [hx]; exact hp), ?_, by rw [htr]; exact hbinj⟩
  have hidb : (b.slot n).identity = (s.slot n).identity := by rw [hx]; exact hid
  have h1 := hs.same .identity (by simp)
  have h2 := hs.same .retryMark (by simp)
  exact (slotIdentity_ext h1 h2).trans hidb

end Sys2Proof.Machine
end

section
/-! REMATCH (R8, R58, R59, R170). -/

namespace Sys2Proof.Machine

/-- What a quarantine taken before GRADING leaves of the slot's identity, its reports and, at rest, its power (R15, R133). -/
structure QuarantinedEarly (n : SlotId) (r : QuarantineReason) (s t : State) : Prop where
  keeps : KeepsBut [.slot n, .responses, .admission, .passDue, .sent, .transit, .partSet, .noticeQueue] s t
  identity : SameIdentity (s.slot n) (t.slot n)
  events : ∀ i, (s.slot n).events.getLsbD i = true → (t.slot n).events.getLsbD i = true
  reports : t.transit.quarantines = s.transit.quarantines ∧ t.transit.calibrations = s.transit.calibrations
  taken : (s.slot n).grading.reason = none → (t.slot n).state = .grading ∧ (t.slot n).grading.reason = some r
  discarded : (s.slot n).grading.reason ≠ none → t = s
  still : (s.slot n).power.held = none → (s.slot n).traffic.injections = [] → (s.slot n).state ≠ .recovering →
    (t.slot n).power = (s.slot n).power ∧ (t.slot n).identity = (s.slot n).identity ∧ (t.slot n).traffic.injections = []

theorem EnteredGrading.reports {n : SlotId} {s t : State} (h : EnteredGrading n s t) :
    t.transit.quarantines = s.transit.quarantines ∧ t.transit.calibrations = s.transit.calibrations := by
  cases hg : gradePoint (t.slot n) with
  | true => rw [h.sends hg]; exact ⟨rfl, rfl⟩
  | false => rw [h.holds hg]; exact ⟨rfl, rfl⟩

theorem takeQuarantine_quarantinedEarly {n : SlotId} {s : State} (r : QuarantineReason)
    (h : (s.slot n).state.beforeGrading = true) : QuarantinedEarly n r s (takeQuarantine n r s) := by
  by_cases hr : (s.slot n).grading.reason = none
  · obtain ⟨-, hid⟩ := takeQuarantine_before r h
    rw [takeQuarantine_early r h hr] at hid ⊢
    obtain ⟨hk, hx, hrec, hev, -⟩ := recordReason_spec n r s
    generalize recordReason n r s = a at *
    have he := enterGrading_entered n a
    have hstill := enterGrading_still (n := n) (s := a) (by rw [hrec]; simp)
    have hta : a.transit = s.transit := hk.same .transit (by simp)
    generalize enterGrading n a = t at *
    refine ⟨(hk.mono (by simp)).trans (he.keeps.mono (by simp)), hid, fun i hi => ?_, ?_, fun _ => ⟨he.state, ?_⟩,
      fun h' => absurd hr h', fun hh hi hs => ?_⟩
    · rw [(he.slot.same .events (by simp) : _ = (a.slot n).events), hev, BitVec.getLsbD_or, hi, Bool.true_or]
    · rw [← hta]
      exact he.reports
    · exact (he.slot.same .reason (by simp)).trans hrec
    · have hap : (a.slot n).power = (s.slot n).power :=
        slotPower_ext (hx.same .allocation (by simp)) (hx.same .spindle (by simp))
      have hai : (a.slot n).identity = (s.slot n).identity :=
        slotIdentity_ext (hx.same .identity (by simp)) (hx.same .retryMark (by simp))
      obtain ⟨h1, h2, h3⟩ := hstill (by rw [hap]; exact hh) ((hx.same .injections (by simp)).trans hi)
        (by rw [(hx.same .state (by simp) : _ = (s.slot n).state)]; exact hs)
      exact ⟨h1.trans hap, h2.trans hai, h3⟩
  · rw [takeQuarantine_discarded r (.inr (.inr hr))]
    exact ⟨.refl .., ⟨rfl, rfl, rfl⟩, fun _ => id, ⟨rfl, rfl⟩, fun h' => absurd h' hr, fun _ => rfl, fun _ hi _ => ⟨rfl, rfl, hi⟩⟩

/-! ### The effect of REMATCH -/

theorem exec_rematch {s : State} {q : QueuedRequest} {rest : List QueuedRequest} {n : SlotId} (hs : Serves s q rest 0x10)
    (ho : q.operands = [slotByte n]) : exec .rematch s = .next (finish (rematch q n (s.taken rest))) :=
  congrArg Host.Outcome.next (serveKind_of_slot hs ho)

theorem rematch_unmatched {q : QueuedRequest} {n : SlotId} {s : State} (h : (s.slot n).state = .unmatched) :
    rematch q n s = (rematchUnmatched n s).replied q .ok .none
      (.rematch ((rematchUnmatched n s).slot n).identity.model ((rematchUnmatched n s).slot n).state) := by
  unfold rematch
  dsimp only
  rw [if_pos (.inl h), if_pos h, answerOk_eq]

theorem rebindable_iff {x : Slot} : x.rebindable = true ↔ x.state = .ready ∧ x.power.spindle = .stopped
    ∧ x.heavyInFlight = false ∧ x.spinUpInFlight = false := by
  simp [Slot.rebindable, and_assoc]

theorem rematch_ready {q : QueuedRequest} {n : SlotId} {s : State} (h : (s.slot n).rebindable = true) :
    rematch q n s = (rematchReady n s).replied q .ok .none
      (.rematch ((rematchReady n s).slot n).identity.model ((rematchReady n s).slot n).state) := by
  have hu : (s.slot n).state ≠ .unmatched := by
    rw [(rebindable_iff.1 h).1]
    simp
  unfold rematch
  dsimp only
  rw [if_pos (.inr h), if_neg hu, answerOk_eq]

theorem rematchUnmatched_none {n : SlotId} {s : State} {r : IdentityRecord} (hr : (s.slot n).identity.record = some r)
    (hm : matchSearch s.tables.models r.model = none) : rematchUnmatched n s = s := by
  unfold rematchUnmatched
  simp only [hr, hm]

theorem rematchUnmatched_some {n : SlotId} {s : State} {r : IdentityRecord} {i : Fin 16} (hr : (s.slot n).identity.record = some r)
    (hm : matchSearch s.tables.models r.model = some i) : rematchUnmatched n s = bindFirst n i s := by
  unfold rematchUnmatched
  simp only [hr, hm]

theorem rematchReady_other {n : SlotId} {s : State} (h : ((rebind n s).slot n).state ≠ .unmatched) :
    rematchReady n s = rebind n s := if_neg h

theorem rematchReady_unmatched {n : SlotId} {s : State} (h : ((rebind n s).slot n).state = .unmatched) :
    rematchReady n s = serveSlot n (rebind n s) := if_pos h

/-- What a first binding leaves once the check has decided (R7, R8, R54). -/
structure BoundFirst (n : SlotId) (i : Fin 16) (r : IdentityRecord) (s t : State) : Prop where
  keeps : KeepsBut [.slot n, .models, .responses, .admission, .passDue, .sent, .transit, .partSet, .noticeQueue] s t
  record : (t.slot n).identity.record = some r
  model : (t.slot n).identity.model = some i
  flags : (t.slot n).identity.flags = identityFlags r (some s.tables.models[i]) (s.slot n).identity.flags
  bound : t.tables.models[i].refCount = s.tables.models[i].refCount + 1
  events : (t.slot n).events.getLsbD 3 = true
  quarantines : t.transit.quarantines = s.transit.quarantines
  mismatched : Mismatch s r (some s.tables.models[i]) → (s.slot n).grading.reason = none →
    (t.slot n).state = .grading ∧ (t.slot n).grading.reason = some .powerMismatch
  ready : ¬Mismatch s r (some s.tables.models[i]) → (t.slot n).state = .ready
    ∧ KeepsBut [.slot n, .models, .passDue, .partSet, .noticeQueue] s t
    ∧ SlotKeepsBut [.state, .lamps, .identity, .allocation, .events, .notice] (s.slot n) (t.slot n)
  falls : (¬Mismatch s r (some s.tables.models[i]) ∨ (s.slot n).power.held = none ∧ (s.slot n).traffic.injections = []) →
    ∃ a ≤ (s.slot n).power.allocation, (t.slot n).power = { (s.slot n).power with allocation := a }
  still : (s.slot n).lines.powered = true → (s.slot n).power.spindle = .stopped → (s.slot n).power.held = none →
    (s.slot n).traffic.injections = [] →
    (t.slot n).identity.peaks = effectivePeaks r (some s.tables.models[i])
      ∧ (t.slot n).power.allocation = min (max 1 s.tables.models[i].standby) (s.slot n).power.allocation
      ∧ (t.slot n).traffic.injections = []

theorem bindFirst_bound {n : SlotId} {r : IdentityRecord} {s : State} (i : Fin 16)
    (hr : (s.slot n).identity.record = some r) (hs : (s.slot n).state = .identifying ∨ (s.slot n).state = .unmatched) :
    BoundFirst n i r s (bindFirst n i s) := by
  obtain ⟨hb, -⟩ := firstBound_spec i hr
  obtain ⟨hmis, hok⟩ := bindFirst_eq i hr
  generalize firstBound n i s = b at *
  have hbs : (b.slot n).state = (s.slot n).state := hb.slot.same .state (by simp)
  have hbit : (b.slot n).events.getLsbD 3 = true := by
    rw [hb.events, BitVec.getLsbD_or, show SlotEvent.identified.set.getLsbD 3 = true by decide, Bool.or_true]
  have hpeaks : (s.slot n).power.spindle = .stopped → (s.slot n).power.held = none →
      (b.slot n).identity.peaks = effectivePeaks r (some s.tables.models[i]) := fun h1 h2 => by
    rw [hb.identity]
    refine if_neg ?_
    rw [peaksHeld_iff, h1, h2]
    simp
  obtain ⟨al, hal, hpow⟩ := hb.power
  by_cases hm : Mismatch s r (some s.tables.models[i])
  · rw [hmis hm]
    have hq := takeQuarantine_quarantinedEarly (n := n) (s := b) .powerMismatch (by rw [hbs]; obtain h | h := hs <;> rw [h] <;> rfl)
    generalize takeQuarantine n .powerMismatch b = t at *
    obtain ⟨i1, i2, i3⟩ := hq.identity
    have hnr : (b.slot n).state ≠ .recovering := by rw [hbs]; obtain h | h := hs <;> rw [h] <;> simp
    have hheld : (s.slot n).power.held = none → (b.slot n).power.held = none := fun h => by rw [hpow]; exact h
    have hinj : (s.slot n).traffic.injections = [] → (b.slot n).traffic.injections = [] := fun h =>
      (hb.slot.same .injections (by simp)).trans h
    refine ⟨(hb.keeps.mono (by simp)).trans (hq.keeps.mono (by simp)), by rw [i1, hb.identity]; exact hr, by rw [i2, hb.identity],
      by rw [i3, hb.identity]; rfl, ?_, hq.events 3 hbit,
      hq.reports.1.trans (congrArg Transit.quarantines (hb.keeps.same .transit (by simp))),
      fun _ h => hq.taken ((hb.slot.same .reason (by simp)).trans h), fun h => absurd hm h, fun h => ?_, fun hp h1 h2 h3 => ?_⟩
    · rw [(hq.keeps.same .models (by simp) : t.tables.models = b.tables.models)]
      exact hb.bound
    · obtain ⟨h2, h3⟩ := h.resolve_left fun h' => h' hm
      exact ⟨al, hal, by rw [(hq.still (hheld h2) (hinj h3) hnr).1]; exact hpow⟩
    · obtain ⟨q1, q2, q3⟩ := hq.still (hheld h2) (hinj h3) hnr
      exact ⟨by rw [q2]; exact hpeaks h1 h2, by rw [q1]; exact hb.standby hp h1 h2, q3⟩
  · rw [hok hm]
    have hk := setState_keeps n .ready b
    have hx := setState_slot n .ready b
    have hst := setState_slot_state n .ready b
    have hxs := setState_slot_same n .ready b
    generalize setState n .ready b = t at *
    have hid : (t.slot n).identity = (b.slot n).identity := by rw [hxs]; rfl
    have hp' : (t.slot n).power = (b.slot n).power := by rw [hxs]; rfl
    have hkt := hb.keeps.trans (hk.mono (by simp))
    refine ⟨hkt.mono (by simp), by rw [hid, hb.identity]; exact hr, by rw [hid, hb.identity], by rw [hid, hb.identity]; rfl, ?_, ?_,
      congrArg Transit.quarantines (hkt.same .transit (by simp)), fun h => absurd h hm,
      fun _ => ⟨hst, hkt, (hb.slot.mono (by simp)).trans (hx.mono (by simp))⟩, fun _ => ⟨al, hal, hp'.trans hpow⟩,
      fun hp h1 h2 h3 => ⟨by rw [hid]; exact hpeaks h1 h2, by rw [hp']; exact hb.standby hp h1 h2,
        (hx.same .injections (by simp)).trans ((hb.slot.same .injections (by simp)).trans h3)⟩⟩
    · rw [(hk.same .models (by simp) : t.tables.models = b.tables.models)]
      exact hb.bound
    · rw [(hx.same .events (by simp) : _ = (b.slot n).events)]
      exact hbit

/-! ### The obligation -/

theorem KeepsBut.port {ch : List Group} {s t : State} (h : KeepsBut ch s t) (hq : .requests ∉ ch) (hr : .replies ∉ ch)
    (hp : .responses ∉ ch) (hs : .stream ∉ ch) (ht : .transmitter ∉ ch) (hc : .counters ∉ ch) (ha : .resetAwaits ∉ ch) :
    t.port = s.port := by
  have h1 : t.port.requests = s.port.requests := h.same .requests hq
  have h2 : t.port.replies = s.port.replies := h.same .replies hr
  have h3 : t.port.responses = s.port.responses := h.same .responses hp
  have h4 : t.port.stream = s.port.stream := h.same .stream hs
  have h5 : t.port.transmitting = s.port.transmitting := h.same .transmitter ht
  obtain ⟨h6, h7, h8, h9⟩ := h.same .counters hc
  have h10 : t.port.resetAwaits = s.port.resetAwaits := h.same .resetAwaits ha
  generalize t.port = p at *
  generalize s.port = q at *
  cases p; cases q
  simp_all

theorem rematchReady_quarantined {n : SlotId} {s : State} (hs : (s.slot n).state = .ready)
    (h : rebind n s = takeQuarantine n .powerMismatch s) : rematchReady n s = takeQuarantine n .powerMismatch s := by
  rw [rematchReady_other, h]
  rw [h]
  have hq := takeQuarantine_quarantinedEarly (n := n) (s := s) .powerMismatch (by rw [hs]; rfl)
  by_cases hr : (s.slot n).grading.reason = none
  · rw [(hq.taken hr).1]
    simp
  · rw [hq.discarded hr, hs]
    simp

/-- The frames that UNMATCHED keeps are those of the two classes it accepts (R8). -/
theorem accepts_unmatched (c : CmdClass) : SlotState.accepts .unmatched c = (decide (c = .light) || decide (c = .identify)) := by
  cases c <;> rfl

/-- Settles O39: a search binds, rebinds, releases or quarantines, and each of these is a reading of the rebinding's own rule. -/
theorem rematchTaken : Obligations.Rematch := by
  unfold Obligations.Rematch
  refine ⟨fun s q rest n r hs ho hr => ⟨fun hu => ⟨fun hm => ?_, fun i hm => ?_⟩, fun hst hsp hh hup i hm hi => ?_⟩,
    fun s q rest n r old hs ho hr hold hst hsp hh hup => ?_⟩
  · rw [exec_rematch hs ho, rematch_unmatched (by exact hu), rematchUnmatched_none (by exact hr) (by exact hm)]
    exact congrArg (fun st => Host.Outcome.next (finish ((s.taken rest).replied q .ok .none (.rematch (s.slot n).identity.model st)))) hu
  · have hb := bindFirst_bound (n := n) (s := s.taken rest) i hr (.inr hu)
    have he := exec_rematch hs ho
    rw [rematch_unmatched (by exact hu), rematchUnmatched_some (s := s.taken rest) hr hm] at he
    generalize bindFirst n i (s.taken rest) = t at *
    refine ⟨_, he, hb.model, hb.record, hb.events, hb.bound, ?_, hb.flags, fun h => ?_, hb.mismatched, fun h1 h2 h3 h4 => ?_⟩
    · refine (congrArg (· ++ _) (hb.keeps.same .replies (by simp) : t.port.replies = s.port.replies)).trans ?_
      rw [hb.model]
      rfl
    · obtain ⟨h1, h2, h3⟩ := hb.ready h
      refine ⟨h1, h3.same .reason (by simp), ?_, h3⟩
      exact ((taken_keeps rest s).mono (by simp)).trans ((h2.mono (by simp)).trans ((replied_keeps ..).mono (by simp)))
    · obtain ⟨h5, h6, -⟩ := hb.still h1 h2 h3 h4
      exact ⟨h5, h6⟩
  · have hreb : ((s.taken rest).slot n).rebindable = true := rebindable_iff.2 ⟨hst, hsp, hh, hup⟩
    have he := exec_rematch hs ho
    have hb := rebind_same (n := n) (s := s.taken rest) hr hm hi
    have hc := (computeAndCheck_checked (n := n) (s := s.taken rest) hr (by rw [taken_slot, hst]; simp)).confirmed
    rw [← hb] at hc
    have hbs : ((rebind n (s.taken rest)).slot n).state = .ready := (hc.slot.same .state (by simp)).trans hst
    rw [rematch_ready hreb, rematchReady_other (by rw [hbs]; simp)] at he
    generalize rebind n (s.taken rest) = t at *
    have hmod : (t.slot n).identity.model = some i := by rw [hc.identity]; exact hi
    refine ⟨_, he, ?_, hc.slot, hmod, ?_, ?_⟩
    · exact ((taken_keeps rest s).mono (by simp)).trans ((hc.keeps.mono (by simp)).trans ((replied_keeps ..).mono (by simp)))
    · rw [replied_slot, hc.events, BitVec.getLsbD_or, show SlotEvent.identified.set.getLsbD 3 = true by decide, Bool.or_true]
    · have hport : t.port = (s.taken rest).port :=
        hc.keeps.port (by simp) (by simp) (by simp) (by simp) (by simp) (by simp) (by simp)
      rw [hmod, hbs]
      unfold State.replied
      rw [hport]
  · have hreb : ((s.taken rest).slot n).rebindable = true := rebindable_iff.2 ⟨hst, hsp, hh, hup⟩
    have he := exec_rematch hs ho
    rw [rematch_ready hreb] at he
    intro x stays reply
    have hstays : rebind n (s.taken rest) = takeQuarantine n .powerMismatch (s.taken rest) → stays := fun h => by
      rw [rematchReady_quarantined (by exact hst) h] at he
      have hq := takeQuarantine_quarantinedEarly (n := n) (s := s.taken rest) .powerMismatch (by rw [taken_slot, hst]; rfl)
      refine he.trans ?_
      rw [hq.identity.2.1, taken_slot, hold]
    refine ⟨fun i hm hne => ?_, fun hm => ?_⟩
    · intro a peaks mismatch
      have hi : ((s.taken rest).slot n).identity.model ≠ some i := by
        rw [taken_slot, hold]
        exact fun h => hne (Option.some.inj h).symm
      have hb := rebind_other (n := n) (s := s.taken rest) hr hm hi
      refine ⟨fun hf => hstays (hb.trans (if_neg ?_)), fun hf => ?_⟩
      · rw [Bool.not_eq_true]
        exact hf
      · have hb' : rebind n (s.taken rest) = rebindTo n i a (s.taken rest) := hb.trans (if_pos hf)
        have hR := rebindTo_rebound (n := n) (s := s.taken rest) a hr (by rw [taken_slot, hst]; simp) hi
        rw [← hb'] at hR
        have hbs : ((rebind n (s.taken rest)).slot n).state = .ready := (hR.slot.same .state (by simp)).trans hst
        rw [rematchReady_other (by rw [hbs]; simp)] at he
        generalize rebind n (s.taken rest) = t at *
        have hmod : (t.slot n).identity.model = some i := by rw [hR.identity]
        refine ⟨_, he, ?_, hR.slot, by rw [replied_slot, hR.identity]; exact hr, hmod, by rw [replied_slot, hR.power], hR.events, hR.bound,
          hR.released old hold, ?_, hR.falls, fun h => ?_, fun h => ?_⟩
        · exact ((taken_keeps rest s).mono (by simp)).trans ((hR.keeps.mono (by simp)).trans ((replied_keeps ..).mono (by simp)))
        · refine (congrArg (· ++ _) (hR.keeps.same .replies (by simp) : t.port.replies = s.port.replies)).trans ?_
          rw [hmod, hbs]
          rfl
        · exact congrArg Transit.quarantines (hR.sends h)
        · exact congrArg Transit.quarantines (hR.holds h)
    · intro a kept
      have hb := rebind_none (n := n) (s := s.taken rest) hr hm
      refine ⟨fun hf => hstays (hb.trans (if_neg ?_)), fun hf => ?_⟩
      · rw [Bool.not_eq_true]
        exact hf
      · have hb' : rebind n (s.taken rest) = rebindNone n a (s.taken rest) := hb.trans (if_pos hf)
        have hR := rebindNone_released (n := n) (s := s.taken rest) a hr
        rw [← hb'] at hR
        rw [rematchReady_unmatched hR.state] at he
        generalize rebind n (s.taken rest) = t at *
        have hplain : ∀ c ∈ (t.slot n).traffic.queue, c.cls = .light ∨ c.cls = .identify := fun c hc => by
          rw [hR.queue, List.mem_filter, accepts_unmatched] at hc
          simpa using hc.2
        obtain ⟨p1, p2, -⟩ := serveSlot_plain hplain
        have hk := serveSlot_keeps n t
        have hx := serveSlot_slot n t
        generalize serveSlot n t = u at *
        have hmod : (u.slot n).identity = (t.slot n).identity :=
          slotIdentity_ext (hx.same .identity (by simp)) (hx.same .retryMark (by simp))
        have hus : (u.slot n).state = .unmatched := (hx.same .state (by simp)).trans hR.state
        refine ⟨_, he, ?_, hus, ?_, by rw [replied_slot, hmod, hR.identity]; exact hr, by rw [replied_slot, hmod, hR.identity],
          fun h1 h2 => ?_, fun h => ?_, (hx.same .events (by simp)).trans hR.events, ?_, ?_, ?_⟩
        · exact ((taken_keeps rest s).mono (by simp)).trans ((hR.keeps.mono (by simp)).trans
            ((hk.mono (by simp)).trans ((replied_keeps ..).mono (by simp))))
        · exact hR.lamps.of_slot ((hk.mono (ch' := [.replies, .slot n, .responses, .admission, .passDue, .sent]) (by simp)).trans
            ((replied_keeps ..).mono (by simp))) hx
            (by simp) (by simp) (by simp) (by simp)
        · rw [replied_slot, hmod, hR.identity]
          refine if_neg ?_
          rw [peaksHeld_iff, taken_slot, hsp, h1]
          simp
        · have hi : (t.slot n).traffic.injections = [] := (hR.slot.same .injections (by simp)).trans h
          rw [replied_slot, p2 hi, hR.power]
        · exact (congrArg (fun m : Vector ModelEntry 16 => m[old].refCount) (hk.same .models (by simp))).trans (hR.released old hold)
        · refine p1.trans (hR.responses.trans ?_)
          have hkept : (fun c : QueuedCmd => !SlotState.accepts .unmatched c.cls) = fun c => !kept c :=
            funext fun c => by rw [accepts_unmatched]
          unfold unmatchedRefused
          rw [hkept]
          rfl
        · refine (congrArg (· ++ _) ((hk.same .replies (by simp)).trans (hR.keeps.same .replies (by simp)) :
            u.port.replies = s.port.replies)).trans ?_
          rw [hus, hmod, hR.identity]

end Sys2Proof.Machine
end

section
/-! SUPPORT. Nothing but a grant or a rebinding raises an allocation (R67). -/

namespace Sys2Proof.Machine

/-- Slot n's allocation is no higher than it was. -/
def NoRise (n : SlotId) (s t : State) : Prop := (t.slot n).power.allocation ≤ (s.slot n).power.allocation

theorem NoRise.trans {n : SlotId} {s t u : State} (h : NoRise n s t) (h' : NoRise n t u) : NoRise n s u := Nat.le_trans h' h

theorem NoRise.of_slot {n : SlotId} {s t : State} (h : t.slot n = s.slot n) : NoRise n s t := by rw [NoRise, h]

theorem NoRise.of_keeps {n : SlotId} {ch : List SlotGroup} {s t : State} (h : SlotKeepsBut ch (s.slot n) (t.slot n))
    (hc : .allocation ∉ ch) : NoRise n s t := le_of_eq (h.same .allocation hc).1

theorem setSpindle_noRise (n : SlotId) (sp : Spindle) (s : State) : NoRise n s (setSpindle n sp s) := by
  obtain ⟨a, ha, h⟩ := setSpindle_power n sp s
  rw [NoRise, h]
  exact ha

theorem sendInjection_noRise (n : SlotId) (k : Fin 4) (i : Injection) (s : State) : NoRise n s (sendInjection n k i s) := by
  have hl : NoRise n s (launch n k i s) := by
    rw [NoRise, launch_slot]
    unfold beforeSending
    split <;> exact le_rfl
  obtain ⟨h, -⟩ | h := sendInjection_cases n k i s <;> rw [h]
  · exact hl
  · exact hl.trans (setSpindle_noRise ..)

theorem serveInjections_noRise (n : SlotId) (s : State) : NoRise n s (serveInjections n s) := by
  obtain ⟨h, -⟩ | ⟨i, rest, k, -, -, -, -, h⟩ := serveInjections_cases n s <;> rw [h]
  · exact .of_slot rfl
  · exact sendInjection_noRise ..

theorem considerHead_noRise (fuel : Nat) (n : SlotId) (s : State) : NoRise n s (considerHead fuel n s) := by
  induction fuel generalizing s with
  | zero => exact .of_slot rfl
  | succ fuel ih =>
    cases hs : (s.slot n).state.servesQueue with
    | false => rw [considerHead_idle _ (.inl hs)]; exact .of_slot rfl
    | true =>
      cases hq : (s.slot n).traffic.queue with
      | nil => rw [considerHead_idle _ (.inr hq)]; exact .of_slot rfl
      | cons q rest =>
        cases hd : decisionOn (s.slot n) q with
        | waits => rw [considerHead_waits fuel hs hq hd]; exact .of_slot rfl
        | refuse =>
          rw [considerHead_refuses fuel hs hq hd]
          exact NoRise.trans (le_of_eq (by rw [refuseHead_power])) (ih _)
        | forward =>
          cases hk : (s.slot n).freeEntry with
          | none => rw [considerHead_full fuel hs hq (by rw [hd]; simp) hk]; exact .of_slot rfl
          | some k =>
            rw [considerHead_forwards fuel hs hq hd hk]
            obtain ⟨a, ha, h⟩ := (forwardHead_forwarded k false hq).power
            refine NoRise.trans ?_ (ih _)
            rw [NoRise, h]
            exact ha
        | needsGrant =>
          cases hk : (s.slot n).freeEntry with
          | none => rw [considerHead_full fuel hs hq (by rw [hd]; simp) hk]; exact .of_slot rfl
          | some k =>
            rw [considerHead_asks fuel hs hq hd hk]
            exact le_of_eq (by rw [requestHead_power])

theorem serveSlot_noRise (n : SlotId) (s : State) : NoRise n s (serveSlot n s) :=
  (serveInjections_noRise n s).trans (considerHead_noRise ..)

theorem gradingProgress_noRise (n : SlotId) (s : State) : NoRise n s (gradingProgress n s) := by
  by_cases hs : (s.slot n).state = .grading
  · cases ho : (s.slot n).grading.handedOver with
    | true => rw [gradingProgress_of_done (.inr ho)]; exact .of_slot rfl
    | false =>
      rw [gradingProgress_eq hs ho]
      have hd : NoRise n s (serveInjections n (drainStart n s)) :=
        (NoRise.of_keeps (drainStart_slot n s).2.1 (by simp)).trans (serveInjections_noRise ..)
      split
      · exact hd.trans (le_of_eq (by rw [sendHandOver_slot]))
      · exact hd
  · rw [gradingProgress_of_done (.inl hs)]
    exact .of_slot rfl

theorem goOn_noRise (n : SlotId) (s : State) : NoRise n s (goOn n s) := by
  unfold goOn
  split
  · exact gradingProgress_noRise n s
  · exact serveSlot_noRise n s

theorem lapseHeld_noRise (n : SlotId) (s : State) : NoRise n s (lapseHeld n s) := by
  unfold lapseHeld
  split
  · exact .of_slot rfl
  · have hu := unlist_injections n .spinUp s
    generalize unlist n .spinUp s = u at *
    obtain ⟨a, ha, h⟩ := followFigure_slot_lowered n (fun x => applyPending { x with power.held := none }) u
    rw [NoRise, h]
    rw [applyPending_power, hu] at ha
    exact ha

theorem leaveTest_noRise (n : SlotId) (s : State) : NoRise n s (leaveTest n s) := by
  rw [leaveTest_eq]
  have hb : NoRise n s (dropAdmission n (answerQueue n .endOfTest s)) :=
    le_of_eq (by rw [(dropAdmission_same n _).2, answerQueue_slot_same])
  generalize dropAdmission n (answerQueue n .endOfTest s) = b at *
  obtain ⟨l, he, -⟩ := leaveEpisode_spec n ((s.slot n).state == .recovering) (unlist n .identify (lapseHeld n b))
  refine hb.trans ((lapseHeld_noRise n b).trans (le_of_eq ?_))
  rw [slot_modSlot_same, he, unlist_injections]

theorem enterGrading_noRise (n : SlotId) (s : State) : NoRise n s (enterGrading n s) := by
  rw [enterGrading_eq]
  exact (leaveTest_noRise n s).trans ((NoRise.of_keeps (setState_slot ..) (by simp)).trans (gradingProgress_noRise ..))

theorem takeQuarantine_noRise {n : SlotId} {s : State} (r : QuarantineReason) (h : (s.slot n).state.beforeGrading = true) :
    NoRise n s (takeQuarantine n r s) := by
  by_cases hr : (s.slot n).grading.reason = none
  · rw [takeQuarantine_early r h hr]
    exact (NoRise.of_keeps (recordReason_spec n r s).2.1 (by simp)).trans (enterGrading_noRise ..)
  · rw [takeQuarantine_discarded r (.inr (.inr hr))]
    exact .of_slot rfl

theorem bindFirst_noRise {n : SlotId} {r : IdentityRecord} {s : State} (i : Fin 16) (hr : (s.slot n).identity.record = some r)
    (hs : (s.slot n).state.beforeGrading = true) : NoRise n s (bindFirst n i s) := by
  obtain ⟨hb, -⟩ := firstBound_spec i hr
  obtain ⟨hmis, hok⟩ := bindFirst_eq i hr
  obtain ⟨a, ha, hp⟩ := hb.power
  have hsb : NoRise n s (firstBound n i s) := by
    rw [NoRise, hp]
    exact ha
  have hst : ((firstBound n i s).slot n).state = (s.slot n).state := hb.slot.same .state (by simp)
  by_cases hm : Mismatch s r (some s.tables.models[i])
  · rw [hmis hm]
    exact hsb.trans (takeQuarantine_noRise _ (by rw [hst]; exact hs))
  · rw [hok hm]
    exact hsb.trans (.of_keeps (setState_slot ..) (by simp))

/-! ### Nothing listed: the power stays -/

/-- Going on with nothing listed, in GRADING or with a spindle that is not SPINNING, leaves the slot's power. -/
theorem goOn_power {n : SlotId} {s : State} (hi : (s.slot n).traffic.injections = [])
    (h : (s.slot n).state = .grading ∨ (s.slot n).power.spindle ≠ .spinning) :
    ((goOn n s).slot n).power = (s.slot n).power := by
  by_cases hg : (s.slot n).state = .grading
  · rw [goOn_grading hg]
    exact (gradingProgress_wentOn hg).served.spindle (by rw [hi]; exact fun i h => absurd h List.not_mem_nil)
  · unfold goOn
    rw [if_neg hg]
    exact serveSlot_power hi (h.resolve_left hg)

/-- Going on sends no quarantine request. -/
theorem goOn_quarantines (n : SlotId) (s : State) : (goOn n s).transit.quarantines = s.transit.quarantines := by
  by_cases hg : (s.slot n).state = .grading
  · rw [goOn_grading hg]
    obtain h | h := gradingProgress_transit hg <;> rw [h]
  · unfold goOn
    rw [if_neg hg]
    exact congrArg Transit.quarantines ((serveSlot_keeps n s).same .transit (by simp))

end Sys2Proof.Machine
end

section
/-! SUPPORT. The response to an IDENTIFY: its entry retired and classified, and the answer delivered (R32). -/

namespace Sys2Proof.Machine

/-! ### Retiring an entry that is no HEAVY -/

/-- Freeing an entry that does not satisfy a test leaves the test as it was. -/
theorem anyInFlight_freed {x y : Slot} {k : Fin 4} {e : InFlight} {p : InFlight → Bool} (he : x.traffic.inFlight[k] = some e)
    (hp : p e = false) (hy : y.traffic.inFlight = x.traffic.inFlight.set k none) : y.anyInFlight p = x.anyInFlight p := by
  rw [Bool.eq_iff_iff, anyInFlight_eq_true, anyInFlight_eq_true, hy]
  constructor
  · rintro ⟨j, f, hf, hpf⟩
    exact ⟨j, f, (set_none_get.1 hf).2, hpf⟩
  · rintro ⟨j, f, hf, hpf⟩
    refine ⟨j, f, set_none_get.2 ⟨?_, hf⟩, hpf⟩
    rintro rfl
    rw [he] at hf
    cases hf
    rw [hp] at hpf
    cases hpf

theorem figureParts_congr {s t : State} {x y : Slot} (hm : t.tables.models = s.tables.models)
    (hp : y.lines.powered = x.lines.powered) (hpow : y.power = x.power) (hid : y.identity = x.identity)
    (hh : y.heavyInFlight = x.heavyInFlight) : figureParts t y = figureParts s x := by
  unfold figureParts peakOf modelOf
  rw [hp, hpow, hid, hh, hm]

/-- The state figure holds the increment under a HEAVY alone: another entry is retired without moving it (R69). -/
theorem retireEntry_slot_same {n : SlotId} {k : Fin 4} {e : InFlight} {s : State}
    (he : (s.slot n).traffic.inFlight[k] = some e) (hh : e.cls ≠ .heavy) :
    (retireEntry n k s).slot n = { s.slot n with traffic.inFlight := (s.slot n).traffic.inFlight.set k none } := by
  unfold retireEntry
  rw [followFigure_slot_same, if_pos]
  exact figureParts_congr rfl rfl rfl rfl (anyInFlight_freed he (by simpa using hh) rfl)

/-! ### The entry retired and the response classified -/

/-- What counting the frame, retiring an IDENTIFY and classifying its response leave (R32, R39, R124). -/
structure IdentifyRetired (n : SlotId) (k : Fin 4) (s c : State) : Prop where
  keeps : KeepsBut [.slot n, .passDue, .classify, .partSet, .noticeQueue, .transit] s c
  slot : SlotKeepsBut [.tallies, .inFlight, .events, .notice] (s.slot n) (c.slot n)
  inFlight : (c.slot n).traffic.inFlight = (s.slot n).traffic.inFlight.set k none
  power : (c.slot n).power = (s.slot n).power
  identity : (c.slot n).identity = (s.slot n).identity
  quarantines : ∀ r, r ≠ .classified → ((n, r) ∈ c.transit.quarantines ↔ (n, r) ∈ s.transit.quarantines)
  handOvers : c.transit.handOvers = s.transit.handOvers

/-- The state in which the answer to an IDENTIFY is taken. -/
def identifyRetired (n : SlotId) (k : Fin 4) (status : StatusClass) (code : BitVec 16) (s : State) : State :=
  (classify n status code (some .identify) (responseRetired n k s)).1

/-- A response asks for no quarantine but that of its class (R126). -/
theorem classify_quarantines (n : SlotId) (status : StatusClass) (code : BitVec 16) (cls : Option CmdClass) (s : State)
    (r : QuarantineReason) (hr : r ≠ .classified) :
    (n, r) ∈ (classify n status code cls s).1.transit.quarantines ↔ (n, r) ∈ s.transit.quarantines := by
  rw [classify_fst]
  obtain h | ⟨d, hd, ha⟩ := (classification s.tables.classify status code cls).ignored_or_counted
  · rw [applyAction_of_ignored h, countMatch_transit]
  · rw [applyAction_quarantines_of_counted hd ha, countMatch_transit]
    split
    · simp [hr]
    · rfl

theorem identifyRetired_spec {n : SlotId} {k : Fin 4} {e : InFlight} {s : State} (status : StatusClass) (code : BitVec 16)
    (he : (s.slot n).traffic.inFlight[k] = some e) (hc : e.cls = .identify) :
    IdentifyRetired n k s (identifyRetired n k status code s) := by
  have hx : (responseRetired n k s).slot n
      = { countGood (s.slot n) with traffic.inFlight := (s.slot n).traffic.inFlight.set k none } := by
    have hf : (countGood (s.slot n)).traffic = (s.slot n).traffic := by
      unfold countGood
      split <;> rfl
    have h := retireEntry_slot_same (n := n) (k := k) (e := e) (s := modSlot n countGood s)
      (by rw [slot_modSlot_same, hf]; exact he) (by rw [hc]; simp)
    rw [slot_modSlot_same, hf] at h
    unfold responseRetired
    rw [h]
  have hr := responseRetired_spec n k s
  unfold identifyRetired
  generalize responseRetired n k s = r at *
  have hk := classify_keeps n status code (some .identify) r
  have hs := classify_slot_keeps n status code (some .identify) r
  have hq := classify_quarantines n status code (some .identify) r
  have hh := (classify_reports n status code (some .identify) r).2.1
  generalize (classify n status code (some .identify) r).1 = c at *
  have hrt : r.transit = s.transit := hr.keeps.same .transit (by simp)
  have hall : SlotKeepsBut [.tallies, .inFlight, .allocation, .events, .notice] (s.slot n) (c.slot n) :=
    (hr.slot.mono (by simp)).trans (hs.mono (by simp))
  have hpow : (c.slot n).power = (s.slot n).power := by
    refine (slotPower_ext (hs.same .allocation (by simp)) (hs.same .spindle (by simp))).trans ?_
    rw [hx]
    unfold countGood
    split <;> rfl
  refine ⟨(hr.keeps.mono (by simp)).trans (hk.mono (by simp)), ⟨fun g hg => ?_⟩, (hs.same .inFlight (by simp)).trans hr.inFlight, hpow,
    slotIdentity_ext (hall.same .identity (by simp)) (hall.same .retryMark (by simp)), fun x hx => by rw [hq x hx, hrt],
    by rw [hh, hrt]⟩
  by_cases ha : g = .allocation
  · subst ha
    exact ⟨by rw [hpow], by rw [hpow]⟩
  · exact hall.same g (by simp only [List.mem_cons, List.not_mem_nil, or_false] at hg ⊢; tauto)

/-! ### The answer is delivered -/

/-- What the delivery of an IDENTIFY's answer and the slot's going on leave (R28, R29, R32). -/
structure Delivered (n : SlotId) (t u : State) : Prop where
  keeps : KeepsBut [.slot n, .responses, .admission, .passDue, .sent, .transit] t u
  slot : SlotKeepsBut [.queue, .lastForward, .spindle, .inFlight, .allocation, .reserved, .injections, .grading]
    (t.slot n) (u.slot n)
  quarantines : u.transit.quarantines = t.transit.quarantines
  noRise : NoRise n t u
  power : (t.slot n).traffic.injections = [] → (t.slot n).state = .grading ∨ (t.slot n).power.spindle ≠ .spinning →
    (u.slot n).power = (t.slot n).power
  plain : (t.slot n).state ≠ .grading → (∀ q ∈ (t.slot n).traffic.queue, q.cls = .light ∨ q.cls = .identify) →
    ∀ q ∈ (u.slot n).traffic.queue, q.cls = .light ∨ q.cls = .identify
  ended : (t.slot n).state = .grading → (t.slot n).grading.finalIdentify = .ended → (u.slot n).grading.finalIdentify = .ended

theorem Delivered.identity {n : SlotId} {t u : State} (h : Delivered n t u) : (u.slot n).identity = (t.slot n).identity :=
  slotIdentity_ext (h.slot.same .identity (by simp)) (h.slot.same .retryMark (by simp))

/-- Delivering the answer to an IDENTIFY touches the responses alone. -/
theorem deliver_identify {n : SlotId} {e : InFlight} (status : StatusClass) (code : BitVec 16) (payload : Bytes)
    (cl : Classification) (s : State) (hc : e.cls = .identify) :
    KeepsBut [.responses] s (deliver n e status code payload cl s) := by
  have hp : ∀ t, parkingResponse n e.cls e.granted t = t := fun t => by
    unfold parkingResponse
    rw [hc]
    split <;> rfl
  unfold deliver
  rw [hp]
  cases e.source with
  | none => exact .refl ..
  | some dest => exact ⟨fun g hg => by cases g <;> simp_all [sameIn, pushResponse]; try rfl⟩

theorem goOn_delivered (n : SlotId) (s : State) : Delivered n s (goOn n s) where
  keeps := goOn_keeps n s
  slot := goOn_slot n s
  quarantines := goOn_quarantines n s
  noRise := goOn_noRise n s
  power := goOn_power
  plain hg hq := by
    unfold goOn
    rw [if_neg hg]
    exact (serveSlot_plain hq).2.2
  ended hg := goOn_ended (by rw [hg]; rfl)

/-- The response to an IDENTIFY, step by step: counted, retired and classified, its answer taken, and delivered. -/
theorem takeResponse_identify_eq {n : SlotId} {k : Fin 4} {e : InFlight} (status : StatusClass) (code : BitVec 16) (payload : Bytes)
    (v : SensorReading) (s : State) (hc : e.cls = .identify) :
    takeResponse n k e status code payload v (modSlot n countGood s)
      = goOn n (deliver n e status code payload (classify n status code (some .identify) (responseRetired n k s)).2
          (takeIdentify n e.final (identifyBlock status payload) .error .identifyFailed (identifyRetired n k status code s))) := by
  unfold takeResponse
  dsimp only
  rw [if_neg (by rw [hc]; simp), if_pos hc, hc]
  rfl

/-- The delivery of the answer to an IDENTIFY, from the capture on. -/
theorem takeResponse_identify {n : SlotId} {k : Fin 4} {e : InFlight} (status : StatusClass) (code : BitVec 16) (payload : Bytes)
    (v : SensorReading) (s : State) (hc : e.cls = .identify) :
    Delivered n
      (takeIdentify n e.final (identifyBlock status payload) .error .identifyFailed (identifyRetired n k status code s))
      (takeResponse n k e status code payload v (modSlot n countGood s)) := by
  rw [takeResponse_identify_eq status code payload v s hc]
  generalize takeIdentify n e.final (identifyBlock status payload) .error .identifyFailed (identifyRetired n k status code s) = t
  have hk := deliver_identify (n := n) status code payload (classify n status code (some .identify) (responseRetired n k s)).2 t hc
  generalize deliver n e status code payload (classify n status code (some .identify) (responseRetired n k s)).2 t = d at *
  have hx : d.slot n = t.slot n := hk.slot_eq (by simp)
  have h := goOn_delivered n d
  generalize goOn n d = u at *
  obtain ⟨h1, h2, h3, h4, h5, h6, h7⟩ := h
  rw [hx] at h2 h5 h6 h7
  have ht : d.transit = t.transit := hk.same .transit (by simp)
  exact ⟨(hk.mono (by simp)).trans h1, h2, by rw [h3, ht], (NoRise.of_slot hx).trans h4, h5, h6, h7⟩

end Sys2Proof.Machine
end

section
/-! The first identification (R7, R55). -/

namespace Sys2Proof.Machine

/-! ### The match search -/

theorem matchSearch_eq (models : Vector ModelEntry 16) (model : Bytes) :
    matchSearch models model = Fin.find? fun i : Fin 16 => models[i].valid && patternMatches models[i].pattern model :=
  Fin.find?_eq_find?_finRange.symm

theorem matchSearch_none {models : Vector ModelEntry 16} {model : Bytes} (h : matchSearch models model = none) (i : Fin 16)
    (hv : models[i].valid = true) : patternMatches models[i].pattern model = false := by
  rw [matchSearch_eq, Fin.find?_eq_none_iff] at h
  have hi := h i
  rwa [hv, Bool.true_and] at hi

/-- The search finds the first valid entry whose pattern matches (R50, R51). -/
theorem matchSearch_some {models : Vector ModelEntry 16} {model : Bytes} {i : Fin 16} (h : matchSearch models model = some i) :
    models[i].valid = true ∧ patternMatches models[i].pattern model = true
      ∧ ∀ j, j < i → models[j].valid = true → patternMatches models[j].pattern model = false := by
  rw [matchSearch_eq, Fin.find?_eq_some_iff] at h
  obtain ⟨hi, first⟩ := h
  obtain ⟨hv, hp⟩ := Bool.and_eq_true_iff.1 hi
  refine ⟨hv, hp, fun j hj hvj => ?_⟩
  have hf := first j hj
  rwa [hvj, Bool.true_and] at hf

/-! ### The record kept -/

theorem keepRecord_keeps (n : SlotId) (r : IdentityRecord) (s : State) : KeepsBut [.slot n] s (keepRecord n r s) := modSlot_keeps ..

theorem keepRecord_slot_same (n : SlotId) (r : IdentityRecord) (s : State) :
    (keepRecord n r s).slot n = { s.slot n with identity := { (s.slot n).identity with record := some r } } :=
  slot_modSlot_same ..

/-- A first capture that matches no entry (R8, R55). -/
structure Unmatched (n : SlotId) (r : IdentityRecord) (s t : State) : Prop where
  keeps : KeepsBut [.slot n, .partSet, .noticeQueue] s t
  slot : SlotKeepsBut [.state, .lamps, .identity, .events, .notice] (s.slot n) (t.slot n)
  state : (t.slot n).state = .unmatched
  events : (t.slot n).events.getLsbD 4 = true
  power : (t.slot n).power = (s.slot n).power
  identity : (t.slot n).identity = computedIdentity (modelOf s (s.slot n)) r
    { s.slot n with identity := { (s.slot n).identity with record := some r } }

theorem firstCapture_unmatched {n : SlotId} {r : IdentityRecord} {s : State}
    (hm : matchSearch s.tables.models r.model = none) : Unmatched n r s (firstCapture n r s) := by
  have hka := keepRecord_keeps n r s
  have hxa := keepRecord_slot_same n r s
  have he : firstCapture n r s = setState n .unmatched (raiseSlot n .unmatched (computeIdentity n (keepRecord n r s))) := by
    have hm' : matchSearch (keepRecord n r s).tables.models r.model = none := hm
    unfold firstCapture
    simp only [hm']
  rw [he]
  generalize keepRecord n r s = a at *
  have hxb := computeIdentity_slot_same (n := n) (s := a) (r := r) (by rw [hxa])
  have hkb := computeIdentity_keeps n a
  have hmo : modelOf a (a.slot n) = modelOf s (s.slot n) := by
    unfold modelOf
    rw [hxa, (hka.same .models (by simp) : a.tables.models = s.tables.models)]
  rw [hmo, hxa] at hxb
  generalize computeIdentity n a = b at *
  have hkc := raiseSlot_keeps n .unmatched b
  obtain ⟨v, hxc⟩ := raiseSlot_slot n .unmatched b
  generalize raiseSlot n .unmatched b = c at *
  rw [hxb] at hxc
  have hkd := setState_keeps n .unmatched c
  have hxd := setState_slot_same n .unmatched c
  have hst := setState_slot_state n .unmatched c
  generalize setState n .unmatched c = t at *
  rw [hxc] at hxd
  refine ⟨((hka.mono (by simp)).trans (hkb.mono (by simp))).trans ((hkc.mono (by simp)).trans (hkd.mono (by simp))), ?_, hst, ?_,
    by rw [hxd]; rfl, by rw [hxd]; rfl⟩
  · rw [hxd]
    exact ⟨fun g hg => by clear * - hg; cases g <;> simp_all [slotSameIn, computedIdentity, Slot.lampsOf]⟩
  · rw [hxd]
    change ((s.slot n).events ||| SlotEvent.unmatched.set).getLsbD 4 = true
    rw [BitVec.getLsbD_or, show SlotEvent.unmatched.set.getLsbD 4 = true by decide, Bool.or_true]

theorem firstCapture_matched {n : SlotId} {r : IdentityRecord} {s : State} {i : Fin 16}
    (hm : matchSearch s.tables.models r.model = some i) : firstCapture n r s = bindFirst n i (keepRecord n r s) := by
  have hm' : matchSearch (keepRecord n r s).tables.models r.model = some i := hm
  unfold firstCapture
  simp only [hm']

/-! ### The answer to the first IDENTIFY -/

theorem takeIdentify_first {n : SlotId} {final : Bool} {r : IdentityRecord} {failure : IdentifyOutcome} {reason : RecoveryReason}
    {s : State} (h : (s.slot n).state = .identifying) :
    takeIdentify n final (some r) failure reason s = firstCapture n r s := if_pos h

theorem identifyBlock_good {payload : Bytes} {r : IdentityRecord} (h : parseIdentity payload = some r) :
    identifyBlock .good payload = some r := h

/-- Another status, or no valid block, gives no record (R47). -/
theorem identifyBlock_none {status : StatusClass} {payload : Bytes} (h : status ≠ .good ∨ parseIdentity payload = none) :
    identifyBlock status payload = none := by
  unfold identifyBlock
  split
  · next hg => exact h.resolve_left fun h' => h' hg
  · rfl

/-- The answer to the first IDENTIFY, with a valid block (R7): the capture, and the slot that goes on from it. -/
theorem firstIdentify_taken {n : SlotId} {tag : Byte} {code : BitVec 16} {payload : Bytes} {sensor : SensorReading} {s : State}
    {k : Fin 4} {e : InFlight} {r : IdentityRecord} (on : (s.slot n).lines.powered = true)
    (hst : (s.slot n).state = .identifying) (hk : (s.slot n).entryWithTag tag.toNat = some k)
    (he : (s.slot n).traffic.inFlight[k] = some e) (hc : e.cls = .identify) (hp : parseIdentity payload = some r) :
    ∃ c u, IdentifyRetired n k s c ∧ exec (.driveResponse n tag .good code payload sensor) s = .next (finish u)
      ∧ Delivered n (firstCapture n r c) u := by
  have hr := identifyRetired_spec (n := n) .good code he hc
  have hd := takeResponse_identify (n := n) (k := k) .good code payload sensor s hc
  rw [identifyBlock_good hp, takeIdentify_first ((hr.slot.same .state (by simp)).trans hst)] at hd
  exact ⟨_, _, hr, exec_driveResponse_matched .good code payload sensor on (by rw [hst]; simp) hk he, hd⟩

theorem firstCapture_noRise {n : SlotId} {r : IdentityRecord} {s : State} (h : (s.slot n).state = .identifying) :
    NoRise n s (firstCapture n r s) := by
  cases hm : matchSearch s.tables.models r.model with
  | none => exact le_of_eq (by rw [(firstCapture_unmatched hm).power])
  | some i =>
    rw [firstCapture_matched hm]
    have hx := keepRecord_slot_same n r s
    generalize keepRecord n r s = a at *
    have ha : NoRise n s a := le_of_eq (by rw [hx])
    exact ha.trans (bindFirst_noRise i (by rw [hx]) (by rw [hx]; exact (congrArg SlotState.beforeGrading h).trans rfl))

theorem Mismatch.congr {s t : State} (h : t.store.target = s.store.target) (r : IdentityRecord) (m : Option ModelEntry) :
    Mismatch t r m ↔ Mismatch s r m := by
  unfold Mismatch
  rw [h]

end Sys2Proof.Machine
end

section
/-! SUPPORT. A later IDENTIFY answered: what stands before the capture, and the computation against the entry bound (R56, R60). -/

namespace Sys2Proof.Machine

/-! ### A quarantine taken in GRADING -/

/-- What a quarantine taken in GRADING leaves of the slot (R16). -/
structure GradingQuarantined (n : SlotId) (r : QuarantineReason) (s t : State) : Prop where
  keeps : KeepsBut [.slot n, .passDue, .sent, .transit, .partSet, .noticeQueue] s t
  slot : SlotKeepsBut [.lamps, .reason, .events, .notice, .grading, .injections, .spindle, .inFlight, .allocation] (s.slot n) (t.slot n)
  reason : (t.slot n).grading.reason = some ((s.slot n).grading.reason.getD r)
  quarantines : t.transit.quarantines = s.transit.quarantines
  final : (s.slot n).grading.finalIdentify = .ended → (t.slot n).grading.finalIdentify = .ended

theorem quarantineGrading_final {n : SlotId} {s : State} (hs : (s.slot n).state = .grading)
    (h : (s.slot n).grading.finalIdentify = .ended) : ((quarantineGrading n s).slot n).grading.finalIdentify = .ended := by
  cases ho : (s.slot n).grading.handedOver with
  | true => rw [quarantineGrading_done ho]; exact h
  | false =>
    obtain ⟨he, hd⟩ := quarantineGrading_drained hs ho
    have hg : ((unlist n .identify s).slot n).grading = (s.slot n).grading := by rw [unlist_injections]
    rw [he, hd.grading]
    dsimp only
    rw [if_neg, hg, h]
    rw [finalIdentifyDue_iff, hg, h]
    simp

theorem quarantineGrading_quarantines {n : SlotId} {s : State} (hs : (s.slot n).state = .grading) :
    (quarantineGrading n s).transit.quarantines = s.transit.quarantines := by
  cases ho : (s.slot n).grading.handedOver with
  | true => rw [quarantineGrading_done ho]
  | false =>
    rw [(quarantineGrading_drained hs ho).1]
    have hu : (unlist n .identify s).transit = s.transit := (unlist_keeps ..).same .transit (by simp)
    obtain h | h := gradingProgress_transit (n := n) (s := unlist n .identify s) (((unlist_slot ..).same .state (by simp)).trans hs) <;>
      rw [h, hu]

theorem takeQuarantine_inGrading {n : SlotId} {s : State} (r : QuarantineReason) (h : (s.slot n).state = .grading) :
    GradingQuarantined n r s (takeQuarantine n r s) := by
  cases hr : (s.slot n).grading.reason with
  | some q =>
    rw [takeQuarantine_discarded r (.inr (.inr (by rw [hr]; simp)))]
    exact ⟨.refl .., .refl .., by rw [hr]; rfl, rfl, id⟩
  | none =>
    rw [takeQuarantine_grading r h hr]
    obtain ⟨hk, hx, hrec, -, hgr⟩ := recordReason_spec n r s
    generalize recordReason n r s = a at *
    obtain ⟨hkq, hxq⟩ := quarantineGrading_keeps n a
    have has : (a.slot n).state = .grading := (hx.same .state (by simp)).trans h
    have hq := quarantineGrading_quarantines has
    have hf := quarantineGrading_final has
    generalize quarantineGrading n a = t at *
    refine ⟨(hk.mono (by simp)).trans (hkq.mono (by simp)), (hx.mono (by simp)).trans (hxq.mono (by simp)),
      (hxq.same .reason (by simp)).trans (by rw [hrec, hr]; rfl), hq.trans (congrArg Transit.quarantines (hk.same .transit (by simp))), fun hfi => hf ?_⟩
    rw [(hx.same .grading (by simp)).1]
    exact hfi

/-! ### Before the capture -/

/-- The slot as a later IDENTIFY's answer finds it: counted, retired, classified, and a final identify ended (R32, R60). -/
structure Captured (n : SlotId) (k : Fin 4) (final missing : Bool) (s c : State) : Prop where
  keeps : KeepsBut [.slot n, .passDue, .classify, .partSet, .noticeQueue, .transit] s c
  slot : SlotKeepsBut [.tallies, .inFlight, .events, .notice, .grading, .identity] (s.slot n) (c.slot n)
  inFlight : (c.slot n).traffic.inFlight = (s.slot n).traffic.inFlight.set k none
  power : (c.slot n).power = (s.slot n).power
  identity : (c.slot n).identity = { (s.slot n).identity with
    flags.finalIdMissing := (s.slot n).identity.flags.finalIdMissing || (final && missing) }
  quarantines : ∀ r, r ≠ .classified → ((n, r) ∈ c.transit.quarantines ↔ (n, r) ∈ s.transit.quarantines)
  final : final = true → (c.slot n).grading.finalIdentify = .ended

theorem IdentifyRetired.captured {n : SlotId} {k : Fin 4} {s c : State} (h : IdentifyRetired n k s c) (final missing : Bool) :
    Captured n k final missing s (if final then endFinal n missing c else c) := by
  cases final with
  | false =>
    refine ⟨h.keeps, h.slot.mono (by simp), h.inFlight, h.power, ?_, h.quarantines, nofun⟩
    rw [Bool.false_and, Bool.or_false]
    exact h.identity
  | true =>
    rw [if_pos rfl]
    have hx : (endFinal n missing c).slot n
        = { c.slot n with
            grading := { (c.slot n).grading with finalIdentify := .ended }
            identity := { (c.slot n).identity with
              flags := { (c.slot n).identity.flags with finalIdMissing := (c.slot n).identity.flags.finalIdMissing || missing } } } :=
      slot_modSlot_same ..
    have hk : KeepsBut [.slot n] c (endFinal n missing c) := modSlot_keeps ..
    generalize endFinal n missing c = t at *
    have hxs : SlotKeepsBut [.grading, .identity] (c.slot n) (t.slot n) := by
      rw [hx]
      exact ⟨fun g hg => by clear * - hg; cases g <;> simp_all [slotSameIn]⟩
    have htr : t.transit = c.transit := hk.same .transit (by simp)
    refine ⟨h.keeps.trans (hk.mono (by simp)), (h.slot.mono (by simp)).trans (hxs.mono (by simp)), by rw [hx]; exact h.inFlight,
      by rw [hx]; exact h.power, ?_, fun r hr => by rw [htr]; exact h.quarantines r hr, fun _ => by rw [hx]⟩
    rw [hx, h.identity, Bool.true_and]

/-! ### The computation against the entry bound -/

theorem mismatch_iff_bound {s : State} {x : Slot} {r : IdentityRecord} :
    Mismatch s r (modelOf s x) ↔ ∃ m, modelOf s x = some m ∧ Mismatch s r (some m) := by
  cases modelOf s x with
  | none => simp [Mismatch, effectivePeaks]
  | some m => simp

/-- What a capture of the same serial leaves before any rebinding (R52 to R54, R57). -/
structure SameSerial (n : SlotId) (r : IdentityRecord) (s t : State) : Prop where
  keeps : KeepsBut [.slot n, .passDue, .sent, .transit, .partSet, .noticeQueue] s t
  slot : SlotKeepsBut [.lamps, .identity, .reason, .events, .notice, .grading, .injections, .spindle, .inFlight, .allocation]
    (s.slot n) (t.slot n)
  identity : (t.slot n).identity = computedIdentity (modelOf s (s.slot n)) r
    { s.slot n with identity := { (s.slot n).identity with record := some r } }
  sends : Mismatch s r (modelOf s (s.slot n)) → (s.slot n).state ≠ .grading →
    t.transit.quarantines = s.transit.quarantines ++ [(n, .powerMismatch)]
  takes : Mismatch s r (modelOf s (s.slot n)) → (s.slot n).state = .grading →
    (t.slot n).grading.reason = some ((s.slot n).grading.reason.getD .powerMismatch)
  holds : ¬Mismatch s r (modelOf s (s.slot n)) →
    t.transit.quarantines = s.transit.quarantines ∧ (t.slot n).grading.reason = (s.slot n).grading.reason
  rest : (s.slot n).state ≠ .grading → t.slot n = { s.slot n with
    identity := computedIdentity (modelOf s (s.slot n)) r
      { s.slot n with identity := { (s.slot n).identity with record := some r } } }
  final : (s.slot n).grading.finalIdentify = .ended → (t.slot n).grading.finalIdentify = .ended

theorem sameSerial_spec (n : SlotId) (r : IdentityRecord) (s : State) :
    SameSerial n r s (computeAndCheck n (keepRecord n r s)) := by
  have hka := keepRecord_keeps n r s
  have hxa := keepRecord_slot_same n r s
  generalize keepRecord n r s = a at *
  have hra : (a.slot n).identity.record = some r := by rw [hxa]
  have hmo : modelOf a (a.slot n) = modelOf s (s.slot n) := by
    unfold modelOf
    rw [hxa, (hka.same .models (by simp) : a.tables.models = s.tables.models)]
  have hmis : Mismatch a r (modelOf a (a.slot n)) ↔ Mismatch s r (modelOf s (s.slot n)) := by
    rw [hmo]
    exact Mismatch.congr (hka.same .target (by simp)) r _
  have hst : (a.slot n).state = (s.slot n).state := by rw [hxa]
  have hat : a.transit = s.transit := hka.same .transit (by simp)
  have hsa : SlotKeepsBut [.identity] (s.slot n) (a.slot n) := by
    rw [hxa]
    exact ⟨fun g hg => by clear * - hg; cases g <;> simp_all [slotSameIn]⟩
  have hfa : (a.slot n).grading = (s.slot n).grading := by rw [hxa]
  by_cases hg : (s.slot n).state = .grading
  · obtain ⟨hm, hok⟩ := computeAndCheck_grading hra (hst.trans hg)
    rw [hmis] at hm hok
    have hkc := computeIdentity_keeps n a
    have hxc := computeIdentity_slot_same hra
    rw [hmo, hxa] at hxc
    have hsc := computeIdentity_slot n a
    generalize computeIdentity n a = c at *
    have hsc' : SlotKeepsBut [.identity] (s.slot n) (c.slot n) := hsa.trans (hsc.mono (by simp))
    have hct : c.transit = a.transit := hkc.same .transit (by simp)
    by_cases hmm : Mismatch s r (modelOf s (s.slot n))
    · rw [hm hmm]
      have hq := takeQuarantine_inGrading (n := n) (s := c) .powerMismatch ((hsc'.same .state (by simp)).trans hg)
      generalize takeQuarantine n .powerMismatch c = t at *
      have hid : (t.slot n).identity = (c.slot n).identity :=
        slotIdentity_ext (hq.slot.same .identity (by simp)) (hq.slot.same .retryMark (by simp))
      refine ⟨(hka.mono (by simp)).trans ((hkc.mono (by simp)).trans (hq.keeps.mono (by simp))),
        (hsc'.mono (by simp)).trans (hq.slot.mono (by simp)), by rw [hid, hxc], fun _ h => absurd hg h, fun _ _ => ?_,
        fun h => absurd hmm h, fun h => absurd hg h, fun h => hq.final ?_⟩
      · rw [hq.reason, (hsc'.same .reason (by simp) : _ = (s.slot n).grading.reason)]
      · rw [(hsc'.same .grading (by simp)).1]
        exact h
    · rw [hok hmm]
      refine ⟨(hka.mono (by simp)).trans (hkc.mono (by simp)), hsc'.mono (by simp), by rw [hxc], fun h => absurd h hmm, fun h => absurd h hmm,
        fun _ => ⟨by rw [hct, hat], hsc'.same .reason (by simp)⟩, fun h => absurd hg h, fun h => ?_⟩
      rw [(hsc'.same .grading (by simp)).1]
      exact h
  · have hc := computeAndCheck_checked hra (by rw [hst]; exact hg)
    rw [hmo] at hc
    generalize computeAndCheck n a = t at *
    have hmis' : Mismatch a r (modelOf s (s.slot n)) ↔ Mismatch s r (modelOf s (s.slot n)) :=
      Mismatch.congr (hka.same .target (by simp)) r _
    have hx := hc.slot
    rw [hxa] at hx
    refine ⟨(hka.mono (by simp)).trans (hc.keeps.mono (by simp)), ?_, by rw [hx], fun h _ => by rw [hc.sends (hmis'.2 h), hat],
      fun _ h => absurd h hg, fun h => ⟨by rw [hc.holds (mt hmis'.1 h), hat], by rw [hx]⟩, fun _ => hx, fun h => by rw [hx]; exact h⟩
    rw [hx]
    exact ⟨fun g hg => by clear * - hg; cases g <;> simp_all [slotSameIn, computedIdentity]⟩

/-! ### The cases of a later capture -/

theorem takeIdentify_block {n : SlotId} {final : Bool} {r old : IdentityRecord} {failure : IdentifyOutcome} {reason : RecoveryReason}
    {c : State} (h : (c.slot n).state ≠ .identifying) (hold : (c.slot n).identity.record = some old) :
    takeIdentify n final (some r) failure reason c = reCapture n old r (if final then endFinal n false c else c) := by
  have hrec : ((if final then endFinal n false c else c).slot n).identity.record = some old := by
    cases final with
    | false => exact hold
    | true =>
      rw [if_pos rfl, endFinal, slot_modSlot_same]
      exact hold
  have he : takeIdentify n final (some r) failure reason c = laterCapture n r (if final then endFinal n false c else c) := if_neg h
  rw [he]
  generalize (if final then endFinal n false c else c) = t at *
  unfold laterCapture
  simp only [hrec]

theorem takeIdentify_blank {n : SlotId} {final : Bool} {failure : IdentifyOutcome} {reason : RecoveryReason} {c : State}
    (h : (c.slot n).state ≠ .identifying) :
    takeIdentify n final none failure reason c = noteOutcome n failure (if final then endFinal n true c else c) := if_neg h

theorem reCapture_other {n : SlotId} {old new : IdentityRecord} {s : State} (h : new.serial ≠ old.serial) :
    reCapture n old new s = captureQuarantine n .identityChanged (noteOutcome n .ack s) := if_pos h

theorem reCapture_same {n : SlotId} {old new : IdentityRecord} {s : State} (h : new.serial = old.serial) :
    reCapture n old new s
      = if new.firmware ≠ old.firmware ∧ ((computeAndCheck n (keepRecord n new s)).slot n).rebindable = true then
          rebind n (computeAndCheck n (keepRecord n new s))
        else computeAndCheck n (keepRecord n new s) := if_neg (not_not.2 h)

theorem noteOutcome_slot_same {n : SlotId} {o : IdentifyOutcome} {s : State} {old : IdentityRecord}
    (h : (s.slot n).identity.record = some old) :
    (noteOutcome n o s).slot n
      = { s.slot n with identity := { (s.slot n).identity with record := some { old with lastOutcome := o } } } := by
  unfold noteOutcome
  rw [slot_modSlot_same, h]
  rfl

end Sys2Proof.Machine
end

section
/-! SUPPORT. The rebinding that follows a capture in READY (R57, R59). -/

namespace Sys2Proof.Machine

/-! ### The fit test reads allocations alone -/

theorem allocationSum_congr {s t : State} (h : ∀ m, (t.slot m).power.allocation = (s.slot m).power.allocation) :
    allocationSum t = allocationSum s := by
  unfold allocationSum
  refine congrArg List.sum (List.ext_getElem (by simp) fun i h1 h2 => ?_)
  have hi : i < 48 := by simpa using h1
  simpa [State.slot] using h ⟨i, hi⟩

theorem fits_congr {s t : State} (h : ∀ m, (t.slot m).power.allocation = (s.slot m).power.allocation)
    (ht : t.store.target = s.store.target) (n : SlotId) (a : Nat) : fits t n a = fits s n a := by
  unfold fits
  rw [allocationSum_congr h, h n, ht]

/-! ### A later capture -/

/-- Where a request POWER_MISMATCH is sent, and that it is sent nowhere else. -/
def SentWhere (n : SlotId) (s u : State) (fails : Prop) : Prop :=
  (fails → (n, .powerMismatch) ∈ u.transit.quarantines)
    ∧ (¬fails → ((n, .powerMismatch) ∈ u.transit.quarantines ↔ (n, .powerMismatch) ∈ s.transit.quarantines))

/-- The answer to a later IDENTIFY: the capture, and the slot that goes on from it. -/
theorem laterIdentify_captured {n : SlotId} {status : StatusClass} {code : BitVec 16} {payload : Bytes} {sensor : SensorReading}
    {s : State} {k : Fin 4} {e : InFlight} {old : IdentityRecord} (hni : (s.slot n).state ≠ .identifying)
    (he : (s.slot n).traffic.inFlight[k] = some e) (hc : e.cls = .identify) (hold : (s.slot n).identity.record = some old) :
    let u := takeResponse n k e status code payload sensor (modSlot n countGood s)
    (identifyBlock status payload = none → ∃ c, Captured n k e.final true s c ∧ Delivered n (noteOutcome n .error c) u)
      ∧ ∀ new, identifyBlock status payload = some new →
        ∃ c, Captured n k e.final false s c ∧ Delivered n (reCapture n old new c) u := by
  have hr := identifyRetired_spec (n := n) status code he hc
  have hd := takeResponse_identify (n := n) (k := k) status code payload sensor s hc
  have hst : ((identifyRetired n k status code s).slot n).state ≠ .identifying := by
    rw [(hr.slot.same .state (by simp) : _ = (s.slot n).state)]
    exact hni
  refine ⟨fun hb => ⟨_, hr.captured e.final true, ?_⟩, fun new hb => ⟨_, hr.captured e.final false, ?_⟩⟩
  · rw [hb, takeIdentify_blank hst] at hd
    exact hd
  · rw [hb, takeIdentify_block hst (by rw [hr.identity]; exact hold)] at hd
    exact hd

/-- A later capture of another serial (R56). -/
structure OtherSerial (n : SlotId) (old : IdentityRecord) (s t : State) : Prop where
  identity : (t.slot n).identity = { (s.slot n).identity with record := some { old with lastOutcome := .ack } }
  state : (t.slot n).state = (s.slot n).state
  sends : (s.slot n).state ≠ .grading → (n, .identityChanged) ∈ t.transit.quarantines
  takes : (s.slot n).state = .grading → (t.slot n).grading.reason = some ((s.slot n).grading.reason.getD .identityChanged)
  final : (s.slot n).grading.finalIdentify = .ended → (t.slot n).grading.finalIdentify = .ended

theorem otherSerial_spec {n : SlotId} {old : IdentityRecord} {s : State} (hr : (s.slot n).identity.record = some old) :
    OtherSerial n old s (captureQuarantine n .identityChanged (noteOutcome n .ack s)) := by
  have hx := noteOutcome_slot_same (o := .ack) hr
  generalize noteOutcome n .ack s = a at *
  have hst : (a.slot n).state = (s.slot n).state := by rw [hx]
  by_cases hg : (s.slot n).state = .grading
  · rw [captureQuarantine_taken _ (hst.trans hg)]
    have hq := takeQuarantine_inGrading (n := n) (s := a) .identityChanged (hst.trans hg)
    generalize takeQuarantine n .identityChanged a = t at *
    have hid : (t.slot n).identity = (a.slot n).identity :=
      slotIdentity_ext (hq.slot.same .identity (by simp)) (hq.slot.same .retryMark (by simp))
    exact ⟨by rw [hid, hx], (hq.slot.same .state (by simp)).trans hst, fun h => absurd hg h, fun _ => by rw [hq.reason, hx],
      fun h => hq.final (by rw [hx]; exact h)⟩
  · rw [captureQuarantine_sent _ (by rw [hst]; exact hg)]
    exact ⟨by rw [sendQuarantine_slot, hx], by rw [sendQuarantine_slot, hx], fun _ => by rw [sendQuarantine_transit]; simp,
      fun h => absurd h hg, fun h => by rw [sendQuarantine_slot, hx]; exact h⟩

/-! ### The slot in READY before its rebinding -/

/-- A slot in READY whose capture of the same serial is computed and checked, before its rebinding (log entry 17). -/
structure ReadyBefore (n : SlotId) (r : IdentityRecord) (s b : State) : Prop where
  models : b.tables.models = s.tables.models
  store : b.store.target = s.store.target ∧ b.store.settings = s.store.settings
  fits : ∀ a, fits b n a = Machine.fits s n a
  power : (b.slot n).power = (s.slot n).power
  injections : (b.slot n).traffic.injections = (s.slot n).traffic.injections
  state : (b.slot n).state = .ready
  stopped : (s.slot n).power.spindle = .stopped
  reason : (b.slot n).grading.reason = (s.slot n).grading.reason
  record : (b.slot n).identity.record = some r
  model : (b.slot n).identity.model = (s.slot n).identity.model
  flags : (b.slot n).identity.flags = identityFlags r (modelOf s (s.slot n)) (s.slot n).identity.flags
  peaks : (s.slot n).power.held = none → (b.slot n).identity.peaks = effectivePeaks r (modelOf s (s.slot n))
  sent : SentWhere n s b (Mismatch s r (modelOf s (s.slot n)))

theorem identityFlags_again (r : IdentityRecord) (m m' : Option ModelEntry) (f : IdentityFlags) :
    identityFlags r m (identityFlags r m' f) = identityFlags r m f := by
  cases m <;> cases m' <;> rfl

theorem ReadyBefore.computed {n : SlotId} {r : IdentityRecord} {s b : State} (h : ReadyBefore n r s b) (m : Option ModelEntry) :
    identityFlags r m (b.slot n).identity.flags = identityFlags r m (s.slot n).identity.flags := by
  rw [h.flags, identityFlags_again]

theorem ReadyBefore.peaksHeld {n : SlotId} {r : IdentityRecord} {s b : State} (h : ReadyBefore n r s b)
    (hh : (s.slot n).power.held = none) : (b.slot n).peaksHeld = false := by
  rw [← Bool.not_eq_true, peaksHeld_iff, h.power, hh, h.stopped]
  simp

theorem ReadyBefore.notGrading {n : SlotId} {r : IdentityRecord} {s b : State} (h : ReadyBefore n r s b) :
    (b.slot n).state ≠ .grading := by
  rw [h.state]
  simp

theorem ReadyBefore.mismatch {n : SlotId} {r : IdentityRecord} {s b : State} (h : ReadyBefore n r s b) (m : Option ModelEntry) :
    Mismatch b r m ↔ Mismatch s r m := Mismatch.congr h.store.1 r m

theorem ReadyBefore.modelOf {n : SlotId} {r : IdentityRecord} {s b : State} (h : ReadyBefore n r s b) :
    modelOf b (b.slot n) = Machine.modelOf s (s.slot n) := by
  unfold Machine.modelOf
  rw [h.models, h.model]

/-- A second check adds its own request (R54). -/
theorem SentWhere.again {n : SlotId} {s b t : State} {before after : Prop} (h : SentWhere n s b before)
    (sends : after → t.transit = { b.transit with quarantines := b.transit.quarantines ++ [(n, .powerMismatch)] })
    (holds : ¬after → t.transit = b.transit) : SentWhere n s t (before ∨ after) := by
  obtain ⟨h1, h2⟩ := h
  by_cases ha : after
  · rw [SentWhere, sends ha]
    exact ⟨fun _ => by simp, fun h => absurd (.inr ha) h⟩
  · rw [SentWhere, holds ha]
    exact ⟨fun h => h1 (h.resolve_right ha), fun h => h2 fun hb => h (.inl hb)⟩

theorem SentWhere.of_quarantines {n : SlotId} {s t u : State} {fails : Prop} (h : SentWhere n s t fails)
    (hq : u.transit.quarantines = t.transit.quarantines) : SentWhere n s u fails := by
  rw [SentWhere, hq]
  exact h

theorem rebind_unfit {n : SlotId} {r : IdentityRecord} {s b : State} (hb : ReadyBefore n r s b) {i : Fin 16}
    (hm : matchSearch s.tables.models r.model = some i) (hi : (s.slot n).identity.model ≠ some i)
    (hf : fits s n (max 1 s.tables.models[i].standby) = false) : rebind n b = takeQuarantine n .powerMismatch b := by
  have he := rebind_other (n := n) hb.record (i := i) (by rw [hb.models]; exact hm) (by rw [hb.model]; exact hi)
  rwa [if_neg (by rw [hb.fits, hb.models, hf]; simp)] at he

theorem rebind_unfit_none {n : SlotId} {r : IdentityRecord} {s b : State} (hb : ReadyBefore n r s b)
    (hm : matchSearch s.tables.models r.model = none) (hf : fits s n s.store.settings.settleReserve = false) :
    rebind n b = takeQuarantine n .powerMismatch b := by
  have he := rebind_none (n := n) hb.record (by rw [hb.models]; exact hm)
  rwa [if_neg (by rw [hb.fits, hb.store.2, hf]; simp)] at he

theorem SentWhere.iff {n : SlotId} {s u : State} {p q : Prop} (h : SentWhere n s u p) (hpq : p ↔ q) : SentWhere n s u q :=
  ⟨fun hq => h.1 (hpq.2 hq), fun hq => h.2 (mt hpq.1 hq)⟩

section
variable {n : SlotId} {r : IdentityRecord} {s b u : State} (hb : ReadyBefore n r s b) (hd : Delivered n (rebind n b) u)
include hb hd

/-- The search finds the entry bound: it is confirmed. -/
theorem rebind_confirms {i : Fin 16} (hm : matchSearch s.tables.models r.model = some i)
    (hi : (s.slot n).identity.model = some i) :
    (u.slot n).identity.record = some r ∧ (u.slot n).identity.model = some i ∧ (u.slot n).events.getLsbD 3 = true
      ∧ (u.slot n).state = .ready
      ∧ (u.slot n).identity.flags = identityFlags r (some s.tables.models[i]) (s.slot n).identity.flags
      ∧ SentWhere n s u (Mismatch s r (modelOf s (s.slot n)) ∨ Mismatch s r (some s.tables.models[i]))
      ∧ ((s.slot n).power.held = none → (u.slot n).identity.peaks = effectivePeaks r (some s.tables.models[i]))
      ∧ ((s.slot n).traffic.injections = [] → (u.slot n).power.allocation = (s.slot n).power.allocation)
      ∧ u.tables.models = s.tables.models := by
  have hmo : modelOf s (s.slot n) = some s.tables.models[i] := by
    unfold modelOf
    rw [hi]
    rfl
  have hc := (computeAndCheck_checked hb.record hb.notGrading).confirmed
  rw [← rebind_same hb.record (by rw [hb.models]; exact hm) (hb.model.trans hi), hb.modelOf, hmo] at hc
  generalize rebind n b = t at *
  refine ⟨by rw [hd.identity, hc.identity]; exact hb.record, by rw [hd.identity, hc.identity]; exact hb.model.trans hi, ?_,
    (hd.slot.same .state (by simp)).trans ((hc.slot.same .state (by simp)).trans hb.state), ?_, ?_, fun hh => ?_, fun hinj => ?_,
    (hd.keeps.same .models (by simp)).trans ((hc.keeps.same .models (by simp)).trans hb.models)⟩
  · rw [(hd.slot.same .events (by simp) : _ = (t.slot n).events), hc.events, BitVec.getLsbD_or,
      show SlotEvent.identified.set.getLsbD 3 = true by decide, Bool.or_true]
  · rw [hd.identity, hc.identity]
    exact hb.computed (some s.tables.models[i])
  · exact (hb.sent.again (fun h => hc.sends ((hb.mismatch _).2 h)) fun h => hc.holds (mt (hb.mismatch _).1 h)).of_quarantines hd.quarantines
  · rw [hd.identity, hc.identity]
    exact if_neg (by rw [hb.peaksHeld hh]; simp)
  · rw [hd.power ((hc.slot.same .injections (by simp)).trans (hb.injections.trans hinj))
      (.inr (by rw [hc.power, hb.power, hb.stopped]; simp)), hc.power, hb.power]

/-- The search finds another entry that fits: the slot is rebound to it. -/
theorem rebind_rebinds {i : Fin 16} (hm : matchSearch s.tables.models r.model = some i)
    (hi : (s.slot n).identity.model ≠ some i) (hf : fits s n (max 1 s.tables.models[i].standby) = true) :
    (u.slot n).identity.record = some r ∧ (u.slot n).identity.model = some i ∧ (u.slot n).events.getLsbD 3 = true
      ∧ (u.slot n).state = .ready
      ∧ (u.slot n).identity.flags = identityFlags r (some s.tables.models[i]) (s.slot n).identity.flags
      ∧ SentWhere n s u (Mismatch s r (modelOf s (s.slot n)) ∨ Mismatch s r (some s.tables.models[i]))
      ∧ ((s.slot n).power.held = none → (u.slot n).identity.peaks = effectivePeaks r (some s.tables.models[i]))
      ∧ ((s.slot n).traffic.injections = [] → (u.slot n).power.allocation = max 1 s.tables.models[i].standby)
      ∧ u.tables.models[i].refCount = s.tables.models[i].refCount + 1
      ∧ ∀ j, (s.slot n).identity.model = some j → u.tables.models[j].refCount = s.tables.models[j].refCount - 1 := by
  have hi' : (b.slot n).identity.model ≠ some i := by
    rw [hb.model]
    exact hi
  have hR := rebindTo_rebound (max 1 b.tables.models[i].standby) hb.record hb.notGrading hi'
  have he := rebind_other hb.record (i := i) (by rw [hb.models]; exact hm) hi'
  rw [if_pos (by rw [hb.fits, hb.models]; exact hf)] at he
  rw [← he, hb.models] at hR
  generalize rebind n b = t at *
  have hum : u.tables.models = t.tables.models := hd.keeps.same .models (by simp)
  refine ⟨by rw [hd.identity, hR.identity]; exact hb.record, by rw [hd.identity, hR.identity], ?_,
    (hd.slot.same .state (by simp)).trans ((hR.slot.same .state (by simp)).trans hb.state), ?_, ?_, fun hh => ?_, fun hinj => ?_,
    by rw [hum, hR.bound, hb.models], fun j hj => by rw [hum, hR.released j (hb.model.trans hj), hb.models]⟩
  · rw [(hd.slot.same .events (by simp) : _ = (t.slot n).events), hR.events, BitVec.getLsbD_or,
      show SlotEvent.identified.set.getLsbD 3 = true by decide, Bool.or_true]
  · rw [hd.identity, hR.identity, hb.models]
    exact hb.computed (some s.tables.models[i])
  · have hsends := hR.sends
    have hholds := hR.holds
    rw [hb.models] at hsends hholds
    exact (hb.sent.again (fun h => hsends ((hb.mismatch _).2 h)) fun h => hholds (mt (hb.mismatch _).1 h)).of_quarantines hd.quarantines
  · rw [hd.identity, hR.identity, hb.models]
    exact if_neg (by rw [hb.peaksHeld hh]; simp)
  · rw [hd.power ((hR.slot.same .injections (by simp)).trans (hb.injections.trans hinj))
      (.inr (by rw [hR.power, hb.power, hb.stopped]; simp)), hR.power]

/-- The search finds none, and the settle reserve fits: the slot is released. -/
theorem rebind_releases (hm : matchSearch s.tables.models r.model = none) (hf : fits s n s.store.settings.settleReserve = true) :
    (u.slot n).identity.record = some r ∧ (u.slot n).state = .unmatched ∧ (u.slot n).identity.model = none
      ∧ (u.slot n).events.getLsbD 4 = true
      ∧ (u.slot n).identity.flags = identityFlags r none (s.slot n).identity.flags
      ∧ SentWhere n s u (Mismatch s r (modelOf s (s.slot n)))
      ∧ ((s.slot n).traffic.injections = [] → (u.slot n).power.allocation = s.store.settings.settleReserve)
      ∧ (∀ i, (s.slot n).identity.model = some i → u.tables.models[i].refCount = s.tables.models[i].refCount - 1)
      ∧ ((s.slot n).power.held = none → (u.slot n).identity.peaks = [])
      ∧ ∀ c ∈ (u.slot n).traffic.queue, c.cls = .light ∨ c.cls = .identify := by
  have hR := rebindNone_released (n := n) b.store.settings.settleReserve hb.record
  have he := rebind_none (n := n) hb.record (by rw [hb.models]; exact hm)
  rw [if_pos (by rw [hb.fits, hb.store.2]; exact hf)] at he
  rw [← he, hb.store.2] at hR
  generalize rebind n b = t at *
  have hum : u.tables.models = t.tables.models := hd.keeps.same .models (by simp)
  refine ⟨by rw [hd.identity, hR.identity]; exact hb.record, (hd.slot.same .state (by simp)).trans hR.state,
    by rw [hd.identity, hR.identity], ?_, ?_, ?_, fun hinj => ?_,
    fun j hj => by rw [hum, hR.released j (hb.model.trans hj), hb.models], fun hh => ?_, hd.plain (by rw [hR.state]; simp) fun c hc => ?_⟩
  · rw [(hd.slot.same .events (by simp) : _ = (t.slot n).events), hR.events, BitVec.getLsbD_or,
      show SlotEvent.unmatched.set.getLsbD 4 = true by decide, Bool.or_true]
  · rw [hd.identity, hR.identity]
    exact hb.computed none
  · exact hb.sent.of_quarantines (hd.quarantines.trans (congrArg Transit.quarantines (hR.keeps.same .transit (by simp))))
  · rw [hd.power ((hR.slot.same .injections (by simp)).trans (hb.injections.trans hinj))
      (.inr (by rw [hR.power, hb.power, hb.stopped]; simp)), hR.power]
  · rw [hd.identity, hR.identity]
    exact if_neg (by rw [hb.peaksHeld hh]; simp)
  · rw [hR.queue, List.mem_filter, accepts_unmatched] at hc
    simpa using hc.2

/-- A rebinding that does not fit: nothing is rebound, and POWER_MISMATCH is taken. -/
theorem rebind_quarantines (hq : rebind n b = takeQuarantine n .powerMismatch b) :
    (u.slot n).identity.record = some r ∧ (u.slot n).identity.model = (s.slot n).identity.model ∧ u.tables.models = s.tables.models
      ∧ (u.slot n).identity.flags = identityFlags r (modelOf s (s.slot n)) (s.slot n).identity.flags
      ∧ ((s.slot n).power.held = none → (s.slot n).traffic.injections = [] →
          (u.slot n).identity.peaks = effectivePeaks r (modelOf s (s.slot n)))
      ∧ SentWhere n s u (Mismatch s r (modelOf s (s.slot n)))
      ∧ ((s.slot n).power.held = none → (s.slot n).traffic.injections = [] →
          (u.slot n).power.allocation = (s.slot n).power.allocation)
      ∧ ((s.slot n).grading.reason = none → (u.slot n).state = .grading ∧ (u.slot n).grading.reason = some .powerMismatch) := by
  have hQ := takeQuarantine_quarantinedEarly (n := n) (s := b) .powerMismatch (by rw [hb.state]; rfl)
  rw [← hq] at hQ
  generalize rebind n b = t at *
  obtain ⟨h1, h2, h3⟩ := hQ.identity
  have hstill : (s.slot n).power.held = none → (s.slot n).traffic.injections = [] → _ := fun hh hinj =>
    hQ.still (by rw [hb.power]; exact hh) (hb.injections.trans hinj) (by rw [hb.state]; simp)
  refine ⟨by rw [hd.identity, h1]; exact hb.record, by rw [hd.identity, h2]; exact hb.model,
    (hd.keeps.same .models (by simp)).trans ((hQ.keeps.same .models (by simp)).trans hb.models), by rw [hd.identity, h3]; exact hb.flags,
    fun hh hinj => ?_, hb.sent.of_quarantines (hd.quarantines.trans hQ.reports.1), fun hh hinj => ?_, fun hr => ?_⟩
  · rw [hd.identity, (hstill hh hinj).2.1]
    exact hb.peaks hh
  · obtain ⟨q1, -, q3⟩ := hstill hh hinj
    rw [hd.power q3 (.inr (by rw [q1, hb.power, hb.stopped]; simp)), q1, hb.power]
  · obtain ⟨q1, q2⟩ := hQ.taken (hb.reason.trans hr)
    exact ⟨(hd.slot.same .state (by simp)).trans q1, (hd.slot.same .reason (by simp)).trans q2⟩

/-- Whatever the search finds, the record captured stands, and FINAL_ID_MISSING as it was (R57, R60). -/
theorem rebind_record : (u.slot n).identity.record = some r
    ∧ (u.slot n).identity.flags.finalIdMissing = (s.slot n).identity.flags.finalIdMissing := by
  have keeps : ∀ m, (identityFlags r m (s.slot n).identity.flags).finalIdMissing = (s.slot n).identity.flags.finalIdMissing :=
    fun m => by cases m <;> rfl
  cases hm : matchSearch s.tables.models r.model with
  | none =>
    cases hf : Machine.fits s n s.store.settings.settleReserve with
    | true =>
      obtain ⟨h1, -, -, -, h5, -⟩ := rebind_releases hb hd hm hf
      exact ⟨h1, by rw [h5, keeps]⟩
    | false =>
      obtain ⟨h1, -, -, h4, -⟩ := rebind_quarantines hb hd (rebind_unfit_none hb hm hf)
      exact ⟨h1, by rw [h4, keeps]⟩
  | some i =>
    by_cases hi : (s.slot n).identity.model = some i
    · obtain ⟨h1, -, -, -, h5, -⟩ := rebind_confirms hb hd hm hi
      exact ⟨h1, by rw [h5, keeps]⟩
    · cases hf : Machine.fits s n (max 1 s.tables.models[i].standby) with
      | true =>
        obtain ⟨h1, -, -, -, h5, -⟩ := rebind_rebinds hb hd hm hi hf
        exact ⟨h1, by rw [h5, keeps]⟩
      | false =>
        obtain ⟨h1, -, -, h4, -⟩ := rebind_quarantines hb hd (rebind_unfit hb hm hi hf)
        exact ⟨h1, by rw [h4, keeps]⟩

end

end Sys2Proof.Machine
end

section
/-! SUPPORT. The capture of the same serial, told from the state before the response (R56, R57). -/

namespace Sys2Proof.Machine

section
variable {n : SlotId} {k : Fin 4} {e : InFlight} {new : IdentityRecord} {s c : State} (hc : Captured n k e.final false s c)
include hc

theorem Captured.identity_same : (c.slot n).identity = (s.slot n).identity := by
  rw [hc.identity, Bool.and_false, Bool.or_false]

theorem Captured.modelOf_same : modelOf c (c.slot n) = modelOf s (s.slot n) := by
  unfold modelOf
  rw [hc.identity_same, (hc.keeps.same .models (by simp) : c.tables.models = s.tables.models)]

theorem Captured.computed (m : Option ModelEntry) :
    computedIdentity m new { c.slot n with identity := { (c.slot n).identity with record := some new } }
      = computedIdentity m new { s.slot n with identity := { (s.slot n).identity with record := some new } } := by
  unfold computedIdentity Slot.peaksHeld
  dsimp only
  rw [hc.identity_same, hc.power]

theorem Captured.mismatch (m : Option ModelEntry) : Mismatch c new m ↔ Mismatch s new m :=
  Mismatch.congr (hc.keeps.same .target (by simp)) new m

/-- The slot is to be rebound exactly where it stood in READY, at rest, with no HEAVY or SPIN_UP in flight (R57, R58). -/
theorem Captured.rebindable {b : State} (he : (s.slot n).traffic.inFlight[k] = some e) (hcls : e.cls = .identify)
    (hb : SameSerial n new c b) :
    (b.slot n).rebindable = true ↔ (s.slot n).state = .ready ∧ (s.slot n).power.spindle = .stopped
      ∧ (s.slot n).heavyInFlight = false ∧ (s.slot n).spinUpInFlight = false := by
  have hst : (c.slot n).state = (s.slot n).state := hc.slot.same .state (by simp)
  have hbs : (b.slot n).state = (c.slot n).state := hb.slot.same .state (by simp)
  by_cases hg : (s.slot n).state = .ready
  · have hx := hb.rest (by rw [hst, hg]; simp)
    have h1 : (b.slot n).heavyInFlight = (s.slot n).heavyInFlight := by
      refine anyInFlight_freed he (by simp [hcls]) ?_
      rw [hx]
      exact hc.inFlight
    have h2 : (b.slot n).spinUpInFlight = (s.slot n).spinUpInFlight := by
      refine anyInFlight_freed he (by simp [hcls]) ?_
      rw [hx]
      exact hc.inFlight
    have h3 : (b.slot n).power = (s.slot n).power := by
      rw [hx]
      exact hc.power
    rw [rebindable_iff, h1, h2, h3, hbs, hst]
  · rw [rebindable_iff, hbs, hst]
    simp [hg]

theorem Captured.readyBefore {b : State} (hst : (s.slot n).state = .ready) (hsp : (s.slot n).power.spindle = .stopped)
    (hb : SameSerial n new c b) : ReadyBefore n new s b := by
  have hcs : (c.slot n).state = .ready := (hc.slot.same .state (by simp)).trans hst
  have hx := hb.rest (by rw [hcs]; simp)
  have hpow : (b.slot n).power = (s.slot n).power := by
    rw [hx]
    exact hc.power
  have hid := hb.identity
  rw [hc.computed, hc.modelOf_same] at hid
  have htarget : b.store.target = s.store.target := (hb.keeps.same .target (by simp)).trans (hc.keeps.same .target (by simp))
  refine ⟨(hb.keeps.same .models (by simp)).trans (hc.keeps.same .models (by simp)),
    ⟨htarget, (hb.keeps.same .settings (by simp)).trans (hc.keeps.same .settings (by simp))⟩, fun a => fits_congr (fun m => ?_) htarget n a,
    hpow, ?_, (hb.slot.same .state (by simp)).trans hcs, hsp, ?_, by rw [hid]; rfl, by rw [hid]; rfl, by rw [hid]; rfl, fun hh => ?_, ?_, ?_⟩
  · by_cases hm : m = n
    · rw [hm, hpow]
    · rw [hb.keeps.slot_eq (m := m) (by simp [hm]), hc.keeps.slot_eq (m := m) (by simp [hm])]
  · rw [hx]
    exact hc.slot.same .injections (by simp)
  · rw [hx]
    exact hc.slot.same .reason (by simp)
  · rw [hid]
    refine if_neg ?_
    rw [peaksHeld_iff, hsp, hh]
    simp
  · intro h
    rw [hb.sends ((hc.mismatch _).2 (by rw [hc.modelOf_same]; exact h)) (by rw [hcs]; simp)]
    simp
  · intro h
    rw [(hb.holds (mt (hc.mismatch _).1 (by rw [hc.modelOf_same]; exact h))).1]
    exact hc.quarantines _ (by simp)

/-- Without a rebinding, the capture is the computation against the entry bound. -/
theorem Captured.unrebound {b u : State} (hb : SameSerial n new c b) (hd : Delivered n b u) :
    let x := s.slot n
    (u.slot n).identity = computedIdentity (modelOf s x) new { x with identity := { x.identity with record := some new } }
      ∧ (Mismatch s new (modelOf s x) →
          (x.state ≠ .grading → (n, .powerMismatch) ∈ u.transit.quarantines)
            ∧ (x.state = .grading → (u.slot n).grading.reason = some (x.grading.reason.getD .powerMismatch)))
      ∧ (¬Mismatch s new (modelOf s x) →
          ((n, .powerMismatch) ∈ u.transit.quarantines ↔ (n, .powerMismatch) ∈ s.transit.quarantines)
            ∧ (u.slot n).grading.reason = x.grading.reason)
      ∧ (x.state = .grading → e.final = true → (u.slot n).grading.finalIdentify = .ended) := by
  intro x
  have hst : (c.slot n).state = x.state := hc.slot.same .state (by simp)
  have hbs : (b.slot n).state = x.state := (hb.slot.same .state (by simp)).trans hst
  have hre : (c.slot n).grading.reason = x.grading.reason := hc.slot.same .reason (by simp)
  have hur : (u.slot n).grading.reason = (b.slot n).grading.reason := hd.slot.same .reason (by simp)
  have hmis : Mismatch c new (modelOf c (c.slot n)) ↔ Mismatch s new (modelOf s x) := by
    rw [hc.modelOf_same]
    exact hc.mismatch _
  refine ⟨?_, fun h => ⟨fun hg => ?_, fun hg => ?_⟩, fun h => ⟨?_, ?_⟩, fun hg hf => ?_⟩
  · rw [hd.identity, hb.identity, hc.computed, hc.modelOf_same]
  · rw [hd.quarantines, hb.sends (hmis.2 h) (by rw [hst]; exact hg)]
    simp
  · rw [hur, hb.takes (hmis.2 h) (hst.trans hg), hre]
  · rw [hd.quarantines, (hb.holds (mt hmis.1 h)).1]
    exact hc.quarantines _ (by simp)
  · rw [hur, (hb.holds (mt hmis.1 h)).2, hre]
  · exact hd.ended (hbs.trans hg) (hb.final (hc.final hf))

end

/-- Effective peaks that a spin-up holds, or a held grant, wait; others take effect at once (R53). -/
theorem computedIdentity_peaks (m : Option ModelEntry) (r : IdentityRecord) (x : Slot) :
    (x.power.spindle ≠ .spinningUp → x.power.held = none → (computedIdentity m r x).peaks = effectivePeaks r m)
      ∧ (x.power.spindle = .spinningUp ∨ x.power.held ≠ none →
        (computedIdentity m r x).peaks = x.identity.peaks ∧ (computedIdentity m r x).pendingPeaks = some (effectivePeaks r m)) := by
  constructor
  · intro h1 h2
    refine if_neg ?_
    rw [peaksHeld_iff, h2]
    simpa using h1
  · intro h
    have hp : x.peaksHeld = true := (peaksHeld_iff x).2 h
    exact ⟨if_pos hp, if_pos hp⟩

end Sys2Proof.Machine
end

section
/-! SUPPORT. Peaks that wait take effect (R53), and the patterns and flags in the words of the rules (R50, R52). -/

namespace Sys2Proof.Machine

/-! ### Peaks that wait take effect at the end of the spin-up -/

theorem applyPending_of_none {x : Slot} (h : x.identity.pendingPeaks = none) : applyPending x = x := by
  unfold applyPending
  rw [h]

/-- With no peaks waiting, the end of a spin-down leaves the identity. -/
theorem spinDownEnd_identity {n : SlotId} {s : State} (h : (s.slot n).identity.pendingPeaks = none) :
    ((spinDownEnd n s).slot n).identity = (s.slot n).identity := by
  unfold spinDownEnd
  have hx := slot_modSlot_same s n (fun x => { x with lines.park := none })
  generalize modSlot n (fun x => { x with lines.park := none }) s = a at *
  rw [startRundown_slot_same, powerOff, setAllocation_slot_same, slot_modSlot_same, applyPending_of_none (by rw [hx]; exact h), hx]

theorem parkingResponse_identity {n : SlotId} {s : State} (cls : CmdClass) (granted : Bool)
    (h : (s.slot n).identity.pendingPeaks = none) :
    ((parkingResponse n cls granted s).slot n).identity = (s.slot n).identity := by
  have hinj : ((injectParking n s).slot n).identity = (s.slot n).identity := by
    unfold injectParking
    split
    · rfl
    · obtain ⟨l, hl, -⟩ := inject_slot_same n { bareInjection .spinDown with parking := true } s
      rw [hl]
  unfold parkingResponse
  split
  · rfl
  · cases cls with
    | spinDown => exact spinDownEnd_identity h
    | spinUp =>
      cases granted with
      | true => exact hinj
      | false => rfl
    | light | heavy | identify => rfl

theorem deliver_identity {n : SlotId} {e : InFlight} {status : StatusClass} {code : BitVec 16} {payload : Bytes} {cl : Classification}
    {s : State} (h : (s.slot n).identity.pendingPeaks = none) :
    ((deliver n e status code payload cl s).slot n).identity = (s.slot n).identity := by
  unfold deliver
  cases e.source with
  | none => exact parkingResponse_identity _ _ h
  | some dest => exact parkingResponse_identity (s := pushResponse _ s) _ _ h

theorem setSpindle_leaving_identity {n : SlotId} {sp : Spindle} {s : State} {ps : List Nat} (hu : (s.slot n).power.spindle = .spinningUp)
    (hsp : sp ≠ .spinningUp) (hps : (s.slot n).identity.pendingPeaks = some ps) :
    ((setSpindle n sp s).slot n).identity = { (s.slot n).identity with peaks := ps, pendingPeaks := none } := by
  obtain ⟨a, -, h⟩ := followFigure_slot_lowered n (spunTo sp) s
  rw [setSpindle_eq, h]
  unfold spunTo applyPending
  have hl : ((s.slot n).power.spindle == .spinningUp && sp != .spinningUp) = true := by simp [hu, hsp]
  simp only [hl, hps, if_true]

/-- The response that ends a spin-up lets the peaks computed meanwhile take effect (R53). -/
theorem takeResponse_pending {n : SlotId} {k : Fin 4} {e : InFlight} {status : StatusClass} {code : BitVec 16} {payload : Bytes}
    {v : SensorReading} {s : State} {ps : List Nat} (hk : (s.slot n).traffic.inFlight[k] = some e)
    (hc : e.cls = .spinUp ∧ e.granted = true ∨ e.cls = .spinDown ∧ (s.slot n).spinUpInFlight = false)
    (hu : (s.slot n).power.spindle = .spinningUp) (hps : (s.slot n).identity.pendingPeaks = some ps) :
    ((takeResponse n k e status code payload v (modSlot n countGood s)).slot n).identity
      = { (s.slot n).identity with peaks := ps, pendingPeaks := none } := by
  have hcls : e.cls = .spinUp ∨ e.cls = .spinDown := hc.imp And.left And.left
  rw [takeResponse_spin_eq status code payload v s hcls]
  have hr := responseRetired_spec n k s
  generalize responseRetired n k s = c at *
  have hcid : (c.slot n).identity = (s.slot n).identity :=
    slotIdentity_ext (hr.slot.same .identity (by simp)) (hr.slot.same .retryMark (by simp))
  have hcu : (c.slot n).power.spindle = .spinningUp := (hr.slot.same .spindle (by simp)).1.trans hu
  have hends : (c.slot n).endsSpinUp e.cls e.granted := by
    refine ⟨hcu, hc.imp_right fun h => ⟨h.1, ?_⟩⟩
    exact (anyInFlight_freed hk (by simp [h.1]) hr.inFlight).trans h.2
  have hleft : spindleAfter e.cls e.granted (status == .good) (c.slot n) ≠ .spinningUp := by
    rw [spindleAfter_of_ends _ hends]
    split <;> simp
  have ht : ((takeSpindle n e.cls e.granted (status == .good) v c).slot n).identity
      = { (s.slot n).identity with peaks := ps, pendingPeaks := none } := by
    rw [takeSpindle_moved v (by rw [hcu]; exact hleft)]
    obtain ⟨-, hs⟩ := spindleTaken_same n (spindleAfter e.cls e.granted (status == .good) (c.slot n)) v c
    have hid := setSpindle_leaving_identity hcu hleft (by rw [hcid]; exact hps)
    generalize setSpindle n (spindleAfter e.cls e.granted (status == .good) (c.slot n)) c = a at *
    generalize spindleTaken n (spindleAfter e.cls e.granted (status == .good) (c.slot n)) v c = b at *
    have hb : (b.slot n).identity = _ :=
      (slotIdentity_ext (hs.same .identity (by simp)) (hs.same .retryMark (by simp))).trans (hid.trans (by rw [hcid]))
    split
    · obtain ⟨-, -, -, -, h⟩ | ⟨-, h⟩ := shedCheck_cases n b <;> rw [h]
      · obtain ⟨l, hl, -⟩ := inject_slot_same n { bareInjection .spinDown with shed := true } b
        rw [hl]
        exact hb
      · exact hb
    · exact hb
  generalize takeSpindle n e.cls e.granted (status == .good) v c = d at *
  have hx := classify_slot_keeps n status code (some e.cls) d
  generalize classify n status code (some e.cls) d = p at *
  have hp : (p.1.slot n).identity = _ := (slotIdentity_ext (hx.same .identity (by simp)) (hx.same .retryMark (by simp))).trans ht
  rw [(goOn_delivered n _).identity, deliver_identity (by rw [hp]), hp]

/-! ### Patterns -/

theorem trimRight_spaces {text : Bytes} (h : text.getLast? ≠ some 0x20) (k : Nat) :
    trimRight (text ++ List.replicate k 0x20) = text := by
  induction k with
  | zero =>
    rw [List.replicate_zero, List.append_nil]
    refine (List.rdropWhile_eq_self_iff (p := (· == (0x20 : Byte)))).2 fun hne hl => h ?_
    rw [List.getLast?_eq_some_getLast hne, beq_iff_eq.1 hl]
  | succ k ih =>
    rw [List.replicate_succ', ← List.append_assoc]
    exact (List.rdropWhile_concat_pos (p := (· == (0x20 : Byte))) _ _ rfl).trans ih

/-- A text is its trimmed text and trailing spaces. -/
theorem trimRight_append (bs : Bytes) : ∃ k, bs = trimRight bs ++ List.replicate k 0x20 := by
  refine ⟨(bs.reverse.takeWhile (· == 0x20)).length, ?_⟩
  have hw : (bs.reverse.takeWhile (· == 0x20)).reverse = List.replicate (bs.reverse.takeWhile (· == 0x20)).length 0x20 :=
    List.eq_replicate_iff.2 ⟨List.length_reverse, fun b hb => by simpa using List.mem_takeWhile_imp (List.mem_reverse.1 hb)⟩
  rw [← hw, trimRight, ← List.reverse_append, List.takeWhile_append_dropWhile, List.reverse_reverse]

theorem trimRight_eq_iff {text model : Bytes} (h : text.getLast? ≠ some 0x20) :
    trimRight model = text ↔ ∃ k, model = text ++ List.replicate k 0x20 := by
  constructor
  · rintro rfl
    exact trimRight_append model
  · rintro ⟨k, rfl⟩
    exact trimRight_spaces h k

/-- The match of a pattern in the words of R50. -/
theorem patternMatches_iff {text : Bytes} (h : text.getLast? ≠ some 0x20) (model : Bytes) (spaces : Nat) :
    (∀ start, text = start ++ [0x2A] → (patternMatches (text ++ List.replicate spaces 0x20) model = true ↔ start <+: model))
      ∧ (text.getLast? ≠ some 0x2A →
          (patternMatches (text ++ List.replicate spaces 0x20) model = true ↔ ∃ k, model = text ++ List.replicate k 0x20)) := by
  unfold patternMatches
  rw [trimRight_spaces h]
  refine ⟨fun start hs => ?_, fun hs => ?_⟩
  · subst hs
    dsimp only
    rw [if_pos (by simp), List.dropLast_concat, List.isPrefixOf_iff_prefix]
  · dsimp only
    rw [if_neg hs, beq_iff_eq, trimRight_eq_iff h]

/-! ### Flags and peaks -/

theorem foldl_min_lt (ps : List Nat) (p d : Nat) : ps.foldl min p < d ↔ p < d ∨ ∃ q ∈ ps, q < d := by
  induction ps generalizing p with
  | nil => simp
  | cons q ps ih =>
    rw [List.foldl_cons, ih]
    simp [or_assoc]

theorem smallestPeak_below (ps : List Nat) (d : Nat) : (∃ p, smallestPeak ps = some p ∧ p < d) ↔ ∃ p ∈ ps, p < d := by
  cases ps with
  | nil => simp [smallestPeak]
  | cons p ps => simp [smallestPeak, foldl_min_lt]

/-- The declared current is above some profile's peak exactly where it is above the smallest (R52). -/
theorem declHigh_iff (r : IdentityRecord) (m : ModelEntry) (old : IdentityFlags) :
    (identityFlags r (some m) old).declHigh = true ↔ ∃ declared, r.power = some declared ∧ ∃ p ∈ m.profiles, p.peak < declared := by
  have h := fun d => smallestPeak_below (m.profiles.map (·.peak)) d
  have he : (identityFlags r (some m) old).declHigh = true ↔
      ∃ declared, r.power = some declared ∧ ∃ p, smallestPeak (m.profiles.map (·.peak)) = some p ∧ p < declared := by
    unfold identityFlags
    dsimp only
    cases r.power with
    | none => simp
    | some d => cases smallestPeak (m.profiles.map (·.peak)) <;> simp
  rw [he]
  simp only [h, List.mem_map, exists_exists_and_eq_and]

theorem identityFlags_some (r : IdentityRecord) (m : ModelEntry) (old : IdentityFlags) :
    ((identityFlags r (some m) old).fwMismatch = true ↔ m.firmwareList ≠ [] ∧ r.firmware ∉ m.firmwareList)
      ∧ ((identityFlags r (some m) old).capLow = true ↔ ∃ c, m.minCapacity = some c ∧ r.capacity < c) := by
  constructor
  · simp [identityFlags]
  · change (m.minCapacity.map fun c => decide (r.capacity < c)).getD false = true ↔ _
    cases m.minCapacity <;> simp

end Sys2Proof.Machine
end

section
/-! The obligation on first and later identifications (R7, R50 to R60, R67). -/

namespace Sys2Proof.Machine

/-- Settles O54: the response is one path (counted, retired, classified, captured, delivered), and each clause reads the
capture's own rule through the delivery. -/
theorem firstIdentify : Obligations.FirstIdentify := by
  unfold Obligations.FirstIdentify
  refine ⟨?first, ?later, ?pending, ?computed, ?patterns⟩
  case first =>
    intro n tag code payload sensor s k e r on hst hreason hk he hc hsrc hp x quiet
    obtain ⟨c, u, hr, hex, hd⟩ := firstIdentify_taken (code := code) (sensor := sensor) on hst hk he hc hp
    have hcst : (c.slot n).state = .identifying := (hr.slot.same .state (by simp)).trans hst
    have hmods : c.tables.models = s.tables.models := hr.keeps.same .models (by simp)
    have hall : (u.slot n).power.allocation ≤ x.power.allocation := by
      have h := (firstCapture_noRise (r := r) hcst).trans hd.noRise
      rw [NoRise, hr.power] at h
      exact h
    have hue : (u.slot n).events = _ := hd.slot.same .events (by simp)
    have hus : (u.slot n).state = _ := hd.slot.same .state (by simp)
    have hur : (u.slot n).grading.reason = _ := hd.slot.same .reason (by simp)
    have hum : u.tables.models = _ := hd.keeps.same .models (by simp)
    cases hm : matchSearch s.tables.models r.model with
    | none =>
      have ht := firstCapture_unmatched (n := n) (r := r) (s := c) (by rw [hmods]; exact hm)
      generalize firstCapture n r c = t at *
      have hcm : (c.slot n).identity.model = x.identity.model := by rw [hr.identity]
      refine ⟨u, hex, by rw [hd.identity, ht.identity]; rfl, hall, fun _ => ⟨matchSearch_none hm, hus.trans ht.state, by rw [hue]; exact ht.events,
        hum.trans ((ht.keeps.same .models (by simp)).trans hmods), by rw [hd.identity, ht.identity]; exact hcm,
        fun h => ?_, fun h => ?_⟩, nofun⟩
      · have hmo : modelOf c (c.slot n) = none := by
          unfold modelOf
          rw [hr.identity, (show (s.slot n).identity.model = none from h)]
          rfl
        rw [hd.identity, ht.identity, hmo]
        exact congrArg (identityFlags r none ·.flags) hr.identity
      · obtain ⟨h1, h2, h3⟩ := h
        have hinj : (t.slot n).traffic.injections = [] :=
          (ht.slot.same .injections (by simp)).trans ((hr.slot.same .injections (by simp)).trans h3)
        rw [hd.power hinj (.inr (by rw [ht.power, hr.power, show (s.slot n).power.spindle = .stopped from h1]; simp)), ht.power, hr.power]
    | some i =>
      have ha := keepRecord_slot_same n r c
      have hak := keepRecord_keeps n r c
      have ht := bindFirst_bound (n := n) (r := r) (s := keepRecord n r c) i (by rw [ha]) (.inl (by rw [ha]; exact hcst))
      rw [firstCapture_matched (by rw [hmods]; exact hm)] at hd hue hus hur hum
      generalize bindFirst n i (keepRecord n r c) = t at *
      generalize keepRecord n r c = a at *
      have hai : a.tables.models = s.tables.models := (hak.same .models (by simp)).trans hmods
      have hapow : (a.slot n).power = x.power := by rw [ha]; exact hr.power
      have haid : (a.slot n).identity = { x.identity with record := some r } := by rw [ha, hr.identity]
      have hares : (a.slot n).grading.reason = none := by
        rw [ha]
        exact (hr.slot.same .reason (by simp)).trans hreason
      have hat : a.store.target = s.store.target := (hak.same .target (by simp)).trans (hr.keeps.same .target (by simp))
      have htm : t.tables.models[i].refCount = s.tables.models[i].refCount + 1 := by rw [ht.bound, hai]
      have hmis : Mismatch a r (some a.tables.models[i]) ↔ Mismatch s r (some s.tables.models[i]) := by
        rw [hai]
        exact Mismatch.congr hat r _
      refine ⟨u, hex, by rw [hd.identity]; exact ht.record, hall, nofun, fun j hj => ?_⟩
      cases hj
      obtain ⟨m1, m2, m3⟩ := matchSearch_some hm
      refine ⟨m1, m2, m3, by rw [hd.identity]; exact ht.model, by rw [hum]; exact htm, by rw [hue]; exact ht.events,
        by rw [hd.identity, ht.flags, haid, hai], fun h => ?_, fun h => ?_, fun h => ?_⟩
      · obtain ⟨h1, h2⟩ := ht.mismatched (hmis.2 h) hares
        exact ⟨hus.trans h1, hur.trans h2⟩
      · obtain ⟨h1, -, h3⟩ := ht.ready (mt hmis.1 h)
        exact ⟨hus.trans h1, hur.trans ((h3.same .reason (by simp)).trans hares)⟩
      · obtain ⟨h1, h2, h3⟩ := h
        have hpowered : (a.slot n).lines.powered = true := by
          rw [ha]
          exact (hr.slot.same .power (by simp)).trans on
        obtain ⟨q1, q2, q3⟩ := ht.still hpowered (by rw [hapow]; exact h1) (by rw [hapow]; exact h2) (by
          rw [ha]
          exact (hr.slot.same .injections (by simp)).trans h3)
        have hpow := hd.power q3 (by
          by_cases hmm : Mismatch s r (some s.tables.models[i])
          · exact .inl (ht.mismatched (hmis.2 hmm) hares).1
          · obtain ⟨-, -, h6⟩ := ht.ready (mt hmis.1 hmm)
            refine .inr ?_
            rw [(h6.same .spindle (by simp)).1, hapow, show x.power.spindle = .stopped from h1]
            simp)
        exact ⟨by rw [hd.identity, q1, hai], by rw [hpow, q2, hai, hapow]⟩
  case later =>
    intro n tag status code payload sensor s k e old on hni hnr hk he hcls hold x quiet missing mismatch
    obtain ⟨hnone, hsome⟩ := laterIdentify_captured (status := status) (code := code) (payload := payload) (sensor := sensor)
      hni he hcls hold
    refine ⟨_, exec_driveResponse_matched status code payload sensor on hnr hk he, ?_⟩
    generalize takeResponse n k e status code payload sensor (modSlot n countGood s) = u at *
    intro sentWhere mismatchBefore unbound
    cases hb : identifyBlock status payload with
    | none =>
      obtain ⟨c, hc, hd⟩ := hnone hb
      have hx := noteOutcome_slot_same (n := n) (o := .error) (s := c) (old := old) (by rw [hc.identity]; exact hold)
      generalize noteOutcome n .error c = t at *
      have hts : (t.slot n).state = x.state := by
        rw [hx]
        exact hc.slot.same .state (by simp)
      refine ⟨fun hg hf => hd.ended (hts.trans hg) (by rw [hx]; exact hc.final hf), fun new hs hp => ?_, fun _ => ?_⟩
      · rw [hs, identifyBlock_good hp] at hb
        cases hb
      · rw [hd.identity, hx, hc.identity, Bool.and_true]
        exact ⟨rfl, rfl, rfl⟩
    | some new =>
      obtain ⟨hgood, hparse⟩ : status = .good ∧ parseIdentity payload = some new := by
        unfold identifyBlock at hb
        split at hb
        · next h => exact ⟨h, hb⟩
        · cases hb
      obtain ⟨c, hc, hd⟩ := hsome new hb
      have hcs : (c.slot n).state = x.state := hc.slot.same .state (by simp)
      have hrec : (c.slot n).identity.record = some old := by rw [hc.identity_same]; exact hold
      by_cases hser : new.serial = old.serial
      · rw [reCapture_same hser] at hd
        have hsm := sameSerial_spec n new c
        generalize computeAndCheck n (keepRecord n new c) = b at *
        have hreb := hc.rebindable he hcls hsm
        by_cases hgo : new.firmware ≠ old.firmware ∧ (b.slot n).rebindable = true
        · rw [if_pos hgo] at hd
          obtain ⟨hst, hsp, hh, hup⟩ := hreb.1 hgo.2
          have hrb := hc.readyBefore hst hsp hsm
          obtain ⟨hur, hum⟩ := rebind_record hrb hd
          have hunbound : rebind n b = takeQuarantine n .powerMismatch b → unbound new := fun hq => by
            obtain ⟨-, h2, h3, h4, h5, h6, h7, h8⟩ := rebind_quarantines hrb hd hq
            exact ⟨h2, h3, h4, h5, h6.iff mismatch_iff_bound, h7, h8⟩
          refine ⟨fun hg => ?_, fun new' hs hp => ?_, fun h => ?_⟩
          · rw [hst] at hg
            cases hg
          · rw [hparse] at hp
            cases hp
            refine ⟨fun h => absurd hser h, fun _ => ⟨hur, fun h => ?_, fun _ _ _ _ _ =>
              ⟨fun i hm => ⟨fun hor => ?_, fun hi hf => hunbound (rebind_unfit hrb hm hi hf)⟩,
                fun hm => ⟨fun hf => ?_, fun hf => hunbound (rebind_unfit_none hrb hm hf)⟩⟩⟩, hum⟩
            · rw [hst, hsp, hh, hup] at h
              simp [hgo.1] at h
            · by_cases hi : x.identity.model = some i
              · obtain ⟨-, h2, h3, h4, h5, h6, h7, h8, h9⟩ := rebind_confirms hrb hd hm hi
                exact ⟨h2, h3, h4, h5, h6.iff (or_congr_left mismatch_iff_bound), fun h => absurd hi h, fun h _ => h7 h,
                  fun _ h => ⟨h8 h, by rw [h9]⟩⟩
              · obtain ⟨-, h2, h3, h4, h5, h6, h7, h8, h9, h10⟩ := rebind_rebinds hrb hd hm hi (hor.resolve_left hi)
                exact ⟨h2, h3, h4, h5, h6.iff (or_congr_left mismatch_iff_bound), fun _ h => ⟨h8 h, h9, h10⟩, fun h _ => h7 h,
                  fun h => absurd h hi⟩
            · obtain ⟨-, h2, h3, h4, h5, h6, h7, h8, h9, h10⟩ := rebind_releases hrb hd hm hf
              exact ⟨h2, h3, h4, h5, h6.iff mismatch_iff_bound, h7, h8, fun h _ => h9 h, h10⟩
          · rw [hparse] at h
            simp [hgood] at h
        · rw [if_neg hgo] at hd
          obtain ⟨hid, hmis, hok, hfin⟩ := hc.unrebound hsm hd
          obtain ⟨hp1, hp2⟩ := computedIdentity_peaks (modelOf s x) new { x with identity := { x.identity with record := some new } }
          refine ⟨hfin, fun new' hs hp => ?_, fun h => ?_⟩
          · rw [hparse] at hp
            cases hp
            refine ⟨fun h => absurd hser h, fun _ => ⟨by rw [hid]; rfl, fun _ => ⟨by rw [hid]; rfl, by rw [hid]; rfl, fun h => ?_, fun h => ?_,
              fun m hm => ⟨fun h => hmis ?_, fun h => hok ?_⟩⟩, fun h1 h2 h3 h4 h5 => absurd ⟨h2, hreb.2 ⟨h1, h3, h4, h5⟩⟩ hgo⟩, ?_⟩
            · rw [hid]
              exact hp1 h.1 h.2.1
            · rw [hid]
              exact hp2 h
            · rw [hm]
              exact h
            · rw [hm]
              exact h
            · rw [hid]
              cases modelOf s (s.slot n) <;> rfl
          · rw [hparse] at h
            simp [hgood] at h
      · rw [reCapture_other hser] at hd
        have ho := otherSerial_spec hrec
        generalize captureQuarantine n .identityChanged (noteOutcome n .ack c) = t at *
        refine ⟨fun hg hf => hd.ended (ho.state.trans (hcs.trans hg)) (ho.final (hc.final hf)), fun new' hs hp => ?_, fun h => ?_⟩
        · rw [hparse] at hp
          cases hp
          refine ⟨fun _ => ⟨?_, ?_, ?_, fun hg => ?_, fun hg => ?_⟩, fun h => absurd h hser, ?_⟩
          · rw [hd.identity, ho.identity]
          · rw [hd.identity, ho.identity, hc.identity_same]
          · rw [hd.identity, ho.identity, hc.identity_same]
          · rw [hd.quarantines]
            exact ho.sends (by rw [hcs]; exact hg)
          · rw [(hd.slot.same .reason (by simp) : _ = (t.slot n).grading.reason), ho.takes (hcs.trans hg),
              (hc.slot.same .reason (by simp) : _ = (s.slot n).grading.reason)]
          · rw [hd.identity, ho.identity, hc.identity_same]
        · rw [hparse] at h
          simp [hgood] at h
  case pending =>
    intro n tag status code payload sensor s k e ps on hnr hk he hc hu hps
    exact ⟨_, exec_driveResponse_matched status code payload sensor on hnr hk he, takeResponse_pending he hc hu hps⟩
  case computed =>
    intro n s r hr x computed flags
    have hx := computeIdentity_slot_same hr
    have hp := computedIdentity_peaks (modelOf s x) r x
    refine ⟨computeIdentity_keeps n s, fun h => ?_, fun h1 h2 => ?_⟩
    · have hh : x.peaksHeld = true := (peaksHeld_iff x).2 h
      rw [hx]
      unfold computedIdentity
      rw [if_pos hh, if_pos hh]
    · have hh : ¬x.peaksHeld = true := by
        rw [peaksHeld_iff, h2]
        simpa using h1
      rw [hx]
      unfold computedIdentity
      rw [if_neg hh, if_neg hh]
  case patterns =>
    refine ⟨fun text model spaces h => patternMatches_iff h model spaces, ?_⟩
    intro r m old blocked accepted profiles flags
    obtain ⟨h1, h2⟩ := identityFlags_some r m old
    refine ⟨rfl, h1, h2, declHigh_iff r m old, rfl, rfl, rfl, fun h => ?_, fun d h => ?_⟩
    · unfold effectivePeaks
      rw [h]
      simp [ModelEntry.profiles, profiles]
    · unfold effectivePeaks
      rw [h]
      rfl

end Sys2Proof.Machine
end

section
/-! SUPPORT. The response to a command other than IDENTIFY, up to its delivery (R32, R33, R124). -/

namespace Sys2Proof.Machine

/-! ### The spindle is set -/

/-- What setting the spindle from a response, the deferred sample and the shed of a drive that now spins leave. -/
structure SpindleTaken (n : SlotId) (s t : State) : Prop where
  keeps : KeepsBut [.slot n, .passDue, .partSet, .noticeQueue, .transit] s t
  slot : SlotKeepsBut [.spindle, .allocation, .identity, .samples, .tallies, .events, .notice, .lamps, .idle, .injections]
    (s.slot n) (t.slot n)
  model : (t.slot n).identity.model = (s.slot n).identity.model
  handOvers : t.transit.handOvers = s.transit.handOvers
  listed : s.power.supply = .normal → (t.slot n).traffic.injections = (s.slot n).traffic.injections

theorem SpindleTaken.refl (n : SlotId) (s : State) : SpindleTaken n s s := ⟨.refl .., .refl .., rfl, rfl, fun _ => rfl⟩

theorem deferredSample_handOvers (n : SlotId) (v : SensorReading) (s : State) :
    (deferredSample n v s).transit.handOvers = s.transit.handOvers := by
  by_cases h : (s.slot n).lines.powered = false ∨ (s.slot n).drift.deferral = false ∨ (s.slot n).power.spindle = .spinningUp
  · rw [deferredSample_idle h]
  · simp only [not_or, Bool.not_eq_false] at h
    exact (deferredSample_taken v h.1 h.2.1 h.2.2).handOvers

theorem spindleTaken_spec (n : SlotId) (sp : Spindle) (v : SensorReading) (s : State) : SpindleTaken n s (spindleTaken n sp v s) := by
  obtain ⟨hk, hs⟩ := spindleTaken_same n sp v s
  have hh : (spindleTaken n sp v s).transit.handOvers = (setSpindle n sp s).transit.handOvers := by
    unfold spindleTaken
    split
    · exact deferredSample_handOvers ..
    · rfl
  have hx := setSpindle_slot_leaving n sp s
  have hka := setSpindle_keeps n sp s
  have hm := setSpindle_model n sp s
  have ht := (setSpindle_spindle n sp s).2
  generalize setSpindle n sp s = a at *
  generalize spindleTaken n sp v s = t at *
  refine ⟨(hka.mono (by simp)).trans (hk.mono (by simp)), (hx.mono (by simp)).trans (hs.mono (by simp)),
    (hs.same .identity (by simp)).2.1.trans hm, hh.trans (congrArg Transit.handOvers (hka.same .transit (by simp))), fun _ => ?_⟩
  rw [(hs.same .injections (by simp) : _ = (a.slot n).traffic.injections), ht]

theorem takeSpindle_spec (n : SlotId) (cls : CmdClass) (granted good : Bool) (v : SensorReading) (s : State) :
    SpindleTaken n s (takeSpindle n cls granted good v s) := by
  by_cases hm : spindleAfter cls granted good (s.slot n) = (s.slot n).power.spindle
  · rw [takeSpindle_same v hm]
    exact .refl ..
  · rw [takeSpindle_moved v hm]
    have ht := spindleTaken_spec n (spindleAfter cls granted good (s.slot n)) v s
    generalize spindleTaken n (spindleAfter cls granted good (s.slot n)) v s = t at *
    split
    · obtain ⟨hn, -, -, -, h⟩ | ⟨-, h⟩ := shedCheck_cases n t <;> rw [h]
      · have hk := inject_keeps n { bareInjection .spinDown with shed := true } t
        have hx := inject_slot n { bareInjection .spinDown with shed := true } t
        refine ⟨ht.keeps.trans (hk.mono (by simp)), ht.slot.trans (hx.mono (by simp)), (hx.same .identity (by simp)).2.1.trans ht.model,
          (congrArg Transit.handOvers (hk.same .transit (by simp))).trans ht.handOvers, fun h' => ?_⟩
        exact absurd ((ht.keeps.same .supply (by simp)).1.trans h') hn
      · exact ht
    · exact ht

/-- Only the response to a SPIN_UP or SPIN_DOWN moves the spindle. -/
theorem takeSpindle_other {n : SlotId} {cls : CmdClass} {granted good : Bool} (v : SensorReading) (s : State)
    (hu : cls ≠ .spinUp) (hd : cls ≠ .spinDown) : takeSpindle n cls granted good v s = s := by
  refine takeSpindle_same v ?_
  rw [spindleAfter_eq, if_neg fun h => hu h.1, if_neg fun h => hd h.1]

/-! ### The command answered -/

/-- The state once the frame is counted, its entry retired, the spindle set and the response classified (R32). -/
def commandAnswered (n : SlotId) (k : Fin 4) (e : InFlight) (status : StatusClass) (code : BitVec 16) (v : SensorReading)
    (s : State) : State × Classification :=
  classify n status code (some e.cls) (takeSpindle n e.cls e.granted (status == .good) v (responseRetired n k s))

/-- The response to a command other than IDENTIFY: answered, delivered, and the slot goes on. -/
theorem takeResponse_command {n : SlotId} {k : Fin 4} {e : InFlight} (status : StatusClass) (code : BitVec 16) (payload : Bytes)
    (v : SensorReading) (s : State) (hc : e.cls ≠ .identify) :
    takeResponse n k e status code payload v (modSlot n countGood s)
      = goOn n (deliver n e status code payload (commandAnswered n k e status code v s).2 (commandAnswered n k e status code v s).1) := by
  by_cases hs : e.cls = .spinUp ∨ e.cls = .spinDown
  · exact takeResponse_spin_eq status code payload v s hs
  · have h := not_or.1 hs
    unfold commandAnswered
    rw [takeSpindle_other v _ h.1 h.2]
    unfold takeResponse
    dsimp only
    rw [if_neg hs, if_neg hc]
    rfl

structure CommandAnswered (n : SlotId) (k : Fin 4) (s d : State) : Prop where
  keeps : KeepsBut [.slot n, .passDue, .classify, .partSet, .noticeQueue, .transit] s d
  slot : SlotKeepsBut
    [.spindle, .allocation, .identity, .samples, .tallies, .events, .notice, .lamps, .idle, .injections, .inFlight]
    (s.slot n) (d.slot n)
  inFlight : (d.slot n).traffic.inFlight = (s.slot n).traffic.inFlight.set k none
  model : (d.slot n).identity.model = (s.slot n).identity.model
  handOvers : d.transit.handOvers = s.transit.handOvers
  listed : s.power.supply = .normal → (d.slot n).traffic.injections = (s.slot n).traffic.injections

theorem commandAnswered_spec (n : SlotId) (k : Fin 4) (e : InFlight) (status : StatusClass) (code : BitVec 16) (v : SensorReading)
    (s : State) : CommandAnswered n k s (commandAnswered n k e status code v s).1 := by
  unfold commandAnswered
  have hr := responseRetired_spec n k s
  generalize responseRetired n k s = r at *
  have ht := takeSpindle_spec n e.cls e.granted (status == .good) v r
  generalize takeSpindle n e.cls e.granted (status == .good) v r = t at *
  have hk := classify_keeps n status code (some e.cls) t
  have hx := classify_slot_keeps n status code (some e.cls) t
  have hh := (classify_reports n status code (some e.cls) t).2.1
  generalize (classify n status code (some e.cls) t).1 = d at *
  refine ⟨((hr.keeps.mono (by simp)).trans (ht.keeps.mono (by simp))).trans (hk.mono (by simp)),
    ((hr.slot.mono (by simp)).trans (ht.slot.mono (by simp))).trans (hx.mono (by simp)), ?_, ?_, ?_, fun hn => ?_⟩
  · rw [(hx.same .inFlight (by simp) : _ = (t.slot n).traffic.inFlight), (ht.slot.same .inFlight (by simp) : _ = (r.slot n).traffic.inFlight),
      hr.inFlight]
  · exact (hx.same .identity (by simp)).2.1.trans (ht.model.trans (hr.slot.same .identity (by simp)).2.1)
  · exact hh.trans (ht.handOvers.trans (congrArg Transit.handOvers (hr.keeps.same .transit (by simp))))
  · have hr' : (r.slot n).traffic.injections = (s.slot n).traffic.injections := hr.slot.same .injections (by simp)
    rw [(hx.same .injections (by simp) : _ = (t.slot n).traffic.injections), ht.listed ((hr.keeps.same .supply (by simp)).1.trans hn), hr']

/-- The classification of the response is that of the table as it stood (R121). -/
theorem commandAnswered_classification (n : SlotId) (k : Fin 4) (e : InFlight) (status : StatusClass) (code : BitVec 16)
    (v : SensorReading) (s : State) :
    (commandAnswered n k e status code v s).2 = classification s.tables.classify status code (some e.cls) := by
  have hr := (responseRetired_spec n k s).keeps
  unfold commandAnswered
  generalize responseRetired n k s = r at *
  have ht := (takeSpindle_spec n e.cls e.granted (status == .good) v r).keeps
  generalize takeSpindle n e.cls e.granted (status == .good) v r = t at *
  change classification t.tables.classify status code (some e.cls) = _
  rw [(ht.same .classify (by simp) : t.tables.classify = r.tables.classify),
    (hr.same .classify (by simp) : r.tables.classify = s.tables.classify)]

/-! ### The delivery -/

/-- What the parking's going on with a command leaves (R18). -/
theorem parkingResponse_spec (n : SlotId) (cls : CmdClass) (granted : Bool) (s : State) :
    KeepsBut [.slot n, .passDue] s (parkingResponse n cls granted s)
      ∧ SlotKeepsBut [.power, .rundown, .park, .allocation, .spindle, .injections, .identity, .tallies, .idle] (s.slot n)
        ((parkingResponse n cls granted s).slot n) := by
  have hinj : KeepsBut [.slot n, .passDue] s (injectParking n s)
      ∧ SlotKeepsBut [.power, .rundown, .park, .allocation, .spindle, .injections, .identity, .tallies, .idle] (s.slot n)
        ((injectParking n s).slot n) := by
    refine ⟨(injectParking_keeps n s).mono (by simp), ?_⟩
    unfold injectParking
    split
    · exact .refl ..
    · exact (inject_slot ..).mono (by simp)
  unfold parkingResponse
  split
  · exact ⟨.refl .., .refl ..⟩
  · cases cls with
    | spinDown => exact ⟨(spinDownEnd_spunDown n s).keeps, (spinDownEnd_spunDown n s).slot⟩
    | spinUp =>
      cases granted with
      | true => exact hinj
      | false => exact ⟨.refl .., .refl ..⟩
    | light | heavy | identify => exact ⟨.refl .., .refl ..⟩

/-- The answer that a delivery adds: the server's, none to the part's own (R32, step 5). -/
def deliveredAnswers (n : SlotId) (e : InFlight) (status : StatusClass) (code : BitVec 16) (payload : Bytes) (cl : Classification) :
    List SlotResponse :=
  e.source.toList.map fun dest => .drive dest (slotByte n) (BitVec.ofNat 8 e.tag) status code cl payload

theorem deliver_spec (n : SlotId) (e : InFlight) (status : StatusClass) (code : BitVec 16) (payload : Bytes) (cl : Classification)
    (s : State) :
    KeepsBut [.slot n, .responses, .passDue] s (deliver n e status code payload cl s)
      ∧ SlotKeepsBut [.power, .rundown, .park, .allocation, .spindle, .injections, .identity, .tallies, .idle] (s.slot n)
        ((deliver n e status code payload cl s).slot n)
      ∧ (deliver n e status code payload cl s).port.responses = s.port.responses ++ deliveredAnswers n e status code payload cl := by
  unfold deliver deliveredAnswers
  cases e.source with
  | none =>
    obtain ⟨hk, hx⟩ := parkingResponse_spec n e.cls e.granted s
    exact ⟨hk.mono (by simp), hx, (hk.same .responses (by simp)).trans (List.append_nil _).symm⟩
  | some dest =>
    have hp := pushResponse_keeps (.drive dest (slotByte n) (BitVec.ofNat 8 e.tag) status code cl payload) s
    obtain ⟨hk, hx⟩ := parkingResponse_spec n e.cls e.granted
      (pushResponse (.drive dest (slotByte n) (BitVec.ofNat 8 e.tag) status code cl payload) s)
    exact ⟨(hp.mono (by simp)).trans (hk.mono (by simp)), hx, hk.same .responses (by simp)⟩

/-- A response to a LIGHT or HEAVY leaves the parking alone. -/
theorem deliver_slot_same {n : SlotId} {e : InFlight} (status : StatusClass) (code : BitVec 16) (payload : Bytes) (cl : Classification)
    (s : State) (h : e.cls = .light ∨ e.cls = .heavy) : (deliver n e status code payload cl s).slot n = s.slot n := by
  have hp : ∀ t, parkingResponse n e.cls e.granted t = t := fun t => by
    unfold parkingResponse
    obtain h | h := h <;> rw [h] <;> split <;> rfl
  unfold deliver
  rw [hp]
  cases e.source with
  | none => rfl
  | some dest => rfl

/-! ### The tallies and the allocation after the response to a LIGHT or HEAVY -/

/-- The class of a response is counted unless its action is IGNORE (R124). -/
theorem classify_counters (n : SlotId) (status : StatusClass) (code : BitVec 16) (cls : Option CmdClass) (s : State) :
    let c := classification s.tables.classify status code cls
    (∀ d, c.cls = some d → c.action ≠ .ignore → ((classify n status code cls s).1.slot n).tallies.counters
        = (s.slot n).tallies.counters.set d (min 65535 ((s.slot n).tallies.counters[d] + 1)))
      ∧ (c.cls = none ∨ c.action = .ignore →
        ((classify n status code cls s).1.slot n).tallies.counters = (s.slot n).tallies.counters) := by
  intro c
  rw [classify_fst]
  refine ⟨fun d hd ha => ?_, fun h => ?_⟩
  · rw [applyAction_slot_of_counted hd ha, countNoted_slot_tallies, countMatch_slot]
  · rw [applyAction_of_ignored h, countMatch_slot]

theorem retireEntry_allocation (n : SlotId) (k : Fin 4) (s : State) :
    let freed := { s.slot n with traffic.inFlight := (s.slot n).traffic.inFlight.set k none }
    ((retireEntry n k s).slot n).power.allocation
      = if figureParts s freed = figureParts s (s.slot n) then (s.slot n).power.allocation
        else min (stateFigure s freed) (s.slot n).power.allocation := by
  intro freed
  unfold retireEntry
  rw [followFigure_slot_same, apply_ite (fun y : Slot => y.power.allocation)]
  rfl

/-- The figure does not read the tallies. -/
theorem figureParts_tallies {s t : State} (hm : t.tables.models = s.tables.models) (x : Slot) (l : SlotTallies) :
    figureParts t { x with tallies := l } = figureParts s x := figureParts_congr hm rfl rfl rfl rfl

theorem stateFigure_tallies {s t : State} (hm : t.tables.models = s.tables.models) (x : Slot) (l : SlotTallies) :
    stateFigure t { x with tallies := l } = stateFigure s x := by
  unfold stateFigure
  rw [figureParts_tallies hm]

theorem countGood_tallies (x : Slot) : countGood x = { x with tallies := (countGood x).tallies } := by
  unfold countGood
  split <;> rfl

theorem responseRetired_allocation (n : SlotId) (k : Fin 4) (s : State) :
    let freed := { s.slot n with traffic.inFlight := (s.slot n).traffic.inFlight.set k none }
    ((responseRetired n k s).slot n).power.allocation
      = if figureParts s freed = figureParts s (s.slot n) then (s.slot n).power.allocation
        else min (stateFigure s freed) (s.slot n).power.allocation := by
  intro freed
  have h := retireEntry_allocation n k (modSlot n countGood s)
  have hm : (modSlot n countGood s).tables.models = s.tables.models := rfl
  rw [slot_modSlot_same, countGood_tallies] at h
  dsimp only at h
  rw [figureParts_tallies hm, stateFigure_tallies hm freed] at h
  rw [figureParts_tallies hm freed] at h
  exact h

/-- The good run of 64 clears itself and the bad-frame counter (R39). -/
theorem countGood_runs (x : Slot) :
    (countGood x).tallies.goodRun = (if x.tallies.goodRun < 63 then x.tallies.goodRun + 1 else 0)
      ∧ (countGood x).tallies.badFrames = (if x.tallies.goodRun < 63 then x.tallies.badFrames else 0)
      ∧ (countGood x).tallies.unexpected = x.tallies.unexpected
      ∧ (countGood x).tallies.counters = x.tallies.counters := by
  unfold countGood
  by_cases h : 64 ≤ x.tallies.goodRun + 1
  · rw [if_pos h, if_neg (by omega), if_neg (by omega)]
    exact ⟨rfl, rfl, rfl, rfl⟩
  · rw [if_neg h, if_pos (by omega), if_pos (by omega)]
    exact ⟨rfl, rfl, rfl, rfl⟩

/-- With nothing queued, going on answers nothing. -/
theorem goOn_unanswered {n : SlotId} {s : State} (h : (s.slot n).traffic.queue = []) :
    (goOn n s).port.responses = s.port.responses := by
  unfold goOn
  split
  · next hg => exact (gradingProgress_wentOn hg).keeps.same .responses (by simp)
  · exact (serveSlot_plain fun q hq => by rw [h] at hq; exact absurd hq List.not_mem_nil).1

end Sys2Proof.Machine
end

section
/-! SUPPORT. What the answer to an IDENTIFY leaves of the answers and of the queue (R32, R56, R59). -/

namespace Sys2Proof.Machine

/-! ### Captures only add answers -/

/-- The groups that a capture may change. -/
abbrev captureGroups (n : SlotId) : List Group :=
  [.slot n, .responses, .models, .admission, .passDue, .sent, .transit, .partSet, .noticeQueue]

/-- What a capture outside IDENTIFYING leaves: answers are only added, and none with nothing queued. -/
structure LaterTaken (n : SlotId) (s t : State) : Prop where
  keeps : KeepsBut (captureGroups n) s t
  answers : ∃ more, t.port.responses = s.port.responses ++ more
  quiet : (s.slot n).traffic.queue = [] → t.port.responses = s.port.responses ∧ (t.slot n).traffic.queue = []

theorem LaterTaken.trans {n : SlotId} {s t u : State} (h : LaterTaken n s t) (h' : LaterTaken n t u) : LaterTaken n s u := by
  obtain ⟨a, ha⟩ := h.answers
  obtain ⟨b, hb⟩ := h'.answers
  refine ⟨h.keeps.trans h'.keeps, ⟨a ++ b, by rw [hb, ha, List.append_assoc]⟩, fun hq => ?_⟩
  obtain ⟨h1, h2⟩ := h.quiet hq
  obtain ⟨h3, h4⟩ := h'.quiet h2
  exact ⟨h3.trans h1, h4⟩

theorem LaterTaken.refl (n : SlotId) (s : State) : LaterTaken n s s := ⟨.refl .., ⟨[], (List.append_nil _).symm⟩, fun h => ⟨rfl, h⟩⟩

/-- Anything that leaves the answers and the queue alone. -/
theorem LaterTaken.of_keeps {n : SlotId} {ch : List Group} {ch' : List SlotGroup} {s t : State} (hk : KeepsBut ch s t)
    (hx : SlotKeepsBut ch' (s.slot n) (t.slot n)) (hsub : ∀ g ∈ ch, g ∈ captureGroups n) (hr : .responses ∉ ch)
    (hq : .queue ∉ ch') : LaterTaken n s t :=
  ⟨hk.mono hsub, ⟨[], by rw [(hk.same .responses hr : t.port.responses = s.port.responses), List.append_nil]⟩,
    fun h => ⟨hk.same .responses hr, (hx.same .queue hq).trans h⟩⟩

theorem takeQuarantine_laterTaken {n : SlotId} {s : State} (r : QuarantineReason) (h : (s.slot n).state.beforeGrading = true) :
    LaterTaken n s (takeQuarantine n r s) := by
  by_cases hr : (s.slot n).grading.reason = none
  · rw [takeQuarantine_early r h hr]
    obtain ⟨hk, hx, -⟩ := recordReason_spec n r s
    have ha := LaterTaken.of_keeps hk hx (by simp) (by simp) (by simp)
    generalize recordReason n r s = a at *
    have he := enterGrading_entered n a
    refine ha.trans ⟨he.keeps.mono (by simp), ⟨_, he.responses⟩, fun hq => ⟨?_, he.queue.1⟩⟩
    rw [he.responses, queueAnswers, hq]
    simp
  · rw [takeQuarantine_discarded r (.inr (.inr hr))]
    exact .refl ..

theorem rebind_laterTaken {n : SlotId} {s : State} {r : IdentityRecord} (hr : (s.slot n).identity.record = some r)
    (hs : (s.slot n).state = .ready) : LaterTaken n s (rebind n s) := by
  have hg : (s.slot n).state ≠ .grading := by
    rw [hs]
    simp
  have hq := takeQuarantine_laterTaken (n := n) (s := s) .powerMismatch (by rw [hs]; rfl)
  cases hm : matchSearch s.tables.models r.model with
  | none =>
    rw [rebind_none hr hm]
    split
    · have hR := rebindNone_released (n := n) s.store.settings.settleReserve hr
      refine ⟨hR.keeps.mono (by simp), ⟨_, hR.responses⟩, fun h => ⟨?_, ?_⟩⟩
      · rw [hR.responses, unmatchedRefused, h]
        simp
      · rw [hR.queue, h]
        rfl
    · exact hq
  | some i =>
    by_cases hi : (s.slot n).identity.model = some i
    · rw [rebind_same hr hm hi]
      have hc := (computeAndCheck_checked hr hg).confirmed
      exact .of_keeps hc.keeps hc.slot (by simp) (by simp) (by simp)
    · rw [rebind_other hr hm hi]
      split
      · have hR := rebindTo_rebound (max 1 s.tables.models[i].standby) hr hg hi
        exact .of_keeps hR.keeps hR.slot (by simp) (by simp) (by simp)
      · exact hq

/-! ### The answer to a later IDENTIFY -/

theorem noteOutcome_laterTaken (n : SlotId) (o : IdentifyOutcome) (s : State) : LaterTaken n s (noteOutcome n o s) :=
  .of_keeps (modSlot_keeps ..) (ch' := [.identity])
    (modSlot_slot ⟨fun g hg => by cases g <;> simp_all [slotSameIn]⟩) (by simp) (by simp) (by simp)

theorem endFinal_laterTaken (n : SlotId) (missing : Bool) (s : State) : LaterTaken n s (endFinal n missing s) :=
  .of_keeps (modSlot_keeps ..) (ch' := [.identity, .grading])
    (modSlot_slot ⟨fun g hg => by cases g <;> simp_all [slotSameIn]⟩) (by simp) (by simp) (by simp)

theorem keepRecord_laterTaken (n : SlotId) (r : IdentityRecord) (s : State) : LaterTaken n s (keepRecord n r s) :=
  .of_keeps (modSlot_keeps ..) (ch' := [.identity])
    (modSlot_slot ⟨fun g hg => by cases g <;> simp_all [slotSameIn]⟩) (by simp) (by simp) (by simp)

theorem computeIdentity_laterTaken (n : SlotId) (s : State) : LaterTaken n s (computeIdentity n s) :=
  .of_keeps (computeIdentity_keeps n s) (computeIdentity_slot n s) (by simp) (by simp) (by simp)

theorem captureQuarantine_laterTaken (n : SlotId) (r : QuarantineReason) (s : State) :
    LaterTaken n s (captureQuarantine n r s) := by
  by_cases h : (s.slot n).state = .grading
  · rw [captureQuarantine_taken _ h]
    have hq := takeQuarantine_inGrading r h
    exact .of_keeps hq.keeps hq.slot (by simp) (by simp) (by simp)
  · rw [captureQuarantine_sent _ h]
    exact .of_keeps (sendQuarantine_keeps ..) (ch' := []) (by rw [sendQuarantine_slot]; exact .refl ..) (by simp) (by simp) (by simp)

theorem reCapture_laterTaken (n : SlotId) (old new : IdentityRecord) (s : State) : LaterTaken n s (reCapture n old new s) := by
  by_cases h : new.serial = old.serial
  · rw [reCapture_same h]
    have hs := sameSerial_spec n new s
    generalize computeAndCheck n (keepRecord n new s) = b at *
    have hb : LaterTaken n s b := .of_keeps hs.keeps hs.slot (by simp) (by simp) (by simp)
    split
    · next hreb => exact hb.trans (rebind_laterTaken (by rw [hs.identity]; rfl) (rebindable_iff.1 hreb.2).1)
    · exact hb
  · rw [reCapture_other h]
    exact (noteOutcome_laterTaken ..).trans (captureQuarantine_laterTaken ..)

theorem takeIdentify_laterTaken {n : SlotId} {final : Bool} {block : Option IdentityRecord} {failure : IdentifyOutcome}
    {reason : RecoveryReason} {s : State} (h : (s.slot n).state ≠ .identifying) :
    LaterTaken n s (takeIdentify n final block failure reason s) := by
  unfold takeIdentify
  rw [if_neg h]
  have hf : LaterTaken n s (if final then endFinal n block.isNone s else s) := by
    split
    · exact endFinal_laterTaken ..
    · exact .refl ..
  dsimp only
  generalize (if final then endFinal n block.isNone s else s) = a at *
  refine hf.trans ?_
  cases block with
  | none => exact noteOutcome_laterTaken ..
  | some r =>
    dsimp only
    unfold laterCapture
    split
    · exact reCapture_laterTaken ..
    · exact (keepRecord_laterTaken ..).trans (computeIdentity_laterTaken ..)

/-! ### The answer to the first IDENTIFY -/

theorem startRecovery_keeps (n : SlotId) (r : RecoveryReason) (s : State) : KeepsBut (captureGroups n) s (startRecovery n r s) := by
  cases h : (s.slot n).state.allowsRecovery with
  | false =>
    rw [startRecovery_of_none r h]
    exact .refl ..
  | true =>
    by_cases hl : (s.slot n).recovery.episodes < 4
    · rw [startRecovery_of_begun r h hl]
      exact (beginEpisode_begun n r s).keeps.mono (by simp)
    · rw [startRecovery_of_limit r h (by omega)]
      exact (takeQuarantine_laterTaken _ (beforeGrading_of_allowsRecovery h)).keeps

theorem identifyFailed_keeps {n : SlotId} {s : State} (r : RecoveryReason) (h : (s.slot n).state = .identifying) :
    KeepsBut (captureGroups n) s (identifyFailed n r s) := by
  cases hm : (s.slot n).identity.retryMark with
  | true =>
    rw [identifyFailed_again r hm]
    exact (takeQuarantine_laterTaken _ (by rw [h]; rfl)).keeps
  | false =>
    rw [identifyFailed_first r hm]
    exact ((modSlot_keeps ..).mono (by simp)).trans (startRecovery_keeps ..)

theorem bindFirst_answers {n : SlotId} {r : IdentityRecord} {s : State} (i : Fin 16) (hr : (s.slot n).identity.record = some r)
    (hs : (s.slot n).state.beforeGrading = true) : Answers s (bindFirst n i s) := by
  obtain ⟨hb, -⟩ := firstBound_spec i hr
  obtain ⟨hmis, hok⟩ := bindFirst_eq i hr
  have hfirst : Answers s (firstBound n i s) := .of_keeps hb.keeps (by simp) (by simp)
  by_cases hm : Mismatch s r (some s.tables.models[i])
  · rw [hmis hm]
    refine hfirst.trans (takeQuarantine_before _ ?_).1
    rw [(hb.slot.same .state (by simp) : _ = (s.slot n).state)]
    exact hs
  · rw [hok hm]
    exact hfirst.trans (.of_keeps (setState_keeps ..) (by simp) (by simp))

theorem firstCapture_taken {n : SlotId} {r : IdentityRecord} {s : State} (h : (s.slot n).state = .identifying) :
    KeepsBut (captureGroups n) s (firstCapture n r s) ∧ Answers s (firstCapture n r s) := by
  cases hm : matchSearch s.tables.models r.model with
  | none =>
    have hu := firstCapture_unmatched (n := n) hm
    exact ⟨hu.keeps.mono (by simp), .of_keeps hu.keeps (by simp) (by simp)⟩
  | some i =>
    rw [firstCapture_matched hm]
    have hk := keepRecord_keeps n r s
    have hx := keepRecord_slot_same n r s
    generalize keepRecord n r s = a at *
    have hst : (a.slot n).state = .identifying := by
      rw [hx]
      exact h
    have hb := bindFirst_bound (n := n) (r := r) (s := a) i (by rw [hx]) (.inl hst)
    exact ⟨(hk.mono (by simp)).trans (hb.keeps.mono (by simp)),
      (Answers.of_keeps hk (by simp) (by simp)).trans (bindFirst_answers i (by rw [hx]) (by rw [hst]; rfl))⟩

/-- Whatever the answer to an IDENTIFY says, answers are only added. -/
theorem takeIdentify_answers (n : SlotId) (final : Bool) (block : Option IdentityRecord) (failure : IdentifyOutcome)
    (reason : RecoveryReason) (s : State) :
    KeepsBut (captureGroups n) s (takeIdentify n final block failure reason s)
      ∧ ∃ more, (takeIdentify n final block failure reason s).port.responses = s.port.responses ++ more := by
  by_cases h : (s.slot n).state = .identifying
  · unfold takeIdentify
    rw [if_pos h]
    cases block with
    | none => exact ⟨identifyFailed_keeps _ h, (identifyFailed_answers _ h).1⟩
    | some r => exact ⟨(firstCapture_taken h).1, (firstCapture_taken h).2.1⟩
  · have hl := takeIdentify_laterTaken (final := final) (block := block) (failure := failure) (reason := reason) h
    exact ⟨hl.keeps, hl.answers⟩

/-! ### The record that stands after a later capture -/

theorem reCapture_record {n : SlotId} {k : Fin 4} {e : InFlight} {old new : IdentityRecord} {s c u : State}
    (hc : Captured n k e.final false s c) (he : (s.slot n).traffic.inFlight[k] = some e) (hcls : e.cls = .identify)
    (hd : Delivered n (reCapture n old new c) u) (h : new.serial = old.serial) : (u.slot n).identity.record = some new := by
  rw [reCapture_same h] at hd
  have hs := sameSerial_spec n new c
  generalize computeAndCheck n (keepRecord n new c) = b at *
  split at hd
  · next hreb =>
    obtain ⟨hst, hsp, -⟩ := (hc.rebindable he hcls hs).1 hreb.2
    exact (rebind_record (hc.readyBefore hst hsp hs) hd).1
  · rw [hd.identity, hs.identity]
    rfl

end Sys2Proof.Machine
end

section
/-! SUPPORT. Responses to the part's own commands: the first IDENTIFY that fails, and the parking (R7, R18, R32). -/

namespace Sys2Proof.Machine

theorem noteOutcome_state (n : SlotId) (o : IdentifyOutcome) (s : State) : ((noteOutcome n o s).slot n).state = (s.slot n).state := by
  unfold noteOutcome
  rw [slot_modSlot_same]

/-- A later capture outside READY answers nothing and keeps the state: only a rebinding does either (R59). -/
theorem takeIdentify_silent {n : SlotId} {final : Bool} {block : Option IdentityRecord} {failure : IdentifyOutcome}
    {reason : RecoveryReason} {s : State} (hi : (s.slot n).state ≠ .identifying) (hr : (s.slot n).state ≠ .ready) :
    (takeIdentify n final block failure reason s).port.responses = s.port.responses
      ∧ ((takeIdentify n final block failure reason s).slot n).state = (s.slot n).state := by
  unfold takeIdentify
  rw [if_neg hi]
  have hf : (if final then endFinal n block.isNone s else s).port.responses = s.port.responses
      ∧ ((if final then endFinal n block.isNone s else s).slot n).state = (s.slot n).state := by
    split
    · unfold endFinal
      rw [slot_modSlot_same]
      exact ⟨rfl, rfl⟩
    · exact ⟨rfl, rfl⟩
  dsimp only
  generalize (if final then endFinal n block.isNone s else s) = a at *
  obtain ⟨hfr, hfs⟩ := hf
  rw [← hfr, ← hfs]
  cases block with
  | none => exact ⟨rfl, ((noteOutcome_state n failure a))⟩
  | some r =>
    dsimp only
    unfold laterCapture
    split
    · next old _ =>
      by_cases h : r.serial = old.serial
      · rw [reCapture_same h]
        have hs := sameSerial_spec n r a
        generalize computeAndCheck n (keepRecord n r a) = b at *
        rw [if_neg fun hgo => hr ?_]
        · exact ⟨hs.keeps.same .responses (by simp), hs.slot.same .state (by simp)⟩
        · rw [← hfs, ← (hs.slot.same .state (by simp) : (b.slot n).state = (a.slot n).state)]
          exact (rebindable_iff.1 hgo.2).1
      · rw [reCapture_other h]
        rw [← noteOutcome_state n .ack a]
        change _ = (noteOutcome n .ack a).port.responses ∧ _
        by_cases hg : ((noteOutcome n .ack a).slot n).state = .grading
        · rw [captureQuarantine_taken _ hg]
          have hq := takeQuarantine_inGrading .identityChanged hg
          exact ⟨hq.keeps.same .responses (by simp), hq.slot.same .state (by simp)⟩
        · rw [captureQuarantine_sent _ hg]
          exact ⟨rfl, by rw [sendQuarantine_slot]⟩
    · refine ⟨(computeIdentity_keeps ..).same .responses (by simp), ((computeIdentity_slot n _).same .state (by simp)).trans ?_⟩
      rw [keepRecord_slot_same]

/-! ### The delivery in PARKING -/

/-- A delivery is the parking's going on, after the response is pushed. -/
theorem deliver_pushed (n : SlotId) (e : InFlight) (status : StatusClass) (code : BitVec 16) (payload : Bytes) (cl : Classification)
    (s : State) : ∃ p, KeepsBut [.responses] s p ∧ deliver n e status code payload cl s = parkingResponse n e.cls e.granted p := by
  unfold deliver
  cases e.source with
  | none => exact ⟨s, .refl .., rfl⟩
  | some dest => exact ⟨_, pushResponse_keeps _ s, rfl⟩

theorem parkingResponse_parks {n : SlotId} {granted : Bool} {s : State} (hst : (s.slot n).state = .parking)
    (hp : (s.slot n).lines.powered = true) :
    parkingResponse n .spinDown granted s = spinDownEnd n s ∧ parkingResponse n .spinUp true s = injectParking n s := by
  have h : ¬((s.slot n).state ≠ .parking ∨ (s.slot n).lines.powered = false) := by simp [hst, hp]
  unfold parkingResponse
  rw [if_neg h, if_neg h]
  exact ⟨rfl, rfl⟩

/-- The parking SPIN_DOWN is listed or in flight once it has fallen due (R18). -/
theorem injectParking_underway (n : SlotId) (s : State) : ((injectParking n s).slot n).underway .spinDown := by
  by_cases h : (s.slot n).spinDownInFlight = true ∧ (s.slot n).power.spindle ≠ .spinning
  · rw [injectParking_of_waits h.1 h.2]
    obtain ⟨k, e, he, hc⟩ := anyInFlight_eq_true.1 h.1
    exact .inr ⟨k, e, he, by simpa using hc⟩
  · rw [injectParking_of_injects]
    · exact inject_underway n parkingInjection s
    · rw [not_and_or, Bool.not_eq_true, not_not] at h
      exact h

/-- The response to a SPIN_DOWN in PARKING ends the spin-down: power OFF, the rundown running (R18). -/
theorem takeResponse_parkedDown {n : SlotId} {k : Fin 4} {e : InFlight} {status : StatusClass} {code : BitVec 16} {payload : Bytes}
    {v : SensorReading} {s : State} (hst : (s.slot n).state = .parking) (on : (s.slot n).lines.powered = true)
    (hc : e.cls = .spinDown) :
    ∃ d, d.now + rundownMs d (d.slot n) = s.now + rundownMs s (s.slot n) ∧ (d.slot n).state = .parking
      ∧ SpunDown n d (takeResponse n k e status code payload v (modSlot n countGood s)) := by
  rw [takeResponse_command status code payload v s (by rw [hc]; simp)]
  have ha := commandAnswered_spec n k e status code v s
  generalize (commandAnswered n k e status code v s).2 = cl
  generalize (commandAnswered n k e status code v s).1 = a at *
  obtain ⟨p, hkp, hp⟩ := deliver_pushed n e status code payload cl a
  have hxp : p.slot n = a.slot n := hkp.slot_eq (by simp)
  have hps : (p.slot n).state = .parking := by
    rw [hxp]
    exact (ha.slot.same .state (by simp)).trans hst
  have hpp : (p.slot n).lines.powered = true := by
    rw [hxp]
    exact (ha.slot.same .power (by simp)).trans on
  rw [hp, hc, (parkingResponse_parks hps hpp).1]
  have hd := spinDownEnd_spunDown n p
  generalize spinDownEnd n p = f at *
  have hfs : (f.slot n).state = .parking := (hd.slot.same .state (by simp)).trans hps
  rw [goOn_off (by rw [hfs]; simp) (by rw [hfs]; rfl) hd.off.powered]
  refine ⟨p, ?_, hps, hd⟩
  have hnow : p.now = s.now := (hkp.same .now (by simp)).trans (ha.keeps.same .now (by simp))
  rw [hnow, rundownMs_congr (s := s) (x := s.slot n) ((hkp.same .models (by simp)).trans (ha.keeps.same .models (by simp)))
    ((hkp.same .settings (by simp)).trans (ha.keeps.same .settings (by simp))) (by rw [hxp]; exact ha.model)]

/-- The response to a granted SPIN_UP in PARKING is followed by SPIN_DOWN (R18). -/
theorem takeResponse_parkedUp {n : SlotId} {k : Fin 4} {e : InFlight} {status : StatusClass} {code : BitVec 16} {payload : Bytes}
    {v : SensorReading} {s : State} (hst : (s.slot n).state = .parking) (on : (s.slot n).lines.powered = true)
    (hc : e.cls = .spinUp) (hg : e.granted = true) :
    ((takeResponse n k e status code payload v (modSlot n countGood s)).slot n).lines.powered = true
      ∧ ((takeResponse n k e status code payload v (modSlot n countGood s)).slot n).underway .spinDown := by
  rw [takeResponse_command status code payload v s (by rw [hc]; simp)]
  have ha := commandAnswered_spec n k e status code v s
  generalize (commandAnswered n k e status code v s).2 = cl
  generalize (commandAnswered n k e status code v s).1 = a at *
  obtain ⟨p, hkp, hp⟩ := deliver_pushed n e status code payload cl a
  have hxp : p.slot n = a.slot n := hkp.slot_eq (by simp)
  have hps : (p.slot n).state = .parking := by
    rw [hxp]
    exact (ha.slot.same .state (by simp)).trans hst
  have hpp : (p.slot n).lines.powered = true := by
    rw [hxp]
    exact (ha.slot.same .power (by simp)).trans on
  rw [hp, hc, hg, (parkingResponse_parks (granted := true) hps hpp).2]
  have hu := injectParking_underway n p
  have hf : SlotKeepsBut [.injections] (p.slot n) ((injectParking n p).slot n) := by
    unfold injectParking
    split
    · exact .refl ..
    · exact inject_slot ..
  generalize injectParking n p = f at *
  have hw := goOn_wentOn (n := n) (s := f) (by rw [(hf.same .state (by simp) : _ = (p.slot n).state), hps]; rfl)
  exact ⟨(hw.slot.same .power (by simp)).trans ((hf.same .power (by simp)).trans hpp), hw.served.underway _ hu⟩

/-- In PARKING a response to a command of the part's own goes to no server, and nothing else is answered (R32). -/
theorem takeResponse_parkedOwn {n : SlotId} {k : Fin 4} {e : InFlight} {status : StatusClass} {code : BitVec 16} {payload : Bytes}
    {v : SensorReading} {s : State} (hst : (s.slot n).state = .parking) (hsrc : e.source = none)
    (he : (s.slot n).traffic.inFlight[k] = some e) :
    (takeResponse n k e status code payload v (modSlot n countGood s)).port.responses = s.port.responses := by
  have hgo : ∀ f, (f.slot n).state = .parking → (goOn n f).port.responses = f.port.responses := fun f hf =>
    (goOn_wentOn (n := n) (s := f) (by rw [hf]; rfl)).keeps.same .responses (by simp)
  have hempty : ∀ cl, deliveredAnswers n e status code payload cl = [] := fun cl => by
    rw [deliveredAnswers, hsrc]
    rfl
  by_cases hc : e.cls = .identify
  · rw [takeResponse_identify_eq status code payload v s hc]
    have hr := identifyRetired_spec (n := n) status code he hc
    generalize identifyRetired n k status code s = a at *
    have hai : (a.slot n).state = .parking := (hr.slot.same .state (by simp)).trans hst
    have ht := takeIdentify_silent (n := n) (final := e.final) (block := identifyBlock status payload) (failure := .error)
      (reason := .identifyFailed) (s := a) (by rw [hai]; simp) (by rw [hai]; simp)
    have hts : ((takeIdentify n e.final (identifyBlock status payload) .error .identifyFailed a).slot n).state = .parking :=
      ht.2.trans hai
    generalize takeIdentify n e.final (identifyBlock status payload) .error .identifyFailed a = t at *
    obtain ⟨-, hxd, hrd⟩ := deliver_spec n e status code payload (classify n status code (some .identify) (responseRetired n k s)).2 t
    rw [hgo _ ((hxd.same .state (by simp)).trans hts), hrd, hempty, List.append_nil, ht.1]
    exact hr.keeps.same .responses (by simp)
  · rw [takeResponse_command status code payload v s hc]
    have ha := commandAnswered_spec n k e status code v s
    generalize (commandAnswered n k e status code v s).2 = cl
    generalize (commandAnswered n k e status code v s).1 = a at *
    obtain ⟨-, hxd, hrd⟩ := deliver_spec n e status code payload cl a
    rw [hgo _ ((hxd.same .state (by simp)).trans ((ha.slot.same .state (by simp)).trans hst)), hrd, hempty, List.append_nil]
    exact ha.keeps.same .responses (by simp)

/-! ### The first IDENTIFY fails -/

/-- An IDENTIFY in IDENTIFYING that brings no record: the first time a recovery, the second time NO_IDENTITY (R7). -/
theorem takeResponse_firstFails {n : SlotId} {k : Fin 4} {e : InFlight} {status : StatusClass} {code : BitVec 16} {payload : Bytes}
    {v : SensorReading} {s : State} (hst : (s.slot n).state = .identifying) (hc : e.cls = .identify)
    (he : (s.slot n).traffic.inFlight[k] = some e) (hb : identifyBlock status payload = none) :
    let x := s.slot n
    let y := (takeResponse n k e status code payload v (modSlot n countGood s)).slot n
    (x.identity.retryMark = false → x.recovery.episodes < 4 →
        y.state = .recovering ∧ y.identity.retryMark = true ∧ y.recovery.lastReason = some .identifyFailed)
      ∧ (x.identity.retryMark = true → x.grading.reason = none →
        y.state = .grading ∧ y.grading.reason = some .noIdentity) := by
  intro x y
  have hr := identifyRetired_spec (n := n) status code he hc
  have hd := takeResponse_identify (n := n) (k := k) status code payload v s hc
  have hst' : ((identifyRetired n k status code s).slot n).state = .identifying := (hr.slot.same .state (by simp)).trans hst
  have ht : takeIdentify n e.final none .error .identifyFailed (identifyRetired n k status code s)
      = identifyFailed n .identifyFailed (identifyRetired n k status code s) := if_pos hst'
  rw [hb, ht] at hd
  generalize identifyRetired n k status code s = a at *
  refine ⟨fun hm hl => ?_, fun hm hre => ?_⟩
  · have hxb := slot_modSlot_same a n (fun x => { x with identity.retryMark := true })
    rw [identifyFailed_first _ (by rw [hr.identity]; exact hm), startRecovery_of_begun] at hd
    · have hB := beginEpisode_begun n .identifyFailed (modSlot n (fun x => { x with identity.retryMark := true }) a)
      generalize modSlot n (fun x => { x with identity.retryMark := true }) a = b at *
      generalize beginEpisode n .identifyFailed b = t at *
      refine ⟨(hd.slot.same .state (by simp)).trans hB.state, ?_, ?_⟩
      · refine (congrArg SlotIdentity.retryMark hd.identity).trans ?_
        rw [hB.identity, hxb]
        split <;> rfl
      · refine (congrArg SlotRecovery.lastReason (hd.slot.same .recovery (by simp))).trans ?_
        rw [hB.recovery]
    · rw [hxb]
      exact (congrArg SlotState.allowsRecovery hst').trans rfl
    · rw [hxb]
      exact lt_of_eq_of_lt (congrArg SlotRecovery.episodes (hr.slot.same .recovery (by simp))) hl
  · rw [identifyFailed_again _ (by rw [hr.identity]; exact hm)] at hd
    have hq := takeQuarantine_quarantinedEarly (n := n) (s := a) .noIdentity (by rw [hst']; rfl)
    obtain ⟨h1, h2⟩ := hq.taken ((hr.slot.same .reason (by simp)).trans hre)
    exact ⟨(hd.slot.same .state (by simp)).trans h1, (hd.slot.same .reason (by simp)).trans h2⟩

end Sys2Proof.Machine
end

section
/-! SUPPORT. A response that drains a slot in GRADING (R135, R136). -/

namespace Sys2Proof.Machine

/-! ### The capture in GRADING -/

/-- A slot in GRADING once its IDENTIFY is read, before any quarantine that the reading leads to. -/
structure GradingRead (n : SlotId) (final : Bool) (a b : State) : Prop where
  keeps : KeepsBut [.slot n] a b
  slot : SlotKeepsBut [.identity, .grading] (a.slot n) (b.slot n)
  grading : (b.slot n).grading
    = { (a.slot n).grading with finalIdentify := if final then .ended else (a.slot n).grading.finalIdentify }

theorem GradingRead.of_identity {n : SlotId} {final : Bool} {a b c : State} (h : GradingRead n final a b)
    (hk : KeepsBut [.slot n] b c) (hx : SlotKeepsBut [.identity] (b.slot n) (c.slot n)) : GradingRead n final a c :=
  ⟨h.keeps.trans hk, h.slot.trans (hx.mono (by simp)),
    (slotGrading_ext (hx.same .reason (by simp)) (hx.same .grading (by simp))).trans h.grading⟩

theorem gradingRead_endFinal (n : SlotId) (final missing : Bool) (a : State) :
    GradingRead n final a (if final then endFinal n missing a else a) := by
  cases final with
  | false => exact ⟨.refl .., .refl .., rfl⟩
  | true =>
    rw [if_pos rfl]
    refine ⟨modSlot_keeps .., ?_, ?_⟩
    · exact modSlot_slot ⟨fun g hg => by cases g <;> simp_all [slotSameIn]⟩
    · rw [endFinal, slot_modSlot_same]
      rfl

theorem noteOutcome_slot_keeps (n : SlotId) (o : IdentifyOutcome) (s : State) :
    SlotKeepsBut [.identity] (s.slot n) ((noteOutcome n o s).slot n) :=
  modSlot_slot ⟨fun g hg => by cases g <;> simp_all [slotSameIn]⟩

theorem keepRecord_slot (n : SlotId) (r : IdentityRecord) (s : State) :
    SlotKeepsBut [.identity] (s.slot n) ((keepRecord n r s).slot n) :=
  modSlot_slot ⟨fun g hg => by cases g <;> simp_all [slotSameIn]⟩

theorem keepRecord_computed (n : SlotId) (r : IdentityRecord) (s : State) :
    KeepsBut [.slot n] s (computeIdentity n (keepRecord n r s))
      ∧ SlotKeepsBut [.identity] (s.slot n) ((computeIdentity n (keepRecord n r s)).slot n) :=
  ⟨(keepRecord_keeps ..).trans (computeIdentity_keeps ..), (keepRecord_slot ..).trans ((computeIdentity_slot ..).mono (by simp))⟩

/-- An IDENTIFY answered in GRADING: the reading, and a quarantine taken at once where it leads to one (R56, R60, R135). -/
theorem takeIdentify_grading {n : SlotId} {final : Bool} {block : Option IdentityRecord} {failure : IdentifyOutcome}
    {reason : RecoveryReason} {a : State} (h : (a.slot n).state = .grading) :
    ∃ b, GradingRead n final a b ∧ (takeIdentify n final block failure reason a = b
      ∨ ∃ r, takeIdentify n final block failure reason a = takeQuarantine n r b) := by
  have hi : takeIdentify n final block failure reason a
      = match block with
        | some rec => laterCapture n rec (if final then endFinal n block.isNone a else a)
        | none => noteOutcome n failure (if final then endFinal n block.isNone a else a) := if_neg (by rw [h]; simp)
  rw [hi]
  have hf := gradingRead_endFinal n final block.isNone a
  generalize (if final then endFinal n block.isNone a else a) = f at *
  have hfs : (f.slot n).state = .grading := (hf.slot.same .state (by simp)).trans h
  cases block with
  | none => exact ⟨_, hf.of_identity (modSlot_keeps ..) (noteOutcome_slot_keeps ..), .inl rfl⟩
  | some r =>
    dsimp only
    unfold laterCapture
    split
    · next old hold =>
      by_cases hser : r.serial = old.serial
      · have hs := sameSerial_spec n r f
        rw [reCapture_same hser, if_neg fun hgo => by
          have hst : _ = (f.slot n).state := hs.slot.same .state (by simp)
          rw [(rebindable_iff.1 hgo.2).1, hfs] at hst
          cases hst]
        obtain ⟨hkc, hxc⟩ := keepRecord_computed n r f
        have hg : ((keepRecord n r f).slot n).state = .grading := by
          rw [keepRecord_slot_same]
          exact hfs
        obtain ⟨hmis, hok⟩ := computeAndCheck_grading (n := n) (s := keepRecord n r f) (r := r) (by rw [keepRecord_slot_same]) hg
        refine ⟨_, hf.of_identity hkc hxc, ?_⟩
        by_cases hm : Mismatch (keepRecord n r f) r (modelOf (keepRecord n r f) ((keepRecord n r f).slot n))
        · exact .inr ⟨_, hmis hm⟩
        · exact .inl (hok hm)
      · rw [reCapture_other hser, captureQuarantine_taken _ ((noteOutcome_state n .ack f).trans hfs)]
        exact ⟨_, hf.of_identity (modSlot_keeps ..) (noteOutcome_slot_keeps ..), .inr ⟨_, rfl⟩⟩
    · obtain ⟨hkc, hxc⟩ := keepRecord_computed n r f
      exact ⟨_, hf.of_identity hkc hxc, .inl rfl⟩

/-- What becomes of the drain while an IDENTIFY's answer is read in GRADING: nothing, or the hand-over. -/
inductive DrainRead (n : SlotId) (final : Bool) (a t : State) : Prop where
  | waits (handOvers : t.transit.handOvers = a.transit.handOvers)
      (handedOver : (t.slot n).grading.handedOver = (a.slot n).grading.handedOver)
      (reason : (a.slot n).grading.reason ≠ none → (t.slot n).grading.reason ≠ none)
      (ended : final = true ∨ (a.slot n).grading.finalIdentify = .ended → (t.slot n).grading.finalIdentify = .ended)
      (traffic : (a.slot n).traffic.injections = [] →
        (t.slot n).traffic.injections = [] ∧ (t.slot n).traffic.inFlight = (a.slot n).traffic.inFlight)
  | hands (handOvers : t.transit.handOvers = a.transit.handOvers ++ [n]) (handedOver : (t.slot n).grading.handedOver = true)
      (before : (a.slot n).grading.handedOver = false)
      (empty : (a.slot n).traffic.injections = [] → ∀ k : Fin 4, (a.slot n).traffic.inFlight[k] = none)

theorem takeQuarantine_drainRead {n : SlotId} {final : Bool} {a b : State} (r : QuarantineReason) (hb : GradingRead n final a b)
    (hg : (b.slot n).state = .grading) : DrainRead n final a (takeQuarantine n r b) := by
  have hend : final = true ∨ (a.slot n).grading.finalIdentify = .ended → (b.slot n).grading.finalIdentify = .ended := fun h => by
    rw [hb.grading]
    dsimp only
    split
    · rfl
    · next hf => exact h.resolve_left hf
  have htb : b.transit = a.transit := hb.keeps.same .transit (by simp)
  by_cases hr : (b.slot n).grading.reason = none
  · rw [takeQuarantine_grading r hg hr]
    obtain ⟨hk, hx, hrec, -⟩ := recordReason_spec n r b
    generalize recordReason n r b = c at *
    have hcs : (c.slot n).state = .grading := (hx.same .state (by simp)).trans hg
    obtain ⟨hcf, hch, -⟩ := hx.same .grading (by simp)
    have hch' : (c.slot n).grading.handedOver = (a.slot n).grading.handedOver := by
      rw [hch, hb.grading]
    have hct : c.transit = a.transit := (hk.same .transit (by simp)).trans htb
    have htraffic : (c.slot n).traffic.injections = (a.slot n).traffic.injections
        ∧ (c.slot n).traffic.inFlight = (a.slot n).traffic.inFlight :=
      ⟨(hx.same .injections (by simp)).trans (hb.slot.same .injections (by simp)),
        (hx.same .inFlight (by simp)).trans (hb.slot.same .inFlight (by simp))⟩
    cases ho : (c.slot n).grading.handedOver with
    | true =>
      rw [quarantineGrading_done ho]
      exact .waits (by rw [hct]) hch' (fun _ => by rw [hrec]; simp) (fun h => hcf.trans (hend h)) fun h =>
        ⟨htraffic.1.trans h, htraffic.2⟩
    | false =>
      obtain ⟨he, hd⟩ := quarantineGrading_drained hcs ho
      rw [he]
      have hu := unlist_injections n .identify c
      have hku := unlist_keeps n .identify c
      generalize unlist n .identify c = u at *
      have hug : (u.slot n).grading = (c.slot n).grading := by rw [hu]
      have hdue : finalIdentifyDue (u.slot n) = false := by
        rw [← Bool.not_eq_true, finalIdentifyDue_iff, hug, hrec]
        simp
      have hquiet : (a.slot n).traffic.injections = [] → ((gradingProgress n u).slot n).traffic.injections = []
          ∧ ((gradingProgress n u).slot n).traffic.inFlight = (a.slot n).traffic.inFlight := fun h => by
        have hui : (u.slot n).traffic.injections = [] := by
          rw [hu, htraffic.1, h]
          rfl
        rw [(hd.quiet hdue (.inl hui)).1]
        refine ⟨hui, ?_⟩
        rw [hu]
        exact htraffic.2
      have hut : u.transit = a.transit := (hku.same .transit (by simp)).trans hct
      have htg := hd.grading
      rw [hdue, hug] at htg
      cases hgp : gradePoint ((gradingProgress n u).slot n) with
      | true =>
        refine .hands (by rw [hd.sends hgp, hut]) (by rw [htg, hgp]) (hch'.symm.trans ho) fun h k => ?_
        have hempty : ((gradingProgress n u).slot n).tableEmpty = true := by
          unfold gradePoint at hgp
          exact (Bool.and_eq_true_iff.1 hgp).1
        have hk := tableEmpty_iff.1 hempty k
        rw [(hquiet h).2] at hk
        exact hk
      | false =>
        refine .waits (by rw [hd.holds hgp, hut]) ?_ (fun _ => by rw [htg, hrec]; simp) (fun h => ?_) hquiet
        · rw [htg, hgp, ← hch', ho]
        · rw [htg]
          exact hcf.trans (hend h)
  · rw [takeQuarantine_discarded r (.inr (.inr hr))]
    exact .waits (by rw [htb]) (by rw [hb.grading]) (fun _ => hr) hend fun h =>
      ⟨(hb.slot.same .injections (by simp)).trans h, hb.slot.same .inFlight (by simp)⟩

theorem takeIdentify_drainRead {n : SlotId} {final : Bool} {block : Option IdentityRecord} {failure : IdentifyOutcome}
    {reason : RecoveryReason} {a : State} (h : (a.slot n).state = .grading) :
    DrainRead n final a (takeIdentify n final block failure reason a)
      ∧ ((takeIdentify n final block failure reason a).slot n).state = .grading := by
  obtain ⟨b, hb, ht⟩ := takeIdentify_grading (final := final) (block := block) (failure := failure) (reason := reason) h
  have hbs : (b.slot n).state = .grading := (hb.slot.same .state (by simp)).trans h
  obtain ht | ⟨r, ht⟩ := ht <;> rw [ht]
  · refine ⟨.waits (congrArg Transit.handOvers (hb.keeps.same .transit (by simp))) (by rw [hb.grading]) (fun h => by rw [hb.grading]; exact h)
      (fun h => ?_) fun h => ⟨(hb.slot.same .injections (by simp)).trans h, hb.slot.same .inFlight (by simp)⟩, hbs⟩
    rw [hb.grading]
    dsimp only
    split
    · rfl
    · next hf => exact h.resolve_left hf
  · exact ⟨takeQuarantine_drainRead r hb hbs, ((takeQuarantine_inGrading r hbs).slot.same .state (by simp)).trans hbs⟩

/-! ### The drain goes on -/

/-- In GRADING a delivery touches the responses alone. -/
theorem deliver_grading {n : SlotId} {e : InFlight} (status : StatusClass) (code : BitVec 16) (payload : Bytes)
    (cl : Classification) {s : State} (h : (s.slot n).state = .grading) :
    KeepsBut [.responses] s (deliver n e status code payload cl s) := by
  obtain ⟨p, hk, he⟩ := deliver_pushed n e status code payload cl s
  have hp : (p.slot n).state ≠ .parking := by
    rw [hk.slot_eq (m := n) (by simp), h]
    simp
  have hs : parkingResponse n e.cls e.granted p = p := if_pos (.inl hp)
  rw [he, hs]
  exact hk

/-- With a command in flight, or with nothing recorded and the final identify not ended, nothing is handed over (R136). -/
theorem gradingProgress_waits {n : SlotId} {s : State} (hg : (s.slot n).state = .grading)
    (ho : (s.slot n).grading.handedOver = false)
    (h : (∃ (k : Fin 4) (e : InFlight), (s.slot n).traffic.inFlight[k] = some e)
      ∨ (s.slot n).grading.reason = none ∧ (s.slot n).grading.finalIdentify ≠ .ended) :
    (gradingProgress n s).transit.handOvers = s.transit.handOvers ∧ ((gradingProgress n s).slot n).grading.handedOver = false := by
  have hd := gradingProgress_drained hg ho
  have hp := (gradingProgress_wentOn hg).served.persists
  generalize gradingProgress n s = t at *
  have hgp : gradePoint (t.slot n) = false := by
    unfold gradePoint
    obtain ⟨k, e, he⟩ | ⟨hr, hf⟩ := h
    · rw [tableEmpty_eq_false.2 ⟨k, e, hp k e he⟩]
      rfl
    · rw [hd.grading, hr]
      dsimp only
      split
      · simp
      · simp [hf]
  exact ⟨by rw [hd.holds hgp], by rw [hd.grading, hgp]⟩

end Sys2Proof.Machine
end

section
/-! The obligation on responses and their delivery (R7, R18, R32, R34, R39, R124, R135, R136). -/

namespace Sys2Proof.Machine

/-- Settles O48: a response is answered, delivered and followed by the slot's going on; each clause reads one of these three. -/
theorem responseForwarded : Obligations.ResponseForwarded := by
  unfold Obligations.ResponseForwarded
  refine ⟨?command, ?identify, ?own, ?drain⟩
  case command =>
    intro n tag status code payload sensor s k e dest on hnr hk he hsrc hni x c
    have hex := exec_driveResponse_matched status code payload sensor on hnr hk he
    rw [takeResponse_command status code payload sensor s hni] at hex
    have hcl := commandAnswered_classification n k e status code sensor s
    have ha := commandAnswered_spec n k e status code sensor s
    have hr := responseRetired_spec n k s
    have hall := responseRetired_allocation n k s
    have hlight : e.cls = .light ∨ e.cls = .heavy → (commandAnswered n k e status code sensor s).1
        = (classify n status code (some e.cls) (responseRetired n k s)).1 := fun h => by
      unfold commandAnswered
      rw [takeSpindle_other _ _ (by obtain h | h := h <;> rw [h] <;> simp) (by obtain h | h := h <;> rw [h] <;> simp)]
    rw [hcl] at hex
    generalize (commandAnswered n k e status code sensor s).1 = d at *
    obtain ⟨hk1, hx1, hr1⟩ := deliver_spec n e status code payload c d
    have hplain : e.cls = .light ∨ e.cls = .heavy → (deliver n e status code payload c d).slot n = d.slot n :=
      deliver_slot_same status code payload c d
    generalize deliver n e status code payload c d = f at *
    obtain ⟨⟨more, hmore⟩, -⟩ := goOn_answers n f
    have hk2 := goOn_keeps n f
    have hx2 := goOn_slot n f
    refine ⟨_, more, hex, (ha.keeps.mono (by simp)).trans ((hk1.mono (by simp)).trans (hk2.mono (by simp))), ?_, fun hq => ?_, fun h => ?_⟩
    · rw [hmore, hr1, (ha.keeps.same .responses (by simp) : d.port.responses = s.port.responses), deliveredAnswers, hsrc]
      simp
    · have hfq : (f.slot n).traffic.queue = [] :=
        (hx1.same .queue (by simp)).trans ((ha.slot.same .queue (by simp)).trans hq)
      rw [goOn_unanswered hfq] at hmore
      simpa using hmore
    · have hd := hlight h
      have hrt : (responseRetired n k s).tables.classify = s.tables.classify := hr.keeps.same .classify (by simp)
      have hfol := classify_follows n status code (some e.cls) (responseRetired n k s)
      obtain ⟨l, a, htal⟩ := classify_slot_tallies n status code (some e.cls) (responseRetired n k s)
      obtain ⟨hcount, hsame⟩ := classify_counters n status code (some e.cls) (responseRetired n k s)
      rw [hrt] at hcount hsame
      have hkeep := classify_slot_keeps n status code (some e.cls) (responseRetired n k s)
      rw [← hd] at hcount hsame htal hfol hkeep
      have hdi : (d.slot n).traffic.injections = x.traffic.injections :=
        (hkeep.same .injections (by simp)).trans (hr.slot.same .injections (by simp))
      obtain ⟨g1, g2, g3, g4⟩ := countGood_runs x
      have hut : ((goOn n f).slot n).tallies = (d.slot n).tallies := by
        rw [(hx2.same .tallies (by simp) : _ = (f.slot n).tallies), hplain h]
      have hrest : x.traffic.queue = [] → x.traffic.injections = [] → x.state ≠ .grading → (goOn n f).slot n = d.slot n := fun hq hi hg => by
        rw [goOn_idle, hplain h]
        · rw [hplain h, (ha.slot.same .state (by simp) : _ = (s.slot n).state)]
          exact hg
        · rw [hplain h, (ha.slot.same .queue (by simp) : _ = (s.slot n).traffic.queue)]
          exact hq
        · rw [hplain h, hdi]
          exact hi
      rw [hr.tallies] at hcount hsame htal
      refine ⟨fun hq hi hg => by rw [hrest hq hi hg, ha.inFlight], ?_, ?_, fun hq hi hg => ?_, ?_, fun d' hd' ha' => ?_, fun hc => ?_⟩
      · rw [hut, htal]
        exact g1
      · rw [hut, htal]
        exact g2
      · rw [hrest hq hi hg, hfol.power]
        exact hall
      · rw [hut, htal]
        exact g3
      · rw [hut, hcount d' hd' ha', g4]
      · rw [hut, hsame hc, g4]
  case identify =>
    intro n tag status code payload sensor s k e dest on hnr hk he hsrc hc x c
    have hex := exec_driveResponse_matched status code payload sensor on hnr hk he
    have hr := identifyRetired_spec (n := n) status code he hc
    have hstep := takeResponse_identify_eq (n := n) (k := k) status code payload sensor s hc
    have hclass : (classify n status code (some .identify) (responseRetired n k s)).2 = c := by
      change classification (responseRetired n k s).tables.classify status code (some .identify) = c
      rw [((responseRetired_spec n k s).keeps.same .classify (by simp) : (responseRetired n k s).tables.classify = s.tables.classify)]
    rw [hclass] at hstep
    obtain ⟨hkt, before, hbefore⟩ :=
      takeIdentify_answers n e.final (identifyBlock status payload) .error .identifyFailed (identifyRetired n k status code s)
    have hlater : x.state ≠ .identifying → LaterTaken n (identifyRetired n k status code s)
        (takeIdentify n e.final (identifyBlock status payload) .error .identifyFailed (identifyRetired n k status code s)) := fun h =>
      takeIdentify_laterTaken (by rw [(hr.slot.same .state (by simp) : _ = (s.slot n).state)]; exact h)
    generalize takeIdentify n e.final (identifyBlock status payload) .error .identifyFailed (identifyRetired n k status code s) = t at *
    generalize identifyRetired n k status code s = a at *
    have hares : a.port.responses = s.port.responses := hr.keeps.same .responses (by simp)
    obtain ⟨hkd, hxd, hrd⟩ := deliver_spec n e status code payload c t
    generalize deliver n e status code payload c t = f at *
    obtain ⟨⟨more, hmore⟩, -⟩ := goOn_answers n f
    have hanswer : deliveredAnswers n e status code payload c = [.drive dest (slotByte n) (BitVec.ofNat 8 e.tag) status code c payload] := by
      rw [deliveredAnswers, hsrc]
      rfl
    refine ⟨_, before, more, hex, ?_, ?_, fun hq hni => ?_, fun hni old hold => ⟨fun new hs hp hser => ?_, fun h => ?_⟩⟩
    · rw [hstep]
      exact (hr.keeps.mono (by simp)).trans ((hkt.mono (by simp)).trans ((hkd.mono (by simp)).trans ((goOn_keeps n f).mono (by simp))))
    · rw [hstep, hmore, hrd, hbefore, hares, hanswer]
      simp
    · obtain ⟨h1, h2⟩ := (hlater hni).quiet ((hr.slot.same .queue (by simp)).trans hq)
      refine ⟨?_, ?_⟩
      · rw [h1] at hbefore
        simpa using hbefore
      · rw [goOn_unanswered ((hxd.same .queue (by simp)).trans h2)] at hmore
        simpa using hmore
    · obtain ⟨-, hsome⟩ := laterIdentify_captured (status := status) (code := code) (payload := payload) (sensor := sensor) hni he hc hold
      rw [hs] at hsome
      obtain ⟨c', hc', hd⟩ := hsome new (identifyBlock_good hp)
      rw [hs]
      exact reCapture_record hc' he hc hd hser
    · obtain ⟨hnone, -⟩ := laterIdentify_captured (status := status) (code := code) (payload := payload) (sensor := sensor) hni he hc hold
      obtain ⟨c', hc', hd⟩ := hnone (identifyBlock_none h)
      rw [hd.identity, noteOutcome_slot_same (old := old) (by rw [hc'.identity]; exact hold)]
  case own =>
    intro n tag status code payload sensor s k e on hk he x
    by_cases hnr : (s.slot n).state = .recovering
    · refine ⟨_, congrArg Host.Outcome.next (if_pos on), fun h => ?_, fun h => ?_⟩
      · rw [hnr] at h
        cases h
      · rw [hnr] at h
        cases h
    · refine ⟨_, exec_driveResponse_matched status code payload sensor on hnr hk he, fun hst hc hb => ?_, fun hst =>
        ⟨fun hsrc => takeResponse_parkedOwn hst hsrc he, fun hc => ?_, fun hc hg => ?_⟩⟩
      · exact takeResponse_firstFails hst hc he (identifyBlock_none hb)
      · obtain ⟨d, hd, hds, hx⟩ := takeResponse_parkedDown (k := k) (e := e) (status := status) (code := code) (payload := payload)
          (v := sensor) hst on hc
        exact ⟨(hx.slot.same .state (by simp)).trans hds, hx.off.powered, hx.park, hx.off.spindle, hx.off.allocation,
          by rw [hx.rundown, hd]⟩
      · obtain ⟨h1, h2⟩ := takeResponse_parkedUp (k := k) (e := e) (status := status) (code := code) (payload := payload)
          (v := sensor) hst on hc hg
        exact ⟨h1, Slot.underway_spinDown h2⟩
  case drain =>
    intro n tag status code payload sensor s k e on hst hk he x others ends
    have hother : ∀ p : InFlight → Prop, others p ↔ ∃ (j : Fin 4) (f : InFlight), (x.traffic.inFlight.set k none)[j] = some f ∧ p f := fun p =>
      ⟨fun ⟨j, hj, f, hf, hp⟩ => ⟨j, f, set_none_get.2 ⟨hj, hf⟩, hp⟩, fun ⟨j, f, hf, hp⟩ =>
        ⟨j, (set_none_get.1 hf).1, f, (set_none_get.1 hf).2, hp⟩⟩
    refine ⟨_, exec_driveResponse_matched status code payload sensor on (by rw [hst]; simp) hk he, ?_⟩
    by_cases hc : e.cls = .identify
    · have hr := identifyRetired_spec (n := n) status code he hc
      rw [takeResponse_identify_eq status code payload sensor s hc]
      have has : ((identifyRetired n k status code s).slot n).state = .grading := (hr.slot.same .state (by simp)).trans hst
      obtain ⟨ht, hts⟩ := takeIdentify_drainRead (final := e.final) (block := identifyBlock status payload) (failure := .error)
        (reason := .identifyFailed) has
      generalize takeIdentify n e.final (identifyBlock status payload) .error .identifyFailed (identifyRetired n k status code s) = t at *
      generalize identifyRetired n k status code s = a at *
      have hkd := deliver_identify (n := n) status code payload (classify n status code (some .identify) (responseRetired n k s)).2 t hc
      generalize deliver n e status code payload (classify n status code (some .identify) (responseRetired n k s)).2 t = f at *
      have hxf : f.slot n = t.slot n := hkd.slot_eq (by simp)
      have hff : f.transit = t.transit := hkd.same .transit (by simp)
      have hfs : (f.slot n).state = .grading := by rw [hxf, hts]
      have hagr : (a.slot n).grading = x.grading := slotGrading_ext (hr.slot.same .reason (by simp)) (hr.slot.same .grading (by simp))
      have hai : (a.slot n).traffic.injections = x.traffic.injections := hr.slot.same .injections (by simp)
      rw [goOn_grading hfs]
      cases ht with
      | hands h1 h2 h3 h4 =>
        rw [gradingProgress_of_done (.inr (by rw [hxf]; exact h2)), hff, hxf, h1, hr.handOvers]
        refine ⟨fun h => ?_, fun _ hi _ => ⟨fun _ _ => ⟨rfl, h2⟩, fun h => ?_, fun _ _ h => absurd hc h⟩⟩
        · rw [hagr, h] at h3
          cases h3
        · obtain ⟨j, g, hg, -⟩ := (hother _).1 (h.resolve_right fun h => h.2 hc)
          have h5 := h4 (hai.trans hi) j
          rw [hr.inFlight, hg] at h5
          cases h5
      | waits h1 h2 h3 h4 h5 =>
        refine ⟨fun h => ?_, fun ho hi _ => ?_⟩
        · rw [gradingProgress_of_done (.inr (by rw [hxf, h2, hagr]; exact h)), hff, h1, hr.handOvers]
        · obtain ⟨h6, h7⟩ := h5 (hai.trans hi)
          have hfo : (f.slot n).grading.handedOver = false := by
            rw [hxf, h2, hagr]
            exact ho
          rw [hr.inFlight] at h7
          refine ⟨fun hends hno => ?_, fun h => ?_, fun _ _ h => absurd hc h⟩
          · obtain ⟨h8, h9⟩ := gradingProgress_handsOver hfs hfo (by rw [hxf]; exact h6) (fun j => by
              rw [hxf, h7]
              by_contra hne
              obtain ⟨g, hg⟩ := Option.ne_none_iff_exists'.1 hne
              exact hno ((hother _).2 ⟨j, g, hg, trivial⟩)) (by
              rw [hxf]
              obtain h | h | h := hends
              · exact .inl (h3 (by rw [hagr]; exact h))
              · exact .inr (h4 (.inr (by rw [hagr]; exact h)))
              · exact .inr (h4 (.inl h.2)))
            exact ⟨by rw [h8, hff, h1, hr.handOvers], h9⟩
          · obtain ⟨j, g, hg, -⟩ := (hother _).1 (h.resolve_right fun h => h.2 hc)
            obtain ⟨h8, h9⟩ := gradingProgress_waits hfs hfo (.inl ⟨j, g, by rw [hxf, h7]; exact hg⟩)
            exact ⟨by rw [h8, hff, h1, hr.handOvers], h9⟩
    · rw [takeResponse_command status code payload sensor s hc]
      have ha := commandAnswered_spec n k e status code sensor s
      generalize (commandAnswered n k e status code sensor s).2 = cl
      generalize (commandAnswered n k e status code sensor s).1 = a at *
      have has : (a.slot n).state = .grading := (ha.slot.same .state (by simp)).trans hst
      have hfk := deliver_grading status code payload cl (e := e) has
      generalize deliver n e status code payload cl a = f at *
      have hxf : f.slot n = a.slot n := hfk.slot_eq (by simp)
      have hff : f.transit.handOvers = s.transit.handOvers := (congrArg Transit.handOvers (hfk.same .transit (by simp))).trans ha.handOvers
      have hfs : (f.slot n).state = .grading := by rw [hxf, has]
      have hfg : (f.slot n).grading = x.grading := by
        rw [hxf]
        exact slotGrading_ext (ha.slot.same .reason (by simp)) (ha.slot.same .grading (by simp))
      have hfi : (f.slot n).traffic.inFlight = x.traffic.inFlight.set k none := by rw [hxf, ha.inFlight]
      rw [goOn_grading hfs]
      refine ⟨fun h => ?_, fun ho hi hn => ?_⟩
      · rw [gradingProgress_of_done (.inr (by rw [hfg]; exact h)), hff]
      · have hfo : (f.slot n).grading.handedOver = false := by
          rw [hfg]
          exact ho
        have hfe : (f.slot n).traffic.injections = [] := by
          rw [hxf, ha.listed hn]
          exact hi
        refine ⟨fun hends hno => ?_, fun h => ?_, fun h1 h2 _ h3 => ?_⟩
        · obtain ⟨h8, h9⟩ := gradingProgress_handsOver hfs hfo hfe (fun j => by
            rw [hfi]
            by_contra hne
            obtain ⟨g, hg⟩ := Option.ne_none_iff_exists'.1 hne
            exact hno ((hother _).2 ⟨j, g, hg, trivial⟩)) (by
            rw [hfg]
            obtain h | h | h := hends
            · exact .inl h
            · exact .inr h
            · exact absurd h.1 hc)
          exact ⟨by rw [h8, hff], h9⟩
        · obtain ⟨h8, h9⟩ := gradingProgress_waits hfs hfo (by
            rw [hfi, hfg]
            obtain h | h := h
            · obtain ⟨j, g, hg, -⟩ := (hother _).1 h
              exact .inl ⟨j, g, hg⟩
            · obtain ⟨h4, h5⟩ := not_or.1 h.1
              exact .inr ⟨not_not.1 h4, (not_or.1 h5).1⟩)
          exact ⟨by rw [h8, hff], h9⟩
        · have hdue : finalIdentifyDue (f.slot n) = true := by
            refine finalIdentifyDue_iff.2 ⟨by rw [hfg]; exact h1, by rw [hfg]; exact h2, ?_⟩
            refine anyInFlight_eq_false.2 fun j g hg => ?_
            rw [hfi] at hg
            simpa using fun ho => h3 ((hother _).2 ⟨j, g, hg, ho⟩)
          obtain ⟨-, -, h8, h9⟩ := gradingProgress_due hfs hfo hdue
          exact ⟨h8, h9⟩

end Sys2Proof.Machine
end

section
/-! SUPPORT. Walks over the slots, seen from one slot (R86, R88, R92, R93). -/

namespace Sys2Proof.Machine

/-! ### A walk seen from one slot -/

/-- A step that touches slot m, the listed groups, and nothing else of any slot. -/
def Local (ch : List Group) (f : SlotId → State → State) : Prop := ∀ m s, KeepsBut (.slot m :: ch) s (f m s)

theorem foldl_other {ch : List Group} {f : SlotId → State → State} (hf : Local ch f) (hc : ∀ m, .slot m ∉ ch) {l : List SlotId}
    {n : SlotId} (hn : n ∉ l) (s : State) : (l.foldl (fun s m => f m s) s).slot n = s.slot n := by
  induction l generalizing s with
  | nil => rfl
  | cons m l ih =>
    obtain ⟨h1, h2⟩ : n ≠ m ∧ n ∉ l := by simpa using hn
    rw [List.foldl_cons, ih h2, (hf m s).slot_eq (m := n) (by simp [h1, hc n])]

/-- A walk meets slot n as it was, takes it once, and leaves it then. -/
theorem forSlots_at {ch : List Group} {f : SlotId → State → State} (hf : Local ch f) (hc : ∀ m, .slot m ∉ ch) (n : SlotId)
    (s : State) :
    ∃ (t : State) (l : List SlotId), KeepsButSlots ch s t ∧ t.slot n = s.slot n ∧ forSlots f s = l.foldl (fun s m => f m s) (f n t)
      ∧ (forSlots f s).slot n = (f n t).slot n := by
  obtain ⟨pre, post, hsplit⟩ := List.append_of_mem (mem_allSlots n)
  have hnd : (pre ++ n :: post).Nodup := hsplit ▸ nodup_allSlots
  obtain ⟨-, hnp, hd⟩ := List.nodup_append.1 hnd
  have hpre : n ∉ pre := fun h => hd n h n List.mem_cons_self rfl
  have hpost : n ∉ post := (List.nodup_cons.1 hnp).1
  have he : forSlots f s = post.foldl (fun s m => f m s) (f n (pre.foldl (fun s m => f m s) s)) := by
    unfold forSlots
    rw [hsplit, List.foldl_append, List.foldl_cons]
  refine ⟨pre.foldl (fun s m => f m s) s, post, foldl_keepsSlots (fun s m => (hf m s).slots) pre s, foldl_other hf hc hpre s, he, ?_⟩
  rw [he, foldl_other hf hc hpost]

theorem foldl_mono {α : Type} {P : State → α → Prop} {f : SlotId → State → State} (hf : ∀ m s a, P s a → P (f m s) a) (l : List SlotId)
    (s : State) (a : α) (h : P s a) : P (l.foldl (fun s m => f m s) s) a := by
  induction l generalizing s with
  | nil => exact h
  | cons m l ih => exact ih _ (hf m s a h)

/-! ### Serving a slot -/

theorem considerHead_held {n : SlotId} (fuel : Nat) {s : State} (h : (s.slot n).power.held = none) :
    ((considerHead fuel n s).slot n).power.held = none := by
  induction fuel generalizing s with
  | zero => exact h
  | succ fuel ih =>
    cases hs : (s.slot n).state.servesQueue with
    | false => rw [considerHead_idle _ (.inl hs)]; exact h
    | true =>
      cases hq : (s.slot n).traffic.queue with
      | nil => rw [considerHead_idle _ (.inr hq)]; exact h
      | cons q rest =>
        cases hd : decisionOn (s.slot n) q with
        | waits => rw [considerHead_waits fuel hs hq hd]; exact h
        | refuse =>
          rw [considerHead_refuses fuel hs hq hd]
          exact ih (by rw [refuseHead_power]; exact h)
        | forward =>
          cases hk : (s.slot n).freeEntry with
          | none => rw [considerHead_full fuel hs hq (by rw [hd]; simp) hk]; exact h
          | some k =>
            rw [considerHead_forwards fuel hs hq hd hk]
            obtain ⟨a, -, hp⟩ := (forwardHead_forwarded k false hq).power
            exact ih (by rw [hp]; exact h)
        | needsGrant =>
          cases hk : (s.slot n).freeEntry with
          | none => rw [considerHead_full fuel hs hq (by rw [hd]; simp) hk]; exact h
          | some k =>
            rw [considerHead_asks fuel hs hq hd hk, requestHead_power]
            exact h

theorem serveSlot_held {n : SlotId} {s : State} (h : (s.slot n).power.held = none) : ((serveSlot n s).slot n).power.held = none :=
  considerHead_held _ (serveInjections_held h)

theorem serveSlot_local : Local [.responses, .admission, .passDue, .sent] serveSlot := fun n s => serveSlot_keeps n s

/-- What a slot has been sent stays sent. -/
theorem serveSlot_sent (n : SlotId) (s : State) : ∀ f ∈ s.sent, f ∈ (serveSlot n s).sent := by
  intro f hf
  refine (considerHead_headsTaken _ n _).sent f ?_
  obtain ⟨h, -⟩ | ⟨i, rest, k, -, -, -, -, h⟩ := serveInjections_cases n s <;> rw [h]
  · exact hf
  · rw [(sendInjection_traffic n k i s).2.2]
    exact List.mem_append_left _ hf

/-- A listed SPIN_DOWN of a SPINNING slot stays listed, or is sent, the spindle then SPINNING_DOWN (R28, R31). -/
theorem serveSlot_spinDown {n : SlotId} {s : State} {i : Injection} (hi : i ∈ (s.slot n).traffic.injections)
    (hc : i.cls = .spinDown) (hs : (s.slot n).power.spindle = .spinning) :
    i ∈ ((serveSlot n s).slot n).traffic.injections
      ∨ ((serveSlot n s).slot n).power.spindle = .spinningDown
        ∧ ∃ (k : Fin 4) (e : InFlight), ((serveSlot n s).slot n).traffic.inFlight[k] = some e ∧ e.cls = .spinDown ∧ e.origin = .part
          ∧ e.start = s.now := by
  unfold serveSlot
  have hinj := (considerHead_slot (Config.slotQueueDepth + 1) n (serveInjections n s)).same .injections (by simp)
  have hheads := considerHead_headsTaken (Config.slotQueueDepth + 1) n (serveInjections n s)
  have hpow : ((serveInjections n s).slot n).power.spindle ≠ .spinning →
      ((considerHead (Config.slotQueueDepth + 1) n (serveInjections n s)).slot n).power = ((serveInjections n s).slot n).power :=
    considerHead_power _
  generalize considerHead (Config.slotQueueDepth + 1) n (serveInjections n s) = u at *
  obtain ⟨h, -⟩ | ⟨j, rest, k, hj, -, -, hk, h⟩ := serveInjections_cases n s
  · rw [h] at hinj
    exact .inl (by rw [hinj]; exact hi)
  · obtain ⟨ht, hsp, -⟩ := sendInjection_traffic n k j s
    rw [h] at hinj hheads hpow
    generalize sendInjection n k j s = v at *
    by_cases hjc : j.cls = .spinDown
    · have hvs : (v.slot n).power.spindle = .spinningDown := by
        rw [hsp, hjc, hs]
        rfl
      refine .inr ⟨by rw [hpow (by rw [hvs]; simp), hvs], k, sentEntry s (s.slot n) j, hheads.held k _ ?_, hjc, rfl, rfl⟩
      rw [ht]
      exact (inFlight_set ..).trans (if_pos rfl)
    · refine .inl ?_
      rw [hinj, ht]
      exact List.mem_filter.2 ⟨hi, by simpa [hc] using fun e => hjc e.symm⟩

/-- A SPIN_DOWN alone in a list that can be served is sent (R28, R31). -/
theorem serveSlot_spinDown_sent {n : SlotId} {s : State} {i : Injection} {k : Fin 4} (hi : (s.slot n).traffic.injections = [i])
    (hc : i.cls = .spinDown) (hs : (s.slot n).power.spindle = .spinning) (on : (s.slot n).lines.powered = true)
    (hp : (s.slot n).partInFlight = false) (hk : (s.slot n).freeEntry = some k) :
    ((serveSlot n s).slot n).power.spindle = .spinningDown ∧ (n, .command 31 .spinDown [0x20]) ∈ (serveSlot n s).sent
      ∧ ((serveSlot n s).slot n).traffic.inFlight[k]
        = some ⟨31, .spinDown, .part, false, s.now, s.store.settings.spinDownTimeout * 1000, none, i.final⟩ := by
  unfold serveSlot
  rw [serveInjections_of_ready hi on hp hk]
  obtain ⟨ht, hsp, hse⟩ := sendInjection_traffic n k i s
  generalize sendInjection n k i s = v at *
  have hvs : (v.slot n).power.spindle = .spinningDown := by
    rw [hsp, hc, hs]
    rfl
  have hheads := considerHead_headsTaken (Config.slotQueueDepth + 1) n v
  refine ⟨by rw [considerHead_power _ (by rw [hvs]; simp), hvs], hheads.sent _ ?_, hheads.held k _ ?_⟩
  · rw [hse, hc]
    simp [injectedPayload]
  · rw [ht]
    refine ((inFlight_set ..).trans (if_pos rfl)).trans ?_
    unfold sentEntry
    rw [hc]
    rfl

end Sys2Proof.Machine
end

section
/-! The supply warning input (R85 to R91). -/

namespace Sys2Proof.Machine

/-! ### The onset -/

theorem raiseSupplyWarn_moves (s : State) : MovesNotices s (raiseSupplyWarn s) := by
  have hk : ∀ (ns : NoticeUnit), ns.streamCount = s.notices.streamCount → ns.streamNumber = s.notices.streamNumber →
      MovesNotices s { s with notices := ns } := fun ns h1 h2 =>
    .of_keeps ⟨fun g hg => by cases g <;> simp_all [sameIn]; rfl⟩
  unfold raiseSupplyWarn
  split
  · exact .of_keeps (raisePart_keeps ..)
  · dsimp only
    refine MovesNotices.trans ?_ (setNoticeState_moves ..)
    split
    · exact hk _ rfl rfl
    · split
      · exact hk _ rfl rfl
      · refine MovesNotices.trans ?_ (setNoticeState_moves ..)
        exact hk _ rfl rfl

theorem raiseSupplyWarn_pending (s : State) : (raiseSupplyWarn s).notices.part.getLsbD 1 = true := by
  cases hm : s.store.settings.eventMask.part.getLsbD 1 with
  | false => exact (raiseSupplyWarn_unmasked hm).2.1
  | true =>
    have he : raiseSupplyWarn s = raisePart .supplyWarn s := if_pos hm
    rw [he]
    exact raisePart_getLsbD rfl s

/-- A slot at the onset, once its held grant has lapsed (R80, R86). -/
structure LapsedAtOnset (x y : Slot) : Prop where
  slot : SlotKeepsBut [.injections, .spindle, .allocation, .identity, .tallies] x y
  tallies : y.tallies = { x.tallies with lapsed := x.power.held.isSome }
  held : y.power.held = none
  spindle : y.power.spindle = x.power.spindle
  injections : ∀ i ∈ y.traffic.injections, i ∈ x.traffic.injections

theorem lapseAtOnset_keeps (n : SlotId) (s : State) : KeepsBut [.slot n, .passDue] s (lapseAtOnset n s) :=
  ((modSlot_keeps ..).mono (by simp)).trans (lapseHeld_keeps ..)

theorem lapseAtOnset_lapsed (n : SlotId) (s : State) : LapsedAtOnset (s.slot n) ((lapseAtOnset n s).slot n) := by
  unfold lapseAtOnset
  have hx := slot_modSlot_same s n (fun x => { x with tallies.lapsed := x.power.held.isSome })
  generalize modSlot n (fun x => { x with tallies.lapsed := x.power.held.isSome }) s = a at *
  have hl := lapseHeld_lapsed n a
  have hs := lapseHeld_slot n a
  generalize lapseHeld n a = t at *
  have hsa : SlotKeepsBut [.tallies] (s.slot n) (a.slot n) := by
    rw [hx]
    exact ⟨fun g hg => by clear * - hg; cases g <;> simp_all [slotSameIn]⟩
  refine ⟨(hsa.mono (by simp)).trans (hs.mono (by simp)), ?_, hl.held, ?_, ?_⟩
  · rw [(hs.same .tallies (by simp) : _ = (a.slot n).tallies), hx]
  · rw [hl.spindle.1, hx]
  · have hi := hl.injections
    rw [hx] at hi
    exact hi

theorem markShed_tallies (x : Slot) : markShed x = { x with tallies := (markShed x).tallies } := by
  unfold markShed
  split <;> rfl

theorem shedCheck_local : Local [] shedCheck := fun n s => shedCheck_keeps n s

theorem shedCheck_slot (n : SlotId) (s : State) : SlotKeepsBut [.injections] (s.slot n) ((shedCheck n s).slot n) := by
  obtain ⟨-, -, -, -, h⟩ | ⟨-, h⟩ := shedCheck_cases n s <;> rw [h]
  · exact inject_slot ..
  · exact .refl ..

/-- In an episode a SPINNING slot has SPIN_DOWN listed for the shed (R88). -/
theorem shedCheck_lists {n : SlotId} {s : State} (hn : s.power.supply ≠ .normal) (on : (s.slot n).lines.powered = true)
    (hr : (s.slot n).state ≠ .recovering) (hs : (s.slot n).power.spindle = .spinning) :
    (∃ i ∈ ((shedCheck n s).slot n).traffic.injections, i.cls = .spinDown ∧ i.shed = true)
      ∧ ((s.slot n).traffic.injections = [] →
        ((shedCheck n s).slot n).traffic.injections = [{ bareInjection .spinDown with shed := true }]) := by
  have he : shedCheck n s = inject n { bareInjection .spinDown with shed := true } s := if_pos ⟨hn, on, hr, hs⟩
  rw [he]
  obtain ⟨j, hj, hc, -, -, -, -, hsh⟩ := inject_mem n { bareInjection .spinDown with shed := true } s
  refine ⟨⟨j, hj, hc, hsh rfl⟩, fun h => ?_⟩
  unfold inject
  rw [slot_modSlot_same, h]
  rfl

theorem testRunning_congr {x y : Slot} (hs : slotSameIn x y .state) (hr : slotSameIn x y .recovery) : y.testRunning = x.testRunning := by
  have h1 : y.state = x.state := hs
  have h2 : y.recovery = x.recovery := hr
  unfold Slot.testRunning
  rw [h1, h2]

theorem lapsedAtOnset_marked {x y : Slot} (h : LapsedAtOnset x y) :
    (markShed y).tallies
      = if x.testRunning ∧ x.power.spindle ≠ .stopped then
          { x.tallies with lapsed := x.power.held.isSome, shedCount := min 15 (x.tallies.shedCount + 1), shedMark := true }
        else { x.tallies with lapsed := x.power.held.isSome } := by
  unfold markShed
  rw [apply_ite Slot.tallies, testRunning_congr (h.slot.same .state (by simp)) (h.slot.same .recovery (by simp)), h.spindle, h.tallies]
  rfl

/-- The state once the warning is taken, before the slots are walked. -/
def warned (s : State) : State :=
  raiseSupplyWarn { s with power := { s.power with warning := true, supply := .warning, restore := none } }

theorem warned_spec (s : State) :
    KeepsButSlots [.supply, .partSet, .noticeQueue] s (warned s) ∧ (∀ n, SlotKeepsBut [.notice] (s.slot n) ((warned s).slot n))
      ∧ ((warned s).power.supply = .warning ∧ (warned s).power.warning = true ∧ (warned s).power.restore = none)
      ∧ (warned s).notices.part.getLsbD 1 = true := by
  unfold warned
  have hk : KeepsBut [.supply] s { s with power := { s.power with warning := true, supply := .warning, restore := none } } :=
    ⟨fun g hg => by cases g <;> simp_all [sameIn]; rfl⟩
  have hm := raiseSupplyWarn_moves { s with power := { s.power with warning := true, supply := .warning, restore := none } }
  obtain ⟨h1, h2, h3⟩ := hm.keeps.same .supply (by simp) nofun
  exact ⟨(hk.toSlots.mono (by simp)).trans (hm.keeps.mono (by simp)), hm.slots, ⟨h1, h2, h3⟩, raiseSupplyWarn_pending _⟩

/-- The onset of an episode is four walks over the slots, in turn (log entry 44). -/
theorem assertWarning_normal {s : State} (h : s.power.supply = .normal) :
    assertWarning s
      = forSlots serveSlot (forSlots shedCheck (forSlots (fun n => modSlot n markShed) (forSlots lapseAtOnset (warned s)))) := by
  unfold assertWarning
  simp only [h]
  rfl

theorem assertWarning_restoring {s : State} (h : s.power.supply = .restoring) : assertWarning s = warned s := by
  unfold assertWarning
  simp only [h]
  rfl

/-- What the onset's first three walks leave of a slot. -/
structure OnsetMarked (x y : Slot) : Prop where
  slot : SlotKeepsBut [.injections, .spindle, .allocation, .identity, .tallies, .notice] x y
  tallies : y.tallies
    = if x.testRunning ∧ x.power.spindle ≠ .stopped then
        { x.tallies with lapsed := x.power.held.isSome, shedCount := min 15 (x.tallies.shedCount + 1), shedMark := true }
      else { x.tallies with lapsed := x.power.held.isSome }
  held : y.power.held = none
  spindle : y.power.spindle = x.power.spindle
  listed : x.lines.powered = true → x.state ≠ .recovering → x.power.spindle = .spinning →
    (∃ i ∈ y.traffic.injections, i.cls = .spinDown ∧ i.shed = true)
      ∧ (x.traffic.injections = [] → y.traffic.injections = [{ bareInjection .spinDown with shed := true }])

theorem onsetMarked_spec (s : State) :
    let d := forSlots shedCheck (forSlots (fun n => modSlot n markShed) (forSlots lapseAtOnset (warned s)))
    KeepsButSlots [.supply, .partSet, .noticeQueue, .passDue] s d ∧ d.power.supply = .warning ∧ d.power.warning = true
      ∧ d.power.restore = none ∧ d.notices.part.getLsbD 1 = true ∧ ∀ n, OnsetMarked (s.slot n) (d.slot n) := by
  obtain ⟨hka, hxa, hsup, hpart⟩ := warned_spec s
  dsimp only
  generalize warned s = a at *
  have hkb : KeepsButSlots [.passDue] a (forSlots lapseAtOnset a) := forSlots_keeps lapseAtOnset_keeps a
  have hxb : ∀ n, LapsedAtOnset (a.slot n) ((forSlots lapseAtOnset a).slot n) := fun n => by
    obtain ⟨t, -, -, ht, -, he⟩ := forSlots_at (ch := [.passDue]) (f := lapseAtOnset) lapseAtOnset_keeps (by simp) n a
    rw [he, ← ht]
    exact lapseAtOnset_lapsed n t
  generalize forSlots lapseAtOnset a = b at *
  have hkc : KeepsButSlots [] b (forSlots (fun n => modSlot n markShed) b) := forSlots_keeps (fun n s => modSlot_keeps n markShed s) b
  have hxc := fun n => forSlots_modSlot_slot (fun _ => markShed) b n
  generalize forSlots (fun n => modSlot n markShed) b = c at *
  have hkd : KeepsButSlots [] c (forSlots shedCheck c) := forSlots_keeps shedCheck_local c
  have hkac : KeepsButSlots [.passDue] a c := hkb.trans (hkc.mono (by simp))
  have hkad : KeepsButSlots [.passDue] a (forSlots shedCheck c) := hkac.trans (hkd.mono (by simp))
  obtain ⟨h1, h2, h3⟩ := hkad.same .supply (by simp) nofun
  have hall : KeepsButSlots [.supply, .partSet, .noticeQueue, .passDue] s (forSlots shedCheck c) :=
    (hka.mono (by simp)).trans (hkad.mono (by simp))
  refine ⟨hall, h1.trans hsup.1, h2.trans hsup.2.1, h3.trans hsup.2.2, ?_, fun n => ?_⟩
  · rw [(hkad.same .partSet (by simp) nofun).1]
    exact hpart
  · obtain ⟨t, -, hkt, ht, -, he⟩ := forSlots_at (ch := []) shedCheck_local (by simp) n c
    rw [he]
    have hts : t.power.supply ≠ .normal := by
      rw [(hkt.same .supply (by simp) nofun).1, (hkac.same .supply (by simp) nofun).1, hsup.1]
      simp
    have hd := shedCheck_slot n t
    have hl := shedCheck_lists (n := n) hts
    generalize shedCheck n t = v at *
    have hy := hxb n
    have hmark := lapsedAtOnset_marked hy
    have hc := hxc n
    rw [markShed_tallies] at hc
    rw [ht, hc] at hd hl
    generalize b.slot n = y at *
    have hxy : SlotKeepsBut [.tallies] y { y with tallies := (markShed y).tallies } :=
      ⟨fun g hg => by clear * - hg; cases g <;> simp_all [slotSameIn]⟩
    have hx := hxa n
    generalize s.slot n = x at *
    have hall : SlotKeepsBut [.injections, .spindle, .allocation, .identity, .tallies, .notice] x (v.slot n) :=
      (hx.mono (by simp)).trans ((hy.slot.mono (by simp)).trans ((hxy.mono (by simp)).trans (hd.mono (by simp))))
    obtain ⟨hsp1, -, hsp2⟩ := hd.same .spindle (by simp)
    obtain ⟨hax1, -, hax2⟩ := hx.same .spindle (by simp)
    have hrun : (a.slot n).testRunning = x.testRunning := testRunning_congr (hx.same .state (by simp)) (hx.same .recovery (by simp))
    refine ⟨hall, ?_, hsp2.trans hy.held, hsp1.trans (hy.spindle.trans hax1), fun on hr hs => ?_⟩
    · rw [(hd.same .tallies (by simp) : (v.slot n).tallies = _)]
      dsimp only
      rw [hmark, hrun, hax1, hax2, (hx.same .tallies (by simp) : (a.slot n).tallies = x.tallies)]
    · obtain ⟨q1, q2⟩ := hl ((hy.slot.same .power (by simp)).trans ((hx.same .power (by simp)).trans on))
        (by
          rw [show y.state = x.state from (hy.slot.same .state (by simp)).trans (hx.same .state (by simp))]
          exact hr)
        (hy.spindle.trans (hax1.trans hs))
      refine ⟨q1, fun hi => q2 (List.eq_nil_iff_forall_not_mem.2 fun i h => ?_)⟩
      have hm := hy.injections i h
      rw [(hx.same .injections (by simp) : (a.slot n).traffic.injections = x.traffic.injections), hi] at hm
      exact absurd hm List.not_mem_nil

/-- Settles O15: the walk that serves the lists meets each slot as the first walks leave it. -/
theorem supplyWarning : Obligations.SupplyWarning := by
  unfold Obligations.SupplyWarning
  refine ⟨fun s => ⟨fun h => ?_, fun h => ?_, fun h => ?_⟩, fun s => ?_, fun n s => ?_⟩
  · have he : exec .supplyWarningAssert s = .next (finish (assertWarning s)) := rfl
    rw [assertWarning_normal h] at he
    obtain ⟨hk, h1, h2, h3, h4, hx⟩ := onsetMarked_spec s
    generalize forSlots shedCheck (forSlots (fun n => modSlot n markShed) (forSlots lapseAtOnset (warned s))) = d at *
    have hku : KeepsButSlots [.responses, .admission, .passDue, .sent] d (forSlots serveSlot d) := forSlots_keeps serveSlot_local d
    obtain ⟨k1, k2, k3⟩ := hku.same .supply (by simp) nofun
    refine ⟨_, he, (hk.mono (by simp)).trans (hku.mono (by simp)), k1.trans h1, k2.trans h2, k3.trans h3, ?_, fun n => ?_⟩
    · rw [(hku.same .partSet (by simp) nofun).1]
      exact h4
    · obtain ⟨t, l, hkt, ht, hsplit, hu⟩ := forSlots_at serveSlot_local (by simp) n d
      have hsent : ∀ f ∈ (serveSlot n t).sent, f ∈ (forSlots serveSlot d).sent := fun f hf => by
        rw [hsplit]
        exact foldl_mono (P := fun s f => f ∈ s.sent) serveSlot_sent l _ f hf
      rw [hu]
      have hn : t.now = s.now := (hkt.same .now (by simp) nofun).trans (hk.same .now (by simp) nofun)
      have hset : t.store.settings = s.store.settings := (hkt.same .settings (by simp) nofun).trans (hk.same .settings (by simp) nofun)
      have hy := hx n
      rw [← ht] at hy
      have hs := serveSlot_slot n t
      refine ⟨serveSlot_held hy.held, ?_, (hy.slot.mono (by simp)).trans (hs.mono (by simp)), fun on hr hsp => ?_⟩
      · rw [(hs.same .tallies (by simp) : _ = (t.slot n).tallies), hy.tallies]
      · obtain ⟨⟨i, hi, hc, hsh⟩, hone⟩ := hy.listed on hr hsp
        have hts := hy.spindle.trans hsp
        refine ⟨?_, fun hinj hpf k hk => ?_⟩
        · obtain h' | ⟨h', k, e, he, q1, q2, q3⟩ := serveSlot_spinDown hi hc hts
          · exact .inl ⟨i, h', hc, hsh⟩
          · exact .inr ⟨h', k, e, he, q1, q2, q3.trans hn⟩
        · have hfl : (t.slot n).traffic.inFlight = (s.slot n).traffic.inFlight := hy.slot.same .inFlight (by simp)
          obtain ⟨q1, q2, q3⟩ := serveSlot_spinDown_sent (k := k) (hone hinj) rfl hts ((hy.slot.same .power (by simp)).trans on)
            ((partInFlight_congr hfl).trans hpf) ((freeEntry_congr hfl (hy.slot.same .reserved (by simp))).trans hk)
          exact ⟨q1, hsent _ q2, by rw [q3, hn, hset]; rfl⟩
  · obtain ⟨hk, hx, ⟨h1, h2, h3⟩, h4⟩ := warned_spec s
    refine ⟨_, rfl, ?_⟩
    rw [assertWarning_restoring h]
    exact ⟨hk, h1, h2, h3, h4, hx⟩
  · have he : assertWarning s = { s with power := { s.power with warning := true } } := by
      unfold assertWarning
      simp only [h]
    exact congrArg (fun t => Host.Outcome.next (finish t)) he
  · change Host.Outcome.next (deassertWarning s) = _
    unfold deassertWarning
    cases h : s.power.supply <;> simp [h]
  · refine ⟨shedCheck_keeps n s, shedCheck_slot n s, fun h1 h2 h3 h4 => (shedCheck_lists h1 h2 h3 h4).1, fun h => ?_⟩
    refine if_neg ?_
    rintro ⟨h1, h2, h3, h4⟩
    obtain h | h | h | h := h
    · exact h1 h
    · rw [h] at h2
      cases h2
    · exact h3 h
    · exact h h4

end Sys2Proof.Machine
end

section
/-! SUPPORT. The admission queue while queues are served and slots are resumed (R71, R72, R93). -/

namespace Sys2Proof.Machine

/-! ### Entries of single slots -/

theorem entryOf_append (s t : State) (l : List AdmissionEntry) (h : t.power.queue = s.power.queue ++ l) (n : SlotId) :
    entryOf t n = (entryOf s n).or (l.find? (·.slot == n)) := by
  unfold entryOf
  rw [h, List.find?_append]

theorem entryOf_leaveAdmission (n m : SlotId) (s : State) : entryOf (leaveAdmission n s) m = if m = n then none else entryOf s m := by
  unfold entryOf
  rw [leaveAdmission_queue, List.find?_filter]
  by_cases h : m = n
  · rw [if_pos h, List.find?_eq_none]
    intro e _ he
    simp only [decide_eq_true_eq, beq_iff_eq] at he
    exact he.1 (he.2.trans h)
  · rw [if_neg h]
    refine congrArg (fun p => List.find? p s.power.queue) (funext fun e => ?_)
    by_cases he : e.slot = m <;> simp [he, h]

/-- With one entry a slot, an entry in the queue is the entry of its slot. -/
theorem entryOf_of_mem {s : State} (h : s.admissionAgrees) {e : AdmissionEntry} (he : e ∈ s.power.queue) :
    entryOf s e.slot = some e := by
  cases hf : entryOf s e.slot with
  | none => exact absurd rfl (entryOf_eq_none.1 hf e he)
  | some f =>
    have hm : f ∈ s.power.queue := List.mem_of_find?_eq_some hf
    have hs : f.slot = e.slot := by simpa using List.find?_some hf
    rw [List.inj_on_of_nodup_map h hm he hs]

/-! ### The entries that the part made stay while queues are served -/

/-- The part-origin entries stay, and a slot without one gets none. -/
structure PartEntriesStay (s t : State) : Prop where
  part : ∀ n e, entryOf s n = some e → e.origin = .part → entryOf t n = some e
  server : ∀ n, (∀ e, entryOf s n = some e → e.origin = .server) → ∀ e, entryOf t n = some e → e.origin = .server
  queue : s.admissionAgrees →
    t.admissionAgrees ∧ t.power.queue.filter (·.origin = .part) = s.power.queue.filter (·.origin = .part)

theorem PartEntriesStay.of_queue {s t : State} (h : t.power.queue = s.power.queue) : PartEntriesStay s t := by
  have he := entryOf_of_queue h
  refine ⟨fun n e hn _ => by rw [he]; exact hn, fun n hs e hn => hs e (by rw [← he]; exact hn), fun ha => ?_⟩
  unfold State.admissionAgrees at *
  rw [h]
  exact ⟨ha, rfl⟩

theorem PartEntriesStay.trans {s t u : State} (h : PartEntriesStay s t) (h' : PartEntriesStay t u) : PartEntriesStay s u := by
  refine ⟨fun n e hn ho => h'.part n e (h.part n e hn ho) ho, fun n hs => h'.server n (h.server n hs), fun ha => ?_⟩
  obtain ⟨hb, hq⟩ := h.queue ha
  obtain ⟨hc, hq'⟩ := h'.queue hb
  exact ⟨hc, hq'.trans hq⟩

theorem withdrawHead_partEntriesStay (n : SlotId) (s : State) : PartEntriesStay s (withdrawHead n s) := by
  unfold withdrawHead
  refine PartEntriesStay.trans ?_ (.of_queue ((releaseReserved_keeps n _).same .admission (by simp)))
  split
  · next h =>
    obtain ⟨f, hf, ho⟩ : ∃ f, entryOf s n = some f ∧ f.origin = .server := by
      cases hf : entryOf s n with
      | none => simp [hf] at h
      | some f => exact ⟨f, rfl, by simpa [hf] using h⟩
    have hent := entryOf_leaveAdmission n
    refine ⟨fun m e hm hp => ?_, fun m hs e hm => ?_, fun ha => ⟨?_, ?_⟩⟩
    · rw [hent, if_neg, hm]
      rintro rfl
      rw [hf] at hm
      cases hm
      rw [ho] at hp
      cases hp
    · rw [hent] at hm
      split at hm
      · cases hm
      · exact hs e hm
    · unfold State.admissionAgrees at *
      rw [leaveAdmission_queue]
      exact List.Nodup.sublist (List.filter_sublist.map _) ha
    · rw [leaveAdmission_queue, List.filter_filter]
      refine List.filter_congr fun e he => ?_
      have hne : e.origin = .part → e.slot ≠ n := by
        rintro hp rfl
        rw [entryOf_of_mem ha he] at hf
        cases hf
        rw [ho] at hp
        cases hp
      by_cases hp : e.origin = .part <;> simp [hp]
      exact hne hp
  · exact .of_queue rfl

theorem requestHead_partEntriesStay (n : SlotId) (k : Fin 4) (c : CmdClass) (s : State) :
    PartEntriesStay s (requestHead n k c s) := by
  by_cases h : entryOf s n = none ∧ (s.slot n).power.held = none
  · obtain ⟨hq, -, -⟩ := requestHead_none k c h.1 h.2
    have hent := entryOf_append s (requestHead n k c s) _ hq
    refine ⟨fun m e hm _ => by rw [hent, hm, Option.some_or], fun m hs e hm => ?_, fun ha => ⟨?_, ?_⟩⟩
    · rw [hent] at hm
      cases hm' : entryOf s m with
      | some f =>
        rw [hm', Option.some_or] at hm
        exact hs e (hm'.trans hm)
      | none =>
        rw [hm', Option.none_or] at hm
        have := List.mem_of_find?_eq_some hm
        rw [List.mem_singleton] at this
        rw [this]
    · have hn := entryOf_eq_none.1 h.1
      unfold State.admissionAgrees at *
      rw [hq]
      simpa [List.nodup_append] using ⟨ha, hn⟩
    · rw [hq, List.filter_append]
      simp
  · rw [requestHead_held k c (by tauto)]
    exact .of_queue rfl

theorem refuseHead_partEntriesStay (n : SlotId) (s : State) : PartEntriesStay s (refuseHead n s) := by
  unfold refuseHead
  split
  · exact .of_queue rfl
  · next q rest hq =>
    have hm : PartEntriesStay s (modSlot n (fun x => { x with traffic.queue := rest }) s) := .of_queue rfl
    exact (hm.trans (.of_queue ((answerPart_keeps ..).same .admission (by simp)))).trans (withdrawHead_partEntriesStay ..)

theorem considerHead_partEntriesStay (fuel : Nat) (n : SlotId) (s : State) : PartEntriesStay s (considerHead fuel n s) := by
  induction fuel generalizing s with
  | zero => exact .of_queue rfl
  | succ fuel ih =>
    cases hs : (s.slot n).state.servesQueue with
    | false => rw [considerHead_idle _ (.inl hs)]; exact .of_queue rfl
    | true =>
      cases hq : (s.slot n).traffic.queue with
      | nil => rw [considerHead_idle _ (.inr hq)]; exact .of_queue rfl
      | cons q rest =>
        cases hd : decisionOn (s.slot n) q with
        | waits => rw [considerHead_waits fuel hs hq hd]; exact .of_queue rfl
        | refuse =>
          rw [considerHead_refuses fuel hs hq hd]
          exact (refuseHead_partEntriesStay ..).trans (ih _)
        | forward =>
          cases hk : (s.slot n).freeEntry with
          | none => rw [considerHead_full fuel hs hq (by rw [hd]; simp) hk]; exact .of_queue rfl
          | some k =>
            rw [considerHead_forwards fuel hs hq hd hk]
            exact PartEntriesStay.trans (.of_queue ((forwardHead_keeps n k false s).same .admission (by simp))) (ih _)
        | needsGrant =>
          cases hk : (s.slot n).freeEntry with
          | none => rw [considerHead_full fuel hs hq (by rw [hd]; simp) hk]; exact .of_queue rfl
          | some k =>
            rw [considerHead_asks fuel hs hq hd hk]
            exact requestHead_partEntriesStay ..

theorem forSlots_serveSlot_partEntriesStay (s : State) : PartEntriesStay s (forSlots serveSlot s) := by
  unfold forSlots
  induction allSlots generalizing s with
  | nil => exact .of_queue rfl
  | cons n l ih =>
    refine PartEntriesStay.trans ?_ (ih _)
    exact PartEntriesStay.trans (.of_queue ((serveInjections_keeps n s).same .admission (by simp)))
      (considerHead_partEntriesStay ..)

/-! ### The auto-resume walk -/

/-- The entry that auto-resume joins for a slot (R93). -/
def resumeEntry (n : SlotId) : AdmissionEntry := ⟨n, .spinUp, .part, 0, false⟩

/-- Does auto-resume join an entry for a slot (R93). -/
def joinsOnResume (s : State) (n : SlotId) : Bool :=
  s.store.settings.autoResume && resumes (s.slot n) && decide (entryOf s n = none)

theorem autoResume_keeps (n : SlotId) (s : State) : KeepsBut [.admission, .passDue] s (autoResume n s) := by
  unfold autoResume
  split
  · exact joinAdmission_keeps ..
  · exact .refl ..

theorem autoResume_queue (n : SlotId) (s : State) :
    (autoResume n s).power.queue = s.power.queue ++ if joinsOnResume s n then [resumeEntry n] else [] := by
  unfold autoResume joinsOnResume
  cases hr : s.store.settings.autoResume && resumes (s.slot n) with
  | false => simp
  | true =>
    cases he : entryOf s n with
    | none =>
      simpa [resumeEntry] using (joinAdmission_of_none he .spinUp .part).1
    | some e =>
      simp [joinAdmission_of_some (n := n) (s := s) (by rw [he]; rfl)]

/-- The join of one slot leaves open whether another's is made. -/
theorem joinsOnResume_autoResume {n m : SlotId} (h : m ≠ n) (s : State) : joinsOnResume (autoResume n s) m = joinsOnResume s m := by
  have hk := autoResume_keeps n s
  have he : entryOf (autoResume n s) m = entryOf s m := by
    rw [entryOf_append _ _ _ (autoResume_queue n s)]
    split
    · rw [List.find?_cons_of_neg (by simpa [resumeEntry] using h.symm), List.find?_nil, Option.or_none]
    · rw [List.find?_nil, Option.or_none]
  unfold joinsOnResume
  rw [he, hk.slot_eq (by simp), (hk.same .settings (by simp) : (autoResume n s).store.settings = s.store.settings)]

theorem foldl_autoResume_queue {l : List SlotId} (hl : l.Nodup) (s : State) :
    (l.foldl (fun s n => autoResume n s) s).power.queue = s.power.queue ++ (l.filter (joinsOnResume s)).map resumeEntry := by
  induction l generalizing s with
  | nil => simp
  | cons n l ih =>
    obtain ⟨hn, hl⟩ := List.nodup_cons.1 hl
    have hf : l.filter (joinsOnResume (autoResume n s)) = l.filter (joinsOnResume s) :=
      List.filter_congr fun m hm => joinsOnResume_autoResume (by rintro rfl; exact hn hm) s
    rw [List.foldl_cons, ih hl, hf, autoResume_queue, List.append_assoc, List.filter_cons]
    cases joinsOnResume s n <;> simp

/-- Auto-resume joins the entries of the slots that take part in it, in slot-number order, and does nothing else (R93). -/
theorem forSlots_autoResume (s : State) :
    KeepsBut [.admission, .passDue] s (forSlots autoResume s)
      ∧ (forSlots autoResume s).power.queue = s.power.queue ++ (allSlots.filter (joinsOnResume s)).map resumeEntry
      ∧ ∀ n, entryOf (forSlots autoResume s) n = if joinsOnResume s n then some (resumeEntry n) else entryOf s n := by
  unfold forSlots
  have hk := foldl_keeps (fun s n => autoResume n s) (fun s n => autoResume_keeps n s) allSlots s
  have hq := foldl_autoResume_queue nodup_allSlots s
  refine ⟨hk, hq, fun n => ?_⟩
  rw [entryOf_append _ _ _ hq]
  cases hj : joinsOnResume s n with
  | true =>
    have he : entryOf s n = none := by
      unfold joinsOnResume at hj
      simp only [Bool.and_eq_true, decide_eq_true_eq] at hj
      exact hj.2
    have hmem : resumeEntry n ∈ (allSlots.filter (joinsOnResume s)).map resumeEntry :=
      List.mem_map_of_mem (List.mem_filter.2 ⟨mem_allSlots n, hj⟩)
    rw [he, Option.none_or, if_pos rfl]
    cases hf : ((allSlots.filter (joinsOnResume s)).map resumeEntry).find? (·.slot == n) with
    | none => exact absurd (by simp [resumeEntry]) (List.find?_eq_none.1 hf _ hmem)
    | some e =>
      obtain ⟨m, -, rfl⟩ := List.mem_map.1 (List.mem_of_find?_eq_some hf)
      have hm : m = n := by simpa [resumeEntry] using List.find?_some hf
      rw [hm]
  | false =>
    rw [if_neg (by simp)]
    have hf : ((allSlots.filter (joinsOnResume s)).map resumeEntry).find? (·.slot == n) = none := by
      refine List.find?_eq_none.2 fun e he => ?_
      obtain ⟨m, hm, rfl⟩ := List.mem_map.1 he
      have hjm := (List.mem_filter.1 hm).2
      simp only [resumeEntry, beq_iff_eq]
      rintro rfl
      rw [hj] at hjm
      cases hjm
    rw [hf, Option.or_none]

/-! ### A pass that is due stays due (R74) -/

/-- A pass that was due is still due. -/
structure PassStays (s t : State) : Prop where
  stays : s.power.passDue = true → t.power.passDue = true

theorem PassStays.of_same {s t : State} (h : t.power.passDue = s.power.passDue) : PassStays s t := ⟨fun hs => h.trans hs⟩

theorem PassStays.trans {s t u : State} (h : PassStays s t) (h' : PassStays t u) : PassStays s u :=
  ⟨fun hs => h'.stays (h.stays hs)⟩

theorem setSpindle_passStays (n : SlotId) (sp : Spindle) (s : State) : PassStays s (setSpindle n sp s) := by
  have hm : PassStays s (modSlot n (spunTo sp) s) := .of_same rfl
  rw [setSpindle_eq]
  unfold followFigure
  dsimp only
  split
  · exact hm
  · exact hm.trans ⟨(setAllocation_fallsStartPass ..).stays⟩

theorem launch_passDue (n : SlotId) (k : Fin 4) (i : Injection) (s : State) :
    (launch n k i s).power.passDue = s.power.passDue := by
  unfold launch
  dsimp only
  split <;> rfl

theorem serveInjections_passStays (n : SlotId) (s : State) : PassStays s (serveInjections n s) := by
  obtain ⟨h, -⟩ | ⟨i, rest, k, -, -, -, -, h⟩ := serveInjections_cases n s <;> rw [h]
  · exact .of_same rfl
  · have hl : PassStays s (launch n k i s) := .of_same (launch_passDue ..)
    obtain ⟨h, -⟩ | h := sendInjection_cases n k i s <;> rw [h]
    · exact hl
    · exact hl.trans (setSpindle_passStays ..)

theorem forwardHead_passStays {n : SlotId} {s : State} {q : QueuedCmd} {rest : List QueuedCmd} (k : Fin 4) (g : Bool)
    (h : (s.slot n).traffic.queue = q :: rest) : PassStays s (forwardHead n k g s) := by
  have hh : PassStays s (handed n k g q rest s) := .of_same rfl
  obtain ⟨hf, -⟩ | ⟨hf, -⟩ := forwardHead_cases k g h <;> rw [hf]
  · exact hh
  · exact hh.trans (setSpindle_passStays ..)

theorem joinAdmission_passStays (n : SlotId) (k : AdmissionKind) (o : Origin) (s : State) : PassStays s (joinAdmission n k o s) := by
  unfold joinAdmission
  split
  · exact .of_same rfl
  · exact ⟨fun _ => rfl⟩

theorem requestHead_passStays (n : SlotId) (k : Fin 4) (c : CmdClass) (s : State) : PassStays s (requestHead n k c s) := by
  unfold requestHead
  split
  · exact .of_same rfl
  · have hm : PassStays s (modSlot n (fun x => { x with traffic.reserved := some k }) s) := .of_same rfl
    exact hm.trans (joinAdmission_passStays ..)

theorem leaveAdmission_passStays (n : SlotId) (s : State) : PassStays s (leaveAdmission n s) := by
  unfold leaveAdmission
  split
  · exact .of_same rfl
  · exact ⟨fun h => by simp [h]⟩

theorem refuseHead_passStays (n : SlotId) (s : State) : PassStays s (refuseHead n s) := by
  unfold refuseHead
  split
  · exact .of_same rfl
  · next q rest hq =>
    have hm : PassStays s (answerPart q.source n q.tag .spindleStopped (modSlot n (fun x => { x with traffic.queue := rest }) s)) :=
      .of_same ((answerPart_keeps ..).same .passDue (by simp))
    unfold withdrawHead
    refine hm.trans (PassStays.trans ?_ (.of_same ((releaseReserved_keeps ..).same .passDue (by simp))))
    split
    · exact leaveAdmission_passStays ..
    · exact .of_same rfl

theorem considerHead_passStays (fuel : Nat) (n : SlotId) (s : State) : PassStays s (considerHead fuel n s) := by
  induction fuel generalizing s with
  | zero => exact .of_same rfl
  | succ fuel ih =>
    cases hs : (s.slot n).state.servesQueue with
    | false => rw [considerHead_idle _ (.inl hs)]; exact .of_same rfl
    | true =>
      cases hq : (s.slot n).traffic.queue with
      | nil => rw [considerHead_idle _ (.inr hq)]; exact .of_same rfl
      | cons q rest =>
        cases hd : decisionOn (s.slot n) q with
        | waits => rw [considerHead_waits fuel hs hq hd]; exact .of_same rfl
        | refuse =>
          rw [considerHead_refuses fuel hs hq hd]
          exact (refuseHead_passStays ..).trans (ih _)
        | forward =>
          cases hk : (s.slot n).freeEntry with
          | none => rw [considerHead_full fuel hs hq (by rw [hd]; simp) hk]; exact .of_same rfl
          | some k =>
            rw [considerHead_forwards fuel hs hq hd hk]
            exact (forwardHead_passStays k false hq).trans (ih _)
        | needsGrant =>
          cases hk : (s.slot n).freeEntry with
          | none => rw [considerHead_full fuel hs hq (by rw [hd]; simp) hk]; exact .of_same rfl
          | some k =>
            rw [considerHead_asks fuel hs hq hd hk]
            exact requestHead_passStays ..

theorem serveSlot_passStays (n : SlotId) (s : State) : PassStays s (serveSlot n s) :=
  (serveInjections_passStays n s).trans (considerHead_passStays ..)

theorem autoResume_passStays (n : SlotId) (s : State) : PassStays s (autoResume n s) := by
  unfold autoResume
  split
  · exact joinAdmission_passStays ..
  · exact .of_same rfl

theorem forSlots_passStays {f : SlotId → State → State} (h : ∀ n s, PassStays s (f n s)) (s : State) : PassStays s (forSlots f s) := by
  unfold forSlots
  induction allSlots generalizing s with
  | nil => exact .of_same rfl
  | cons n l ih => exact (h n s).trans (ih _)

end Sys2Proof.Machine
end

section
/-! The end of a supply episode (R92, R93). -/

namespace Sys2Proof.Machine

/-! ### The walks before the lists are served -/

/-- The shed mark and the mark of a lapsed grant are cleared (R92). -/
def clearMarks (x : Slot) : Slot := { x with tallies := { x.tallies with shedMark := false, lapsed := false } }

/-- The supply is NORMAL again, before the slots are walked (R92). -/
def normalAgain (s : State) : State :=
  raisePart .supplyRestored { s with power := { s.power with supply := .normal, restore := none, passDue := true } }

/-- The state once the SPIN_DOWNs of the shed have left the lists. -/
def shedDropped (s : State) : State := forSlots (fun n => modSlot n dropShed) (normalAgain s)

/-- The end of an episode but for the serving of the slots. -/
def restored (s : State) : State := forSlots (fun n => modSlot n clearMarks) (forSlots autoResume (shedDropped s))

theorem returnToNormal_eq (s : State) : returnToNormal s = forSlots serveSlot (restored s) := rfl

theorem normalAgain_spec (s : State) :
    KeepsButSlots [.supply, .partSet, .noticeQueue, .passDue] s (normalAgain s)
      ∧ (∀ n, SlotKeepsBut [.notice] (s.slot n) ((normalAgain s).slot n))
      ∧ ((normalAgain s).power.supply = .normal ∧ (normalAgain s).power.warning = s.power.warning
        ∧ (normalAgain s).power.restore = none)
      ∧ (normalAgain s).power.passDue = true ∧ (normalAgain s).notices.part.getLsbD 2 = true := by
  unfold normalAgain
  have hk : KeepsBut [.supply, .passDue] s { s with power := { s.power with supply := .normal, restore := none, passDue := true } } :=
    ⟨fun g hg => by cases g <;> simp_all [sameIn]; rfl⟩
  have hm : MovesNotices _ (raisePart .supplyRestored { s with power := { s.power with supply := .normal, restore := none, passDue := true } }) :=
    .of_keeps (raisePart_keeps ..)
  obtain ⟨h1, h2, h3⟩ := hm.keeps.same .supply (by simp) nofun
  have hd := hm.keeps.same .passDue (by simp) nofun
  exact ⟨(hk.toSlots.mono (by simp)).trans (hm.keeps.mono (by simp)), hm.slots, ⟨h1, h2, h3⟩, hd, raisePart_getLsbD rfl _⟩

/-- Is a listed SPIN_DOWN there for the shed alone (R92). -/
def Injection.shedAlone (i : Injection) : Bool := i.shed && !i.parking && !i.orphan && !i.recovery

/-- A slot whose drive is to be resumed gets a part-origin entry, unless it holds an admission entry (R93). -/
def rejoins (s : State) (m : SlotId) : Bool :=
  s.store.settings.autoResume && (s.slot m).tallies.shedMark && (s.slot m).state.inTest
    && decide ((s.slot m).power.spindle = .stopped ∨ (s.slot m).power.spindle = .spinningDown)
    && !(s.slot m).tallies.lapsed && decide (entryOf s m = none)

/-- A slot at the return to NORMAL, before its list is served. -/
structure RestoredSlot (x y : Slot) : Prop where
  slot : SlotKeepsBut [.injections, .tallies, .notice] x y
  tallies : y.tallies = { x.tallies with shedMark := false, lapsed := false }
  injections : y.traffic.injections = (x.traffic.injections.filter fun i => !i.shedAlone).map fun i => { i with shed := false }

/-- The state at the return to NORMAL, before the slots are served. -/
structure Restored (s t : State) : Prop where
  keeps : KeepsButSlots [.supply, .partSet, .noticeQueue, .passDue, .admission] s t
  supply : t.power.supply = .normal ∧ t.power.warning = s.power.warning ∧ t.power.restore = none
  part : t.notices.part.getLsbD 2 = true
  slots : ∀ n, RestoredSlot (s.slot n) (t.slot n)
  queue : t.power.queue = s.power.queue ++ (allSlots.filter (rejoins s)).map resumeEntry
  entry : ∀ n, entryOf t n = if rejoins s n then some (resumeEntry n) else entryOf s n

theorem restored_passDue (s : State) : (restored s).power.passDue = true := by
  unfold restored
  obtain ⟨-, -, -, hd, -⟩ := normalAgain_spec s
  have hdrop : KeepsButSlots [] (normalAgain s) (shedDropped s) := forSlots_keeps (fun n s => modSlot_keeps n dropShed s) _
  have hb := (hdrop.same .passDue (by simp) nofun).trans hd
  generalize shedDropped s = b at *
  have hc := (forSlots_passStays autoResume_passStays b).stays hb
  generalize forSlots autoResume b = c at *
  have hclear : KeepsButSlots [] c (forSlots (fun n => modSlot n clearMarks) c) :=
    forSlots_keeps (fun n s => modSlot_keeps n clearMarks s) c
  exact (hclear.same .passDue (by simp) nofun).trans hc

theorem resumes_iff (x : Slot) :
    resumes x = (x.tallies.shedMark && x.state.inTest && decide (x.power.spindle = .stopped ∨ x.power.spindle = .spinningDown)
      && !x.tallies.lapsed) := by
  unfold resumes
  cases x.tallies.shedMark <;> cases x.tallies.lapsed <;> cases x.state.inTest <;> cases x.power.spindle <;> rfl

theorem restored_spec (s : State) : Restored s (restored s) := by
  unfold restored
  obtain ⟨hka, hxa, hsup, -, hpart⟩ := normalAgain_spec s
  have hkb : KeepsButSlots [] (normalAgain s) (shedDropped s) := forSlots_keeps (fun n s => modSlot_keeps n dropShed s) _
  have hxb : ∀ n, (shedDropped s).slot n = dropShed ((normalAgain s).slot n) := fun n => forSlots_modSlot_slot (fun _ => dropShed) _ n
  generalize shedDropped s = b at *
  generalize normalAgain s = a at *
  have hkab : KeepsButSlots [.supply, .partSet, .noticeQueue, .passDue] s b := hka.trans (hkb.mono (by simp))
  obtain ⟨hkc, hqc, hec⟩ := forSlots_autoResume b
  generalize forSlots autoResume b = c at *
  have hkd : KeepsButSlots [] c (forSlots (fun n => modSlot n clearMarks) c) :=
    forSlots_keeps (fun n s => modSlot_keeps n clearMarks s) c
  have hxd := fun n => forSlots_modSlot_slot (fun _ => clearMarks) c n
  generalize forSlots (fun n => modSlot n clearMarks) c = d at *
  have hqb : b.power.queue = s.power.queue := hkab.same .admission (by simp) nofun
  have hslot : ∀ n, SlotKeepsBut [.injections, .notice] (s.slot n) (b.slot n) := fun n => by
    have hdrop : SlotKeepsBut [.injections] (a.slot n) (b.slot n) := by
      rw [hxb n]
      exact ⟨fun g hg => by clear * - hg; cases g <;> simp_all [slotSameIn, dropShed]⟩
    exact ((hxa n).mono (by simp)).trans (hdrop.mono (by simp))
  have hjoin : joinsOnResume b = rejoins s := by
    funext n
    have h := hslot n
    unfold joinsOnResume rejoins
    rw [entryOf_of_queue hqb n, resumes_iff, (hkab.same .settings (by simp) nofun : b.store.settings = s.store.settings),
      (h.same .tallies (by simp) : (b.slot n).tallies = _), (h.same .state (by simp) : (b.slot n).state = _),
      (h.same .spindle (by simp) : _ ∧ _).1]
    simp only [Bool.and_assoc]
  rw [hjoin, hqb] at hqc
  have hkbc : KeepsButSlots [.admission, .passDue] b c := hkc.toSlots
  have hkbd : KeepsButSlots [.admission, .passDue] b d := hkbc.trans (hkd.mono (by simp))
  have hkad : KeepsButSlots [.admission, .passDue] a d := (hkb.mono (by simp)).trans hkbd
  obtain ⟨h1, h2, h3⟩ := hkad.same .supply (by simp) nofun
  have hqd : d.power.queue = c.power.queue := hkd.same .admission (by simp) nofun
  have hall : KeepsButSlots [.supply, .partSet, .noticeQueue, .passDue, .admission] s d := (hkab.mono (by simp)).trans (hkbd.mono (by simp))
  have hpd := hkad.same .partSet (by simp) nofun
  refine ⟨hall, ⟨h1.trans hsup.1, h2.trans hsup.2.1, h3.trans hsup.2.2⟩, ?_, fun n => ?_, hqd.trans hqc, fun n => ?_⟩
  · rw [hpd.1]
    exact hpart
  · have hd : d.slot n = clearMarks (b.slot n) := by rw [hxd n, hkc.slot_eq (by simp)]
    have hclear : SlotKeepsBut [.tallies] (b.slot n) (d.slot n) := by
      rw [hd]
      exact ⟨fun g hg => by clear * - hg; cases g <;> simp_all [slotSameIn, clearMarks]⟩
    refine ⟨((hslot n).mono (by simp)).trans (hclear.mono (by simp)), ?_, ?_⟩
    · rw [hd, ← ((hslot n).same .tallies (by simp) : (b.slot n).tallies = _)]
      rfl
    · rw [(hclear.same .injections (by simp) : (d.slot n).traffic.injections = _), hxb n,
        ← ((hxa n).same .injections (by simp) : (a.slot n).traffic.injections = _)]
      rfl
  · rw [entryOf_of_queue hqd, hec n, hjoin, entryOf_of_queue hqb]

theorem Restored.agrees {s t : State} (h : Restored s t) (ha : s.admissionAgrees) : t.admissionAgrees := by
  unfold State.admissionAgrees at *
  have hm : ((allSlots.filter (rejoins s)).map resumeEntry).map (·.slot) = allSlots.filter (rejoins s) := by
    rw [List.map_map]
    exact List.map_id _
  rw [h.queue, List.map_append, hm, List.nodup_append]
  refine ⟨ha, nodup_allSlots.filter _, fun a hq m hj => ?_⟩
  rintro rfl
  obtain ⟨e, he, hs⟩ := List.mem_map.1 hq
  have hr := (List.mem_filter.1 hj).2
  unfold rejoins at hr
  simp only [Bool.and_eq_true, decide_eq_true_eq] at hr
  exact entryOf_eq_none.1 hr.2 e he hs

/-! ### Serving the lists at the return -/

/-- What serving a slot does to its list and its table. -/
structure ListLeft (now : Nat) (x y : Slot) : Prop where
  held : x.lines.powered = false ∨ x.partInFlight = true ∨ x.freeEntry = none → y.traffic.injections = x.traffic.injections
  subset : ∀ i ∈ y.traffic.injections, i ∈ x.traffic.injections
  fresh : ∀ (k : Fin 4) (e : InFlight), y.traffic.inFlight[k] = some e → e.origin = .part →
    x.traffic.inFlight[k] = some e ∨ ∃ i ∈ x.traffic.injections, e.cls = i.cls
  listed : ∀ i ∈ x.traffic.injections, i ∈ y.traffic.injections
    ∨ ∃ (k : Fin 4) (e : InFlight), y.traffic.inFlight[k] = some e ∧ e.cls = i.cls ∧ e.origin = .part ∧ e.start = now

theorem serveSlot_listLeft (n : SlotId) (s : State) : ListLeft s.now (s.slot n) ((serveSlot n s).slot n) := by
  unfold serveSlot
  have hinj : _ = ((serveInjections n s).slot n).traffic.injections :=
    (considerHead_slot (Config.slotQueueDepth + 1) n (serveInjections n s)).same .injections (by simp)
  have hheads := considerHead_headsTaken (Config.slotQueueDepth + 1) n (serveInjections n s)
  generalize considerHead (Config.slotQueueDepth + 1) n (serveInjections n s) = u at *
  refine ⟨fun h => ?_, fun i hi => serveInjections_subset n s i (hinj ▸ hi), fun k e he ho => ?_, fun i hi => ?_⟩
  · obtain ⟨he, -⟩ | ⟨i, rest, k, -, hon, hp, hk, -⟩ := serveInjections_cases n s
    · rw [hinj, he]
    · simp [hon, hp, hk] at h
  · obtain he' | hserver := hheads.fresh k e he
    · obtain ⟨h, -⟩ | ⟨i, rest, j, hi, -, -, -, h⟩ := serveInjections_cases n s
      · rw [h] at he'
        exact .inl he'
      · rw [h, (sendInjection_traffic n j i s).1] at he'
        rw [inFlight_set] at he'
        split at he'
        · cases he'
          exact .inr ⟨i, by rw [hi]; exact List.mem_cons_self, rfl⟩
        · exact .inl he'
    · rw [hserver] at ho
      cases ho
  · obtain h | ⟨j, -, k, hc, he⟩ := serveInjections_listed hi
    · exact .inl (hinj ▸ h)
    · exact .inr ⟨k, _, hheads.held k _ he, hc, rfl, rfl⟩

/-- Settles O16: the walk that serves the lists keeps the entries that auto-resume joined. -/
theorem restoreDelayExpiry : Obligations.RestoreDelayExpiry := by
  unfold Obligations.RestoreDelayExpiry
  intro s t hsup hres
  have he : exec .restoreDelayExpiry s = .next (finish (forSlots serveSlot (restored (reach t s)))) := by
    change execRestoreDelayExpiry s = _
    unfold execRestoreDelayExpiry
    rw [hres]
    exact congrArg Host.Outcome.next (if_pos hsup)
  refine ⟨_, he, ?_⟩
  have hr := restored_spec (reach t s)
  have hdue := restored_passDue (reach t s)
  generalize restored (reach t s) = d at *
  have hkr : KeepsButSlots [.now] s (reach t s) := (reach_keeps t s).toSlots
  have hkd : KeepsButSlots [.now, .supply, .partSet, .noticeQueue, .passDue, .admission] s d :=
    (hkr.mono (by simp)).trans (hr.keeps.mono (by simp))
  have hku : KeepsButSlots [.responses, .admission, .passDue, .sent] d (forSlots serveSlot d) := forSlots_keeps serveSlot_local d
  have hstay := forSlots_serveSlot_partEntriesStay d
  have hpass : (forSlots serveSlot d).power.passDue = true := (forSlots_passStays serveSlot_passStays d).stays hdue
  have hnow : d.now = max s.now t := hr.keeps.same .now (by simp) nofun
  have hslot : ∀ n, ∃ v : State, v.now = d.now ∧ RestoredSlot (s.slot n) (d.slot n) ∧ ListLeft v.now (d.slot n) ((forSlots serveSlot d).slot n)
      ∧ SlotKeepsBut [.queue, .lastForward, .spindle, .inFlight, .allocation, .reserved, .injections] (d.slot n)
        ((forSlots serveSlot d).slot n) := fun n => by
    obtain ⟨v, l, hkv, hv, -, hu⟩ := forSlots_at serveSlot_local (by simp) n d
    rw [hu]
    exact ⟨v, hkv.same .now (by simp) nofun, hr.slots n, hv ▸ serveSlot_listLeft n v, hv ▸ serveSlot_slot n v⟩
  have hnowu : (forSlots serveSlot d).now = d.now := hku.same .now (by simp) nofun
  obtain ⟨k1, k2, k3⟩ := hku.same .supply (by simp) nofun
  have hpart := hku.same .partSet (by simp) nofun
  generalize forSlots serveSlot d = u at *
  have hqueue := hr.queue
  have hentry := hr.entry
  change ∀ n, entryOf d n = if rejoins s n then some (resumeEntry n) else entryOf s n at hentry
  have hserver : ∀ n, rejoins s n = false → (∀ e, entryOf s n = some e → e.origin = .server) →
      ∀ e, entryOf u n = some e → e.origin = .server := fun n hj hs => by
    refine hstay.server n ?_
    rw [hentry, if_neg (by simp [hj])]
    exact hs
  refine ⟨(hkd.mono (by simp)).trans (hku.mono (by simp)), hnowu.trans hnow, k1.trans hr.supply.1, k3.trans hr.supply.2.2, hpass,
    k2.trans hr.supply.2.1, ?_, fun n => ?_⟩
  · rw [hpart.1]
    exact hr.part
  · obtain ⟨v, hnv, hx, hl, hs⟩ := hslot n
    have hnone : (∀ i ∈ (s.slot n).traffic.injections, i.cls = .spinDown → i.shedAlone = true) →
        ∀ i ∈ (d.slot n).traffic.injections, i.cls ≠ .spinDown := fun hal i hi hc => by
      rw [hx.injections] at hi
      obtain ⟨j, hj, rfl⟩ := List.mem_map.1 hi
      obtain ⟨hj, hn⟩ := List.mem_filter.1 hj
      simp [hal j hj hc] at hn
    refine ⟨?_, (hx.slot.mono (by simp)).trans (hs.mono (by simp)), fun h1 h2 h3 h4 h5 h6 => ?_, fun h1 h2 => ?_,
      fun hj hs => hserver n hj hs, fun ha => ?_, fun hx' => ?_, fun hal => ⟨?_, fun k f hf hc ho => ?_⟩, fun i hi hc hal => ?_⟩
    · rw [(hs.same .tallies (by simp) : _ = (d.slot n).tallies), hx.tallies]
    · refine hstay.part n _ ?_ rfl
      rw [hentry, if_pos (by simp [rejoins, h1, h2, h3, h4, h5, h6])]
      rfl
    · refine hserver n (by simp [rejoins, h1]) ?_
      rw [h2]
      nofun
    · rw [(hstay.queue (hr.agrees ha)).2, hqueue, List.filter_append]
      refine congrArg (s.power.queue.filter (·.origin = .part) ++ ·) (List.filter_eq_self.2 fun e he => ?_)
      obtain ⟨m, -, rfl⟩ := List.mem_map.1 he
      rfl
    · rw [hl.held, hx.injections]
      · rfl
      · rw [(hx.slot.same .power (by simp) : (d.slot n).lines.powered = _), partInFlight_congr (hx.slot.same .inFlight (by simp)),
          freeEntry_congr (hx.slot.same .inFlight (by simp)) (hx.slot.same .reserved (by simp))]
        exact hx'
    · rw [← Bool.not_eq_true, Slot.listed, List.any_eq_true]
      rintro ⟨j, hj, hc⟩
      exact hnone hal j (hl.subset j hj) (by simpa using hc)
    · obtain h | ⟨i, hi, hci⟩ := hl.fresh k f hf ho
      · exact ⟨k, by rw [← (hx.slot.same .inFlight (by simp) : (d.slot n).traffic.inFlight = _)]; exact h⟩
      · exact absurd (hci.symm.trans hc) (hnone hal i hi)
    · have hm : { i with shed := false } ∈ (d.slot n).traffic.injections := by
        rw [hx.injections]
        exact List.mem_map.2 ⟨i, List.mem_filter.2 ⟨hi, by rw [show i.shedAlone = false from hal]; rfl⟩, rfl⟩
      obtain h | ⟨k, e, he, q1, q2, q3⟩ := hl.listed _ hm
      · exact .inl h
      · exact .inr ⟨k, e, he, q1.trans hc, q2, q3.trans (hnv.trans hnowu.symm)⟩

end Sys2Proof.Machine
end

section
/-! SUPPORT. The admission pass (R75 to R78) and the state figure (R66). -/

namespace Sys2Proof.Machine

/-! ### The sum of the allocations -/

theorem allocation_le_sum (s : State) (n : SlotId) : (s.slot n).power.allocation ≤ allocationSum s := by
  have h := allocationSum_modSlot n (fun x => { x with power.allocation := 0 }) s
  dsimp only at h
  omega

theorem allocationSum_setAllocation (n : SlotId) (a : Nat) (s : State) :
    allocationSum (setAllocation n a s) = allocationSum s - (s.slot n).power.allocation + a := by
  have hle := allocation_le_sum s n
  have h : allocationSum (setAllocation n a s) + (s.slot n).power.allocation = allocationSum s + a :=
    allocationSum_modSlot n (fun x => { x with power.allocation := a }) s
  omega

theorem fits_iff {s : State} {n : SlotId} {a : Nat} (h : (s.slot n).power.allocation < a) :
    fits s n a = true ↔ allocationSum s - (s.slot n).power.allocation + a ≤ s.store.target := by
  have hle := allocation_le_sum s n
  simp only [fits, Bool.or_eq_true, decide_eq_true_eq]
  omega

/-! ### One entry of a pass -/

/-- The entries older than a slot's. -/
def olderThan (s : State) (n : SlotId) : List AdmissionEntry := s.power.queue.takeWhile fun o => o.slot ≠ n

theorem olderBlocking_eq (s : State) (n : SlotId) : olderBlocking s n = (olderThan s n).any (·.blocking) := by
  unfold olderBlocking olderThan
  exact congrArg (fun p => (s.power.queue.takeWhile p).any (·.blocking)) (funext fun o => by simp [bne, beq_eq_decide])

section
variable {s : State} {n : SlotId} {e : AdmissionEntry} (he : entryOf s n = some e) (rest missed : List SlotId)
include he

/-- An older blocking entry ends the pass (R75, step 1). -/
theorem passLoop_blocked (h : ∃ o ∈ olderThan s n, o.blocking = true) : passLoop (n :: rest) missed s = s := by
  rw [passLoop, he]
  exact if_pos (by rw [olderBlocking_eq]; exact List.any_eq_true.2 h)

theorem passLoop_examines (h : ∀ o ∈ olderThan s n, o.blocking = false) :
    passLoop (n :: rest) missed s
      = if oversize s e then passLoop rest missed (resetSkips n s)
        else
          match offer s e with
          | some (a, p) => passLoop rest missed (grant e a p (bumpSkips missed s))
          | none => passLoop rest (n :: missed) s := by
  have hb : olderBlocking s n = false := by
    rw [olderBlocking_eq, List.any_eq_false]
    exact fun o ho => by simp [h o ho]
  rw [passLoop, he]
  exact if_neg (by simp [hb])

/-- An oversize entry is stepped over (R77). -/
theorem passLoop_oversize (h : ∀ o ∈ olderThan s n, o.blocking = false) (ho : oversize s e = true) :
    passLoop (n :: rest) missed s = passLoop rest missed (resetSkips n s) := by
  rw [passLoop_examines he rest missed h, if_pos ho]

/-- An entry that fits is granted (R75, R76). -/
theorem passLoop_grants (h : ∀ o ∈ olderThan s n, o.blocking = false) (ho : oversize s e = false) {a : Nat} {p : Option Nat}
    (hf : offer s e = some (a, p)) : passLoop (n :: rest) missed s = passLoop rest missed (grant e a p (bumpSkips missed s)) := by
  rw [passLoop_examines he rest missed h, if_neg (by simp [ho]), hf]

/-- An entry that does not fit is passed over (R75). -/
theorem passLoop_passes (h : ∀ o ∈ olderThan s n, o.blocking = false) (ho : oversize s e = false) (hf : offer s e = none) :
    passLoop (n :: rest) missed s = passLoop rest (n :: missed) s := by
  rw [passLoop_examines he rest missed h, if_neg (by simp [ho]), hf]

end

theorem bumpSkips_nil (s : State) : bumpSkips [] s = s := by
  unfold bumpSkips
  have h : (s.power.queue.map fun e =>
      if ([] : List SlotId).contains e.slot then
        { e with skips := saturate Config.skipLimit (e.skips + 1)
                 blocking := e.blocking || decide (Config.skipLimit ≤ e.skips + 1) }
      else e) = s.power.queue := List.map_id _
  rw [h]

/-! ### The oldest entry -/

section
variable {s : State} {e : AdmissionEntry} {rest : List AdmissionEntry} (hq : s.power.queue = e :: rest)
include hq

theorem entryOf_oldest : entryOf s e.slot = some e := by
  unfold entryOf
  rw [hq, List.find?_cons_of_pos (by simp)]

theorem olderThan_oldest : olderThan s e.slot = [] := by
  unfold olderThan
  rw [hq, List.takeWhile_cons_of_neg (by simp)]

theorem runPass_oldest (hs : s.power.supply = .normal) (ht : allocationSum s ≤ s.store.target) :
    runPass s = passLoop (e.slot :: rest.map (·.slot)) [] s := by
  unfold runPass
  rw [if_neg (by rw [hs]; simp; exact ht), hq, List.map_cons]

/-- The oldest entry, blocking and not fitting, ends the pass at the next (R75). -/
theorem passLoop_oldest_blocks (hb : e.blocking = true) (hne : ∀ e' ∈ rest, e'.slot ≠ e.slot) (missed : List SlotId) :
    passLoop (rest.map (·.slot)) missed s = s := by
  cases hr : rest with
  | nil => rfl
  | cons f tail =>
    subst hr
    have hf : f.slot ≠ e.slot := hne f List.mem_cons_self
    have hfe : entryOf s f.slot = some f := by
      unfold entryOf
      rw [hq, List.find?_cons_of_neg (by simpa using hf.symm), List.find?_cons_of_pos (by simp)]
    rw [List.map_cons]
    refine passLoop_blocked hfe _ _ ⟨e, ?_, hb⟩
    unfold olderThan
    rw [hq, List.takeWhile_cons_of_pos (by simpa using hf.symm)]
    exact List.mem_cons_self

end

/-! ### The profile of a SPIN_UP entry -/

/-- Profile p is as good as profile q (R78): shorter spin time, then lower effective peak, then lower index. -/
def AsGood (times peaks : List Nat) (p q : Nat) : Prop :=
  times.getD p 0 < times.getD q 0
    ∨ times.getD p 0 = times.getD q 0 ∧ (peaks.getD p 0 < peaks.getD q 0 ∨ peaks.getD p 0 = peaks.getD q 0 ∧ p ≤ q)

theorem profileBefore_iff (times peaks : List Nat) (p q : Nat) :
    profileBefore times peaks p q = true ↔ AsGood times peaks p q ∧ p ≠ q := by
  simp only [profileBefore, AsGood, Bool.or_eq_true, Bool.and_eq_true, decide_eq_true_eq, beq_iff_eq]
  constructor
  · rintro (h | ⟨h1, h2 | ⟨h2, h3⟩⟩)
    · exact ⟨.inl h, by rintro rfl; omega⟩
    · exact ⟨.inr ⟨h1, .inl h2⟩, by rintro rfl; omega⟩
    · exact ⟨.inr ⟨h1, .inr ⟨h2, h3.le⟩⟩, h3.ne⟩
  · rintro ⟨h | ⟨h1, h2 | ⟨h2, h3⟩⟩, hne⟩
    · exact .inl h
    · exact .inr ⟨h1, .inl h2⟩
    · exact .inr ⟨h1, .inr ⟨h2, by omega⟩⟩

/-- The better of the best so far and a later profile. -/
def betterProfile (times peaks : List Nat) (best : Option Nat) (p : Nat) : Option Nat :=
  match best with
  | none => some p
  | some q => if profileBefore times peaks p q then some p else some q

theorem foldl_betterProfile (times peaks l : List Nat) (q : Nat) :
    ∃ p ∈ q :: l, l.foldl (betterProfile times peaks) (some q) = some p ∧ ∀ p' ∈ q :: l, AsGood times peaks p p' := by
  induction l generalizing q with
  | nil => exact ⟨q, by simp, rfl, by simp [AsGood]⟩
  | cons a l ih =>
    by_cases hp : profileBefore times peaks a q = true
    · obtain ⟨p, hmem, hfold, hbest⟩ := ih a
      refine ⟨p, List.mem_cons_of_mem _ hmem, by simpa [betterProfile, hp] using hfold, ?_⟩
      rw [List.forall_mem_cons]
      refine ⟨?_, hbest⟩
      have hpa := hbest a (by simp)
      rw [profileBefore_iff] at hp
      unfold AsGood at *
      omega
    · obtain ⟨p, hmem, hfold, hbest⟩ := ih q
      refine ⟨p, ?_, by simpa [betterProfile, hp] using hfold, ?_⟩
      · rcases List.mem_cons.1 hmem with rfl | hm
        · simp
        · simp [hm]
      · rw [List.forall_mem_cons] at hbest ⊢
        obtain ⟨hbq, hbl⟩ := hbest
        rw [List.forall_mem_cons]
        refine ⟨hbq, ?_, hbl⟩
        rw [profileBefore_iff] at hp
        by_cases haq : a = q
        · rw [haq]
          exact hbq
        · unfold AsGood at *
          omega

/-- The profiles of a slot that fit at this pass, in rising order. -/
def fittingProfiles (s : State) (n : SlotId) : List Nat :=
  (List.range (s.slot n).identity.peaks.length).filter fun p => roomFor s n (figureOf ((s.slot n).identity.peaks.getD p 0))

theorem mem_fittingProfiles (s : State) (n : SlotId) (p : Nat) :
    p ∈ fittingProfiles s n ↔ p < (s.slot n).identity.peaks.length
      ∧ allocationSum s + max 1 ((s.slot n).identity.peaks.getD p 0) ≤ s.store.target + (s.slot n).power.allocation := by
  simp [fittingProfiles, roomFor, figureOf]

/-- The profile chosen is the best of those that fit (R78). -/
theorem chooseProfile_spec {s : State} {n : SlotId} {m : ModelEntry} (hm : modelOf s (s.slot n) = some m) :
    (chooseProfile s n = none ↔ ∀ p, p ∉ fittingProfiles s n)
      ∧ ∀ p, chooseProfile s n = some p → p ∈ fittingProfiles s n ∧ ∀ p' ∈ fittingProfiles s n,
          AsGood (m.profiles.map (·.spinTime)) (s.slot n).identity.peaks p p' := by
  have he : chooseProfile s n
      = (fittingProfiles s n).foldl (betterProfile (m.profiles.map (·.spinTime)) (s.slot n).identity.peaks) none := by
    unfold chooseProfile
    dsimp only
    rw [hm]
    rfl
  rw [he]
  cases hl : fittingProfiles s n with
  | nil => simp
  | cons q l =>
    obtain ⟨p, hmem, hfold, hbest⟩ := foldl_betterProfile (m.profiles.map (·.spinTime)) (s.slot n).identity.peaks l q
    rw [List.foldl_cons, show betterProfile (m.profiles.map (·.spinTime)) (s.slot n).identity.peaks none q = some q from rfl, hfold]
    refine ⟨⟨nofun, fun h => absurd List.mem_cons_self (h q)⟩, fun p' hp => ?_⟩
    cases hp
    exact ⟨hmem, hbest⟩

/-- A server's SPIN_UP or the part's own is offered the peak of the profile chosen (R66, R78). -/
theorem offer_spinUp {s : State} {e : AdmissionEntry} (h : e.kind = .spinUp) :
    offer s e = (chooseProfile s e.slot).map fun p => (max 1 ((s.slot e.slot).identity.peaks.getD p 0), some p) := by
  unfold offer
  rw [h]
  rfl

/-- A HEAVY is offered its slot's allocation and the increment (R73). -/
theorem offer_heavy {s : State} {e : AdmissionEntry} {m : ModelEntry} (h : e.kind = .heavy)
    (hm : modelOf s (s.slot e.slot) = some m) {a : Nat} {p : Option Nat} (ho : offer s e = some (a, p)) :
    a = max 1 ((s.slot e.slot).power.allocation + m.heavyIncrement) := by
  unfold offer grantFigure at ho
  simp only [h, hm] at ho
  split at ho
  · cases ho
    rfl
  · cases ho

/-- Slot power is offered the settle reserve (R5, R73). -/
theorem offer_slotPower {s : State} {e : AdmissionEntry} (h : e.kind = .slotPower) {a : Nat} {p : Option Nat}
    (ho : offer s e = some (a, p)) : a = max 1 s.store.settings.settleReserve := by
  unfold offer grantFigure at ho
  simp only [h] at ho
  split at ho
  · cases ho
    rfl
  · cases ho

/-! ### The state figure -/

theorem heavyInFlight_iff (x : Slot) :
    x.heavyInFlight = true ↔ ∃ k : Fin 4, ∃ e, x.traffic.inFlight[k] = some e ∧ e.cls = .heavy := by
  rw [Slot.heavyInFlight, anyInFlight_eq_true]
  simp

theorem stateFigure_off {s : State} {x : Slot} (h : x.lines.powered = false) : stateFigure s x = 0 := if_pos h

theorem stateFigure_on {s : State} {x : Slot} (h : x.lines.powered = true) :
    stateFigure s x = max 1 ((figureParts s x).1 + (figureParts s x).2) := if_neg (by simp [h])

end Sys2Proof.Machine
end

section
/-! SUPPORT. What a grant does (R5, R30, R31, R79, R80). -/

namespace Sys2Proof.Machine

theorem modelOf_congr {s t : State} {x y : Slot} (h : t.tables.models = s.tables.models) (hi : y.identity.model = x.identity.model) :
    modelOf t y = modelOf s x := by
  unfold modelOf
  rw [h, hi]

theorem serveSlot_of_quiet {n : SlotId} {s : State} (hi : (s.slot n).traffic.injections = []) (hq : (s.slot n).traffic.queue = []) :
    serveSlot n s = s := by
  unfold serveSlot
  rw [serveInjections_of_quiet (.inl hi), considerHead_idle _ (.inr hq)]

/-! ### A chosen profile -/

/-- The timeout of a granted SPIN_UP is twice the spin time of the profile chosen (R36). -/
theorem classTimeout_granted {s : State} {x : Slot} {m : ModelEntry} {p : Nat} {profile : SpinProfile} (hm : modelOf s x = some m)
    (hp : m.profiles[p]? = some profile) (hc : x.power.chosen = some p) :
    classTimeout s x .spinUp true = 2 * profile.spinTime * 1000 := by
  simp [classTimeout, hm, hc, hp]

theorem chosenMode_eq {s : State} {x : Slot} {m : ModelEntry} {p : Nat} {profile : SpinProfile} (hm : modelOf s x = some m)
    (hp : m.profiles[p]? = some profile) (hc : x.power.chosen = some p) : chosenMode s x = profile.mode := by
  simp [chosenMode, hm, hc, hp]

/-- With the chosen profile's effective peak allocated, the start of the spin-up leaves the allocation alone (R66, R67). -/
theorem setSpindle_spinningUp {n : SlotId} {s : State} {p : Nat} (on : (s.slot n).lines.powered = true)
    (hc : (s.slot n).power.chosen = some p) (ha : (s.slot n).power.allocation = max 1 ((s.slot n).identity.peaks.getD p 0)) :
    (setSpindle n .spinningUp s).slot n = { s.slot n with power := { (s.slot n).power with spindle := .spinningUp } } := by
  have hspun : spunTo .spinningUp (s.slot n) = { s.slot n with power := { (s.slot n).power with spindle := .spinningUp } } := by
    unfold spunTo
    cases h : (s.slot n).power.spindle <;> simp
  have hfig : stateFigure (modSlot n (spunTo .spinningUp) s)
      { s.slot n with power := { (s.slot n).power with spindle := .spinningUp } } = (s.slot n).power.allocation := by
    rw [stateFigure_on (by exact on), ha]
    simp [figureParts, on, peakOf, hc]
  rw [setSpindle_eq, followFigure_slot_same, hspun, hfig]
  split
  · rfl
  · simp

/-! ### The entry leaves the queue and the allocation is set -/

/-- A grant before the Slot Engine takes it (R79). -/
def granted (e : AdmissionEntry) (a : Nat) (s : State) : State :=
  setAllocation e.slot a { s with power.queue := s.power.queue.filter (·.slot != e.slot) }

theorem granted_spec (e : AdmissionEntry) (a : Nat) (s : State) :
    KeepsBut [.slot e.slot, .admission, .passDue] s (granted e a s)
      ∧ (granted e a s).power.queue = s.power.queue.filter (·.slot ≠ e.slot)
      ∧ (granted e a s).slot e.slot = { s.slot e.slot with power := { (s.slot e.slot).power with allocation := a } } := by
  have hq : KeepsBut [.admission] s { s with power.queue := s.power.queue.filter (·.slot != e.slot) } :=
    ⟨fun g hg => by cases g <;> simp_all [sameIn]; rfl⟩
  unfold granted
  refine ⟨(hq.mono (by simp)).trans ((setAllocation_keeps ..).mono (by simp)), ?_, setAllocation_slot_same ..⟩
  exact congrArg (fun p : AdmissionEntry → Bool => s.power.queue.filter p) (funext fun e => by simp [bne, beq_eq_decide])

/-! ### Slot power -/

theorem grant_slotPower {e : AdmissionEntry} (h : e.kind = .slotPower) (a : Nat) (p : Option Nat) (s : State) :
    grant e a p s = takeSlotPower e.slot a (granted e a s) := by
  unfold grant
  rw [h]
  rfl

/-- The slot powered, before its IDENTIFY is served (R5). -/
def poweredUp (n : SlotId) (reserve : Nat) (s : State) : State :=
  setState n .identifying (inject n (bareInjection .identify)
    (modSlot n (fun x =>
      { x with lines := { x.lines with powered := true, rundown := .stopped }
               power.reserveGranted := reserve }) s))

theorem takeSlotPower_eq (n : SlotId) (reserve : Nat) (s : State) :
    takeSlotPower n reserve s = serveInjections n (poweredUp n reserve s) := rfl

theorem inject_alone {n : SlotId} {i : Injection} {s : State} (h : (s.slot n).traffic.injections = []) :
    (inject n i s).slot n = { s.slot n with traffic := { (s.slot n).traffic with injections := [i] } } := by
  unfold inject
  rw [slot_modSlot_same, h]
  rfl

theorem poweredUp_slot (n : SlotId) (reserve : Nat) (s : State) :
    ((poweredUp n reserve s).slot n).state = .identifying ∧ ((poweredUp n reserve s).slot n).lines.powered = true
      ∧ ((poweredUp n reserve s).slot n).lines.rundown = .stopped
      ∧ ((poweredUp n reserve s).slot n).power.allocation = (s.slot n).power.allocation
      ∧ ((s.slot n).traffic.injections = [] →
        ((poweredUp n reserve s).slot n).traffic.injections = [bareInjection .identify]) := by
  unfold poweredUp
  have hx := slot_modSlot_same s n (fun x =>
      { x with lines := { x.lines with powered := true, rundown := .stopped }, power.reserveGranted := reserve })
  generalize modSlot n (fun x =>
      { x with lines := { x.lines with powered := true, rundown := .stopped }, power.reserveGranted := reserve }) s = t at *
  obtain ⟨l, hl, -⟩ := inject_slot_same n (bareInjection .identify) t
  have halone := inject_alone (n := n) (i := bareInjection .identify) (s := t)
  generalize inject n (bareInjection .identify) t = u at *
  have hu := setState_slot_same n .identifying u
  rw [hl, hx] at hu
  refine ⟨by rw [hu]; rfl, by rw [hu]; rfl, by rw [hu]; rfl, by rw [hu]; rfl, fun h => ?_⟩
  have hinj := congrArg (fun x : Slot => x.traffic.injections) (halone (by rw [hx]; exact h))
  rw [setState_slot_same]
  exact hinj

/-- Sending a listed IDENTIFY leaves the slot's power alone (R28). -/
theorem serveInjections_identify {n : SlotId} {s : State} (h : (s.slot n).traffic.injections = [bareInjection .identify]) :
    ((serveInjections n s).slot n).power = (s.slot n).power := by
  obtain ⟨he, -⟩ | ⟨i, rest, k, hi, -, -, -, he⟩ := serveInjections_cases n s <;> rw [he]
  rw [h] at hi
  cases hi
  rw [sendInjection_eq]
  have hl : ((launch n k (bareInjection .identify) s).slot n).power = (s.slot n).power := by
    rw [launch_slot]
    rfl
  exact hl

/-- A SLOT_POWER grant powers the slot and sends it to IDENTIFYING (R5). -/
theorem grant_powers {e : AdmissionEntry} (h : e.kind = .slotPower) (a : Nat) (p : Option Nat) (s : State) :
    ((grant e a p s).slot e.slot).state = .identifying ∧ ((grant e a p s).slot e.slot).lines.powered = true
      ∧ ((grant e a p s).slot e.slot).lines.rundown = .stopped
      ∧ ((s.slot e.slot).traffic.injections = [] → ((grant e a p s).slot e.slot).power.allocation = a) := by
  rw [grant_slotPower h, takeSlotPower_eq]
  obtain ⟨-, -, hx⟩ := granted_spec e a s
  generalize granted e a s = t at *
  obtain ⟨hst, hon, hrun, hal, hinj⟩ := poweredUp_slot e.slot a t
  rw [hx] at hal hinj
  generalize poweredUp e.slot a t = u at *
  have hs := serveInjections_slot e.slot u
  refine ⟨(hs.same .state (by simp) : _ = _).trans hst, (hs.same .power (by simp) : _ = _).trans hon,
    (hs.same .rundown (by simp) : _ = _).trans hrun, fun hn => ?_⟩
  rw [serveInjections_identify (hinj hn)]
  exact hal

/-! ### The grant of a queue head -/

/-- The head's grant is taken: its entry is no longer reserved, and a SPIN_UP has its profile (R30, R79). -/
def readied (n : SlotId) (p : Option Nat) (s : State) : State :=
  match p with
  | none => releaseReserved n s
  | some p => modSlot n (fun x => { x with power.chosen := some p }) (releaseReserved n s)

theorem takeHeadGrant_eq {n : SlotId} {p : Option Nat} {k : Fin 4} {s : State} (h : (s.slot n).traffic.reserved = some k) :
    takeHeadGrant n p s = serveSlot n (forwardHead n k true (readied n p s)) := by
  unfold takeHeadGrant
  rw [h]
  rfl

theorem readied_keeps (n : SlotId) (p : Option Nat) (s : State) : KeepsBut [.slot n] s (readied n p s) := by
  unfold readied
  split
  · exact releaseReserved_keeps ..
  · exact (releaseReserved_keeps ..).trans (modSlot_keeps ..)

theorem readied_slot (n : SlotId) (p : Option Nat) (s : State) :
    (readied n p s).slot n
      = { s.slot n with
          traffic := { (s.slot n).traffic with reserved := none }
          power := { (s.slot n).power with chosen := p.or (s.slot n).power.chosen } } := by
  unfold readied releaseReserved
  cases p with
  | none => exact slot_modSlot_same ..
  | some p =>
    dsimp only
    rw [slot_modSlot_same, slot_modSlot_same]
    rfl

theorem forwardHead_heavy {n : SlotId} {s : State} {q : QueuedCmd} {rest : List QueuedCmd} (k : Fin 4) (g : Bool)
    (hq : (s.slot n).traffic.queue = q :: rest) (hc : q.cls = .heavy) : forwardHead n k g s = handed n k g q rest s := by
  obtain ⟨h, -⟩ | ⟨-, -, h⟩ := forwardHead_cases k g hq
  · exact h
  · obtain h | h := h <;> rw [hc] at h <;> cases h

theorem forwardHead_spinUp {n : SlotId} {s : State} {q : QueuedCmd} {rest : List QueuedCmd} (k : Fin 4)
    (hq : (s.slot n).traffic.queue = q :: rest) (hc : q.cls = .spinUp) :
    forwardHead n k true s = setSpindle n .spinningUp (handed n k true q rest s) := by
  unfold forwardHead
  simp only [hq, hc]
  unfold handed headPayload headEntry
  rw [hc]
  rfl

/-- The grant of a HEAVY forwards the queue head into its reserved entry (R30, R79). -/
theorem grant_heavy {e : AdmissionEntry} {a : Nat} {k : Fin 4} {q : QueuedCmd} {s : State} (hk : e.kind = .heavy)
    (hr : (s.slot e.slot).traffic.reserved = some k) (hq : (s.slot e.slot).traffic.queue = [q]) (hc : q.cls = .heavy)
    (hi : (s.slot e.slot).traffic.injections = []) :
    KeepsBut [.slot e.slot, .admission, .passDue, .sent] s (grant e a none s)
      ∧ (grant e a none s).power.queue = s.power.queue.filter (·.slot ≠ e.slot)
      ∧ (grant e a none s).sent = s.sent ++ [(e.slot, .command q.tag .heavy q.payload)]
      ∧ (grant e a none s).slot e.slot
          = { s.slot e.slot with
              power := { (s.slot e.slot).power with allocation := a }
              traffic := { (s.slot e.slot).traffic with
                queue := [], reserved := none
                inFlight := (s.slot e.slot).traffic.inFlight.set k
                  (some ⟨q.tag, .heavy, .server, true, s.now, s.store.settings.heavyTimeout * 1000, some q.source, false⟩) }
              drift.lastForward := s.now } := by
  have hg : grant e a none s = takeHeadGrant e.slot none (granted e a s) := by
    unfold grant
    rw [hk]
    rfl
  rw [hg]
  obtain ⟨hkt, hqt, hxt⟩ := granted_spec e a s
  generalize granted e a s = t at *
  rw [takeHeadGrant_eq (k := k) (by rw [hxt]; exact hr)]
  have hku := readied_keeps e.slot none t
  have hxu := readied_slot e.slot none t
  rw [hxt] at hxu
  generalize readied e.slot none t = u at *
  have hkeep : KeepsBut [.slot e.slot, .admission, .passDue] s u := hkt.trans (hku.mono (by simp))
  have hqu : u.power.queue = t.power.queue := hku.same .admission (by simp)
  have hsu : u.sent = s.sent := hkeep.same .sent (by simp)
  have hnow : u.now = s.now := hkeep.same .now (by simp)
  have hset : u.store.settings = s.store.settings := hkeep.same .settings (by simp)
  rw [forwardHead_heavy k true (by rw [hxu]; exact hq) hc]
  have hkh := handed_keeps e.slot k true q [] u
  have hxh := handed_slot e.slot k true q [] u
  have hsh := handed_sent e.slot k true q [] u
  generalize handed e.slot k true q [] u = v at *
  rw [serveSlot_of_quiet (by rw [hxh, hxu]; exact hi) (by rw [hxh])]
  refine ⟨(hkeep.mono (by simp)).trans (hkh.mono (by simp)), ((hkh.same .admission (by simp) : _ = _).trans hqu).trans hqt, ?_, ?_⟩
  · rw [hsh, hsu, hc]
    simp [headPayload, hc]
  · rw [hxh]
    unfold headEntry classTimeout
    rw [hxu, hc, hnow, hset]
    rfl

/-- The grant of a server's SPIN_UP starts the spin-up with the profile chosen (R31, R36, R66, R79). -/
theorem grant_serverSpinUp {e : AdmissionEntry} {a p : Nat} {k : Fin 4} {q : QueuedCmd} {m : ModelEntry} {profile : SpinProfile}
    {s : State} (hk : e.kind = .spinUp) (ho : e.origin = .server) (on : (s.slot e.slot).lines.powered = true)
    (hm : modelOf s (s.slot e.slot) = some m) (hp : m.profiles[p]? = some profile)
    (hr : (s.slot e.slot).traffic.reserved = some k) (hq : (s.slot e.slot).traffic.queue = [q]) (hc : q.cls = .spinUp)
    (hi : (s.slot e.slot).traffic.injections = []) (ha : a = max 1 ((s.slot e.slot).identity.peaks.getD p 0)) :
    KeepsBut [.slot e.slot, .admission, .passDue, .sent] s (grant e a (some p) s)
      ∧ (grant e a (some p) s).power.queue = s.power.queue.filter (·.slot ≠ e.slot)
      ∧ (grant e a (some p) s).sent
          = s.sent ++ [(e.slot, .command q.tag .spinUp (q.payload.set 1 (BitVec.ofNat 8 profile.mode)))]
      ∧ (grant e a (some p) s).slot e.slot
          = { s.slot e.slot with
              power := { (s.slot e.slot).power with allocation := a, spindle := .spinningUp, chosen := some p }
              traffic := { (s.slot e.slot).traffic with
                queue := [], reserved := none
                inFlight := (s.slot e.slot).traffic.inFlight.set k
                  (some ⟨q.tag, .spinUp, .server, true, s.now, 2 * profile.spinTime * 1000, some q.source, false⟩) }
              drift.lastForward := s.now } := by
  have hg : grant e a (some p) s = takeHeadGrant e.slot (some p) (granted e a s) := by
    unfold grant
    rw [hk, ho]
    rfl
  rw [hg]
  obtain ⟨hkt, hqt, hxt⟩ := granted_spec e a s
  generalize granted e a s = t at *
  rw [takeHeadGrant_eq (k := k) (by rw [hxt]; exact hr)]
  have hku := readied_keeps e.slot (some p) t
  have hxu := readied_slot e.slot (some p) t
  rw [hxt] at hxu
  generalize readied e.slot (some p) t = u at *
  have hkeep : KeepsBut [.slot e.slot, .admission, .passDue] s u := hkt.trans (hku.mono (by simp))
  have hqu : u.power.queue = t.power.queue := hku.same .admission (by simp)
  have hsu : u.sent = s.sent := hkeep.same .sent (by simp)
  have hnow : u.now = s.now := hkeep.same .now (by simp)
  have hmu : modelOf u (u.slot e.slot) = some m :=
    (modelOf_congr (hkeep.same .models (by simp)) (by rw [hxu])).trans hm
  have hcu : (u.slot e.slot).power.chosen = some p := by rw [hxu]; rfl
  have htime := classTimeout_granted hmu hp hcu
  have hmode := chosenMode_eq hmu hp hcu
  rw [forwardHead_spinUp k (by rw [hxu]; exact hq) hc]
  have hkh := handed_keeps e.slot k true q [] u
  have hxh := handed_slot e.slot k true q [] u
  have hsh := handed_sent e.slot k true q [] u
  generalize handed e.slot k true q [] u = v at *
  have hkw := setSpindle_keeps e.slot .spinningUp v
  have hxw := setSpindle_spinningUp (n := e.slot) (s := v) (p := p) (by rw [hxh, hxu]; exact on) (by rw [hxh]; exact hcu)
    (by rw [hxh, hxu]; exact ha)
  generalize setSpindle e.slot .spinningUp v = w at *
  rw [serveSlot_of_quiet (by rw [hxw, hxh, hxu]; exact hi) (by rw [hxw, hxh])]
  refine ⟨(hkeep.mono (by simp)).trans ((hkh.mono (by simp)).trans (hkw.mono (by simp))),
    ((hkw.same .admission (by simp) : _ = _).trans ((hkh.same .admission (by simp) : _ = _).trans hqu)).trans hqt, ?_, ?_⟩
  · rw [(hkw.same .sent (by simp) : w.sent = v.sent), hsh, hsu, hc]
    simp [headPayload, hc, hmode]
  · rw [hxw, hxh]
    unfold headEntry
    rw [hc, htime, hnow, hxu]
    rfl

/-! ### The grant of the part's own SPIN_UP -/

/-- The part's SPIN_UP is granted and listed (R80). -/
def heldGranted (e : AdmissionEntry) (a p : Nat) (s : State) : State :=
  inject e.slot (bareInjection .spinUp) (modSlot e.slot (fun x => { x with power.held := some p }) (granted e a s))

theorem heldGranted_spec {e : AdmissionEntry} {a p : Nat} {s : State} (hi : (s.slot e.slot).traffic.injections = []) :
    KeepsBut [.slot e.slot, .admission, .passDue] s (heldGranted e a p s)
      ∧ (heldGranted e a p s).power.queue = s.power.queue.filter (·.slot ≠ e.slot)
      ∧ (heldGranted e a p s).slot e.slot
          = { s.slot e.slot with
              power := { (s.slot e.slot).power with allocation := a, held := some p }
              traffic := { (s.slot e.slot).traffic with injections := [bareInjection .spinUp] } } := by
  unfold heldGranted
  obtain ⟨hkt, hqt, hxt⟩ := granted_spec e a s
  generalize granted e a s = t at *
  have hku := modSlot_keeps e.slot (fun x => { x with power.held := some p }) t
  have hxu := slot_modSlot_same t e.slot (fun x => { x with power.held := some p })
  rw [hxt] at hxu
  generalize modSlot e.slot (fun x => { x with power.held := some p }) t = u at *
  have hkv := inject_keeps e.slot (bareInjection .spinUp) u
  refine ⟨hkt.trans ((hku.mono (by simp)).trans (hkv.mono (by simp))),
    ((hkv.same .admission (by simp) : _ = _).trans (hku.same .admission (by simp) : _ = _)).trans hqt, ?_⟩
  rw [inject_alone (by rw [hxu]; exact hi), hxu]

/-- The grant of the part's own SPIN_UP: sent at once where it can be, else held and listed (R31, R36, R66, R80). -/
theorem grant_partSpinUp {e : AdmissionEntry} {a p : Nat} {m : ModelEntry} {profile : SpinProfile}
    {s : State} (hk : e.kind = .spinUp) (ho : e.origin = .part) (on : (s.slot e.slot).lines.powered = true)
    (hm : modelOf s (s.slot e.slot) = some m) (hp : m.profiles[p]? = some profile)
    (hq : (s.slot e.slot).traffic.queue = [])
    (hi : (s.slot e.slot).traffic.injections = []) (ha : a = max 1 ((s.slot e.slot).identity.peaks.getD p 0)) :
    KeepsBut [.slot e.slot, .admission, .passDue, .sent] s (grant e a (some p) s)
      ∧ (grant e a (some p) s).power.queue = s.power.queue.filter (·.slot ≠ e.slot)
      ∧ (∀ k, (s.slot e.slot).partInFlight = false → (s.slot e.slot).freeEntry = some k →
          (grant e a (some p) s).sent = s.sent ++ [(e.slot, .command 31 .spinUp [0x21, BitVec.ofNat 8 profile.mode])]
            ∧ (grant e a (some p) s).slot e.slot
                = { s.slot e.slot with
                    power := { (s.slot e.slot).power with allocation := a, spindle := .spinningUp, chosen := some p, held := none }
                    traffic := { (s.slot e.slot).traffic with
                      inFlight := (s.slot e.slot).traffic.inFlight.set k
                        (some ⟨31, .spinUp, .part, true, s.now, 2 * profile.spinTime * 1000, none, false⟩) } })
      ∧ ((s.slot e.slot).partInFlight = true ∨ (s.slot e.slot).freeEntry = none →
          (grant e a (some p) s).sent = s.sent
            ∧ (grant e a (some p) s).slot e.slot
                = { s.slot e.slot with
                    power := { (s.slot e.slot).power with allocation := a, held := some p }
                    traffic := { (s.slot e.slot).traffic with injections := [bareInjection .spinUp] } }) := by
  have hg : grant e a (some p) s = serveSlot e.slot (heldGranted e a p s) := by
    unfold grant
    rw [hk, ho]
    rfl
  rw [hg]
  obtain ⟨hkv, hqv, hxv⟩ := heldGranted_spec (a := a) (p := p) hi
  generalize heldGranted e a p s = v at *
  have hqueue : (v.slot e.slot).traffic.queue = [] := by rw [hxv]; exact hq
  have hfl : (v.slot e.slot).traffic.inFlight = (s.slot e.slot).traffic.inFlight := by rw [hxv]
  have hpart := partInFlight_congr hfl
  have hfree : (v.slot e.slot).freeEntry = (s.slot e.slot).freeEntry := freeEntry_congr hfl (by rw [hxv])
  have hsv : v.sent = s.sent := hkv.same .sent (by simp)
  have hserve : serveSlot e.slot v = serveInjections e.slot v := by
    refine considerHead_idle _ (.inr ?_)
    rw [((serveInjections_slot e.slot v).same .queue (by simp) : _ = (v.slot e.slot).traffic.queue)]
    exact hqueue
  rw [hserve]
  have hks := serveInjections_keeps e.slot v
  refine ⟨(hkv.mono (by simp)).trans (hks.mono (by simp)), (hks.same .admission (by simp) : _ = _).trans hqv, fun k hf he => ?_,
    fun h => ?_⟩
  · rw [serveInjections_of_ready (i := bareInjection .spinUp) (rest := []) (k := k) (by rw [hxv]) (by rw [hxv]; exact on)
      (hpart.trans hf) (hfree.trans he)]
    have hsend : sendInjection e.slot k (bareInjection .spinUp) v = setSpindle e.slot .spinningUp (launch e.slot k (bareInjection .spinUp) v) :=
      sendInjection_eq ..
    rw [hsend]
    have hbefore : beforeSending (v.slot e.slot) (bareInjection .spinUp) = takeHeld (v.slot e.slot) := rfl
    have hchosen : (takeHeld (v.slot e.slot)).power.chosen = some p := by rw [hxv]; rfl
    have hmv : modelOf v (takeHeld (v.slot e.slot)) = some m :=
      (modelOf_congr (hkv.same .models (by simp)) (by rw [hxv]; rfl)).trans hm
    have htime := classTimeout_granted hmv hp hchosen
    have hmode := chosenMode_eq hmv hp hchosen
    have hsl := launch_sent e.slot k (bareInjection .spinUp) v
    have hxl := launch_slot e.slot k (bareInjection .spinUp) v
    have hnow : v.now = s.now := hkv.same .now (by simp)
    have hentry : sentEntry v (v.slot e.slot) (bareInjection .spinUp)
        = ⟨31, .spinUp, .part, true, s.now, 2 * profile.spinTime * 1000, none, false⟩ := by
      unfold sentEntry
      rw [hbefore, ← htime, hnow]
      rfl
    rw [hbefore, hmode] at hsl
    rw [hentry, hbefore] at hxl
    generalize launch e.slot k (bareInjection .spinUp) v = w at *
    have hkz := setSpindle_keeps e.slot .spinningUp w
    have hxz := setSpindle_spinningUp (n := e.slot) (s := w) (p := p) (by rw [hxl, hxv]; exact on) (by rw [hxl]; exact hchosen)
      (by rw [hxl, hxv]; exact ha)
    refine ⟨?_, ?_⟩
    · rw [(hkz.same .sent (by simp) : _ = w.sent), hsl, hsv]
      rfl
    · rw [hxz, hxl, hxv]
      have hnil : (s.slot e.slot).traffic = { (s.slot e.slot).traffic with injections := [] } := by rw [← hi]
      rw [hnil]
      rfl
  · obtain ⟨he, -⟩ | ⟨i, rest, k, -, -, h1, h2, -⟩ := serveInjections_cases e.slot v
    · rw [he]
      exact ⟨hsv, hxv⟩
    · rw [hpart] at h1
      rw [hfree] at h2
      simp [h1, h2] at h

end Sys2Proof.Machine
end

section
/-! The admission pass (R66, R70, R75 to R80). -/

namespace Sys2Proof.Machine

/-- The state figure of a powered slot that is not spinning up and holds no grant (R66, R69). -/
theorem stateFigure_of_model {s : State} {x : Slot} (on : x.lines.powered = true) (hs : x.power.spindle ≠ .spinningUp)
    (hh : x.power.held = none) :
    stateFigure s x
      = max 1 (match modelOf s x with
        | none => x.power.reserveGranted
        | some m => if x.power.spindle = .stopped then m.standby else if x.heavyInFlight then m.run + m.heavyIncrement else m.run) := by
  rw [stateFigure_on on]
  unfold figureParts
  rw [if_neg (by simp [on]), if_neg hs, hh]
  cases modelOf s x with
  | none => rfl
  | some m =>
    dsimp only
    split
    · rfl
    · split <;> rfl

/-- Settles O5: the equations of a pass, entry by entry, and what each kind of grant leaves. -/
theorem passRules : Obligations.PassRules := by
  unfold Obligations.PassRules
  refine ⟨?oldest, ?nothing, ?fit, ?entry, ?profile, ?grants, ?figure⟩
  case oldest =>
    intro s e rest hs ht hq ho
    have hent := entryOf_oldest hq
    have holder : ∀ o ∈ olderThan s e.slot, o.blocking = false := by
      rw [olderThan_oldest hq]
      nofun
    rw [runPass_oldest hq hs ht]
    refine ⟨fun a p hf => ⟨?_, ?_, grant_keeps e a p s, fun hk => ?_⟩, fun hf hb hne => ?_⟩
    · rw [passLoop_grants hent _ _ holder ho hf, bumpSkips_nil]
    · simpa [roomFor] using roomFor_of_offer hf
    · obtain ⟨h1, h2, h3, h4⟩ := grant_powers hk a p s
      exact ⟨h1, h2, h3, h4, offer_slotPower hk hf⟩
    · rw [passLoop_passes hent _ _ holder ho hf]
      exact passLoop_oldest_blocks hq hb hne _
  case nothing => exact fun s h => if_pos h
  case fit =>
    refine fun s n a => ⟨fun h => by simp [fits, h], fits_iff, allocationSum_setAllocation n a s, rfl⟩
  case entry =>
    intro s n rest missed e he
    refine ⟨passLoop_blocked he rest missed, fun hb => ⟨fun a ha ht => ?_, fun ho => ⟨fun a p hf => ?_, passLoop_passes he rest missed hb ho⟩⟩⟩
    · rw [passLoop_oversize he rest missed hb (by simp [oversize, ha, ht])]
      rfl
    · rw [passLoop_grants he rest missed hb ho hf]
      unfold bumpSkips
      simp only [List.contains_iff_mem]
      rfl
  case profile =>
    intro s e m hm
    obtain ⟨hnone, hsome⟩ := chooseProfile_spec hm
    refine ⟨hnone.trans (forall_congr' fun p => not_congr (mem_fittingProfiles ..)), fun p hp => ?_, offer_spinUp,
      fun hk a p ho => offer_heavy hk hm ho⟩
    obtain ⟨hfit, hbest⟩ := hsome p hp
    exact ⟨(mem_fittingProfiles ..).1 hfit, fun p' hf => hbest p' ((mem_fittingProfiles ..).2 hf)⟩
  case grants =>
    intro s e a p k m profile n x entry on hi hm hp
    refine ⟨fun q hr hq ho => ⟨fun hk hc => grant_heavy hk hr hq hc hi, fun hk hc ha => grant_serverSpinUp hk ho on hm hp hr hq hc hi ha⟩,
      fun hq hk ho ha => ?_⟩
    obtain ⟨h1, h2, h3, h4⟩ := grant_partSpinUp hk ho on hm hp hq hi ha
    exact ⟨h1, h2, h3 k, h4⟩
  case figure =>
    intro s x heavy
    refine ⟨stateFigure_off, fun on => ⟨fun hs p hc => ?_, fun hs p hh => ?_, fun hs hh => ?_⟩⟩
    · rw [stateFigure_on on]
      simp [figureParts, on, hs, hc, peakOf]
    · rw [stateFigure_on on]
      have hne : x.power.spindle ≠ .spinningUp := by
        obtain hs | hs := hs <;> rw [hs] <;> simp
      simp [figureParts, on, hne, hh, peakOf]
    · have hfig := stateFigure_of_model (s := s) on hs hh
      refine ⟨fun hm => by rw [hfig, hm], fun m hm => ⟨fun h => ?_, fun h hv => ?_, fun h hv => ?_⟩⟩ <;> rw [hfig, hm]
      · simp [h]
      · simp [h, (heavyInFlight_iff x).2 hv]
      · have hf : x.heavyInFlight = false := by
          rw [← Bool.not_eq_true, heavyInFlight_iff]
          exact hv
        simp [h, hf]

end Sys2Proof.Machine
end

section
/-! SUPPORT. The transmit arbiter (R184), case by case. -/

namespace Sys2Proof.Machine

theorem arbitrate_busy {s : State} {f : RackFrame} (h : s.port.transmitting = some f) : arbitrate s = s :=
  if_pos (by rw [h]; rfl)

section
variable {s : State} (ht : s.port.transmitting = none)
include ht

theorem arbitrate_idle : arbitrate s
    = match s.port.replies with
      | r :: rest => transmit (replyFrame s r) { s with port := { s.port with replies := rest } }
      | [] =>
        if strapsInvalid s.store.straps then s
        else
          match s.notices.queue with
          | src :: rest => sendNotice src rest s
          | [] =>
            match s.port.responses with
            | r :: rest => transmit (responseFrame s r) { s with port := { s.port with responses := rest } }
            | [] =>
              match s.port.stream with
              | some r => transmit (streamFrame s r) { s with port := { s.port with stream := none } }
              | none => s :=
  if_neg (by rw [ht]; simp)

theorem arbitrate_reply {r : Reply} {rest : List Reply} (hr : s.port.replies = r :: rest) :
    arbitrate s = { s with port := { s.port with replies := rest, transmitting := some (replyFrame s r) } } := by
  rw [arbitrate_idle ht, hr]
  rfl

theorem arbitrate_strapsInvalid (hr : s.port.replies = []) (hs : stationOf s.store.straps < 4) : arbitrate s = s := by
  rw [arbitrate_idle ht, hr]
  exact if_pos (by simpa [strapsInvalid] using hs)

variable (hr : s.port.replies = []) (hs : 4 ≤ stationOf s.store.straps)
include hr hs

theorem arbitrate_notice {src : Source} {rest : List Source} (hq : s.notices.queue = src :: rest) :
    arbitrate s = sendNotice src rest s := by
  rw [arbitrate_idle ht, hr, hq]
  exact if_neg (by simp [strapsInvalid, hs])

theorem arbitrate_response (hq : s.notices.queue = []) {r : SlotResponse} {rest : List SlotResponse}
    (hp : s.port.responses = r :: rest) :
    arbitrate s = { s with port := { s.port with responses := rest, transmitting := some (responseFrame s r) } } := by
  rw [arbitrate_idle ht, hr, hq, hp]
  exact if_neg (by simp [strapsInvalid, hs])

theorem arbitrate_stream (hq : s.notices.queue = []) (hp : s.port.responses = []) {r : StreamReport} (hm : s.port.stream = some r) :
    arbitrate s = { s with port := { s.port with stream := none, transmitting := some (streamFrame s r) } } := by
  rw [arbitrate_idle ht, hr, hq, hp, hm]
  exact if_neg (by simp [strapsInvalid, hs])

omit hs in
theorem arbitrate_nothing (hq : s.notices.queue = []) (hp : s.port.responses = []) (hm : s.port.stream = none) :
    arbitrate s = s := by
  rw [arbitrate_idle ht, hr, hq, hp, hm]
  exact ite_self _

end

/-! ### A notice is sent -/

/-- The state once the head of the notice queue has been given to the transmitter (R180). -/
def announced (src : Source) (rest : List Source) (s : State) : State :=
  setNoticeState src .announced
    (transmit (noticeFrame { s with notices.queue := rest } src) { s with notices.queue := rest })

theorem sendNotice_eq (src : Source) (rest : List Source) (s : State) : sendNotice src rest s = noticeLeft (announced src rest s) := rfl

theorem announced_spec (src : Source) (rest : List Source) (s : State) :
    (announced src rest s).port
        = { s.port with transmitting := some (noticeFrame { s with notices.queue := rest } src) }
      ∧ (announced src rest s).notices.queue = rest ∧ noticeStateOf (announced src rest s) src = .announced
      ∧ (src ≠ .part → (announced src rest s).notices.partState = s.notices.partState) := by
  unfold announced
  cases src with
  | part => exact ⟨rfl, rfl, rfl, fun h => absurd rfl h⟩
  | slot n => exact ⟨rfl, rfl, congrArg Slot.notice (setNoticeState_slot_same ..), fun _ => rfl⟩

theorem noticeLeft_port (s : State) : (noticeLeft s).port = s.port := by
  unfold noticeLeft joinPart
  split
  · split <;> rfl
  · rfl

theorem noticeLeft_waits {s : State} (h : s.notices.partState ≠ .lost) : noticeLeft s = s := if_neg h

/-- A LOST part notice takes the place freed (R178). -/
theorem noticeLeft_joins {s : State} (h : s.notices.partState = .lost) (hq : s.notices.queue.length < 32) :
    (noticeLeft s).notices.queue = s.notices.queue ++ [.part] ∧ (noticeLeft s).notices.partState = .queued := by
  have he : noticeLeft s = joinPart s := if_pos h
  rw [he]
  unfold joinPart
  rw [if_pos (show _ < Config.noticeQueueDepth from hq)]
  exact ⟨rfl, rfl⟩

/-- What sending a notice does (R178, R180). -/
theorem sendNotice_spec (src : Source) (rest : List Source) (s : State) :
    (sendNotice src rest s).port = { s.port with transmitting := some (noticeFrame { s with notices.queue := rest } src) }
      ∧ noticeStateOf (sendNotice src rest s) src = .announced
      ∧ (src = .part ∨ s.notices.partState ≠ .lost → (sendNotice src rest s).notices.queue = rest)
      ∧ (src ≠ .part → s.notices.partState = .lost → rest.length < 32 →
          (sendNotice src rest s).notices.queue = rest ++ [.part] ∧ (sendNotice src rest s).notices.partState = .queued) := by
  rw [sendNotice_eq]
  obtain ⟨hport, hqueue, hstate, hpart⟩ := announced_spec src rest s
  generalize announced src rest s = t at *
  have hwaits : src = .part ∨ s.notices.partState ≠ .lost → noticeLeft t = t := fun h => noticeLeft_waits <| by
    by_cases hs : src = .part
    · subst hs
      rw [show t.notices.partState = .announced from hstate]
      simp
    · rw [hpart hs]
      exact h.resolve_left hs
  refine ⟨(noticeLeft_port t).trans hport, ?_, fun h => by rw [hwaits h, hqueue], fun h hl hlen => ?_⟩
  · by_cases h : src = .part ∨ s.notices.partState ≠ .lost
    · rw [hwaits h, hstate]
    · obtain ⟨hs, hl⟩ := not_or.1 h
      have he : noticeLeft t = joinPart t := if_pos ((hpart hs).trans (not_not.1 hl))
      rw [he, (joinPart_same t hs).1, hstate]
  · have hj := noticeLeft_joins ((hpart h).trans hl) (by rw [hqueue]; exact hlen)
    rwa [hqueue] at hj

end Sys2Proof.Machine
end

section
/-! The transmit arbiter and the bytes of the frames that it sends (R184, 12.1 to 12.5). -/

namespace Sys2Proof.Machine

/-! ### The codes of names -/

/-- The code of a slot state (12.4). -/
def SlotState.byte : SlotState → Byte
  | .empty => 0
  | .settling => 1
  | .powerWait => 2
  | .identifying => 3
  | .unmatched => 4
  | .ready => 5
  | .calibrating => 6
  | .burning => 7
  | .recovering => 8
  | .grading => 9
  | .sortWait => 10
  | .parking => 11
  | .sorted => 12

/-- The code of a metric state (12.4). -/
def MetricState.code : MetricState → Nat
  | .calibrating => 0
  | .clear => 1
  | .watch => 2
  | .fault => 3

/-- The code of a quarantine reason, 0 for none (12.4). -/
def reasonByte : Option QuarantineReason → Byte
  | none => 0
  | some .classified => 1
  | some .metricFault => 2
  | some .overdraw => 3
  | some .powerMismatch => 4
  | some .identityChanged => 5
  | some .noIdentity => 6
  | some .linkLost => 7
  | some .recoveryLimit => 8
  | some .requested => 9

theorem putName_state (st : SlotState) : putName SlotState.names st = [st.byte] := by cases st <;> rfl

theorem codeIn_metricState (st : MetricState) : codeIn MetricState.names st = st.code := by cases st <;> rfl

theorem putNum_reason (r : Option QuarantineReason) : putNum 1 ((r.map QuarantineReason.code).getD 0) = [reasonByte r] := by
  cases r with
  | none => rfl
  | some r => cases r <;> rfl

theorem putName_metricState (st : MetricState) : putName MetricState.names st = [BitVec.ofNat 8 st.code] := by
  unfold putName
  rw [codeIn_metricState]
  rfl

theorem putName_reportMode (m : ReportMode) : putName ReportMode.names m = [if m = .stream then 1 else 0] := by cases m <;> rfl

theorem putName_image (i : ImageState) :
    putName ImageState.names i = [match i with | .good => 0 | .bad => 1 | .writing => 2] := by cases i <;> rfl

theorem putName_supply (v : SupplyState) :
    putName SupplyState.names v = [match v with | .normal => 0 | .warning => 1 | .restoring => 2] := by cases v <;> rfl

/-- The code of a reply's status (12.4). -/
def ReplyStatus.byte : ReplyStatus → Byte
  | .ok => 0
  | .busy => 1
  | .badRequest => 2
  | .badSlot => 3
  | .wrongState => 4
  | .inUse => 5
  | .tableRefused => 6
  | .notFound => 7
  | .strapInvalid => 8

/-- The code of a refusal (12.4). -/
def RefusalReason.byte : RefusalReason → Byte
  | .none => 0
  | .emptyPattern => 1
  | .noProfile => 2
  | .fieldRange => 3
  | .standbyAboveReserve => 4
  | .thresholds => 5
  | .reservedClass => 6
  | .rejectPosition => 7
  | .capacityBelowFill => 8

/-- The code of a status class (12.2). -/
def statusClassByte : StatusClass → Byte
  | .good => 0
  | .recovered => 1
  | .medium => 2
  | .hardware => 3
  | .aborted => 4
  | .illegal => 5

/-- The code of an action (12.2). -/
def Action.byte : Action → Byte
  | .ignore => 0
  | .count => 1
  | .countNote => 2
  | .quarantine => 3

theorem putName_status (v : ReplyStatus) : putName ReplyStatus.names v = [v.byte] := by cases v <;> rfl

theorem putName_refusal (v : RefusalReason) : putName RefusalReason.names v = [v.byte] := by cases v <;> rfl

theorem putName_statusClass (v : StatusClass) : putName StatusClass.names v = [statusClassByte v] := by cases v <;> rfl

theorem putName_action (v : Action) : putName Action.names v = [v.byte] := by cases v <;> rfl

/-- The restart cause of a part notice, 0 where RESTARTED is not pending (12.5). -/
theorem restartedByte (s : State) :
    (if s.notices.part.getLsbD PartEvent.restarted.bit = true then putName RestartCause.names s.notices.cause else [0])
      = [if s.notices.part.getLsbD 0 = true ∧ s.notices.cause = .requested then 1 else 0] := by
  rw [show PartEvent.restarted.bit = 0 from rfl]
  cases s.notices.part.getLsbD 0 with
  | false => simp
  | true => cases s.notices.cause <;> rfl

/-! ### Flags -/

/-- A flag at its place in a byte. -/
def bitAt (i : Nat) (b : Bool) : Nat := if b then 2 ^ i else 0

theorem bitAt_eq (i : Nat) (b : Bool) : bitAt i b = 2 ^ i * (if b then 1 else 0) := by cases b <;> simp [bitAt]

theorem putFlags_three (a b c : Bool) : putFlags 1 [a, b, c] = [BitVec.ofNat 8 (bitAt 0 a + bitAt 1 b + bitAt 2 c)] := by
  refine congrArg (fun x => [BitVec.ofNat 8 x]) ?_
  simp only [bitAt_eq, List.foldr_cons, List.foldr_nil]
  omega

theorem putFlags_eight (a b c d e f g h : Bool) :
    putFlags 1 [a, b, c, d, e, f, g, h]
      = [BitVec.ofNat 8 (bitAt 0 a + bitAt 1 b + bitAt 2 c + bitAt 3 d + bitAt 4 e + bitAt 5 f + bitAt 6 g + bitAt 7 h)] := by
  refine congrArg (fun x => [BitVec.ofNat 8 x]) ?_
  simp only [bitAt_eq, List.foldr_cons, List.foldr_nil]
  omega

/-- Settles O4: the arbiter case by case, then the bytes of each frame, field by field. -/
theorem arbiterOrder : Obligations.ArbiterOrder := by
  unfold Obligations.ArbiterOrder
  refine ⟨fun u => ⟨fun f => arbitrate_busy, fun ht => ⟨fun r rest => arbitrate_reply ht, arbitrate_strapsInvalid ht,
    fun hr hs => ⟨fun src rest hq => ?_, fun hq => ⟨fun r rest => arbitrate_response ht hr hs hq,
      fun hp => ⟨fun r => arbitrate_stream ht hr hs hq hp, arbitrate_nothing ht hr hq hp⟩⟩⟩⟩⟩, ?frames⟩
  · rw [arbitrate_notice ht hr hs hq]
    obtain ⟨h1, h2, h3, h4⟩ := sendNotice_spec src rest u
    exact ⟨h1, h2, sendNotice_keeps src rest u, h3, h4⟩
  case frames =>
    intro s f station report byte word long bit stateCode metricCode imageCode reasonCode name metric
    have hstate : ∀ st, putName SlotState.names st = [stateCode st] := putName_state
    have hreason : ∀ r : Option QuarantineReason, putNum 1 ((r.map QuarantineReason.code).getD 0) = [reasonCode r] := putNum_reason
    have hmetric : ∀ st, codeIn MetricState.names st = metricCode st := codeIn_metricState
    have hmetrics : ∀ m : StreamMetric, m.bytes = metric m := fun m => by
      unfold StreamMetric.bytes
      rw [hmetric]
      rfl
    refine ⟨rfl, fun r => ?reply, fun before after => ?zeroed, fun before st after => ?zeroedState, rfl,
      fun at_ straps image saving report mode => ?discover, fun at_ straps image => ?discoverInvalid, fun target sum => rfl,
      fun st count => ?startTest, fun st answered draining => ?endTest, fun metrics => ?rebase, fun taken r st => ?quarantine,
      fun st back episodes => ?recoverStarted, fun r st => ?recoverLimit, fun i st => ?rematch, fun st => ?rematchNone,
      fun generation fill => rfl, fun removed held lowest => ?retire, fun entries more next => ?manifest, fun e => ?entry,
      fun dest slot tag status code c payload => ?drive, fun dest slot tag code => ?partMade, fun n => ?noticeSlot, ?noticePart,
      fun r => ?stream⟩
    case reply =>
      unfold replyFrame
      have hs : putName ReplyStatus.names r.status = [r.status.byte] := putName_status _
      have hr : putName RefusalReason.names r.reason = [r.reason.byte] := putName_refusal _
      rw [hs, hr]
      rfl
    case zeroed =>
      change List.replicate before (0 : Byte) ++ [] ++ List.replicate after 0 = _
      rw [List.append_nil, List.replicate_append_replicate]
    case zeroedState => exact congrArg (fun l => List.replicate before (0 : Byte) ++ l ++ List.replicate after 0) (hstate st)
    case discover =>
      rw [Results.bytes, putNum_one_toNat, putName_image, putName_reportMode]
      rfl
    case discoverInvalid =>
      rw [Results.bytes, putNum_one_toNat, putName_image]
      rfl
    case startTest => exact congrArg (· ++ putNum 1 count) (hstate st)
    case endTest => exact congrArg (· ++ putNum 1 answered ++ putNum 1 draining) (hstate st)
    case rebase =>
      rw [Results.bytes]
      refine congrArg (fun f => metrics.flatMap f) (funext fun m => ?_)
      rw [putName_metricState]
      rfl
    case quarantine =>
      rw [Results.bytes, hreason, hstate]
      rfl
    case recoverStarted =>
      have hb : putNum 1 (codeIn SlotState.names back) = [stateCode back] := hstate back
      rw [Results.bytes, hstate, Option.map_some, Option.getD_some, hb]
      rfl
    case recoverLimit =>
      rw [Results.bytes, hreason, hstate]
      rfl
    case rematch => exact congrArg (fun l => putNum 1 1 ++ putNum 1 i.val ++ l) (hstate st)
    case rematchNone => exact congrArg (fun l => [(0 : Byte), 0] ++ l) (hstate st)
    case retire => cases lowest <;> rfl
    case manifest => rfl
    case entry =>
      unfold ManifestEntry.bytes
      rw [putFlags_eight, hreason]
      simp only [List.append_assoc]
      rfl
    case drive =>
      have hst : putName StatusClass.names status = [statusClassByte status] := putName_statusClass _
      have ha : putName Action.names c.action = [c.action.byte] := putName_action _
      rw [responseFrame, Classification.bytes, hst, ha, putFlags_three]
      simp only [List.append_assoc]
      rfl
    case partMade => cases code <;> rfl
    case noticeSlot =>
      unfold noticeFrame
      dsimp only
      rw [hstate]
      rfl
    case noticePart =>
      unfold noticeFrame
      dsimp only
      rw [putName_supply, restartedByte]
      rfl
    case stream =>
      unfold streamFrame
      refine congrArg (fun l => partFrame s 6 (byte r.dest) (word r.number ++ [byte r.records.length] ++ l)) ?_
      refine congrArg (fun f => r.records.flatMap f) (funext fun v => ?_)
      unfold StreamRecord.bytes
      rw [hmetrics, hmetrics, hmetrics, hmetrics, hstate]
      rfl

end Sys2Proof.Machine
end
